-- ==== Sys2Proof/Word.lean ====
section
/-! DEFINITION. The byte and the 64-bit word, and the plainest arithmetic on naturals that hold register values. -/

namespace Sys2Proof

/-- A byte of a frame, an entry or a buffer. -/
abbrev Byte := BitVec 8

/-- A 64-bit word: a register, a Felric register, a counter. -/
abbrev Word64 := BitVec 64

/-- A sparse table: keys with their values, keys strictly rising; what an unlisted key holds is said where the table is used. -/
abbrev Store (α : Type) := List (Nat × α)

/-- A timestamp of R6: seconds and nanoseconds. -/
structure Stamp where
  sec : Nat
  ns : Nat
deriving DecidableEq, Repr

end Sys2Proof
end

