-- ==== Sys2Proof/Syntax.lean ====
section
/-! DEFINITION. The commands of the block as syntax: one constructor per row of the opcode table, with its operands. -/

namespace Sys2Proof

/-- What a command of the catalogue carries beside its arguments, as its journal entry records it (R388, R389, R414):
CMD ring 0 to 3, CSEQ, whether it is sealed and under which session number, the verdict of Ascor (0 authentic; 1 to 4
the reason of Table 16.4), whether a reserved field of the entry is non-zero (R8), and whether it runs as a replay, here
or for a failed partner whose own units it names (R371). -/
structure Cmd where
  ring : Nat
  cseq : Nat
  sealed : Bool
  session : Nat
  verdict : Nat
  reserved : Bool
  replayed : Bool
  partnerLocal : Bool
deriving DecidableEq, Repr

/-- A queued memory request as the choice of R327 sees it: its requester port, its arrival in TIME ticks, whether it hits an open row,
whether its bank timing allows issue now, its rank, bank and row, and whether it writes. -/
structure MemReq where
  port : Nat
  arrival : Nat
  hit : Bool
  ready : Bool
  rank : Nat
  bank : Nat
  row : Nat
  write : Bool
deriving DecidableEq, Repr

/-- The DIMMs that a channel's SPD hubs report (R321): their number, the capacity of one in GiB, its ranks, whether its devices are of
32 Gb, whether it supports DRFM, and whether it is a supported RDIMM of ×4 devices. -/
structure Dimms where
  count : Nat
  gib : Nat
  ranks : Nat
  dense : Bool
  drfm : Bool
  supported : Bool
deriving DecidableEq, Repr

/-- A command of the catalogue that resets the device, with its drain limit in ms (R31). -/
structure ResetCmd extends Cmd where
  limit : Nat
deriving DecidableEq, Repr

/-- What Ascor finds in a fetched entry: whether its GCM tag verifies, and where it opens a session whether the signature and the certificate
of R386 do. -/
structure EntryChecks where
  tagOk : Bool
  sigOk : Bool
  certOk : Bool
deriving DecidableEq, Repr

/-- A link fault as the receiver of a port sees it (R57): its causes (bit 0 PCS lock lost, 1 FEC alignment lost, 2 local fault, 3 remote
fault) and for how many µs it has lasted. -/
structure LinkFault where
  cause : Nat
  lasted : Nat
deriving DecidableEq, Repr

/-- A port whose receiver has lock, alignment and no fault, and for how many µs. -/
structure LinkGood where
  port : Nat
  lasted : Nat
deriving DecidableEq, Repr

/-- A row of a TCAM that the scrubber reaches (R106, R114): a quarter, or 5 for the express path and then one of its replicas, the group and
the row's index. -/
structure TcamRow where
  quarter : Nat
  replica : Nat
  group : Nat
  index : Nat
deriving DecidableEq, Repr

/-- Bytes that lane k of a Varing link has delivered. -/
structure LaneBytes where
  lane : Nat
  bytes : List Byte
deriving DecidableEq, Repr

/-- A lane of a Varing link at the place of a container, and the 8-byte blocks of payload it has taken from its FIFO since the last. -/
structure LaneRun where
  lane : Nat
  blocks : Nat
deriving DecidableEq, Repr

/-- The commands of the block: one constructor per row of the opcode table, in the table's order. -/
inductive Instr where
  /-- ASC_ID_GET (R376): Writes the identity public key, fingerprint, vendor certificate and a fresh challenge to a staged object. -/
  | ascIdGet (c : Cmd)
  /-- ASC_ENROLL (R377): Verifies the operator signature over the challenge and burns the operator key digest into fuse slot 0. -/
  | ascEnroll (c : Cmd) (obj : Nat) (sigOk : Bool)
  /-- ASC_SESSION_OPEN (R386): Verifies the controller proof, derives the session keys and writes the signed response into the staged object. -/
  | ascSessionOpen (c : Cmd) (obj : Nat) (sigOk certOk : Bool)
  /-- ASC_SESSION_CLOSE (R387): Closes the named session, or the session the entry is sealed under, at acceptance. -/
  | ascSessionClose (c : Cmd) (ident : Nat)
  /-- ASC_STAGE (R383): Copies a host buffer into a free staging object and returns its number and SHA-384 digest. -/
  | ascStage (c : Cmd) (bytes : List Byte) (addr : Nat)
  /-- ASC_STAGE_READ (R383): Returns the contents of a staging object. -/
  | ascStageRead (c : Cmd) (obj addr : Nat)
  /-- ASC_STAGE_FREE (R384): Frees a staging object at acceptance unless an earlier accepted command holds its lock. -/
  | ascStageFree (c : Cmd) (obj : Nat)
  /-- ASC_RECEIPT_READ (R391): Returns receipts from a session's receipt ring. -/
  | ascReceiptRead (c : Cmd) (ident addr : Nat)
  /-- ASC_OP_ROTATE (R378): Burns the successor operator key into the next fuse slot and ends every open session. -/
  | ascOpRotate (c : Cmd) (obj : Nat) (sigOk : Bool)
  /-- ASC_MIN_VER_SET (R381): Raises the fused minimum accepted image version of one image kind. -/
  | ascMinVerSet (c : Cmd) (kind ver : Nat)
  /-- ASC_REG_WRITE (R392): Writes the masked SG bits of one BAR0 register. -/
  | ascRegWrite (c : Cmd) (off v mask : Nat)
  /-- MACSEC_SA_INSTALL (R395): Unwraps a SAK key object and installs a MACsec secure association on a port channel. -/
  | macsecSaInstall (c : Cmd) (p chan dir an sci pn ssci obj : Nat) (tagOk : Bool)
  /-- MACSEC_SA_DELETE (R395): Clears a MACsec secure association. -/
  | macsecSaDelete (c : Cmd) (p chan dir an : Nat)
  /-- MACSEC_PORT_SET (R50): Sets the SG fields of PRT_MACSEC_CTRL of a port. -/
  | macsecPortSet (c : Cmd) (p : Nat) (en bypass : Bool) (off : Nat)
  /-- PARSER_LOAD (R67): Checks a signed parse graph and loads it into the inactive bank of all five quarters. -/
  | parserLoad (c : Cmd) (obj states rows : Nat) (sigOk : Bool)
  /-- RULESET_COMMIT (R89): Flips the epoch bit of all quarters at a chosen tick and completes once no old-epoch descriptor remains. -/
  | rulesetCommit (c : Cmd)
  /-- TCAM_INSERT (R100): Plans and performs the insertion of a TCAM entry by moves and returns its handle. -/
  | tcamInsert (c : Cmd) (obj target : Nat)
  /-- TCAM_DELETE (R101): Clears VALID of the entry named by a handle in one step. -/
  | tcamDelete (c : Cmd) (h : Nat)
  /-- TCAM_UPDATE (R101): Rewrites epoch bits, action, values and masks of an entry in place in one step. -/
  | tcamUpdate (c : Cmd) (obj h : Nat)
  /-- TCAM_READ (R101): Returns the entry buffer and its current physical index. -/
  | tcamRead (c : Cmd) (h addr : Nat)
  /-- ACTION_WRITE (R107): Writes an action entry identically in all five quarters. -/
  | actionWrite (c : Cmd) (obj idx : Nat)
  /-- PAT_LOAD (R119): Checks a signed automaton image and writes it into free table words of all quarters. -/
  | patLoad (c : Cmd) (obj : Nat) (starts : List Nat) (sigOk : Bool)
  /-- PAT_FREE (R119): Frees an automaton image once no action, engine or queued descriptor uses it. -/
  | patFree (c : Cmd) (n : Nat)
  /-- HASH_GROUP_SET (R82): Sets the fields, seed, size, symmetric and failover bits of a hash group. -/
  | hashGroupSet (c : Cmd) (g fields seed size : Nat) (symmetric failover : Bool)
  /-- INDIR_WRITE (R85): Writes the shadow indirection table of a hash group. -/
  | indirWrite (c : Cmd) (obj g first : Nat)
  /-- INDIR_COMMIT (R85): Makes a group's shadow indirection table active in all quarters at one chosen tick. -/
  | indirCommit (c : Cmd) (g : Nat)
  /-- XPR_BYTECLASS_WRITE (R110): Writes the express byte-class map. -/
  | xprByteclassWrite (c : Cmd) (k v cls : Nat)
  /-- XPR_TCAM_COMMIT (R114): Flips the express epoch bit in all three replicas at one tick. -/
  | xprTcamCommit (c : Cmd)
  /-- L2_ADD (R139): Plans and places a STATIC learned address entry in every unfenced quarter, or in none. -/
  | l2Add (c : Cmd) (fid mac port : Nat)
  /-- L2_DEL (R522): Deletes a learned address entry in every unfenced quarter. -/
  | l2Del (c : Cmd) (fid mac : Nat)
  /-- L2_FLUSH (R139): Removes learned address entries matching the given FID and port. -/
  | l2Flush (c : Cmd) (fid port : Option Nat) (static : Bool)
  /-- L2_READ (R522): Returns a learned address entry or zeros. -/
  | l2Read (c : Cmd) (q fid mac addr : Nat)
  /-- EM_ADD (R522): Inserts an exact-match entry in every unfenced quarter, or in none. -/
  | emAdd (c : Cmd) (kind r v nh : Nat)
  /-- EM_DEL (R522): Deletes an exact-match entry. -/
  | emDel (c : Cmd) (kind r v : Nat)
  /-- ROUTE_ADD (R132): Writes markers and then a new prefix into the prefix table of a route instance. -/
  | routeAdd (c : Cmd) (r : Nat) (six : Bool) (len v nh : Nat)
  /-- ROUTE_DEL (R132): Removes a prefix and then the markers that served it. -/
  | routeDel (c : Cmd) (r : Nat) (six : Bool) (len v : Nat)
  /-- RT_WRITE (R130): Sets a route instance's length filters and no-route action. -/
  | rtWrite (c : Cmd) (r f4 f6 : Nat) (toHost : Bool)
  /-- RT_FREE (R133): Deletes the prefixes and markers of a route instance no VRF map copy names. -/
  | rtFree (c : Cmd) (r : Nat)
  /-- VRF_MAP_WRITE (R130): Writes the inactive-epoch copy of the VRF map. -/
  | vrfMapWrite (c : Cmd) (v r : Nat)
  /-- VLAN_WRITE (R130): Writes one VLAN table entry whole. -/
  | vlanWrite (c : Cmd) (vid fid vrf rmac : Nat) (routing : Bool) (flood : Nat)
  /-- NH_WRITE (R135): Writes one next-hop entry. -/
  | nhWrite (c : Cmd) (idx e : Nat)
  /-- TABLE_REHASH (R129): Replaces the seeds of an ordinary table by an HKS routine that moves every misplaced entry. -/
  | tableRehash (c : Cmd) (t mask : Nat)
  /-- MCAST_WRITE (R245): Writes a multicast group entry whole. -/
  | mcastWrite (c : Cmd) (obj g : Nat)
  /-- RMAC_WRITE (R520): Writes one router address entry in all five quarters. -/
  | rmacWrite (c : Cmd) (idx mac : Nat) (valid : Bool)
  /-- FLOW_READ (R172): Returns the tun record with counts merged at one instant. -/
  | flowRead (c : Cmd) (key : List Byte) (addr : Nat)
  /-- FLOW_DELETE (R172): Deletes a flow by key without the idle check. -/
  | flowDelete (c : Cmd) (key : List Byte)
  /-- FLOW_FLUSH (R208): Deletes every flow of a profile by an HKS sweep with export reason 0x04. -/
  | flowFlush (c : Cmd) (profile : Nat)
  /-- FLOW_REPROFILE (R208): Rewrites PROFILE of every record with the old number in one tun sweep. -/
  | flowReprofile (c : Cmd) (old new : Nat)
  /-- FLOW_REKEY (R173): Replaces the flow keys and moves every record to its new buckets by an HKS routine. -/
  | flowRekey (c : Cmd)
  /-- PROFILE_WRITE (R176): Writes a flow profile entry into the inactive profile copy. -/
  | profileWrite (c : Cmd) (obj n : Nat)
  /-- PROFILE_COMMIT (R175): Makes the inactive profile copy active at a chosen tick and completes when no old-copy task remains. -/
  | profileCommit (c : Cmd)
  /-- OT_MAP_WRITE (R207): Writes an OT verdict map into the inactive copy. -/
  | otMapWrite (c : Cmd) (obj m : Nat)
  /-- NAT_POOL_WRITE (R189): Writes a NAT pool entry. -/
  | natPoolWrite (c : Cmd) (obj n : Nat)
  /-- NAT_POOL_READ (R189): Returns a NAT pool entry and its number of bindings. -/
  | natPoolRead (c : Cmd) (n addr : Nat)
  /-- LB_SERVICE_WRITE (R196): Writes a load-balancing service into the inactive copy. -/
  | lbServiceWrite (c : Cmd) (n seed size : Nat)
  /-- LB_INDIR_WRITE (R198): Writes the inactive indirection table of a load-balancing service. -/
  | lbIndirWrite (c : Cmd) (obj n first : Nat)
  /-- LB_INDIR_COMMIT (R198): Makes a service's inactive indirection table active at one tick. -/
  | lbIndirCommit (c : Cmd) (n : Nat)
  /-- LB_MEMBER_WRITE (R196): Changes a load-balancing member entry at once and as a whole. -/
  | lbMemberWrite (c : Cmd) (obj n : Nat)
  /-- LB_MEMBER_READ (R196): Returns a member entry and the number of records holding it. -/
  | lbMemberRead (c : Cmd) (n addr : Nat)
  /-- PROG_LOAD (R223): Checks and installs a Felric program version into a slot of all instruction stores. -/
  | progLoad (c : Cmd) (obj : Nat) (sigOk : Bool)
  /-- PROG_UNLOAD (R223): Removes the program of a slot that no profile copy names. -/
  | progUnload (c : Cmd) (slot : Nat)
  /-- TASK_POST (R220): Raises a POSTED task and completes with its TASK_ID when queued. -/
  | taskPost (c : Cmd) (prog arg : Nat) (key : List Byte)
  /-- TASK_CANCEL (R219): Cancels a queued POSTED task before dispatch. -/
  | taskCancel (c : Cmd) (n : Nat)
  /-- BANK_OWN_SET (R233): Moves ownership of a shared bank by authenticated command. -/
  | bankOwnSet (c : Cmd) (b owner : Nat)
  /-- BANK_READ (R234): Reads 64 bytes of a shared bank without ownership. -/
  | bankRead (c : Cmd) (b off : Nat)
  /-- STREAM_WRITE (R274): Writes an express stream entry in all three replicas at one XP edge. -/
  | streamWrite (c : Cmd) (obj h : Nat)
  /-- STREAM_READ (R273): Returns an express stream entry and its per-stream counts. -/
  | streamRead (c : Cmd) (h addr : Nat)
  /-- STREAM_UNBLOCK (R276): Unblocks a stream blocked for an oversize frame. -/
  | streamUnblock (c : Cmd) (h : Nat)
  /-- SGATE_WRITE (R277): Writes the admin list of a stream gate instance. -/
  | sgateWrite (c : Cmd) (obj idx sec ns cycle : Nat) (enable : Bool)
  /-- SGATE_COMMIT (R277): Validates a stream gate admin list and schedules it to become operational. -/
  | sgateCommit (c : Cmd) (idx : Nat)
  /-- GCL_COMMIT (R284): Checks the port's admin gate list, computes its start and latches it as the pending change. -/
  | gclCommit (c : Cmd) (p : Nat)
  /-- GCL_CANCEL (R284): Discards the pending gate list change. -/
  | gclCancel (c : Cmd) (p : Nat)
  /-- GCL_STATUS (R286): Returns SCH_GCL_STAT and then clears STEPPED. -/
  | gclStatus (c : Cmd) (p : Nat)
  /-- PORT_QUIET (R63): Brings a port's transmitter to electrical idle within 1 µs and treats its queues as under link down. -/
  | portQuiet (c : Cmd) (p : Nat)
  /-- PORT_UNQUIET (R63): Releases a quieted port and restarts auto-negotiation and training. -/
  | portUnquiet (c : Cmd) (p : Nat)
  /-- PARK_RELEASE (R59): Links a parked queue into the same-numbered queue of a target port. -/
  | parkRelease (c : Cmd) (q p : Nat)
  /-- PARK_RETURN (R59): Returns every frame of a parked queue on the EXC ring with code 0x02. -/
  | parkReturn (c : Cmd) (q : Nat)
  /-- PARK_DISCARD (R59): Discards a parked queue's frames with acknowledgement and counts them. -/
  | parkDiscard (c : Cmd) (q : Nat)
  /-- TIME_SESSION_OPEN (R296): Ends any servo session and opens a new one, ending holdover. -/
  | timeSessionOpen (c : Cmd)
  /-- TIME_STEP (R297): Steps the clock by an offset or to an absolute time at one tick. -/
  | timeStep (c : Cmd) (mode : Nat) (offset : Int) (sec ns : Nat)
  /-- TIME_ADJ (R296): Sets INCR, optionally a temporary rate, and restarts the servo watchdog. -/
  | timeAdj (c : Cmd) (incr temp ticks : Nat)
  /-- TIME_SESSION_CLOSE (R296): Ends the servo session and enters HOLDOVER with reason 2. -/
  | timeSessionClose (c : Cmd)
  /-- TIME_PIN_SET (R306): Sets a time pin to off, capture, single pulse or periodic pulse. -/
  | timePinSet (c : Cmd) (k mode edge pol evt adj width ns sec period : Nat)
  /-- TIME_WAKE (R310): Sets the pending timed wake of a quarter. -/
  | timeWake (c : Cmd) (q sec ns : Nat)
  /-- MEM_INIT (R318): Latches the memory partition, trains and zeroes HBM and DDR5, and sets the tier configuration. -/
  | memInit (c : Cmd) (spill park firkin task : Nat) (mirror : Bool) (dimms : List Dimms)
  /-- MEM_RETRAIN (R335): Runs a full training pass on a DDR5 channel in service. -/
  | memRetrain (c : Cmd) (k : Nat)
  /-- MEM_SPEED (R336): Changes the speed bin of a DDR5 channel through self-refresh and retraining. -/
  | memSpeed (c : Cmd) (k bin : Nat)
  /-- MEM_HBM_REINTEGRATE (R320): Retrains, repairs, tests and rebuilds the failed pseudo-channels of a stack. -/
  | memHbmReintegrate (c : Cmd) (st passed : Nat)
  /-- VAR_PAIR_SETUP (R340): Starts pair set-up with the named partner and witness, choosing joiner and PAIR_HALF. -/
  | varPairSetup (c : Cmd) (fp port da : Nat)
  /-- VAR_PAIR_DISSOLVE (R339): Dissolves the pair and returns the device to STATE 0. -/
  | varPairDissolve (c : Cmd)
  /-- VAR_SOLO (R372): Tells the survivor the partner has stopped, setting PAIR_HALF to 0. -/
  | varSolo (c : Cmd)
  /-- FAULT_SET (R430): Sets the severity and reaction bits of a fault source within the LOCK rules. -/
  | faultSet (c : Cmd) (idx sev : Nat) (fence alarm handover : Bool)
  /-- FAULT_CLEAR (R431): Clears PENDING of a fault source, or releases a black-box buffer with the flag. -/
  | faultClear (c : Cmd) (n : Nat) (bb : Bool)
  /-- FAULT_INJECT (R444): Arms an injection of a Table 1.3 fault at a given tick. -/
  | faultInject (c : Cmd) (kind u : Nat) (tick : Option Stamp)
  /-- FENCE (R434): Fences a unit by closing its isolation gates and starting its replacement. -/
  | fence (c : Cmd) (u : Nat)
  /-- REINTEGRATE (R443): Self-tests, reloads and rejoins a fenced unit, or hands back a quarter's ports from Q4. -/
  | reintegrate (c : Cmd) (u : Nat) (back pass : Bool)
  /-- UNIT_RESET (R40): Resets one quarter, cluster or channel island. -/
  | unitReset (c : Cmd) (u : Nat)
  /-- DEVICE_RESET (R31): Drains accepted frames up to the drain limit and then performs a full device reset. -/
  | deviceReset (c : ResetCmd)
  /-- BB_READ (R448): Returns black-box entries or the sealed image to a host buffer. -/
  | bbRead (c : Cmd) (b first n addr : Nat)
  /-- HKS_PATCH_LOAD (R481): Checks an HKS microcode patch and applies it between two fetches. -/
  | hksPatchLoad (c : Cmd) (obj : Nat) (sigOk check : Bool)
  /-- HKS_STATUS (R477): Returns HKS_STAT, HKS_RUN and the trap frames. -/
  | hksStatus (c : Cmd) (addr : Nat)
  /-- CNT_READ (R489): Reads a list of counters in order, each with its capture time and flags. -/
  | cntRead (c : Cmd) (ids : List Nat) (addr : Nat)
  /-- CNT_SNAPSHOT (R490): Captures every listed counter at one TIME tick. -/
  | cntSnapshot (c : Cmd) (ids : List Nat) (addr : Nat)
  /-- CNT_CLEAR (R491): Clears every listed counter at one TIME tick. -/
  | cntClear (c : Cmd) (obj n : Nat)
  /-- UNIT_REST (R457): Requests rest of a unit, deferred if it is not empty. -/
  | unitRest (c : Cmd) (u : Nat)
  /-- UNIT_WAKE (R457): Wakes a resting unit. -/
  | unitWake (c : Cmd) (u : Nat)
  /-- AGE_MEASURE (R464): Measures all 48 ageing monitors without re-planning. -/
  | ageMeasure (c : Cmd) (readings : List (Nat × Int))
  /-- MARGIN_REPLAN (R465): Runs the margin re-plan of rail set points, memory eyes and lane eyes. -/
  | marginReplan (c : Cmd) (readings : List (Nat × Int)) (lanes : List (Nat × Nat × Nat))
  /-- DIAG_LOOKUP (R425): Runs one table lookup without a frame and writes the 64-byte result. -/
  | diagLookup (c : Cmd) (table quarter : Nat) (key : List Byte) (addr : Nat)
  /-- UNDEFINED_OPCODE (R416): A command entry with an opcode not in the catalogue completes with ARG or is rejected. -/
  | undefinedOpcode (c : Cmd) (op : Nat)
  /-- SMBUS_STATUS (R450): SMBus block read of alarm, attention, fence, black-box and pair status. -/
  | smbusStatus
  /-- SMBUS_FAULT_READ (R428): SMBus read of a fault source record. -/
  | smbusFaultRead (idx : Nat)
  /-- BB_READ_BLOCK (R448): SMBus read of 224 bytes of a black-box buffer. -/
  | bbReadBlock (b off : Nat)
  /-- BB_FREEZE (R447): SMBus command that freezes the live black-box buffer. -/
  | bbFreeze (byte : Nat)
  /-- BB_RELEASE (R447): SMBus command that frees a closed black-box buffer. -/
  | bbRelease (b : Nat)
  /-- SMBUS_FENCE (R434): Unauthenticated SMBus fence of a unit, gates closed within 1 µs. -/
  | smbusFence (u : Nat)
  /-- SMBUS_QUIET (R63): SMBus quiet of a port transmitter. -/
  | smbusQuiet (p : Nat)
  /-- SMBUS_UNQUIET (R63): SMBus release of a quieted port. -/
  | smbusUnquiet (p : Nat)
  /-- QUARTER_RESET (R449): SMBus reset of one quarter, left fenced and resting. -/
  | quarterReset (q : Nat)
  /-- RESET_ARM (R450): Arms an SMBus device reset for 100 ms. -/
  | resetArm (byte : Nat)
  /-- SMBUS_DEVICE_RESET (R450): Full device reset over SMBus when armed within 100 ms. -/
  | smbusDeviceReset (byte : Nat)
  /-- RESET_ARM_EXPIRY (R450): The 100 ms window of an SMBus reset arm ends. -/
  | resetArmExpiry
  /-- ADD (R229): Felric instruction: D = A + B. -/
  | fAdd (n d a b : Nat)
  /-- SUB (R229): Felric instruction: D = A − B. -/
  | fSub (n d a b : Nat)
  /-- AND (R229): Felric instruction: D = A and B. -/
  | fAnd (n d a b : Nat)
  /-- OR (R229): Felric instruction: D = A or B. -/
  | fOr (n d a b : Nat)
  /-- XOR (R229): Felric instruction: D = A xor B. -/
  | fXor (n d a b : Nat)
  /-- SHL (R229): Felric instruction: shift left by B[5:0]. -/
  | fShl (n d a b : Nat)
  /-- SHR (R229): Felric instruction: logical shift right by B[5:0]. -/
  | fShr (n d a b : Nat)
  /-- SAR (R229): Felric instruction: arithmetic shift right by B[5:0]. -/
  | fSar (n d a b : Nat)
  /-- ROTL (R229): Felric instruction: rotate left by B[5:0]. -/
  | fRotl (n d a b : Nat)
  /-- MUL (R229): Felric instruction: low 64 bits of A × B. -/
  | fMul (n d a b : Nat)
  /-- MINU (R229): Felric instruction: unsigned minimum. -/
  | fMinu (n d a b : Nat)
  /-- MAXU (R229): Felric instruction: unsigned maximum. -/
  | fMaxu (n d a b : Nat)
  /-- SLTU (R229): Felric instruction: unsigned set-less-than. -/
  | fSltu (n d a b : Nat)
  /-- SLT (R229): Felric instruction: signed set-less-than. -/
  | fSlt (n d a b : Nat)
  /-- ADDI (R229): Felric instruction: add a sign-extended immediate. -/
  | fAddi (n d a imm : Nat)
  /-- ANDI (R229): Felric instruction: and with a zero-extended immediate. -/
  | fAndi (n d a imm : Nat)
  /-- ORI (R229): Felric instruction: or with a zero-extended immediate. -/
  | fOri (n d a imm : Nat)
  /-- XORI (R229): Felric instruction: xor with a zero-extended immediate. -/
  | fXori (n d a imm : Nat)
  /-- SHLI (R229): Felric instruction: shift left by IMM[5:0]. -/
  | fShli (n d a imm : Nat)
  /-- SHRI (R229): Felric instruction: logical shift right by IMM[5:0]. -/
  | fShri (n d a imm : Nat)
  /-- SARI (R229): Felric instruction: arithmetic shift right by IMM[5:0]. -/
  | fSari (n d a imm : Nat)
  /-- ROTLI (R229): Felric instruction: rotate left by IMM[5:0]. -/
  | fRotli (n d a imm : Nat)
  /-- LI (R229): Felric instruction: load a sign-extended immediate. -/
  | fLi (n d imm : Nat)
  /-- ORH (R229): Felric instruction: D = (A << 16) or IMM[15:0]. -/
  | fOrh (n d a imm : Nat)
  /-- ROTB (R230): Felric instruction: rotate or reverse byte lanes. -/
  | fRotb (n d a imm : Nat)
  /-- CRCW (R229): Felric instruction: CRC-32C of 8 bytes with a seed. -/
  | fCrcw (n d a b : Nat)
  /-- LD (R226): Felric instruction: load from REC, EVT, SCR or BANK space. -/
  | fLd (n d a space size off : Nat)
  /-- ST (R227): Felric instruction: store into the task's view, scratchpad or owned bank. -/
  | fSt (n d a space size off : Nat)
  /-- BR (R229): Felric instruction: forward branch on a condition. -/
  | fBr (n a b cond dist : Nat)
  /-- CSRR (R229): Felric instruction: read a CSR. -/
  | fCsrr (n d a k : Nat)
  /-- CSRW (R233): Felric instruction: write a CSR, handing over bank ownership. -/
  | fCsrw (n d a k : Nat)
  /-- BWAIT (R229): Felric instruction: wait up to 4096 cycles to own a bank. -/
  | fBwait (n d a k : Nat) (timeout : Bool)
  /-- NOTE (R229): Felric instruction: queue a program-notice event for commit. -/
  | fNote (n d a k : Nat)
  /-- TARM (R235): Felric instruction: arm or disarm the record's timer at commit. -/
  | fTarm (n d a k : Nat)
  /-- END (R227): Felric instruction: commit the task's writes, timer, notices and result and end the task. -/
  | fEnd (n result : Nat)
  /-- HKS_MICROWORD (R473): HKS executes one microword with its sequencing, ALU and memory operations. -/
  | hksMicroword (w err : Nat)
  /-- HKS_MEM_RESPONSE (R473): A read response arrives in the RW registers of an HKS routine. -/
  | hksMemResponse (k idx : Nat) (bytes : List Byte) (inProgress : Bool) (inserted : Option Bool)
  /-- MICRO_TRAP (R476): A higher-level request preempts a routine at its next trap point and saves a trap frame. -/
  | microTrap
  /-- TRAP_FRAME_RESTORE (R476): A routine ends and the most recent trap frame is restored. -/
  | trapFrameRestore
  /-- HKS_ROUTINE_REQUEST (R474): A routine request arrives at HKS and waits by level. -/
  | hksRoutineRequest (r : Nat) (cancel : Bool)
  /-- HKS_ROUND_ROBIN_YIELD (R474): A level-0 routine gives way after 10 µs of running. -/
  | hksRoundRobinYield
  /-- HKS_ABANDON (R478): A routine is abandoned, its marks resolved and its command completed with FAILED. -/
  | hksAbandon
  /-- HKS_ROUTINE_LATE (R478): A routine runs 1 s beyond its duration and is abandoned. -/
  | hksRoutineLate
  /-- BAR0_ACCESS_DISCARDED (R12): An access of wrong size, alignment or unmapped offset reads 0 or is ignored and counted. -/
  | bar0AccessDiscarded (bar2 : Bool) (off n : Nat) (read : Bool)
  /-- BAR0_LOW_WORD_READ (R11): A 32-bit read of a 64-bit register's low word latches its high word for the requester. -/
  | bar0LowWordRead (req off n : Nat)
  /-- REGISTER_WRITE (R9): A BAR0 write to a register with no behaviour of its own sets its RW fields. -/
  | registerWrite (off n v : Nat)
  /-- DOORBELL (R409): A doorbell write advances a ring's PI or CI if valid, else is ignored and counted. -/
  | doorbell (r v : Nat)
  /-- RING_ENABLE (R407): Setting HST_RING_CFG.EN checks the ring configuration and zeroes its indexes. -/
  | ringEnable (r cfg : Nat)
  /-- RING_DISABLE (R426): Clearing EN stops fetching or holds work bound for the ring. -/
  | ringDisable (r : Nat)
  /-- PORT_ENABLE (R47): PRT_MODE.ENABLE 0 to 1 applies speed, FEC, AN and LT, or sets MODE_ERR. -/
  | portEnable (p mode : Nat)
  /-- PORT_DISABLE (R62): PRT_MODE.ENABLE 1 to 0 returns every queued or parked frame with code 0x04. -/
  | portDisable (p : Nat)
  /-- DIAG_GO (R425): Writing GO starts a register-mode lookup, or sets GO_ERR while busy. -/
  | diagGo (ctrl : Nat)
  /-- DIAG_LOOKUP_DONE (R425): A register-mode lookup ends; result registers change together and READY sets. -/
  | diagLookupDone
  /-- CNT_SEL_WRITE (R486): A counter selection write keeps the value and counts the new event from the second cycle. -/
  | cntSelWrite (b k v : Nat)
  /-- CMD_FETCH (R414): A CMD entry is verified by Ascor, journaled and passed by CI, which accepts it. -/
  | cmdFetch (r : Nat) (entry : List Byte) (found : EntryChecks)
  /-- PARTNER_JOURNAL_ACK (R20): The partner acknowledges a journal copy, letting the consumer index advance. -/
  | partnerJournalAck (r idx : Nat)
  /-- COMMAND_EXECUTE (R415): A command starts executing once earlier commands of its ring and family have completed. -/
  | commandExecute (ring : Nat)
  /-- COMMAND_COMMIT (R415): A command changes state, queues its completion and marks its journal entry done. -/
  | commandCommit (ring cseq status detail result : Nat)
  /-- COMPLETION_WRITE (R416): A completion is written at the next CPL position once space exists. -/
  | completionWrite (ring : Nat)
  /-- CI_WRITE_BACK (R410): The device writes a host-written ring's new CI to HST_RING_AUX. -/
  | ciWriteBack (r : Nat)
  /-- PKT_TX_FETCH (R418): A PKT_TX descriptor is checked, journaled and its frame read for injection. -/
  | pktTxFetch (r : Nat) (d frame : List Byte)
  /-- PKT_TX_DIRECT_LINK (R419): A DIRECT frame is linked into its queue and CI advances past it once admission allows. -/
  | pktTxDirectLink (r : Nat)
  /-- PKT_TX_PIPELINE_HANDOVER (R419): A PIPELINE frame is handed to its quarter as an arrival on its port at the CI advance. -/
  | pktTxPipelineHandover (r : Nat)
  /-- TXC_WRITE (R419): A TXC entry is written in PKT_TX order with its status. -/
  | txcWrite (r : Nat)
  /-- PKT_RX_WRITE (R421): A frame for the host is written to PKT_RX slots and delivered at its EOP entry. -/
  | pktRxWrite (k : Nat)
  /-- EXC_WRITE (R24): Returned work is written to the EXC ring with its reason code. -/
  | excWrite
  /-- TLM_WRITE (R421): An IPFIX message or sealed envelope is written to the TLM ring. -/
  | tlmWrite
  /-- EVENT_POST (R423): An event is written to the EVT ring, or waits in the FIFO, or is dropped. -/
  | eventPost
  /-- MSI_X_MESSAGE (R424): An armed ring sends its vector when MOD_COUNT entries are reached. -/
  | msiXMessage (r : Nat)
  /-- MOD_US_EXPIRY (R424): The moderation time of an armed ring passes and its vector is sent. -/
  | modUsExpiry (r : Nat)
  /-- FUNCTION_LEVEL_RESET (R406): An FLR, hot reset or PCIe link loss resets only the host interface. -/
  | functionLevelReset (linkLost : Bool)
  /-- PCIE_LINK_TRAINING (R404): The PCIe link trains to a speed and width. -/
  | pcieLinkTraining (speed width : Nat)
  /-- PKT_TX_LOST_REPORT (R420): After a pin, SMBus or fatal reset, undone PKT_TX entries are removed and reported. -/
  | pktTxLostReport
  /-- FRAME_ARRIVAL (R241): A bulk frame starts to arrive; its cells are charged and admitted or refused. -/
  | frameArrival (p : Nat) (bytes : List Byte) (ended good : Bool)
  /-- PFC_REFRESH (R257): The REFRESH_US period passes and the XOFF PFC frame is repeated. -/
  | pfcRefresh (p idx : Nat)
  /-- FRAME_END_ARRIVAL (R23): The last byte of a frame arrives; a bad frame is refused or stomped at every egress. -/
  | frameEndArrival (express : Bool) (f : Nat) (rest : List Byte) (good : Bool)
  /-- HEADER_DESCRIPTOR_DISPATCH (R516): Once the parse window is present the header descriptor leaves for its quarter or wake FIFO. -/
  | headerDescriptorDispatch (f : Nat)
  /-- QUARTER_PASS (R66): A quarter parses a descriptor, searches its TCAM groups and makes the forwarding decision. -/
  | quarterPass (q : Nat)
  /-- RECIRCULATION (R86): A recirculated descriptor is taken from the recirculation queue for its second pass. -/
  | recirculation (q : Nat)
  /-- PATTERN_INSPECTION (R117): An automaton engine inspects a frame's payload bytes and gives a verdict. -/
  | patternInspection (q : Nat) (ue : Bool)
  /-- DESCRIPTOR_RELEASE (R87): The release stage releases a descriptor once every earlier descriptor of its port and lane has left. -/
  | descriptorRelease (q : Nat)
  /-- FLOW_LOOKUP (R155): The flow update unit looks a released descriptor up in pending table and gill. -/
  | flowLookup
  /-- PENDING_FETCH_COMPLETE (R156): A firkin or tun fetch completes and the pending entry's descriptors are drained against the record. -/
  | pendingFetchComplete (idx : Nat)
  /-- MISS_TIMEOUT (R157): A pending entry's timer reaches TIMEOUT_US and its waiting descriptors are refused. -/
  | missTimeout (idx : Nat)
  /-- TUN_INSERTION (R161): The tun insertion engine places a new record under cuckoo moves and writes SLOT. -/
  | tunInsertion
  /-- WRITE_THROUGH_LAND (R167): A write-through reaches tun and clears HELD unless a STRICT acknowledgement is outstanding. -/
  | writeThroughLand
  /-- WRITE_BACK (R168): A dirty record is written back by its period, moving DELTA to firkin and tun. -/
  | writeBack
  /-- DEMOTION (R165): An idle gill or firkin copy is evicted down one tier. -/
  | demotion (key : List Byte)
  /-- TUN_SWEEP (R170): HKS sweeps the tun region every SWEEP_S, finding due records and active exports. -/
  | tunSweep
  /-- IDLE_DELETION (R171): A due record is re-checked, raises an idle event and, if not kept, is deleted. -/
  | idleDeletion (key : List Byte)
  /-- STRICT_ACK (R195): The partner acknowledges a STRICT creation or CHOICE change and the held frames are released. -/
  | strictAck (idx : Nat)
  /-- TELEMETRY_EXPORT (R204): An IPFIX data record is queued for a record at deletion, flush or active timeout. -/
  | telemetryExport (key : List Byte) (reason : Nat)
  /-- EXPORT_MESSAGE (R206): An export message is closed at MSG_MAX or BATCH_US and sent to the ring or port. -/
  | exportMessage
  /-- TEMPLATE_RESEND (R206): Template sets are sent at enable, every TEMPLATE_S and after a destination change. -/
  | templateResend
  /-- TELEMETRY_EPOCH (R401): Telemetry sealing starts a new epoch and sends its epoch record. -/
  | telemetryEpoch
  /-- NAT_PORT_REUSE (R191): A deleted binding's port is freed after REUSE_S. -/
  | natPortReuse (idx : Nat)
  /-- TASK_DISPATCH (R216): A free core takes the highest eligible task and its record view. -/
  | taskDispatch (n : Nat)
  /-- TASK_SPILL_REFILL (R217): The on-die ready list is refilled in order from the HBM spill sub-ring. -/
  | taskSpillRefill (c l : Nat)
  /-- TASK_QUEUE_SPACE (R218): A task owed to a pending entry is queued when sub-ring space appears. -/
  | taskQueueSpace (idx : Nat)
  /-- TASK_TIME_FAULT (R231): A task runs MAX_CYCLES without END and ends with fault TIME. -/
  | taskTimeFault (n : Nat)
  /-- TASK_FAULT (R231): A task ends by fault and commits nothing; its held frames follow FAULT_ACT. -/
  | taskFault (n : Nat)
  /-- TIMER_FIRE (R235): The timer wheel reaches a record's TIMER deadline and raises a TIMER task. -/
  | timerFire (idx : Nat)
  /-- CLUSTER_LOSS (R236): A fenced or reset cluster's map entries, descriptors and running tasks move to the survivors. -/
  | clusterLoss (c : Nat)
  /-- PROGRAM_VERSION_DRAIN (R223): The old program version is freed once no running task uses it and PROG_LOAD completes. -/
  | programVersionDrain
  /-- SEGMENT_WRITE (R249): A queue's assembly is written out as a 64 KiB spill segment. -/
  | segmentWrite (q : Nat)
  /-- ASM_FLUSH_EXPIRY (R249): An assembly has held its oldest cell for ASM_FLUSH_NS and is written as a segment. -/
  | asmFlushExpiry (q : Nat)
  /-- SEGMENT_WRITE_ACK (R249): A segment write is acknowledged and the assembly cells are freed. -/
  | segmentWriteAck (q n : Nat)
  /-- READ_BACK (R251): The oldest segment of a spilling queue is read back when its head falls below HEAD_LOW. -/
  | readBack (q : Nat)
  /-- READ_BACK_LAND (R251): A read-back lands and its cells are linked behind the head. -/
  | readBackLand (q : Nat)
  /-- MC_DIRECT_READ (R252): A non-carrier multicast copy is sent by a direct read of its cells in HBM. -/
  | mcDirectRead (q : Nat)
  /-- QUEUE_PARK (R255): One queue of a port whose hold expired is moved to the park area. -/
  | queuePark (p : Nat)
  /-- EXPRESS_DECISION (R275): The three replicas decide an express frame's stream and stages and vote. -/
  | expressDecision (p : Nat) (bytes : List Byte) (ended good : Bool) (dissent : List Nat)
  /-- RECOVERY_RESET (R280): RESET_MS passes without a frame and the recovery history is reset. -/
  | recoveryReset (r : Nat)
  /-- CELL_TIME (R260): Once every 4 ns the crossbar matches ingress to egress ports and grants cells. -/
  | cellTime
  /-- EXPRESS_OVERSIZE (R276): An express frame's byte count exceeds MAX_SDU and is refused or stomped. -/
  | expressOversize (ident : Nat)
  /-- EXPRESS_DEADLINE (R281): An accepted express frame passes its deadline untransmitted and is returned, or dropped while island C is out. -/
  | expressDeadline (ident e : Nat)
  /-- EGRESS_FRAME_START (R265): The line is free and the port starts the next eligible express or bulk frame. -/
  | egressFrameStart (p : Nat)
  /-- EGRESS_FRAME_END (R21): A frame's last byte leaves the egress MAC and it is delivered. -/
  | egressFrameEnd (p : Nat)
  /-- PREEMPTION (R287): A bulk frame is preempted at the next allowed boundary. -/
  | preemption (p : Nat)
  /-- SHAPER_UPDATE (R267): Every 16 TIME ticks credit and token counts are updated. -/
  | shaperUpdate
  /-- PAUSE_RECEIVED (R270): A PFC or PAUSE frame stops the named bulk queues for its pause time. -/
  | pauseReceived (p : Nat) (pfc : Bool) (times : List (Nat × Nat))
  /-- PAUSE_EXPIRY (R270): A received pause time runs out and the queue resumes. -/
  | pauseExpiry (p t : Nat)
  /-- LAUNCH_TIME (R289): A head frame's launch time is reached and its queue becomes eligible. -/
  | launchTime (p t : Nat)
  /-- GATE_ENTRY_CHANGE (R283): The operational gate list moves to its next entry and gates change. -/
  | gateEntryChange (p : Nat)
  /-- SET_AND_HOLD_MAC (R288): HOLD_ADVANCE before an OP 1 entry the preemptable MAC is held. -/
  | setAndHoldMac (p : Nat)
  /-- SET_AND_RELEASE_MAC (R288): RELEASE_ADVANCE before an OP 2 entry the preemptable MAC is released. -/
  | setAndReleaseMac (p : Nat)
  /-- GCL_LIST_START (R284): At its start time a pending gate list becomes operational from entry 0. -/
  | gclListStart (p : Nat)
  /-- SGATE_LIST_START (R277): At its start time a pending stream gate list becomes operational. -/
  | sgateListStart (idx : Nat)
  /-- QUIET_PERIOD_START (R290): A port declares its quarter quiet at the start of a long closed stretch. -/
  | quietPeriodStart (p : Nat)
  /-- PLANNED_WAKE (R290): A quiet period ends and the scheduler sends the quarter a wake request. -/
  | plannedWake (p : Nat)
  /-- LINK_DOWN (R56): A link fault lasts DEBOUNCE and the port enters hold. -/
  | linkDown (p : Nat) (seen : LinkFault)
  /-- LINK_UP (R58): Lock and alignment last DEBOUNCE and transmission resumes from each queue head. -/
  | linkUp (x : LinkGood)
  /-- HOLD_TIME_EXPIRY (R59): The hold time passes with the link down and the port's bulk queues start parking. -/
  | holdTimeExpiry (p : Nat)
  /-- LEARN_NOTICE (R140): A learn notice on the ring is applied at a quarter. -/
  | learnNotice (q : Nat)
  /-- L2_AGE (R143): HKS sweeps a quarter's learned address table, clearing HIT, refreshing or removing entries. -/
  | l2Age (q : Nat)
  /-- TCAM_STEP (R103): A TCAM insertion step takes a free or stolen pipeline slot. -/
  | tcamStep (q : Nat) (stolen : Bool)
  /-- TCAM_SCRUB (R106): The scrubber compares a TCAM row with its shadow and rewrites it on mismatch. -/
  | tcamScrub (x : TcamRow) (upset : Option (Nat × List (Nat × Nat)))
  /-- EXPRESS_TCAM_STEP (R112): An express TCAM step writes one entry in all three replicas at one XP edge. -/
  | expressTcamStep
  /-- COMMIT_TICK (R89): A device-chosen commit tick flips an epoch or makes a shadow copy active. -/
  | commitTick (ring : Nat)
  /-- RULESET_SWAP_COMPLETE (R89): Every quarter's old-epoch count reaches zero and RULESET_COMMIT completes. -/
  | rulesetSwapComplete
  /-- PROFILE_DRAIN_COMPLETE (R175): No task carries the old profile copy bit and PROFILE_COMMIT completes. -/
  | profileDrainComplete
  /-- CUCKOO_INSERTION (R127): The table engine plans and makes the moves of one insertion or raises a rehash request. -/
  | cuckooInsertion (t q : Nat) (key data : List Byte)
  /-- TIME_TICK (R293): The clock advances by its increment at each TIME tick. -/
  | timeTick (n : Nat)
  /-- PPS_PULSE_END (R307): The PPS_WIDTH_US of a 1PPS pulse ends. -/
  | ppsPulseEnd
  /-- TEMP_RATE_END (R293): The temporary rate count reaches zero and INCR applies again. -/
  | tempRateEnd
  /-- SERVO_WATCHDOG_EXPIRY (R300): The servo watchdog reaches WD_MS and the clock enters HOLDOVER with reason 1. -/
  | servoWatchdogExpiry
  /-- REF_LOST (R302): The reference clock fails; PLLs hold and TIM_STAT.REF_LOST is set. -/
  | refLost
  /-- REF_RETURN (R39): The reference meets its requirements for 1 ms and PLLs pull back without phase step. -/
  | refReturn
  /-- PLL_UNLOCK (R453): A PLL loses lock and its fault reaction applies. -/
  | pllUnlock (p : Nat)
  /-- PIN_CAPTURE (R308): A selected edge on a capture pin stores its TIME and posts a capture event. -/
  | pinCapture (k edge : Nat)
  /-- PIN_PULSE (R309): A pin output pulse starts at its scheduled TIME. -/
  | pinPulse (k : Nat)
  /-- TIME_WAKE_FIRE (R310): A timed wake's request time arrives and the quarter is sent a wake request. -/
  | timeWakeFire (q : Nat)
  /-- UNIT_WAKE_REQUEST (R455): A wake request reaches a resting unit and its wake sequence starts. -/
  | unitWakeRequest (u : Nat)
  /-- WAKE_COMPLETE (R455): A waking unit serves again 2.0 µs after its wake request. -/
  | wakeComplete (u : Nat)
  /-- REST_REQUEST (R456): A rest request puts an empty unit to rest or is deferred. -/
  | restRequest (u : Nat)
  /-- IDLE_REST_EXPIRY (R456): An auto-rest cluster or channel has been empty for IDLE_US and requests rest. -/
  | idleRestExpiry (u : Nat)
  /-- WAKE_FAIL (R44): A quarter's wake does not complete and a failed-wake fault is raised. -/
  | wakeFail (q : Nat)
  /-- FAULT_OCCURRENCE (R431): A fault source occurs; COUNT rises and its reactions apply if not already pending. -/
  | faultOccurrence (src detail value : Nat)
  /-- ATTN_PULSE_END (R432): The ATTN_N pulse of ATTN_PULSE_US ends. -/
  | attnPulseEnd
  /-- FREEZE (R447): A fatal or handover reaction, pin reset or SMBus freeze freezes the live black-box buffer. -/
  | freeze (cause : Nat)
  /-- POST_FREEZE_END (R447): POST_COUNT entries or POST_US pass and a freeze marker closes the buffer. -/
  | postFreezeEnd
  /-- BB_SEAL_COMPLETE (R447): The island A engine finishes sealing a closed buffer. -/
  | bbSealComplete (b : Nat)
  /-- BB_EPOCH (R401): Ascor prepares the next black-box seal epoch key and record. -/
  | bbEpoch
  /-- QTR_TAKEOVER (R439): The reserve quarter takes a failed quarter's ports under the takeover routine. -/
  | qtrTakeover (q : Nat) (passed : Bool)
  /-- QUARTER_FAILURE (R436): A quarter is declared failed and fenced. -/
  | quarterFailure (q idx : Nat)
  /-- SPARE_BANK_COPY (R442): A bank reaching SPARE_THRESH is copied to its spare in service. -/
  | spareBankCopy (a : Nat)
  /-- SPARE_COPY_COMPLETE (R442): A spare copy completes and accesses move to the spare. -/
  | spareCopyComplete (a : Nat)
  /-- INJECTION_FIRE (R444): An armed injection reaches its tick and produces its fault. -/
  | injectionFire
  /-- FENCE_VIOLATION (R435): Output of a fenced unit is discarded at its gates and counted. -/
  | fenceViolation (u : Nat)
  /-- HBM_ECC_ERROR (R319): An HBM read finds an error, corrected or rebuilt from parity. -/
  | hbmEccError (st pc : Nat) (ue : Bool)
  /-- PC_FAILED (R319): An HBM pseudo-channel is declared failed. -/
  | pcFailed (st pc : Nat)
  /-- DDR_ECC_ERROR (R330): A DDR5 read finds a correctable or uncorrectable error, possibly marking a device. -/
  | ddrEccError (k : Nat) (ue : Bool) (dev sc bg ba rank row col : Nat)
  /-- PATROL_SCRUB (R332): The patrol scrub reads and corrects DDR5 or HBM bursts. -/
  | patrolScrub (m n : Nat) (last : Bool)
  /-- REFRESH (R328): A same-bank refresh falls due each tREFI. -/
  | refresh (k bank : Nat) (overdue : Bool)
  /-- DIMM_TEMP_READ (R328): Every 1 ms the DIMM thermal sensors are read and tREFI chosen. -/
  | dimmTempRead (k t : Nat)
  /-- MEMORY_REQUEST_ISSUE (R327): A channel or pseudo-channel issues its next column command by urgency. -/
  | memoryRequestIssue (m : Nat) (waiting : List MemReq)
  /-- ZQ_CALIBRATION (R334): Every ZQ_MS a rank runs ZQ calibration. -/
  | zqCalibration (k rank : Nat) (begins : Bool)
  /-- OSCILLATOR_READING (R334): Every OSC_MS a rank's DQS oscillator is read and delays moved. -/
  | oscillatorReading (k rank : Nat) (begins : Bool) (eye : Nat)
  /-- TRAINING_PASS_COMPLETE (R333): A training pass on a channel completes or fails. -/
  | trainingPassComplete (k : Nat) (passed : Bool) (eye : Nat)
  /-- RESILVER (R324): HKS copies a reintegrated channel's pair contents and rejoins it. -/
  | resilver (k : Nat)
  /-- CHANNEL_FENCED (R324): A mirrored channel is fenced and its partner serves alone. -/
  | channelFenced (k : Nat)
  /-- BIN_CHANGE_APPLY (R337): A pending bin change applies after the running pass or step ends. -/
  | binChangeApply (k : Nat)
  /-- AGE_MEASUREMENT (R464): The periodic ageing measurement of all monitors runs. -/
  | ageMeasurement (readings : List (Nat × Int)) (lanes : List (Nat × Nat × Nat))
  /-- SETPOINT_STEP (R466): An adaptive rail set point moves by one 5 mV step. -/
  | setpointStep (r : Nat) (acked : Bool)
  /-- AVS_LINK_RETRY (R505): A failed AVSBus transaction is retried every 1 ms. -/
  | avsLinkRetry (r : Nat) (acked : Bool)
  /-- HOUR_COUNT (R467): Each 3600 s of AON time PWR_HOURS counts one hour. -/
  | hourCount
  /-- RESET_N (R502): A low pulse on RESET_N causes a full device reset. -/
  | resetN
  /-- STARTUP_STAGE (R460): A start-up stage completes and sets its PWR_READY bit. -/
  | startupStage (n : Nat) (valid copyB : Bool) (ver : Nat) (words : List Nat) (matches_ : List (Nat × Nat))
  /-- JOURNAL_REPLAY (R461): From EXPRESS_READY journaled commands not done are replayed in ring order. -/
  | journalReplay (ring : Nat)
  /-- CORE_RESET (R462): Island C and the bulk islands are reset while A and X keep running. -/
  | coreReset (byCommand : Bool)
  /-- RAIL_FALL (R503): A supply rail falls out of range. -/
  | railFall (r : Nat)
  /-- RAIL_RETURN (R503): The rails of steps 4 and 5 return and the core reset sequence runs. -/
  | railReturn (r : Nat)
  /-- TEMP_CRIT (R514): The hottest on-die sensor reaches 115 °C or 100 °C and a fault is raised. -/
  | tempCrit (t : Nat)
  /-- HEALTH_KICK_MISSED (R368): A kick is missing for KICK_NS and the health monitor reacts. -/
  | healthKickMissed (d : Nat)
  /-- FAIL_SILENT_CESSATION (R368): The device stops heartbeats and witness frames, sets AIS and quiets every port. -/
  | failSilentCessation
  /-- LANE_FRAME_HEADER (R345): A Varing lane framer checks a header at a block boundary and moves its alignment state. -/
  | laneFrameHeader (k block : Nat) (header : List Byte)
  /-- LANE_DEFECT (R356): A Varing lane defect is declared or cleared and the lane leaves or rejoins striping. -/
  | laneDefect (k code n : Nat)
  /-- RDI_RECEIVED (R357): RDI in three headers sets RDI_RX and removes the lane from sending. -/
  | rdiReceived (k : Nat) (on : Bool)
  /-- LANE_REJOIN (R355): A lane free of defects for 1 ms rejoins striping. -/
  | laneRejoin (k : Nat)
  /-- MULTIFRAME (R347): A valid multiframe overhead gives the partner time offset. -/
  | multiframe (k : Nat)
  /-- CONTAINER_RECEIVE (R353): A container is checked and accepted into the apply queue in SEQ order. -/
  | containerReceive (x : LaneBytes) (icvOk : Bool)
  /-- CONTAINER_SEND (R353): A container, or a fill container, is assigned to a lane and sent. -/
  | containerSend (x : LaneRun)
  /-- RETRANSMISSION (R354): A container unacknowledged after RETX_NS is sent again. -/
  | retransmission (seq : Nat)
  /-- CONTAINER_KEY_ROLL (R397): A sequence nears its limit and the next container key is derived. -/
  | containerKeyRoll
  /-- WITNESS_KEY_ROLL (R398): WSEQ reaches its limit and the next witness key is derived. -/
  | witnessKeyRoll
  /-- HEARTBEAT (R367): A HEARTBEAT message is sent every HB_NS or received and accepted. -/
  | heartbeat (received : Bool)
  /-- WITNESS_FRAME (R367): A witness frame is sent every WIT_NS or received and accepted. -/
  | witnessFrame (received : Option (List Byte × Nat))
  /-- LINK_SILENT (R369): No heartbeat is accepted within LINK_MISS_NS and the liveness table applies. -/
  | linkSilent
  /-- WITNESS_SILENT (R369): No witness frame is accepted within WIT_MISS_NS and the liveness table applies. -/
  | witnessSilent
  /-- LINK_BACK (R369): The link returns in STATE 4 and the pair resynchronises. -/
  | linkBack
  /-- PAIR_TAKEOVER (R371): The survivor fences the partner, applies its apply queue, takes over ageing and replays the partner journal. -/
  | pairTakeover
  /-- SOLO_HOLD_EXPIRY (R372): SOLO_HOLD_MS passes with nothing from the partner and PAIR_HALF becomes 0. -/
  | soloHoldExpiry
  /-- MUTUAL_AUTHENTICATION (R396): In SETUP the devices exchange signed ephemeral keys and derive link keys. -/
  | mutualAuthentication (passed : Bool) (partner : Nat) (holds : Bool)
  /-- BULK_SYNC (R341): HKS sends every record as SYNCREC and the pair enters STATE 3 at the last acknowledgement. -/
  | bulkSync
  /-- JOURNAL (R362): A received JOURNAL message enters the partner journal. -/
  | journalMsg
  /-- JDONE (R362): A received JDONE message removes its partner journal entry. -/
  | jdone
  /-- CREATE (R362): A received CREATE inserts both records of a connection and marks its binding. -/
  | createMsg
  /-- STATE (R362): A received STATE message changes the records as the sender did. -/
  | stateMsg
  /-- PDATA (R362): A received PDATA message writes record bytes 384–511. -/
  | pdata
  /-- DELETE (R362): A received DELETE removes the flow without export or event. -/
  | deleteMsg
  /-- CKPT (R362): A received CKPT adds count deltas and raises LAST_SEEN. -/
  | ckpt
  /-- SYNCREC (R362): A received SYNCREC inserts a synchronised record. -/
  | syncrec
  /-- RECFETCH (R331): A partner requests a record by key and is answered with RECORD. -/
  | recfetch
  /-- RECORD (R331): A RECORD reply repairs an unreadable tun record. -/
  | recordMsg
  /-- DRAIN_LIMIT_EXPIRY (R31): The drain limit of a commanded device reset passes; the remaining frames are returned with code 0x03 and the reset proceeds. -/
  | drainLimitExpiry
  /-- SESSION_IDLE_EXPIRY (R387): A session passes SESSION_IDLE_MIN minutes without a sealed command and ends. -/
  | sessionIdleExpiry (n : Nat)
  /-- MSI_X_VECTOR_UNMASK (R424): The host unmasks an MSI-X vector whose pending bit is set, and the device sends the held message. -/
  | msiXVectorUnmask (v : Nat)
  /-- VERIFY_TIME_EXPIRY (R54): The MAC merge verify time runs out and the verify protocol resends or gives up. -/
  | verifyTimeExpiry (p : Nat)
  /-- VERIFY_RESPONSE_RECEIVED (R55): A verify or respond mPacket arrives from the link partner and verification answers it or succeeds, making PREEMPT_ACTIVE true. -/
  | verifyResponseReceived (p : Nat) (respond : Bool)
  /-- PIN_PULSE_WIDTH_END (R306): A TT pin output pulse reaches WIDTH_NS and the pin returns to its inactive level. -/
  | pinPulseWidthEnd (k : Nat)
  /-- UNIT_RESET_END (R462): A quarter, cluster or channel reset ends and the unit comes out of reset, fenced and resting. -/
  | unitResetEnd (u : Nat)
  /-- HEALTH_KICK (R368): A kick from island C, island X or SEC reaches the health monitor and restarts its KICK_NS count. -/
  | healthKick (d : Nat)
  /-- POWER_ESTIMATE_UPDATE (R459): Every 1 ms the on-die power estimate PWR_ISLAND_W_k of each rail is updated. -/
  | powerEstimateUpdate (w0 w1 w2 : Nat)
deriving DecidableEq, Repr

end Sys2Proof
end

