-- ==== Sys2Proof/Decode.lean ====
section
/-! DEFINITION. The words of the opcode table: it gives bits to no row, since every row is a command of the block, so that no word spells a
command. -/

namespace Sys2Proof

/-- The command that a word of nbits bits spells by the table's bits: none, as the table gives no row any. -/
def decodeTableWord (_nbits _w : Nat) : Option Instr := none

end Sys2Proof
end

