-- ==== Sys2Proof/Machine/Operands.lean ====
section
/-! DEFINITION. Bit fields, byte order, two's complement, timestamps and the sparse table: the forms in which every
operand, register field, entry and table of the manual is read and written (R4 to R7). -/

namespace Sys2Proof.Machine

/-- Bits hi down to lo of a natural (R5). -/
def bitsOf (v hi lo : Nat) : Nat := v / 2 ^ lo % 2 ^ (hi + 1 - lo)

/-- One bit of a natural (R5). -/
def bitOf (v i : Nat) : Bool := v / 2 ^ i % 2 == 1

/-- v with its bits hi down to lo replaced by the low bits of x (R5). -/
def withBits (v hi lo x : Nat) : Nat :=
  v - bitsOf v hi lo * 2 ^ lo + x % 2 ^ (hi + 1 - lo) * 2 ^ lo

/-- v with bit i set or cleared. -/
def withBit (v i : Nat) (b : Bool) : Nat := withBits v i i (if b then 1 else 0)

/-- The number 1 or 0 for a condition. -/
def ofBool (b : Bool) : Nat := if b then 1 else 0

/-- The value of a list of bytes, least significant byte first (R4). -/
def leNat : List Byte → Nat
  | [] => 0
  | b :: bs => b.toNat + 256 * leNat bs

/-- The value of a list of bytes in network order (R4). -/
def beNat (bs : List Byte) : Nat := bs.foldl (fun a b => a * 256 + b.toNat) 0

/-- n bytes of v, least significant first (R4). -/
def leBytes : Nat → Nat → List Byte
  | 0, _ => []
  | n + 1, v => BitVec.ofNat 8 v :: leBytes n (v / 256)

/-- n bytes of v in network order (R4). -/
def beBytes (n v : Nat) : List Byte := (leBytes n v).reverse

/-- n zero bytes. -/
def zeros (n : Nat) : List Byte := List.replicate n 0

/-- bs cut or filled with zero bytes to exactly n bytes. -/
def padTo (n : Nat) (bs : List Byte) : List Byte := (bs ++ zeros n).take n

/-- The n bytes of bs from position i; bytes past its end read as zero. -/
def slice (bs : List Byte) (i n : Nat) : List Byte := padTo n (bs.drop i)

/-- Little-endian field of n bytes at byte i of a structure (R4, R5). -/
def leField (bs : List Byte) (i n : Nat) : Nat := leNat (slice bs i n)

/-- Network-order field of n bytes at byte i of a frame (R4). -/
def beField (bs : List Byte) (i n : Nat) : Nat := beNat (slice bs i n)

/-- bs with the bytes from position i on replaced by ys, the length of bs kept. -/
def patch (bs : List Byte) (i : Nat) (ys : List Byte) : List Byte :=
  (bs.take i ++ ys ++ bs.drop (i + ys.length)).take bs.length

/-- v held within lo and hi: a value outside a stated range acts as the nearest one within it. -/
def clamp (lo hi v : Nat) : Nat := max lo (min hi v)

/-- The two's complement value of the low w bits of v. -/
def signedOf (w v : Nat) : Int :=
  let u := v % 2 ^ w
  if u < 2 ^ (w - 1) then (u : Int) else (u : Int) - (2 ^ w : Nat)

/-- The w-bit two's complement code of an integer. -/
def signedCode (w : Nat) (i : Int) : Nat := (i % (2 ^ w : Nat)).toNat

/-- An integer held within lo and hi. -/
def clampInt (lo hi i : Int) : Int := max lo (min hi i)

/-- ⌈a / b⌉. -/
def ceilDiv (a b : Nat) : Nat := (a + b - 1) / b

/-- Nanoseconds in a second. -/
def nsPerSec : Nat := 1000000000

/-- A timestamp as a count of nanoseconds. -/
def stampNs (t : Stamp) : Nat := t.sec * nsPerSec + t.ns

/-- The timestamp of a count of nanoseconds (R6), the seconds modulo 2^48. -/
def nsStamp (n : Nat) : Stamp := ⟨n / nsPerSec % 2 ^ 48, n % nsPerSec⟩

/-- The 10 bytes of a timestamp in memory (R6): bytes 0 to 3 the nanoseconds, bytes 4 to 9 the seconds. -/
def stampBytes (t : Stamp) : List Byte := leBytes 4 t.ns ++ leBytes 6 t.sec

/-- The timestamp of 10 bytes in memory (R6). -/
def stampOfBytes (bs : List Byte) : Stamp := ⟨leField bs 4 6, leField bs 0 4⟩

/-- Whether a timestamp is one the device takes: nanoseconds below 1,000,000,000 (R7). -/
def stampOk (t : Stamp) : Bool := t.ns < nsPerSec

/-- The value a sparse table lists for a key. -/
def Store.get? {α : Type} : Store α → Nat → Option α
  | [], _ => none
  | (k, v) :: rest, n => if k = n then some v else Store.get? rest n

/-- The value for a key, with d for an unlisted key. -/
def Store.getD {α : Type} (m : Store α) (n : Nat) (d : α) : α := (Store.get? m n).getD d

/-- The table with key n set to v, keys kept rising. -/
def Store.set {α : Type} : Store α → Nat → α → Store α
  | [], n, v => [(n, v)]
  | (k, w) :: rest, n, v =>
    if n < k then (n, v) :: (k, w) :: rest
    else if n = k then (n, v) :: rest
    else (k, w) :: Store.set rest n v

/-- The table without key n. -/
def Store.erase {α : Type} (m : Store α) (n : Nat) : Store α := m.filter (fun e => e.1 != n)

/-- The table with key n changed by f, from d where it is unlisted. -/
def Store.upd {α : Type} (m : Store α) (n : Nat) (d : α) (f : α → α) : Store α :=
  Store.set m n (f (Store.getD m n d))

/-- The table with key n set to v, unlisted when v is what an unlisted key holds. -/
def Store.put {α : Type} [DecidableEq α] (m : Store α) (n : Nat) (d v : α) : Store α :=
  if v = d then Store.erase m n else Store.set m n v

/-- The keys of a table strictly rise. -/
def Store.sorted {α : Type} : Store α → Bool
  | [] => true
  | [_] => true
  | (k, _) :: (k', w) :: rest => k < k' && Store.sorted ((k', w) :: rest)

/-- The entries of a table that a test keeps. -/
def Store.keep {α : Type} (m : Store α) (p : Nat → α → Bool) : Store α := m.filter (fun e => p e.1 e.2)

/-- One key from two numbers: row a of width 2^32, column b. -/
def key2 (a b : Nat) : Nat := a * 2 ^ 32 + b

/-- One key from three numbers. -/
def key3 (a b c : Nat) : Nat := (a * 2 ^ 24 + b) * 2 ^ 32 + c

/-- The first element of a list that a test accepts, with its position. -/
def findIdx? {α : Type} (p : α → Bool) : List α → Nat → Option (Nat × α)
  | [], _ => none
  | x :: xs, i => if p x then some (i, x) else findIdx? p xs (i + 1)

/-- The least number below n that a test accepts. -/
def leastBelow (p : Nat → Bool) (n : Nat) : Option Nat := (List.range n).find? p

end Sys2Proof.Machine
end

