-- ==== Sys2Proof/Machine/FelricCode.lean ====
section
/-! DEFINITION. Felric instruction words: the formats of Table 9.6, the opcodes of Table 9.7, encoding, decoding, and the checks that
the loader makes (R222, R226, R229). -/

namespace Sys2Proof.Machine

/-- A Felric instruction by its format (Table 9.6). -/
inductive FInstr where
  /-- Format A: an operation on two registers. -/
  | regs (op d a b : Nat)
  /-- Format I: an operation on a register and an immediate of 18 bits. -/
  | imm (op d a i : Nat)
  /-- Format M: a load (store false) or store at base a and an offset. -/
  | mem (store : Bool) (d a space size off : Nat)
  /-- Format B: a branch. -/
  | br (a b cond dist : Nat)
  /-- Format C: CSRs, banks, notices and timers. -/
  | ctl (op d a n : Nat)
  /-- Format E: END. -/
  | fin (result : Nat)
deriving DecidableEq, Repr

/-- The opcodes of format A. -/
def opsA : List Nat := [0x01, 0x02, 0x03, 0x04, 0x05, 0x06, 0x07, 0x08, 0x09, 0x0A, 0x0B, 0x0C, 0x0D, 0x0E, 0x1B]
/-- The opcodes of format I. -/
def opsI : List Nat := [0x10, 0x11, 0x12, 0x13, 0x14, 0x15, 0x16, 0x17, 0x18, 0x19, 0x1A]
/-- The opcodes of format C. -/
def opsC : List Nat := [0x30, 0x31, 0x32, 0x34, 0x35]

/-- Every field within its width, the opcode one of its format, and A of LI zero (Tables 9.6 and 9.7). -/
def FInstr.wf : FInstr → Bool
  | .regs op d a b => opsA.contains op && d < 16 && a < 16 && b < 16
  | .imm op d a i => opsI.contains op && d < 16 && a < 16 && i < 262144 && (op != 0x18 || a == 0)
  | .mem _ d a sp sz off => d < 16 && a < 16 && sp < 4 && sz < 4 && off < 16384
  | .br a b c dist => a < 16 && b < 16 && c < 8 && 1 ≤ dist && dist < 256
  | .ctl op d a n => opsC.contains op && d < 16 && a < 16 && n < 4096
  | .fin r => r < 256

/-- The word of an instruction (Table 9.6). -/
def FInstr.encode : FInstr → Nat
  | .regs op d a b => op * 2 ^ 26 + d * 2 ^ 22 + a * 2 ^ 18 + b * 2 ^ 14
  | .imm op d a i => op * 2 ^ 26 + d * 2 ^ 22 + a * 2 ^ 18 + i
  | .mem st d a sp sz off => (if st then 0x21 else 0x20) * 2 ^ 26 + d * 2 ^ 22 + a * 2 ^ 18 + sp * 2 ^ 16 + sz * 2 ^ 14 + off
  | .br a b c dist => 0x28 * 2 ^ 26 + a * 2 ^ 22 + b * 2 ^ 18 + c * 2 ^ 15 + dist
  | .ctl op d a n => op * 2 ^ 26 + d * 2 ^ 22 + a * 2 ^ 18 + n
  | .fin r => 0x3F * 2 ^ 26 + r

/-- The instruction of a word (Tables 9.6 and 9.7): none for an undefined opcode or a non-zero reserved field. -/
def decodeFelric (w : Nat) : Option FInstr :=
  let op := bitsOf w 31 26
  let d := bitsOf w 25 22
  let a := bitsOf w 21 18
  if 2 ^ 32 ≤ w then none
  else if opsA.contains op then
    (if bitsOf w 13 0 = 0 then some (.regs op d a (bitsOf w 17 14)) else none)
  else if opsI.contains op then
    (if op = 0x18 && a != 0 then none else some (.imm op d a (bitsOf w 17 0)))
  else if op = 0x20 || op = 0x21 then
    some (.mem (op = 0x21) d a (bitsOf w 17 16) (bitsOf w 15 14) (bitsOf w 13 0))
  else if op = 0x28 then
    (if bitsOf w 14 8 = 0 && bitsOf w 7 0 != 0 then some (.br d a (bitsOf w 17 15) (bitsOf w 7 0)) else none)
  else if opsC.contains op then
    (if bitsOf w 17 12 = 0 then some (.ctl op d a (bitsOf w 11 0)) else none)
  else if op = 0x3F then
    (if d = 0 && a = 0 && bitsOf w 17 8 = 0 then some (.fin (bitsOf w 7 0)) else none)
  else none

/-- The REC bytes that a task may write (R225). -/
def recWritable (i : Nat) : Bool :=
  i = 44 || (86 ≤ i && i ≤ 91) || (96 ≤ i && i ≤ 111) || (192 ≤ i && i ≤ 199) || (384 ≤ i && i ≤ 511)

/-- Bytes of a SIZE code. -/
def sizeBytes (sz : Nat) : Nat := 2 ^ sz

/-- A REC or EVT access that the loader admits (R226): base g0, within the space, and for a store within R225. -/
def accessOk (store : Bool) (a space size off : Nat) : Bool :=
  let n := sizeBytes size
  if space = 0 then
    a = 0 && off + n ≤ 768 && (!store || (List.range n).all (fun i => recWritable (off + i)))
  else if space = 1 then a = 0 && off + n ≤ 256 && !store
  else true

/-- A CSR number that the loader admits (Table 9.7). -/
def csrOk (n : Nat) : Bool := n ≤ 4 || (0x100 ≤ n && n < 0x120)

/-- An instruction at word i of a program of n words that the loader admits (R222): branches stay within the program, accesses meet
R226, and banks are used only with USES_BANKS. -/
def instrOk (flags n i : Nat) (x : FInstr) : Bool :=
  let banks := bitOf flags 2
  match x with
  | .br _ _ _ dist => i + dist < n
  | .mem st _ a sp sz off => accessOk st a sp sz off && (sp != 3 || banks)
  | .ctl op _ _ m => if op = 0x30 || op = 0x31 then csrOk m && (m < 0x100 || banks) else true
  | _ => true

/-- The words of a program that the loader admits (R222), the last of them END. -/
def programOk (flags : Nat) (words : List Nat) : Bool :=
  words.zipIdx.all (fun e => match decodeFelric e.1 with
    | none => false
    | some x => instrOk flags words.length e.2 x) &&
  (match words.getLast? with
    | some w => (match decodeFelric w with | some (.fin _) => true | _ => false)
    | none => false)

/-- The base program of slot 0 (R179): it creates the flow as the profile states and makes no other decision. -/
def baseProgram : List Nat := [0xFC000000]

end Sys2Proof.Machine
end

