-- ==== Sys2Proof/Config.lean ====
section
/-! DEFINITION. What the manual leaves open: the free values. Each is a constant without a body, so that nothing can be
proved about its value. -/

namespace Sys2Proof.Config

/-- The n-th value the device draws or that the manual leaves open: random numbers, drawn keys and seeds, digests and
tags, and every result the manual does not state. -/
opaque freeWord : Nat → Word64

/-- The digest of a byte string (SHA-384 as a number): the manual names the function, the model leaves its values open. -/
opaque digest : List Byte → Nat

/-- What a scratchpad byte holds after the n-th reset of its cluster, before a task writes it (R232 calls it undefined). -/
opaque scratchByte : Nat → Nat → Byte

/-- The bytes of SecTAG and ICV that MACsec adds to a protected frame on the wire: the manual counts them (R264, R521) and
gives no length for the SecTAG. -/
opaque macsecBytes : Nat

/-- A byte of the keystream of GCM-AES-XPN-256 under a key, an SSCI and a packet number: the cipher is not computed here. -/
opaque macsecStream : Nat → Nat → Nat → Nat → Byte

/-- The integrity check value of GCM-AES-XPN-256 under a key, an SSCI and a packet number. -/
opaque macsecIcv : Nat → Nat → Nat → List Byte → BitVec 128

/-- The replay window of a port in packets, 0 to 2^30 - 1 (R50): no register and no command of the manual sets it. -/
opaque replayWindow : Nat → BitVec 30

/-- The UDP source port that an encapsulation takes from a load-spreading hash: the manual names the hash (Table 4.5) and not which of its
bits are taken. -/
opaque hashPort : Nat → BitVec 16

/-- The load-spreading hash of a frame that no hash group spreads, of its flow key block: the manual defines the hash for a hash group only
(R82). -/
opaque ungroupedHash : List Byte → Nat

/-- The 32 bytes of a frame record (R250), which holds a packet descriptor, of a frame, its cells and its egress queue: the manual gives the
descriptor no layout. -/
opaque frameRecord : Nat → Nat → Nat → BitVec 256

/-- The base guard band of VDD_AON in mV, held in fuses (R465): no register shows it and the manual gives no value. -/
opaque aonGuard : Nat

/-- The byte at an offset of a black-box image sealed under an epoch (R401): ciphertext, then tag. -/
opaque sealedByte : Nat → Nat → Byte

/-- The byte at an offset of a black-box trailer (R446) with its write index, freeze cause and epoch: the manual names what it holds and
gives no layout. -/
opaque trailerByte : Nat → Nat → Nat → Nat → Byte

/-- A byte of the answer to the SMBus command STATUS (Table 17.9), of ALARM_N, ATTN_N, FLT_FENCE_STAT, FLT_BB_STAT and the pair STATE, by its
offset: the manual names what the 16 bytes hold and gives no layout. -/
opaque statusByte : Bool → Bool → Nat → Nat → Nat → Nat → Byte

/-- The byte at an offset of the device's identity public key (0 to 95) and of its vendor certificate (from 96 on): each device has its own. -/
opaque identityByte : Nat → Byte

end Sys2Proof.Config
end

