-- ==== Sys2Proof/Machine/RegMap.lean ====
section
/-! DEFINITION. The register map: every register of BAR0 with its address, width, access masks and
reset value (R494 to R499, Table 21.5 and the register tables of the chapters), and its fields. -/

namespace Sys2Proof.Machine

/-- A register of the set-up map: base offset in BAR0, up to three strides with their counts, whether it is
64 bits wide (R495), its RW bits, its SG bits (R9, R392) and its reset value. -/
structure Reg where
  base : Nat
  s1 : Nat
  n1 : Nat
  s2 : Nat
  n2 : Nat
  s3 : Nat
  n3 : Nat
  wide : Bool
  rw : Nat
  sg : Nat
  reset : Nat
deriving DecidableEq, Repr

/-- A field of a register: bits hi down to lo. -/
structure Fld where
  reg : Reg
  hi : Nat
  lo : Nat
deriving DecidableEq, Repr

/-- PRT_MODE (03_ports). -/
def PRT_MODE : Reg :=
  ⟨0x1000000, 0x10000, 96, 0x0, 1, 0x0, 1, false, 0x1ff, 0x0, 0x80⟩

/-- PRT_FRAME (03_ports). -/
def PRT_FRAME : Reg :=
  ⟨0x1000008, 0x10000, 96, 0x0, 1, 0x0, 1, false, 0x3fff, 0x0, 0x5f2⟩

/-- PRT_PREEMPT (03_ports). -/
def PRT_PREEMPT : Reg :=
  ⟨0x1000010, 0x10000, 96, 0x0, 1, 0x0, 1, false, 0x7ff, 0x0, 0xa0⟩

/-- PRT_HOLD (03_ports). -/
def PRT_HOLD : Reg :=
  ⟨0x1000018, 0x10000, 96, 0x0, 1, 0x0, 1, false, 0x1ffff, 0x0, 0x3e8⟩

/-- PRT_LINK_DEBOUNCE (03_ports). -/
def PRT_LINK_DEBOUNCE : Reg :=
  ⟨0x1000020, 0x10000, 96, 0x0, 1, 0x0, 1, false, 0x3ff, 0x0, 0x2⟩

/-- PRT_TS_ADJ (03_ports). -/
def PRT_TS_ADJ : Reg :=
  ⟨0x1000028, 0x10000, 96, 0x0, 1, 0x0, 1, false, 0xffffffff, 0x0, 0x0⟩

/-- PRT_MACSEC_CTRL (03_ports). -/
def PRT_MACSEC_CTRL : Reg :=
  ⟨0x1000030, 0x10000, 96, 0x0, 1, 0x0, 1, false, 0x0, 0xf, 0x2⟩

/-- PRT_STATUS (03_ports). -/
def PRT_STATUS : Reg :=
  ⟨0x1000038, 0x10000, 96, 0x0, 1, 0x0, 1, false, 0x0, 0x0, 0x0⟩

/-- PRT_QMUX (03_ports). -/
def PRT_QMUX : Reg :=
  ⟨0x1600000, 0x0, 1, 0x0, 1, 0x0, 1, false, 0x0, 0x0, 0x7⟩

/-- PRT_QUIET_0 (03_ports). -/
def PRT_QUIET_0 : Reg :=
  ⟨0x1600008, 0x0, 1, 0x0, 1, 0x0, 1, true, 0x0, 0x0, 0x0⟩

/-- PRT_QUIET_1 (03_ports). -/
def PRT_QUIET_1 : Reg :=
  ⟨0x1600010, 0x0, 1, 0x0, 1, 0x0, 1, true, 0x0, 0x0, 0x0⟩

/-- PRT_DEFAULT (03_ports). -/
def PRT_DEFAULT : Reg :=
  ⟨0x1000040, 0x10000, 96, 0x0, 1, 0x0, 1, false, 0x7fff, 0x0, 0x1⟩

/-- QTR_PARSE_ACT (04_parser_classifier). -/
def QTR_PARSE_ACT : Reg :=
  ⟨0x2001000, 0x100000, 5, 0x0, 1, 0x0, 1, false, 0xfffff, 0x0, 0x1400⟩

/-- QTR_EPOCH (04_parser_classifier). -/
def QTR_EPOCH : Reg :=
  ⟨0x2001008, 0x100000, 5, 0x0, 1, 0x0, 1, true, 0x0, 0x0, 0x0⟩

/-- QTR_PARSE_CNT_0i (04_parser_classifier). -/
def QTR_PARSE_CNT_0 : Reg :=
  ⟨0x2001100, 0x100000, 5, 0x8, 5, 0x0, 1, true, 0x0, 0x0, 0x0⟩

/-- QTR_PARSE_CNT_1i (04_parser_classifier). -/
def QTR_PARSE_CNT_1 : Reg :=
  ⟨0x2001128, 0x100000, 5, 0x8, 3, 0x0, 1, true, 0x0, 0x0, 0x0⟩

/-- QTR_EDIT_OVERSIZE_CNT (04_parser_classifier). -/
def QTR_EDIT_OVERSIZE_CNT : Reg :=
  ⟨0x2001180, 0x100000, 5, 0x0, 1, 0x0, 1, true, 0x0, 0x0, 0x0⟩

/-- QTR_TTL_CNT (04_parser_classifier). -/
def QTR_TTL_CNT : Reg :=
  ⟨0x2001188, 0x100000, 5, 0x0, 1, 0x0, 1, true, 0x0, 0x0, 0x0⟩

/-- QTR_EDIT_SKIP_CNT (04_parser_classifier). -/
def QTR_EDIT_SKIP_CNT : Reg :=
  ⟨0x2001190, 0x100000, 5, 0x0, 1, 0x0, 1, true, 0x0, 0x0, 0x0⟩

/-- QTR_NO_MEMBER_CNT (04_parser_classifier). -/
def QTR_NO_MEMBER_CNT : Reg :=
  ⟨0x2001198, 0x100000, 5, 0x0, 1, 0x0, 1, true, 0x0, 0x0, 0x0⟩

/-- QTR_FAILOVER_CNT (04_parser_classifier). -/
def QTR_FAILOVER_CNT : Reg :=
  ⟨0x20011a0, 0x100000, 5, 0x0, 1, 0x0, 1, true, 0x0, 0x0, 0x0⟩

/-- QTR_RECIRC_FULL_CNT (04_parser_classifier). -/
def QTR_RECIRC_FULL_CNT : Reg :=
  ⟨0x20011a8, 0x100000, 5, 0x0, 1, 0x0, 1, true, 0x0, 0x0, 0x0⟩

/-- QTR_RECIRC_LIMIT_CNT (04_parser_classifier). -/
def QTR_RECIRC_LIMIT_CNT : Reg :=
  ⟨0x20011b0, 0x100000, 5, 0x0, 1, 0x0, 1, true, 0x0, 0x0, 0x0⟩

/-- QTR_PARSE_CNT_05 (04_parser_classifier). -/
def QTR_PARSE_CNT_05 : Reg :=
  ⟨0x20011b8, 0x100000, 5, 0x0, 1, 0x0, 1, true, 0x0, 0x0, 0x0⟩

/-- QTR_TCAM_SEL_g_j (05_search_tcam_automata). -/
def QTR_TCAM_SEL : Reg :=
  ⟨0x2002200, 0x100000, 5, 0x40, 8, 0x4, 16, false, 0x1ffffff, 0x0, 0x0⟩

/-- QTR_TCAM_BANK_n (05_search_tcam_automata). -/
def QTR_TCAM_BANK : Reg :=
  ⟨0x2002000, 0x100000, 5, 0x4, 24, 0x0, 1, false, 0x3f, 0x0, 0x0⟩

/-- QTR_TCAM_UPD (05_search_tcam_automata). -/
def QTR_TCAM_UPD : Reg :=
  ⟨0x2002080, 0x100000, 5, 0x0, 1, 0x0, 1, false, 0xffff, 0x0, 0x1000⟩

/-- QTR_TCAM_STEP_CNT (05_search_tcam_automata). -/
def QTR_TCAM_STEP_CNT : Reg :=
  ⟨0x2002400, 0x100000, 5, 0x0, 1, 0x0, 1, true, 0x0, 0x0, 0x0⟩

/-- QTR_TCAM_STEAL_CNT (05_search_tcam_automata). -/
def QTR_TCAM_STEAL_CNT : Reg :=
  ⟨0x2002408, 0x100000, 5, 0x0, 1, 0x0, 1, true, 0x0, 0x0, 0x0⟩

/-- QTR_TCAM_SCRUB_FIX_CNT (05_search_tcam_automata). -/
def QTR_TCAM_SCRUB_FIX_CNT : Reg :=
  ⟨0x2002410, 0x100000, 5, 0x0, 1, 0x0, 1, true, 0x0, 0x0, 0x0⟩

/-- QTR_DENY_CNT (05_search_tcam_automata). -/
def QTR_DENY_CNT : Reg :=
  ⟨0x2002418, 0x100000, 5, 0x0, 1, 0x0, 1, true, 0x0, 0x0, 0x0⟩

/-- QTR_PAT_FRAME_CNT (05_search_tcam_automata). -/
def QTR_PAT_FRAME_CNT : Reg :=
  ⟨0x2003000, 0x100000, 5, 0x0, 1, 0x0, 1, true, 0x0, 0x0, 0x0⟩

/-- QTR_PAT_BYTE_CNT (05_search_tcam_automata). -/
def QTR_PAT_BYTE_CNT : Reg :=
  ⟨0x2003008, 0x100000, 5, 0x0, 1, 0x0, 1, true, 0x0, 0x0, 0x0⟩

/-- QTR_PAT_SKIP_CNT (05_search_tcam_automata). -/
def QTR_PAT_SKIP_CNT : Reg :=
  ⟨0x2003010, 0x100000, 5, 0x0, 1, 0x0, 1, true, 0x0, 0x0, 0x0⟩

/-- QTR_PAT_REFUSE_CNT (05_search_tcam_automata). -/
def QTR_PAT_REFUSE_CNT : Reg :=
  ⟨0x2003018, 0x100000, 5, 0x0, 1, 0x0, 1, true, 0x0, 0x0, 0x0⟩

/-- QTR_PAT_FAULT_CNT (05_search_tcam_automata). -/
def QTR_PAT_FAULT_CNT : Reg :=
  ⟨0x2003020, 0x100000, 5, 0x0, 1, 0x0, 1, true, 0x0, 0x0, 0x0⟩

/-- QTR_PAT_FREE_WORDS (05_search_tcam_automata). -/
def QTR_PAT_FREE_WORDS : Reg :=
  ⟨0x2003028, 0x100000, 5, 0x0, 1, 0x0, 1, true, 0x0, 0x0, 0x80000⟩

/-- XPR_TCAM_CFG (05_search_tcam_automata). -/
def XPR_TCAM_CFG : Reg :=
  ⟨0x2801000, 0x0, 1, 0x0, 1, 0x0, 1, false, 0x0, 0x3ff, 0x390⟩

/-- XPR_RANGE_i (05_search_tcam_automata). -/
def XPR_RANGE : Reg :=
  ⟨0x2801100, 0x8, 128, 0x0, 1, 0x0, 1, true, 0x0, 0xffffffff0000011f, 0xffff000000000000⟩

/-- XPR_TCAM_DENY_CNT (05_search_tcam_automata). -/
def XPR_TCAM_DENY_CNT : Reg :=
  ⟨0x2801500, 0x0, 1, 0x0, 1, 0x0, 1, true, 0x0, 0x0, 0x0⟩

/-- XPR_TCAM_SCRUB_FIX_CNT (05_search_tcam_automata). -/
def XPR_TCAM_SCRUB_FIX_CNT : Reg :=
  ⟨0x2801508, 0x0, 1, 0x0, 1, 0x0, 1, true, 0x0, 0x0, 0x0⟩

/-- QTR_HASH_SEED_t (06_forwarding_learning). -/
def QTR_HASH_SEED : Reg :=
  ⟨0x2004000, 0x100000, 5, 0x10, 4, 0x0, 1, true, 0x0, 0x0, 0x0⟩

/-- QTR_HASH_NEW_SEED_t (06_forwarding_learning). -/
def QTR_HASH_NEW_SEED : Reg :=
  ⟨0x2004008, 0x100000, 5, 0x10, 4, 0x0, 1, true, 0x0, 0x0, 0x0⟩

/-- QTR_TABLE_STAT_t (06_forwarding_learning). -/
def QTR_TABLE_STAT : Reg :=
  ⟨0x2004080, 0x100000, 5, 0x8, 4, 0x0, 1, false, 0x0, 0x0, 0x0⟩

/-- QTR_LEARN_CTRL (06_forwarding_learning). -/
def QTR_LEARN_CTRL : Reg :=
  ⟨0x2004100, 0x100000, 5, 0x0, 1, 0x0, 1, true, 0x7ff00ffffff, 0x0, 0x3e800003e89⟩

/-- QTR_LEARN_PORT_EN_0 (06_forwarding_learning). -/
def QTR_LEARN_PORT_EN_0 : Reg :=
  ⟨0x2004108, 0x100000, 5, 0x0, 1, 0x0, 1, true, 0xffffffffffffffff, 0x0, 0xffffffffffffffff⟩

/-- QTR_LEARN_PORT_EN_1 (06_forwarding_learning). -/
def QTR_LEARN_PORT_EN_1 : Reg :=
  ⟨0x2004110, 0x100000, 5, 0x0, 1, 0x0, 1, true, 0xffffffff, 0x0, 0xffffffff⟩

/-- QTR_AGE_CTRL (06_forwarding_learning). -/
def QTR_AGE_CTRL : Reg :=
  ⟨0x2004118, 0x100000, 5, 0x0, 1, 0x0, 1, true, 0x1ffffffff, 0x0, 0x1000249f0⟩

/-- QTR_CUCKOO_FAIL_CNT_t (06_forwarding_learning). -/
def QTR_CUCKOO_FAIL_CNT : Reg :=
  ⟨0x2004200, 0x100000, 5, 0x8, 4, 0x0, 1, true, 0x0, 0x0, 0x0⟩

/-- QTR_LEARN_CNT (06_forwarding_learning). -/
def QTR_LEARN_CNT : Reg :=
  ⟨0x2004220, 0x100000, 5, 0x0, 1, 0x0, 1, true, 0x0, 0x0, 0x0⟩

/-- QTR_LEARN_DEFER_CNT (06_forwarding_learning). -/
def QTR_LEARN_DEFER_CNT : Reg :=
  ⟨0x2004228, 0x100000, 5, 0x0, 1, 0x0, 1, true, 0x0, 0x0, 0x0⟩

/-- QTR_LEARN_RESOLVE_CNT (06_forwarding_learning). -/
def QTR_LEARN_RESOLVE_CNT : Reg :=
  ⟨0x2004230, 0x100000, 5, 0x0, 1, 0x0, 1, true, 0x0, 0x0, 0x0⟩

/-- QTR_MOVE_PEND_CNT (06_forwarding_learning). -/
def QTR_MOVE_PEND_CNT : Reg :=
  ⟨0x2004238, 0x100000, 5, 0x0, 1, 0x0, 1, true, 0x0, 0x0, 0x0⟩

/-- QTR_MOVE_CNT (06_forwarding_learning). -/
def QTR_MOVE_CNT : Reg :=
  ⟨0x2004240, 0x100000, 5, 0x0, 1, 0x0, 1, true, 0x0, 0x0, 0x0⟩

/-- QTR_STATIC_VIOLATION_CNT (06_forwarding_learning). -/
def QTR_STATIC_VIOLATION_CNT : Reg :=
  ⟨0x2004248, 0x100000, 5, 0x0, 1, 0x0, 1, true, 0x0, 0x0, 0x0⟩

/-- QTR_AGE_CNT (06_forwarding_learning). -/
def QTR_AGE_CNT : Reg :=
  ⟨0x2004250, 0x100000, 5, 0x0, 1, 0x0, 1, true, 0x0, 0x0, 0x0⟩

/-- QTR_NO_ROUTE_CNT (06_forwarding_learning). -/
def QTR_NO_ROUTE_CNT : Reg :=
  ⟨0x2004258, 0x100000, 5, 0x0, 1, 0x0, 1, true, 0x0, 0x0, 0x0⟩

/-- QTR_NH_DEPTH_CNT (06_forwarding_learning). -/
def QTR_NH_DEPTH_CNT : Reg :=
  ⟨0x2004260, 0x100000, 5, 0x0, 1, 0x0, 1, true, 0x0, 0x0, 0x0⟩

/-- FLW_TIER_CFG (07_flow_records_tiers). -/
def FLW_TIER_CFG : Reg :=
  ⟨0x3800000, 0x0, 1, 0x0, 1, 0x0, 1, true, 0x0, 0x0, 0x0⟩

/-- FLW_TUN_CTRL (07_flow_records_tiers). -/
def FLW_TUN_CTRL : Reg :=
  ⟨0x3800008, 0x0, 1, 0x0, 1, 0x0, 1, false, 0x7f, 0x0, 0x5a⟩

/-- FLW_MISS_CTRL (07_flow_records_tiers). -/
def FLW_MISS_CTRL : Reg :=
  ⟨0x3800010, 0x0, 1, 0x0, 1, 0x0, 1, false, 0x83ff3fff, 0x0, 0x820000c8⟩

/-- FLW_WB_CTRL (07_flow_records_tiers). -/
def FLW_WB_CTRL : Reg :=
  ⟨0x3800018, 0x0, 1, 0x0, 1, 0x0, 1, false, 0x3f03ff, 0x0, 0x1903e8⟩

/-- FLW_DEMOTE_CTRL (07_flow_records_tiers). -/
def FLW_DEMOTE_CTRL : Reg :=
  ⟨0x3800020, 0x0, 1, 0x0, 1, 0x0, 1, false, 0x7ff03ff, 0x0, 0x708003c⟩

/-- FLW_AGE_CTRL (07_flow_records_tiers). -/
def FLW_AGE_CTRL : Reg :=
  ⟨0x3800028, 0x0, 1, 0x0, 1, 0x0, 1, false, 0x7fffff, 0x0, 0xb003c⟩

/-- FLW_KEY_STAT (07_flow_records_tiers). -/
def FLW_KEY_STAT : Reg :=
  ⟨0x3800030, 0x0, 1, 0x0, 1, 0x0, 1, true, 0x0, 0x0, 0x0⟩

/-- FLW_GILL_OCC (07_flow_records_tiers). -/
def FLW_GILL_OCC : Reg :=
  ⟨0x3800040, 0x0, 1, 0x0, 1, 0x0, 1, true, 0x0, 0x0, 0x0⟩

/-- FLW_FIRKIN_OCC (07_flow_records_tiers). -/
def FLW_FIRKIN_OCC : Reg :=
  ⟨0x3800048, 0x0, 1, 0x0, 1, 0x0, 1, true, 0x0, 0x0, 0x0⟩

/-- FLW_TUN_OCC (07_flow_records_tiers). -/
def FLW_TUN_OCC : Reg :=
  ⟨0x3800050, 0x0, 1, 0x0, 1, 0x0, 1, true, 0x0, 0x0, 0x0⟩

/-- FLW_PEND_OCC (07_flow_records_tiers). -/
def FLW_PEND_OCC : Reg :=
  ⟨0x3800058, 0x0, 1, 0x0, 1, 0x0, 1, true, 0x0, 0x0, 0x0⟩

/-- FLW_REFUSE_DENY_q (07_flow_records_tiers). -/
def FLW_REFUSE_DENY : Reg :=
  ⟨0x3801000, 0x20, 5, 0x0, 1, 0x0, 1, true, 0x0, 0x0, 0x0⟩

/-- FLW_REFUSE_OVF_q (07_flow_records_tiers). -/
def FLW_REFUSE_OVF : Reg :=
  ⟨0x3801008, 0x20, 5, 0x0, 1, 0x0, 1, true, 0x0, 0x0, 0x0⟩

/-- FLW_REFUSE_TMO_q (07_flow_records_tiers). -/
def FLW_REFUSE_TMO : Reg :=
  ⟨0x3801010, 0x20, 5, 0x0, 1, 0x0, 1, true, 0x0, 0x0, 0x0⟩

/-- FLW_TUN_FULL_CNT (07_flow_records_tiers). -/
def FLW_TUN_FULL_CNT : Reg :=
  ⟨0x3801100, 0x0, 1, 0x0, 1, 0x0, 1, true, 0x0, 0x0, 0x0⟩

/-- FLW_CUCKOO_FAIL_CNT (07_flow_records_tiers). -/
def FLW_CUCKOO_FAIL_CNT : Reg :=
  ⟨0x3801108, 0x0, 1, 0x0, 1, 0x0, 1, true, 0x0, 0x0, 0x0⟩

/-- FLW_GILL_SKIP_CNT (07_flow_records_tiers). -/
def FLW_GILL_SKIP_CNT : Reg :=
  ⟨0x3801110, 0x0, 1, 0x0, 1, 0x0, 1, true, 0x0, 0x0, 0x0⟩

/-- FLW_EVICT_GILL_CNT (07_flow_records_tiers). -/
def FLW_EVICT_GILL_CNT : Reg :=
  ⟨0x3801118, 0x0, 1, 0x0, 1, 0x0, 1, true, 0x0, 0x0, 0x0⟩

/-- FLW_EVICT_FIRKIN_CNT (07_flow_records_tiers). -/
def FLW_EVICT_FIRKIN_CNT : Reg :=
  ⟨0x3801120, 0x0, 1, 0x0, 1, 0x0, 1, true, 0x0, 0x0, 0x0⟩

/-- FLW_WT_STALL_CNT (07_flow_records_tiers). -/
def FLW_WT_STALL_CNT : Reg :=
  ⟨0x3801128, 0x0, 1, 0x0, 1, 0x0, 1, true, 0x0, 0x0, 0x0⟩

/-- FLW_WB_LATE_CNT (07_flow_records_tiers). -/
def FLW_WB_LATE_CNT : Reg :=
  ⟨0x3801130, 0x0, 1, 0x0, 1, 0x0, 1, true, 0x0, 0x0, 0x0⟩

/-- FLW_WB_FORCED_CNT (07_flow_records_tiers). -/
def FLW_WB_FORCED_CNT : Reg :=
  ⟨0x3801138, 0x0, 1, 0x0, 1, 0x0, 1, true, 0x0, 0x0, 0x0⟩

/-- FLW_AGE_CNT (07_flow_records_tiers). -/
def FLW_AGE_CNT : Reg :=
  ⟨0x3801140, 0x0, 1, 0x0, 1, 0x0, 1, true, 0x0, 0x0, 0x0⟩

/-- FLW_CREATE_CNT (07_flow_records_tiers). -/
def FLW_CREATE_CNT : Reg :=
  ⟨0x3801148, 0x0, 1, 0x0, 1, 0x0, 1, true, 0x0, 0x0, 0x0⟩

/-- FLW_CT_TMO_s_k (08_flow_actions). -/
def FLW_CT_TMO : Reg :=
  ⟨0x3802000, 0x40, 16, 0x4, 16, 0x0, 1, false, 0xffffffff, 0x0, 0x0⟩

/-- FLW_NAT_CTRL (08_flow_actions). -/
def FLW_NAT_CTRL : Reg :=
  ⟨0x3802400, 0x0, 1, 0x0, 1, 0x0, 1, false, 0x1fff, 0x0, 0x1078⟩

/-- FLW_TLM_CTRL (08_flow_actions). -/
def FLW_TLM_CTRL : Reg :=
  ⟨0x3802408, 0x0, 1, 0x0, 1, 0x0, 1, true, 0x3fff0ffffffffffb, 0x4, 0x578025819000001⟩

/-- FLW_TLM_DOMAIN (08_flow_actions). -/
def FLW_TLM_DOMAIN : Reg :=
  ⟨0x3802410, 0x0, 1, 0x0, 1, 0x0, 1, true, 0xffffffffffffffff, 0x0, 0x0⟩

/-- FLW_TLM_UTC (08_flow_actions). -/
def FLW_TLM_UTC : Reg :=
  ⟨0x3802418, 0x0, 1, 0x0, 1, 0x0, 1, false, 0xffff, 0x0, 0x25⟩

/-- FLW_PROF_STAT (08_flow_actions). -/
def FLW_PROF_STAT : Reg :=
  ⟨0x3802420, 0x0, 1, 0x0, 1, 0x0, 1, true, 0x0, 0x0, 0x0⟩

/-- FLW_REFUSE_METER_q (08_flow_actions). -/
def FLW_REFUSE_METER : Reg :=
  ⟨0x3801018, 0x20, 5, 0x0, 1, 0x0, 1, true, 0x0, 0x0, 0x0⟩

/-- FLW_PROFILE_DIFF_CNT (08_flow_actions). -/
def FLW_PROFILE_DIFF_CNT : Reg :=
  ⟨0x3802800, 0x0, 1, 0x0, 1, 0x0, 1, true, 0x0, 0x0, 0x0⟩

/-- FLW_PROFILE_INVALID_CNT (08_flow_actions). -/
def FLW_PROFILE_INVALID_CNT : Reg :=
  ⟨0x3802808, 0x0, 1, 0x0, 1, 0x0, 1, true, 0x0, 0x0, 0x0⟩

/-- FLW_CT_INVALID_CNT (08_flow_actions). -/
def FLW_CT_INVALID_CNT : Reg :=
  ⟨0x3802810, 0x0, 1, 0x0, 1, 0x0, 1, true, 0x0, 0x0, 0x0⟩

/-- FLW_CT_REOPEN_CNT (08_flow_actions). -/
def FLW_CT_REOPEN_CNT : Reg :=
  ⟨0x3802818, 0x0, 1, 0x0, 1, 0x0, 1, true, 0x0, 0x0, 0x0⟩

/-- FLW_NAT_ALLOC_FAIL_CNT (08_flow_actions). -/
def FLW_NAT_ALLOC_FAIL_CNT : Reg :=
  ⟨0x3802820, 0x0, 1, 0x0, 1, 0x0, 1, true, 0x0, 0x0, 0x0⟩

/-- FLW_NAT_REUSE_OVF_CNT (08_flow_actions). -/
def FLW_NAT_REUSE_OVF_CNT : Reg :=
  ⟨0x3802828, 0x0, 1, 0x0, 1, 0x0, 1, true, 0x0, 0x0, 0x0⟩

/-- FLW_NAT_ICMP_ERR_CNT (08_flow_actions). -/
def FLW_NAT_ICMP_ERR_CNT : Reg :=
  ⟨0x3802830, 0x0, 1, 0x0, 1, 0x0, 1, true, 0x0, 0x0, 0x0⟩

/-- FLW_STRICT_WAIT_CNT (08_flow_actions). -/
def FLW_STRICT_WAIT_CNT : Reg :=
  ⟨0x3802838, 0x0, 1, 0x0, 1, 0x0, 1, true, 0x0, 0x0, 0x0⟩

/-- FLW_STRICT_UNMIRRORED_CNT (08_flow_actions). -/
def FLW_STRICT_UNMIRRORED_CNT : Reg :=
  ⟨0x3802840, 0x0, 1, 0x0, 1, 0x0, 1, true, 0x0, 0x0, 0x0⟩

/-- FLW_LB_RECHOOSE_CNT (08_flow_actions). -/
def FLW_LB_RECHOOSE_CNT : Reg :=
  ⟨0x3802848, 0x0, 1, 0x0, 1, 0x0, 1, true, 0x0, 0x0, 0x0⟩

/-- FLW_LB_NO_MEMBER_CNT (08_flow_actions). -/
def FLW_LB_NO_MEMBER_CNT : Reg :=
  ⟨0x3802850, 0x0, 1, 0x0, 1, 0x0, 1, true, 0x0, 0x0, 0x0⟩

/-- FLW_METER_YELLOW_CNT (08_flow_actions). -/
def FLW_METER_YELLOW_CNT : Reg :=
  ⟨0x3802858, 0x0, 1, 0x0, 1, 0x0, 1, true, 0x0, 0x0, 0x0⟩

/-- FLW_METER_RED_PASS_CNT (08_flow_actions). -/
def FLW_METER_RED_PASS_CNT : Reg :=
  ⟨0x3802860, 0x0, 1, 0x0, 1, 0x0, 1, true, 0x0, 0x0, 0x0⟩

/-- FLW_SKETCH_MISS_CNT (08_flow_actions). -/
def FLW_SKETCH_MISS_CNT : Reg :=
  ⟨0x3802868, 0x0, 1, 0x0, 1, 0x0, 1, true, 0x0, 0x0, 0x0⟩

/-- FLW_TLM_RECORD_CNT (08_flow_actions). -/
def FLW_TLM_RECORD_CNT : Reg :=
  ⟨0x3802870, 0x0, 1, 0x0, 1, 0x0, 1, true, 0x0, 0x0, 0x0⟩

/-- FLW_TLM_SKIP_CNT (08_flow_actions). -/
def FLW_TLM_SKIP_CNT : Reg :=
  ⟨0x3802878, 0x0, 1, 0x0, 1, 0x0, 1, true, 0x0, 0x0, 0x0⟩

/-- FLW_OT_DENY_CNT (08_flow_actions). -/
def FLW_OT_DENY_CNT : Reg :=
  ⟨0x3802880, 0x0, 1, 0x0, 1, 0x0, 1, true, 0x0, 0x0, 0x0⟩

/-- FLW_OT_CLOSE_CNT (08_flow_actions). -/
def FLW_OT_CLOSE_CNT : Reg :=
  ⟨0x3802888, 0x0, 1, 0x0, 1, 0x0, 1, true, 0x0, 0x0, 0x0⟩

/-- FLW_TASK_CTRL (09_felric_engine). -/
def FLW_TASK_CTRL : Reg :=
  ⟨0x3803000, 0x0, 1, 0x0, 1, 0x0, 1, false, 0xffff, 0x0, 0x1000⟩

/-- FLW_TASK_PRIO (09_felric_engine). -/
def FLW_TASK_PRIO : Reg :=
  ⟨0x3803008, 0x0, 1, 0x0, 1, 0x0, 1, false, 0x1fffff, 0x0, 0xb42e6⟩

/-- FLW_CLUSTER_MAP_0 (09_felric_engine). -/
def FLW_CLUSTER_MAP_0 : Reg :=
  ⟨0x3803010, 0x0, 1, 0x0, 1, 0x0, 1, true, 0x0, 0x0, 0xe4e4e4e4e4e4e4e4⟩

/-- FLW_CLUSTER_MAP_1 (09_felric_engine). -/
def FLW_CLUSTER_MAP_1 : Reg :=
  ⟨0x3803018, 0x0, 1, 0x0, 1, 0x0, 1, true, 0x0, 0x0, 0xe4e4e4e4e4e4e4e4⟩

/-- FLW_CLUSTER_STAT (09_felric_engine). -/
def FLW_CLUSTER_STAT : Reg :=
  ⟨0x3803020, 0x0, 1, 0x0, 1, 0x0, 1, false, 0x0, 0x0, 0x0⟩

/-- FLW_SPILL_CFG (09_felric_engine). -/
def FLW_SPILL_CFG : Reg :=
  ⟨0x3803028, 0x0, 1, 0x0, 1, 0x0, 1, false, 0x0, 0x0, 0x0⟩

/-- FLW_PROG_STAT (09_felric_engine). -/
def FLW_PROG_STAT : Reg :=
  ⟨0x3803030, 0x0, 1, 0x0, 1, 0x0, 1, true, 0x0, 0x0, 0x0⟩

/-- FLW_TIMER_STAT (09_felric_engine). -/
def FLW_TIMER_STAT : Reg :=
  ⟨0x3803038, 0x0, 1, 0x0, 1, 0x0, 1, false, 0x0, 0x0, 0x0⟩

/-- FLW_BANK_OWN_b (09_felric_engine). -/
def FLW_BANK_OWN : Reg :=
  ⟨0x3803040, 0x8, 32, 0x0, 1, 0x0, 1, false, 0x0, 0x7f, 0x7f⟩

/-- FLW_RDY_c_l (09_felric_engine). -/
def FLW_RDY : Reg :=
  ⟨0x3803200, 0x200, 4, 0x8, 8, 0x0, 1, true, 0x0, 0x0, 0x0⟩

/-- FLW_DISP_c_l (09_felric_engine). -/
def FLW_DISP : Reg :=
  ⟨0x3803240, 0x200, 4, 0x8, 8, 0x0, 1, true, 0x0, 0x0, 0x0⟩

/-- FLW_WAIT_SUM_c_l (09_felric_engine). -/
def FLW_WAIT_SUM : Reg :=
  ⟨0x3803280, 0x200, 4, 0x8, 8, 0x0, 1, true, 0x0, 0x0, 0x0⟩

/-- FLW_WAIT_MAX_c_l (09_felric_engine). -/
def FLW_WAIT_MAX : Reg :=
  ⟨0x38032c0, 0x200, 4, 0x8, 8, 0x0, 1, true, 0x0, 0x0, 0x0⟩

/-- FLW_CORE_BUSY_n (09_felric_engine). -/
def FLW_CORE_BUSY : Reg :=
  ⟨0x3803a00, 0x20, 64, 0x0, 1, 0x0, 1, true, 0x0, 0x0, 0x0⟩

/-- FLW_CORE_TASKS_n (09_felric_engine). -/
def FLW_CORE_TASKS : Reg :=
  ⟨0x3803a08, 0x20, 64, 0x0, 1, 0x0, 1, true, 0x0, 0x0, 0x0⟩

/-- FLW_CORE_FAULT_n (09_felric_engine). -/
def FLW_CORE_FAULT : Reg :=
  ⟨0x3803a10, 0x20, 64, 0x0, 1, 0x0, 1, true, 0x0, 0x0, 0x0⟩

/-- FLW_CORE_NOW_n (09_felric_engine). -/
def FLW_CORE_NOW : Reg :=
  ⟨0x3803a18, 0x20, 64, 0x0, 1, 0x0, 1, true, 0x0, 0x0, 0x0⟩

/-- FLW_TASK_CANCEL_CNT (09_felric_engine). -/
def FLW_TASK_CANCEL_CNT : Reg :=
  ⟨0x3804200, 0x0, 1, 0x0, 1, 0x0, 1, true, 0x0, 0x0, 0x0⟩

/-- FLW_TASK_FAULT_CNT (09_felric_engine). -/
def FLW_TASK_FAULT_CNT : Reg :=
  ⟨0x3804208, 0x0, 1, 0x0, 1, 0x0, 1, true, 0x0, 0x0, 0x0⟩

/-- FLW_TASK_DROP_CNT (09_felric_engine). -/
def FLW_TASK_DROP_CNT : Reg :=
  ⟨0x3804210, 0x0, 1, 0x0, 1, 0x0, 1, true, 0x0, 0x0, 0x0⟩

/-- FLW_TASK_STALE_CNT (09_felric_engine). -/
def FLW_TASK_STALE_CNT : Reg :=
  ⟨0x3804218, 0x0, 1, 0x0, 1, 0x0, 1, true, 0x0, 0x0, 0x0⟩

/-- FLW_TIMER_FULL_CNT (09_felric_engine). -/
def FLW_TIMER_FULL_CNT : Reg :=
  ⟨0x3804220, 0x0, 1, 0x0, 1, 0x0, 1, true, 0x0, 0x0, 0x0⟩

/-- FLW_TASK_RESTART_CNT (09_felric_engine). -/
def FLW_TASK_RESTART_CNT : Reg :=
  ⟨0x3804228, 0x0, 1, 0x0, 1, 0x0, 1, true, 0x0, 0x0, 0x0⟩

/-- BUF_POOL_CFG (10_buffer_switch_core). -/
def BUF_POOL_CFG : Reg :=
  ⟨0x3000000, 0x0, 1, 0x0, 1, 0x0, 1, true, 0xfffff000fffff, 0x0, 0x95000⟩

/-- BUF_POOL_STAT (10_buffer_switch_core). -/
def BUF_POOL_STAT : Reg :=
  ⟨0x3000008, 0x0, 1, 0x0, 1, 0x0, 1, true, 0x0, 0x0, 0x0⟩

/-- BUF_RESERVE_STAT (10_buffer_switch_core). -/
def BUF_RESERVE_STAT : Reg :=
  ⟨0x3000010, 0x0, 1, 0x0, 1, 0x0, 1, false, 0x0, 0x0, 0xb000⟩

/-- BUF_SPILL_CFG (10_buffer_switch_core). -/
def BUF_SPILL_CFG : Reg :=
  ⟨0x3000018, 0x0, 1, 0x0, 1, 0x0, 1, true, 0xffffffffffffffff, 0x0, 0x8000800004001f43⟩

/-- BUF_SPILL_STAT (10_buffer_switch_core). -/
def BUF_SPILL_STAT : Reg :=
  ⟨0x3000020, 0x0, 1, 0x0, 1, 0x0, 1, true, 0x0, 0x0, 0x0⟩

/-- BUF_SEG_TOTAL (10_buffer_switch_core). -/
def BUF_SEG_TOTAL : Reg :=
  ⟨0x3000030, 0x0, 1, 0x0, 1, 0x0, 1, false, 0x0, 0x0, 0x0⟩

/-- BUF_CT_EN_0 (10_buffer_switch_core). -/
def BUF_CT_EN_0 : Reg :=
  ⟨0x3000038, 0x0, 1, 0x0, 1, 0x0, 1, true, 0xffffffffffffffff, 0x0, 0xffffffffffffffff⟩

/-- BUF_CT_EN_1 (10_buffer_switch_core). -/
def BUF_CT_EN_1 : Reg :=
  ⟨0x3000040, 0x0, 1, 0x0, 1, 0x0, 1, false, 0xffffffff, 0x0, 0xffffffff⟩

/-- BUF_QPROF_k (10_buffer_switch_core). -/
def BUF_QPROF : Reg :=
  ⟨0x3000100, 0x8, 16, 0x0, 1, 0x0, 1, true, 0xffffffff01ffffff, 0x0, 0x2000200001700010⟩

/-- BUF_PFCPROF_k_W0 (10_buffer_switch_core). -/
def BUF_PFCPROF_W0 : Reg :=
  ⟨0x3000200, 0x10, 8, 0x0, 1, 0x0, 1, true, 0xffffffffffffffff, 0x0, 0x60008000c001000⟩

/-- BUF_PFCPROF_k_W1 (10_buffer_switch_core). -/
def BUF_PFCPROF_W1 : Reg :=
  ⟨0x3000208, 0x10, 8, 0x0, 1, 0x0, 1, true, 0xfffffff, 0x0, 0x640000⟩

/-- BUF_QMAP_n (10_buffer_switch_core). -/
def BUF_QMAP : Reg :=
  ⟨0x3000400, 0x4, 96, 0x0, 1, 0x0, 1, false, 0xffffffff, 0x0, 0x0⟩

/-- BUF_PFC_PORT_n (10_buffer_switch_core). -/
def BUF_PFC_PORT : Reg :=
  ⟨0x3000600, 0x4, 96, 0x0, 1, 0x0, 1, false, 0x7ff, 0x0, 0x0⟩

/-- BUF_ACCEPT_n (10_buffer_switch_core). -/
def BUF_ACCEPT : Reg :=
  ⟨0x3001000, 0x40, 96, 0x0, 1, 0x0, 1, true, 0x0, 0x0, 0x0⟩

/-- BUF_ADM_REFUSE_n (10_buffer_switch_core). -/
def BUF_ADM_REFUSE : Reg :=
  ⟨0x3001008, 0x40, 96, 0x0, 1, 0x0, 1, true, 0x0, 0x0, 0x0⟩

/-- BUF_HDRM_REFUSE_n (10_buffer_switch_core). -/
def BUF_HDRM_REFUSE : Reg :=
  ⟨0x3001010, 0x40, 96, 0x0, 1, 0x0, 1, true, 0x0, 0x0, 0x0⟩

/-- BUF_FCS_REFUSE_n (10_buffer_switch_core). -/
def BUF_FCS_REFUSE : Reg :=
  ⟨0x3001018, 0x40, 96, 0x0, 1, 0x0, 1, true, 0x0, 0x0, 0x0⟩

/-- BUF_STOMP_n (10_buffer_switch_core). -/
def BUF_STOMP : Reg :=
  ⟨0x3001020, 0x40, 96, 0x0, 1, 0x0, 1, true, 0x0, 0x0, 0x0⟩

/-- BUF_XOFF_n (10_buffer_switch_core). -/
def BUF_XOFF : Reg :=
  ⟨0x3001028, 0x40, 96, 0x0, 1, 0x0, 1, true, 0x0, 0x0, 0x0⟩

/-- BUF_SPILL_SEG_CNT (10_buffer_switch_core). -/
def BUF_SPILL_SEG_CNT : Reg :=
  ⟨0x3003000, 0x0, 1, 0x0, 1, 0x0, 1, true, 0x0, 0x0, 0x0⟩

/-- BUF_SPILL_PARTIAL_CNT (10_buffer_switch_core). -/
def BUF_SPILL_PARTIAL_CNT : Reg :=
  ⟨0x3003008, 0x0, 1, 0x0, 1, 0x0, 1, true, 0x0, 0x0, 0x0⟩

/-- BUF_SPILL_STALL_CNT (10_buffer_switch_core). -/
def BUF_SPILL_STALL_CNT : Reg :=
  ⟨0x3003010, 0x0, 1, 0x0, 1, 0x0, 1, true, 0x0, 0x0, 0x0⟩

/-- BUF_SPILL_REBUILD_CNT (10_buffer_switch_core). -/
def BUF_SPILL_REBUILD_CNT : Reg :=
  ⟨0x3003018, 0x0, 1, 0x0, 1, 0x0, 1, true, 0x0, 0x0, 0x0⟩

/-- BUF_SPILL_LOST_CNT (10_buffer_switch_core). -/
def BUF_SPILL_LOST_CNT : Reg :=
  ⟨0x3003020, 0x0, 1, 0x0, 1, 0x0, 1, true, 0x0, 0x0, 0x0⟩

/-- BUF_MC_DIRECT_CNT (10_buffer_switch_core). -/
def BUF_MC_DIRECT_CNT : Reg :=
  ⟨0x3003028, 0x0, 1, 0x0, 1, 0x0, 1, true, 0x0, 0x0, 0x0⟩

/-- BUF_MC_NOCOPY_CNT (10_buffer_switch_core). -/
def BUF_MC_NOCOPY_CNT : Reg :=
  ⟨0x3003030, 0x0, 1, 0x0, 1, 0x0, 1, true, 0x0, 0x0, 0x0⟩

/-- XPR_VOQ_OCC (10_buffer_switch_core). -/
def XPR_VOQ_OCC : Reg :=
  ⟨0x2801f00, 0x0, 1, 0x0, 1, 0x0, 1, false, 0x0, 0x0, 0x0⟩

/-- XPR_VOQ_REFUSE_n (10_buffer_switch_core). -/
def XPR_VOQ_REFUSE : Reg :=
  ⟨0x2802000, 0x8, 96, 0x0, 1, 0x0, 1, true, 0x0, 0x0, 0x0⟩

/-- XPR_ACCEPT_n (10_buffer_switch_core). -/
def XPR_ACCEPT : Reg :=
  ⟨0x2802400, 0x8, 96, 0x0, 1, 0x0, 1, true, 0x0, 0x0, 0x0⟩

/-- SCH_PORT_CFG (11_egress_scheduling_gates). -/
def SCH_PORT_CFG : Reg :=
  ⟨0x3400000, 0x8000, 96, 0x0, 1, 0x0, 1, false, 0xffff00ff, 0x0, 0x3e80014⟩

/-- SCH_PREEMPT_ADV (11_egress_scheduling_gates). -/
def SCH_PREEMPT_ADV : Reg :=
  ⟨0x3400008, 0x8000, 96, 0x0, 1, 0x0, 1, false, 0x0, 0xffff, 0xc0c⟩

/-- SCH_WAKE_CFG (11_egress_scheduling_gates). -/
def SCH_WAKE_CFG : Reg :=
  ⟨0x3400010, 0x8000, 96, 0x0, 1, 0x0, 1, true, 0xffffffffffffff01, 0x0, 0x271001f4ff00⟩

/-- SCH_QCFG_t (11_egress_scheduling_gates). -/
def SCH_QCFG : Reg :=
  ⟨0x3400040, 0x8000, 96, 0x8, 8, 0x0, 1, true, 0xffffffff00ff7ff1, 0x0, 0x10⟩

/-- SCH_QSHAPE_t (11_egress_scheduling_gates). -/
def SCH_QSHAPE : Reg :=
  ⟨0x3400080, 0x8000, 96, 0x8, 8, 0x0, 1, true, 0xffffff, 0x0, 0x606⟩

/-- SCH_QCREDIT_t (11_egress_scheduling_gates). -/
def SCH_QCREDIT : Reg :=
  ⟨0x34000c0, 0x8000, 96, 0x8, 8, 0x0, 1, true, 0x0, 0x0, 0x0⟩

/-- SCH_IPOL_p (11_egress_scheduling_gates). -/
def SCH_IPOL : Reg :=
  ⟨0x3400200, 0x8000, 96, 0x8, 8, 0x0, 1, true, 0x1ffffffffffffff, 0x0, 0x400000000000⟩

/-- SCH_GCL_CFG (11_egress_scheduling_gates). -/
def SCH_GCL_CFG : Reg :=
  ⟨0x3400100, 0x8000, 96, 0x0, 1, 0x0, 1, true, 0x0, 0x3fffffff000017ff, 0xf424000000001⟩

/-- SCH_GCL_BASE_NS (11_egress_scheduling_gates). -/
def SCH_GCL_BASE_NS : Reg :=
  ⟨0x3400108, 0x8000, 96, 0x0, 1, 0x0, 1, false, 0x0, 0xffffffff, 0x0⟩

/-- SCH_GCL_BASE_S (11_egress_scheduling_gates). -/
def SCH_GCL_BASE_S : Reg :=
  ⟨0x3400110, 0x8000, 96, 0x0, 1, 0x0, 1, true, 0x0, 0xffffffffffff, 0x0⟩

/-- SCH_GCL_STAT (11_egress_scheduling_gates). -/
def SCH_GCL_STAT : Reg :=
  ⟨0x3400118, 0x8000, 96, 0x0, 1, 0x0, 1, true, 0x0, 0x0, 0x0⟩

/-- SCH_GCL_START_NS (11_egress_scheduling_gates). -/
def SCH_GCL_START_NS : Reg :=
  ⟨0x3400120, 0x8000, 96, 0x0, 1, 0x0, 1, false, 0x0, 0x0, 0x0⟩

/-- SCH_GCL_START_S (11_egress_scheduling_gates). -/
def SCH_GCL_START_S : Reg :=
  ⟨0x3400128, 0x8000, 96, 0x0, 1, 0x0, 1, true, 0x0, 0x0, 0x0⟩

/-- SCH_GCL_POS (11_egress_scheduling_gates). -/
def SCH_GCL_POS : Reg :=
  ⟨0x3400130, 0x8000, 96, 0x0, 1, 0x0, 1, true, 0x0, 0x0, 0x0⟩

/-- SCH_GCL_ADMIN_i (11_egress_scheduling_gates). -/
def SCH_GCL_ADMIN : Reg :=
  ⟨0x3401000, 0x8000, 96, 0x8, 1024, 0x0, 1, true, 0x0, 0xfffffffff, 0x0⟩

/-- SCH_GCL_OPER_i (11_egress_scheduling_gates). -/
def SCH_GCL_OPER : Reg :=
  ⟨0x3403000, 0x8000, 96, 0x8, 1024, 0x0, 1, true, 0x0, 0x0, 0x0⟩

/-- SCH_IPOL_REFUSE_n (11_egress_scheduling_gates). -/
def SCH_IPOL_REFUSE : Reg :=
  ⟨0x3400400, 0x8000, 96, 0x0, 1, 0x0, 1, true, 0x0, 0x0, 0x0⟩

/-- SCH_LAUNCH_LATE_n (11_egress_scheduling_gates). -/
def SCH_LAUNCH_LATE : Reg :=
  ⟨0x3400408, 0x8000, 96, 0x0, 1, 0x0, 1, true, 0x0, 0x0, 0x0⟩

/-- SCH_LAUNCH_BAD_n (11_egress_scheduling_gates). -/
def SCH_LAUNCH_BAD : Reg :=
  ⟨0x3400410, 0x8000, 96, 0x0, 1, 0x0, 1, true, 0x0, 0x0, 0x0⟩

/-- SCH_PAUSE_RX_n (11_egress_scheduling_gates). -/
def SCH_PAUSE_RX : Reg :=
  ⟨0x3400418, 0x8000, 96, 0x0, 1, 0x0, 1, true, 0x0, 0x0, 0x0⟩

/-- SCH_PREEMPT_n (11_egress_scheduling_gates). -/
def SCH_PREEMPT : Reg :=
  ⟨0x3400420, 0x8000, 96, 0x0, 1, 0x0, 1, true, 0x0, 0x0, 0x0⟩

/-- XPR_SDU_REFUSE_CNT (11_egress_scheduling_gates). -/
def XPR_SDU_REFUSE_CNT : Reg :=
  ⟨0x2802800, 0x0, 1, 0x0, 1, 0x0, 1, true, 0x0, 0x0, 0x0⟩

/-- XPR_SGATE_REFUSE_CNT (11_egress_scheduling_gates). -/
def XPR_SGATE_REFUSE_CNT : Reg :=
  ⟨0x2802808, 0x0, 1, 0x0, 1, 0x0, 1, true, 0x0, 0x0, 0x0⟩

/-- XPR_ELIM_CNT (11_egress_scheduling_gates). -/
def XPR_ELIM_CNT : Reg :=
  ⟨0x2802810, 0x0, 1, 0x0, 1, 0x0, 1, true, 0x0, 0x0, 0x0⟩

/-- XPR_ROGUE_CNT (11_egress_scheduling_gates). -/
def XPR_ROGUE_CNT : Reg :=
  ⟨0x2802818, 0x0, 1, 0x0, 1, 0x0, 1, true, 0x0, 0x0, 0x0⟩

/-- XPR_NOTAG_CNT (11_egress_scheduling_gates). -/
def XPR_NOTAG_CNT : Reg :=
  ⟨0x2802820, 0x0, 1, 0x0, 1, 0x0, 1, true, 0x0, 0x0, 0x0⟩

/-- XPR_METER_REFUSE_CNT (11_egress_scheduling_gates). -/
def XPR_METER_REFUSE_CNT : Reg :=
  ⟨0x2802828, 0x0, 1, 0x0, 1, 0x0, 1, true, 0x0, 0x0, 0x0⟩

/-- XPR_LATE_CNT (11_egress_scheduling_gates). -/
def XPR_LATE_CNT : Reg :=
  ⟨0x2802830, 0x0, 1, 0x0, 1, 0x0, 1, true, 0x0, 0x0, 0x0⟩

/-- XPR_OVERSIZE_STOMP_CNT (11_egress_scheduling_gates). -/
def XPR_OVERSIZE_STOMP_CNT : Reg :=
  ⟨0x2802838, 0x0, 1, 0x0, 1, 0x0, 1, true, 0x0, 0x0, 0x0⟩

/-- XPR_STREAM_VALID (11_egress_scheduling_gates). -/
def XPR_STREAM_VALID : Reg :=
  ⟨0x2802840, 0x0, 1, 0x0, 1, 0x0, 1, true, 0x0, 0x0, 0x0⟩

/-- XPR_LATE_DROP_CNT (11_egress_scheduling_gates). -/
def XPR_LATE_DROP_CNT : Reg :=
  ⟨0x2802848, 0x0, 1, 0x0, 1, 0x0, 1, true, 0x0, 0x0, 0x0⟩

/-- TIM_NOW_LO (12_time_base). -/
def TIM_NOW_LO : Reg :=
  ⟨0x500000, 0x0, 1, 0x0, 1, 0x0, 1, true, 0x0, 0x0, 0x0⟩

/-- TIM_NOW_HI (12_time_base). -/
def TIM_NOW_HI : Reg :=
  ⟨0x500008, 0x0, 1, 0x0, 1, 0x0, 1, true, 0x0, 0x0, 0x0⟩

/-- TIM_INCR (12_time_base). -/
def TIM_INCR : Reg :=
  ⟨0x500010, 0x0, 1, 0x0, 1, 0x0, 1, true, 0x0, 0xffffffffffffffff, 0x100000000⟩

/-- TIM_CTRL (12_time_base). -/
def TIM_CTRL : Reg :=
  ⟨0x500018, 0x0, 1, 0x0, 1, 0x0, 1, true, 0x0, 0xfffff0003ffff, 0x186a000020fa0⟩

/-- TIM_STAT (12_time_base). -/
def TIM_STAT : Reg :=
  ⟨0x500020, 0x0, 1, 0x0, 1, 0x0, 1, true, 0x0, 0x0, 0x0⟩

/-- TIM_TEMP (12_time_base). -/
def TIM_TEMP : Reg :=
  ⟨0x500028, 0x0, 1, 0x0, 1, 0x0, 1, true, 0x0, 0x0, 0x0⟩

/-- TIM_STEP_LAST (12_time_base). -/
def TIM_STEP_LAST : Reg :=
  ⟨0x500038, 0x0, 1, 0x0, 1, 0x0, 1, true, 0x0, 0x0, 0x0⟩

/-- TIM_PAIR (12_time_base). -/
def TIM_PAIR : Reg :=
  ⟨0x500040, 0x0, 1, 0x0, 1, 0x0, 1, true, 0xffffffff00000000, 0x0, 0x3e800000000⟩

/-- TIM_CTRL_PPS (12_time_base). -/
def TIM_CTRL_PPS : Reg :=
  ⟨0x500048, 0x0, 1, 0x0, 1, 0x0, 1, true, 0x0, 0xffff, 0x0⟩

/-- TIM_PIN_CFG (12_time_base). -/
def TIM_PIN_CFG : Reg :=
  ⟨0x500100, 0x40, 5, 0x0, 1, 0x0, 1, true, 0x0, 0xffffffffffff001f, 0x800000000⟩

/-- TIM_PIN_START_NS (12_time_base). -/
def TIM_PIN_START_NS : Reg :=
  ⟨0x500108, 0x40, 5, 0x0, 1, 0x0, 1, false, 0x0, 0xffffffff, 0x0⟩

/-- TIM_PIN_START_S (12_time_base). -/
def TIM_PIN_START_S : Reg :=
  ⟨0x500110, 0x40, 5, 0x0, 1, 0x0, 1, true, 0x0, 0xffffffffffff, 0x0⟩

/-- TIM_PIN_PERIOD (12_time_base). -/
def TIM_PIN_PERIOD : Reg :=
  ⟨0x500118, 0x40, 5, 0x0, 1, 0x0, 1, false, 0x0, 0x3fffffff, 0x3b9aca00⟩

/-- TIM_CAP_LO_k (12_time_base). -/
def TIM_CAP_LO : Reg :=
  ⟨0x500120, 0x40, 5, 0x0, 1, 0x0, 1, true, 0x0, 0x0, 0x0⟩

/-- TIM_CAP_HI_k (12_time_base). -/
def TIM_CAP_HI : Reg :=
  ⟨0x500128, 0x40, 5, 0x0, 1, 0x0, 1, true, 0x0, 0x0, 0x0⟩

/-- TIM_WAKE_LO (12_time_base). -/
def TIM_WAKE_LO : Reg :=
  ⟨0x500300, 0x10, 5, 0x0, 1, 0x0, 1, true, 0x0, 0x0, 0x0⟩

/-- TIM_WAKE_HI (12_time_base). -/
def TIM_WAKE_HI : Reg :=
  ⟨0x500308, 0x10, 5, 0x0, 1, 0x0, 1, true, 0x0, 0x0, 0x0⟩

/-- TIM_ADJ_CNT (12_time_base). -/
def TIM_ADJ_CNT : Reg :=
  ⟨0x500400, 0x0, 1, 0x0, 1, 0x0, 1, true, 0x0, 0x0, 0x0⟩

/-- TIM_STEP_CNT (12_time_base). -/
def TIM_STEP_CNT : Reg :=
  ⟨0x500408, 0x0, 1, 0x0, 1, 0x0, 1, true, 0x0, 0x0, 0x0⟩

/-- TIM_HOLD_CNT (12_time_base). -/
def TIM_HOLD_CNT : Reg :=
  ⟨0x500410, 0x0, 1, 0x0, 1, 0x0, 1, true, 0x0, 0x0, 0x0⟩

/-- TIM_CLAMP_CNT (12_time_base). -/
def TIM_CLAMP_CNT : Reg :=
  ⟨0x500418, 0x0, 1, 0x0, 1, 0x0, 1, true, 0x0, 0x0, 0x0⟩

/-- TIM_TRIG_LATE_CNT (12_time_base). -/
def TIM_TRIG_LATE_CNT : Reg :=
  ⟨0x500420, 0x0, 1, 0x0, 1, 0x0, 1, true, 0x0, 0x0, 0x0⟩

/-- TIM_CAP_MISS_CNT (12_time_base). -/
def TIM_CAP_MISS_CNT : Reg :=
  ⟨0x500428, 0x0, 1, 0x0, 1, 0x0, 1, true, 0x0, 0x0, 0x0⟩

/-- MEM_INIT_CFG (13_memory_controllers). -/
def MEM_INIT_CFG : Reg :=
  ⟨0x4000000, 0x0, 1, 0x0, 1, 0x0, 1, true, 0x3f00000000, 0xfffff, 0x1900061120⟩

/-- MEM_HBM_STAT (13_memory_controllers). -/
def MEM_HBM_STAT : Reg :=
  ⟨0x4000100, 0x40000, 2, 0x0, 1, 0x0, 1, true, 0x0, 0x0, 0x0⟩

/-- MEM_HBM_CFG (13_memory_controllers). -/
def MEM_HBM_CFG : Reg :=
  ⟨0x4000108, 0x40000, 2, 0x0, 1, 0x0, 1, false, 0xff1f, 0x0, 0x4001⟩

/-- MEM_HBM_QOS_p (13_memory_controllers). -/
def MEM_HBM_QOS : Reg :=
  ⟨0x4000200, 0x40000, 2, 0x8, 8, 0x0, 1, false, 0xfffff, 0x0, 0x0⟩

/-- MEM_DDR_CFG (13_memory_controllers). -/
def MEM_DDR_CFG : Reg :=
  ⟨0x4080000, 0x40000, 8, 0x0, 1, 0x0, 1, true, 0x3ffffffffff01f3, 0x0, 0x10008010180083⟩

/-- MEM_DDR_STAT (13_memory_controllers). -/
def MEM_DDR_STAT : Reg :=
  ⟨0x4080008, 0x40000, 8, 0x0, 1, 0x0, 1, true, 0x0, 0x0, 0x0⟩

/-- MEM_DDR_QOS_p (13_memory_controllers). -/
def MEM_DDR_QOS : Reg :=
  ⟨0x4080100, 0x40000, 8, 0x8, 8, 0x0, 1, false, 0xfffff, 0x0, 0x0⟩

/-- MEM_DDR_ERR_LOG (13_memory_controllers). -/
def MEM_DDR_ERR_LOG : Reg :=
  ⟨0x4080200, 0x40000, 8, 0x0, 1, 0x0, 1, true, 0x0, 0x0, 0x0⟩

/-- MEM_HBM_CE_CNT (13_memory_controllers). -/
def MEM_HBM_CE_CNT : Reg :=
  ⟨0x4001000, 0x40000, 2, 0x0, 1, 0x0, 1, true, 0x0, 0x0, 0x0⟩

/-- MEM_HBM_UE_CNT (13_memory_controllers). -/
def MEM_HBM_UE_CNT : Reg :=
  ⟨0x4001008, 0x40000, 2, 0x0, 1, 0x0, 1, true, 0x0, 0x0, 0x0⟩

/-- MEM_HBM_REBUILD_CNT (13_memory_controllers). -/
def MEM_HBM_REBUILD_CNT : Reg :=
  ⟨0x4001010, 0x40000, 2, 0x0, 1, 0x0, 1, true, 0x0, 0x0, 0x0⟩

/-- MEM_HBM_LOST_CNT (13_memory_controllers). -/
def MEM_HBM_LOST_CNT : Reg :=
  ⟨0x4001018, 0x40000, 2, 0x0, 1, 0x0, 1, true, 0x0, 0x0, 0x0⟩

/-- MEM_HBM_LAT_MISS_p (13_memory_controllers). -/
def MEM_HBM_LAT_MISS : Reg :=
  ⟨0x4001100, 0x40000, 2, 0x8, 8, 0x0, 1, true, 0x0, 0x0, 0x0⟩

/-- MEM_DDR_CE_CNT (13_memory_controllers). -/
def MEM_DDR_CE_CNT : Reg :=
  ⟨0x4081000, 0x40000, 8, 0x0, 1, 0x0, 1, true, 0x0, 0x0, 0x0⟩

/-- MEM_DDR_UE_CNT (13_memory_controllers). -/
def MEM_DDR_UE_CNT : Reg :=
  ⟨0x4081008, 0x40000, 8, 0x0, 1, 0x0, 1, true, 0x0, 0x0, 0x0⟩

/-- MEM_DDR_SCRUB_FIX_CNT (13_memory_controllers). -/
def MEM_DDR_SCRUB_FIX_CNT : Reg :=
  ⟨0x4081010, 0x40000, 8, 0x0, 1, 0x0, 1, true, 0x0, 0x0, 0x0⟩

/-- MEM_DDR_NR_CNT (13_memory_controllers). -/
def MEM_DDR_NR_CNT : Reg :=
  ⟨0x4081018, 0x40000, 8, 0x0, 1, 0x0, 1, true, 0x0, 0x0, 0x0⟩

/-- MEM_DDR_REF_POSTPONE_CNT (13_memory_controllers). -/
def MEM_DDR_REF_POSTPONE_CNT : Reg :=
  ⟨0x4081020, 0x40000, 8, 0x0, 1, 0x0, 1, true, 0x0, 0x0, 0x0⟩

/-- MEM_DDR_RETRAIN_CNT (13_memory_controllers). -/
def MEM_DDR_RETRAIN_CNT : Reg :=
  ⟨0x4081028, 0x40000, 8, 0x0, 1, 0x0, 1, true, 0x0, 0x0, 0x0⟩

/-- MEM_DDR_TUN_REPAIR_CNT (13_memory_controllers). -/
def MEM_DDR_TUN_REPAIR_CNT : Reg :=
  ⟨0x4081030, 0x40000, 8, 0x0, 1, 0x0, 1, true, 0x0, 0x0, 0x0⟩

/-- MEM_DDR_TUN_LOST_CNT (13_memory_controllers). -/
def MEM_DDR_TUN_LOST_CNT : Reg :=
  ⟨0x4081038, 0x40000, 8, 0x0, 1, 0x0, 1, true, 0x0, 0x0, 0x0⟩

/-- MEM_DDR_LAT_MISS_p (13_memory_controllers). -/
def MEM_DDR_LAT_MISS : Reg :=
  ⟨0x4081100, 0x40000, 8, 0x8, 8, 0x0, 1, true, 0x0, 0x0, 0x0⟩

/-- VAR_TIMING (14_varing_pair). -/
def VAR_TIMING : Reg :=
  ⟨0x4800000, 0x0, 1, 0x0, 1, 0x0, 1, true, 0x0, 0xffff3fffffff3fff, 0x138807d00fa003e8⟩

/-- VAR_TIMING2 (14_varing_pair). -/
def VAR_TIMING2 : Reg :=
  ⟨0x4800008, 0x0, 1, 0x0, 1, 0x0, 1, true, 0x7f00000000ffff, 0xffffffff0000, 0x1e000007d01f40⟩

/-- VAR_WITNESS (14_varing_pair). -/
def VAR_WITNESS : Reg :=
  ⟨0x4800010, 0x0, 1, 0x0, 1, 0x0, 1, true, 0x0, 0xffffffffffff00ff, 0x0⟩

/-- VAR_STAT (14_varing_pair). -/
def VAR_STAT : Reg :=
  ⟨0x4800018, 0x0, 1, 0x0, 1, 0x0, 1, true, 0x0, 0x0, 0x0⟩

/-- VAR_PARTNER_ID (14_varing_pair). -/
def VAR_PARTNER_ID : Reg :=
  ⟨0x4800020, 0x0, 1, 0x0, 1, 0x0, 1, true, 0x0, 0x0, 0x0⟩

/-- VAR_LANE_CFG (14_varing_pair). -/
def VAR_LANE_CFG : Reg :=
  ⟨0x4800028, 0x0, 1, 0x0, 1, 0x0, 1, true, 0xff0f, 0x0, 0x100f⟩

/-- VAR_LANE_STAT (14_varing_pair). -/
def VAR_LANE_STAT : Reg :=
  ⟨0x4800100, 0x40, 4, 0x0, 1, 0x0, 1, true, 0x0, 0x0, 0x3ff0004⟩

/-- VAR_HDR_ERR_k (14_varing_pair). -/
def VAR_HDR_ERR : Reg :=
  ⟨0x4800108, 0x40, 4, 0x0, 1, 0x0, 1, true, 0x0, 0x0, 0x0⟩

/-- VAR_JUST_POS_k (14_varing_pair). -/
def VAR_JUST_POS : Reg :=
  ⟨0x4800110, 0x40, 4, 0x0, 1, 0x0, 1, true, 0x0, 0x0, 0x0⟩

/-- VAR_JUST_NEG_k (14_varing_pair). -/
def VAR_JUST_NEG : Reg :=
  ⟨0x4800118, 0x40, 4, 0x0, 1, 0x0, 1, true, 0x0, 0x0, 0x0⟩

/-- VAR_PTR_ADOPT_k (14_varing_pair). -/
def VAR_PTR_ADOPT : Reg :=
  ⟨0x4800120, 0x40, 4, 0x0, 1, 0x0, 1, true, 0x0, 0x0, 0x0⟩

/-- VAR_RETX_CNT (14_varing_pair). -/
def VAR_RETX_CNT : Reg :=
  ⟨0x4801000, 0x0, 1, 0x0, 1, 0x0, 1, true, 0x0, 0x0, 0x0⟩

/-- VAR_DUP_CNT (14_varing_pair). -/
def VAR_DUP_CNT : Reg :=
  ⟨0x4801008, 0x0, 1, 0x0, 1, 0x0, 1, true, 0x0, 0x0, 0x0⟩

/-- VAR_ICV_FAIL_CNT (14_varing_pair). -/
def VAR_ICV_FAIL_CNT : Reg :=
  ⟨0x4801010, 0x0, 1, 0x0, 1, 0x0, 1, true, 0x0, 0x0, 0x0⟩

/-- VAR_CREATE_WAIT_CNT (14_varing_pair). -/
def VAR_CREATE_WAIT_CNT : Reg :=
  ⟨0x4801018, 0x0, 1, 0x0, 1, 0x0, 1, true, 0x0, 0x0, 0x0⟩

/-- VAR_MIRROR_LOST_CNT (14_varing_pair). -/
def VAR_MIRROR_LOST_CNT : Reg :=
  ⟨0x4801020, 0x0, 1, 0x0, 1, 0x0, 1, true, 0x0, 0x0, 0x0⟩

/-- VAR_CKPT_LATE_CNT (14_varing_pair). -/
def VAR_CKPT_LATE_CNT : Reg :=
  ⟨0x4801028, 0x0, 1, 0x0, 1, 0x0, 1, true, 0x0, 0x0, 0x0⟩

/-- VAR_CREATE_CONFLICT_CNT (14_varing_pair). -/
def VAR_CREATE_CONFLICT_CNT : Reg :=
  ⟨0x4801030, 0x0, 1, 0x0, 1, 0x0, 1, true, 0x0, 0x0, 0x0⟩

/-- VAR_FENCE_VIOL_CNT (14_varing_pair). -/
def VAR_FENCE_VIOL_CNT : Reg :=
  ⟨0x4801038, 0x0, 1, 0x0, 1, 0x0, 1, true, 0x0, 0x0, 0x0⟩

/-- VAR_SUSPEND_CNT (14_varing_pair). -/
def VAR_SUSPEND_CNT : Reg :=
  ⟨0x4801040, 0x0, 1, 0x0, 1, 0x0, 1, true, 0x0, 0x0, 0x0⟩

/-- VAR_TAKEOVER_CNT (14_varing_pair). -/
def VAR_TAKEOVER_CNT : Reg :=
  ⟨0x4801048, 0x0, 1, 0x0, 1, 0x0, 1, true, 0x0, 0x0, 0x0⟩

/-- VAR_REPLAY_CNT (14_varing_pair). -/
def VAR_REPLAY_CNT : Reg :=
  ⟨0x4801050, 0x0, 1, 0x0, 1, 0x0, 1, true, 0x0, 0x0, 0x0⟩

/-- ASC_STAT (15_ascor_security). -/
def ASC_STAT : Reg :=
  ⟨0x100000, 0x0, 1, 0x0, 1, 0x0, 1, true, 0x0, 0x0, 0x0⟩

/-- ASC_ID_FP (15_ascor_security). -/
def ASC_ID_FP : Reg :=
  ⟨0x100008, 0x0, 1, 0x0, 1, 0x0, 1, true, 0x0, 0x0, 0x0⟩

/-- ASC_OP_FP (15_ascor_security). -/
def ASC_OP_FP : Reg :=
  ⟨0x100010, 0x0, 1, 0x0, 1, 0x0, 1, true, 0x0, 0x0, 0x0⟩

/-- ASC_CTRL (15_ascor_security). -/
def ASC_CTRL : Reg :=
  ⟨0x100018, 0x0, 1, 0x0, 1, 0x0, 1, false, 0x0, 0xff01, 0x3c01⟩

/-- ASC_MIN_VER_k (15_ascor_security). -/
def ASC_MIN_VER : Reg :=
  ⟨0x100040, 0x8, 6, 0x0, 1, 0x0, 1, true, 0x0, 0x0, 0x1f0000⟩

/-- ASC_SESSION_s (15_ascor_security). -/
def ASC_SESSION : Reg :=
  ⟨0x100100, 0x8, 4, 0x0, 1, 0x0, 1, true, 0x0, 0x0, 0x0⟩

/-- ASC_STAGE_STAT (15_ascor_security). -/
def ASC_STAGE_STAT : Reg :=
  ⟨0x100140, 0x0, 1, 0x0, 1, 0x0, 1, true, 0x0, 0x0, 0x4000000⟩

/-- ASC_AUTH_FAIL_CNT (15_ascor_security). -/
def ASC_AUTH_FAIL_CNT : Reg :=
  ⟨0x101000, 0x0, 1, 0x0, 1, 0x0, 1, true, 0x0, 0x0, 0x0⟩

/-- ASC_REPLAY_CNT (15_ascor_security). -/
def ASC_REPLAY_CNT : Reg :=
  ⟨0x101008, 0x0, 1, 0x0, 1, 0x0, 1, true, 0x0, 0x0, 0x0⟩

/-- ASC_UNSEALED_REJECT_CNT (15_ascor_security). -/
def ASC_UNSEALED_REJECT_CNT : Reg :=
  ⟨0x101010, 0x0, 1, 0x0, 1, 0x0, 1, true, 0x0, 0x0, 0x0⟩

/-- ASC_PRIV_REJECT_CNT (15_ascor_security). -/
def ASC_PRIV_REJECT_CNT : Reg :=
  ⟨0x101018, 0x0, 1, 0x0, 1, 0x0, 1, true, 0x0, 0x0, 0x0⟩

/-- ASC_SG_REJECT_CNT (15_ascor_security). -/
def ASC_SG_REJECT_CNT : Reg :=
  ⟨0x101020, 0x0, 1, 0x0, 1, 0x0, 1, true, 0x0, 0x0, 0x0⟩

/-- ASC_IMAGE_REJECT_CNT (15_ascor_security). -/
def ASC_IMAGE_REJECT_CNT : Reg :=
  ⟨0x101028, 0x0, 1, 0x0, 1, 0x0, 1, true, 0x0, 0x0, 0x0⟩

/-- ASC_SESSION_OPEN_CNT (15_ascor_security). -/
def ASC_SESSION_OPEN_CNT : Reg :=
  ⟨0x101030, 0x0, 1, 0x0, 1, 0x0, 1, true, 0x0, 0x0, 0x0⟩

/-- ASC_SEAL_CNT (15_ascor_security). -/
def ASC_SEAL_CNT : Reg :=
  ⟨0x101038, 0x0, 1, 0x0, 1, 0x0, 1, true, 0x0, 0x0, 0x0⟩

/-- HST_RING_BASE (16_host_interface). -/
def HST_RING_BASE : Reg :=
  ⟨0x701000, 0x40, 59, 0x0, 1, 0x0, 1, true, 0xffffffffffffffff, 0x0, 0x0⟩

/-- HST_RING_CFG (16_host_interface). -/
def HST_RING_CFG : Reg :=
  ⟨0x701008, 0x40, 59, 0x0, 1, 0x0, 1, true, 0x3ff3f, 0x80, 0x2c006⟩

/-- HST_RING_AUX (16_host_interface). -/
def HST_RING_AUX : Reg :=
  ⟨0x701010, 0x40, 59, 0x0, 1, 0x0, 1, true, 0xffffffffffffffff, 0x0, 0x0⟩

/-- HST_RING_IDX (16_host_interface). -/
def HST_RING_IDX : Reg :=
  ⟨0x701018, 0x40, 59, 0x0, 1, 0x0, 1, true, 0x0, 0x0, 0x0⟩

/-- HST_RING_MOD (16_host_interface). -/
def HST_RING_MOD : Reg :=
  ⟨0x701020, 0x40, 59, 0x0, 1, 0x0, 1, true, 0xffff0fff, 0x0, 0x0⟩

/-- HST_RING_CNT (16_host_interface). -/
def HST_RING_CNT : Reg :=
  ⟨0x701028, 0x40, 59, 0x0, 1, 0x0, 1, true, 0x0, 0x0, 0x0⟩

/-- HST_DIAG_KEY_k (16_host_interface). -/
def HST_DIAG_KEY : Reg :=
  ⟨0x700100, 0x8, 8, 0x0, 1, 0x0, 1, true, 0xffffffffffffffff, 0x0, 0x0⟩

/-- HST_DIAG_CTRL (16_host_interface). -/
def HST_DIAG_CTRL : Reg :=
  ⟨0x700140, 0x0, 1, 0x0, 1, 0x0, 1, true, 0x3f, 0x0, 0x0⟩

/-- HST_DIAG_STAT (16_host_interface). -/
def HST_DIAG_STAT : Reg :=
  ⟨0x700148, 0x0, 1, 0x0, 1, 0x0, 1, true, 0x0, 0x0, 0x0⟩

/-- HST_DIAG_POS (16_host_interface). -/
def HST_DIAG_POS : Reg :=
  ⟨0x700150, 0x0, 1, 0x0, 1, 0x0, 1, true, 0x0, 0x0, 0x0⟩

/-- HST_DIAG_LOC (16_host_interface). -/
def HST_DIAG_LOC : Reg :=
  ⟨0x700158, 0x0, 1, 0x0, 1, 0x0, 1, true, 0x0, 0x0, 0x0⟩

/-- HST_DIAG_DATA_k (16_host_interface). -/
def HST_DIAG_DATA : Reg :=
  ⟨0x700160, 0x8, 4, 0x0, 1, 0x0, 1, true, 0x0, 0x0, 0x0⟩

/-- HST_PCIE_STAT (16_host_interface). -/
def HST_PCIE_STAT : Reg :=
  ⟨0x700000, 0x0, 1, 0x0, 1, 0x0, 1, true, 0x0, 0x0, 0x0⟩

/-- HST_JOURNAL_STAT (16_host_interface). -/
def HST_JOURNAL_STAT : Reg :=
  ⟨0x700010, 0x0, 1, 0x0, 1, 0x0, 1, true, 0x0, 0x0, 0x0⟩

/-- HST_PUNT_MAP (16_host_interface). -/
def HST_PUNT_MAP : Reg :=
  ⟨0x700020, 0x0, 1, 0x0, 1, 0x0, 1, true, 0xfffffff, 0x0, 0x0⟩

/-- HST_BAD_ACCESS_CNT (16_host_interface). -/
def HST_BAD_ACCESS_CNT : Reg :=
  ⟨0x700800, 0x0, 1, 0x0, 1, 0x0, 1, true, 0x0, 0x0, 0x0⟩

/-- HST_DB_ERR_CNT (16_host_interface). -/
def HST_DB_ERR_CNT : Reg :=
  ⟨0x700808, 0x0, 1, 0x0, 1, 0x0, 1, true, 0x0, 0x0, 0x0⟩

/-- HST_EVT_DROP_CNT (16_host_interface). -/
def HST_EVT_DROP_CNT : Reg :=
  ⟨0x700810, 0x0, 1, 0x0, 1, 0x0, 1, true, 0x0, 0x0, 0x0⟩

/-- HST_REPLAY_CNT (16_host_interface). -/
def HST_REPLAY_CNT : Reg :=
  ⟨0x700818, 0x0, 1, 0x0, 1, 0x0, 1, true, 0x0, 0x0, 0x0⟩

/-- HST_FLR_CNT (16_host_interface). -/
def HST_FLR_CNT : Reg :=
  ⟨0x700820, 0x0, 1, 0x0, 1, 0x0, 1, true, 0x0, 0x0, 0x0⟩

/-- HST_TX_LOST_CNT (16_host_interface). -/
def HST_TX_LOST_CNT : Reg :=
  ⟨0x700828, 0x0, 1, 0x0, 1, 0x0, 1, true, 0x0, 0x0, 0x0⟩

/-- FLT_SRC_CFG_i (17_faults_fencing_blackbox). -/
def FLT_SRC_CFG : Reg :=
  ⟨0x300000, 0x10, 512, 0x0, 1, 0x0, 1, true, 0x0, 0x1f, 0x0⟩

/-- FLT_SRC_STAT_i (17_faults_fencing_blackbox). -/
def FLT_SRC_STAT : Reg :=
  ⟨0x300008, 0x10, 512, 0x0, 1, 0x0, 1, true, 0x0, 0x0, 0x0⟩

/-- FLT_CTRL (17_faults_fencing_blackbox). -/
def FLT_CTRL : Reg :=
  ⟨0x302000, 0x0, 1, 0x0, 1, 0x0, 1, true, 0xffff00, 0x1, 0x12000⟩

/-- FLT_PIN_CTRL (17_faults_fencing_blackbox). -/
def FLT_PIN_CTRL : Reg :=
  ⟨0x302008, 0x0, 1, 0x0, 1, 0x0, 1, true, 0x3ff0001, 0x0, 0x20000⟩

/-- FLT_FENCE_STAT (17_faults_fencing_blackbox). -/
def FLT_FENCE_STAT : Reg :=
  ⟨0x302010, 0x0, 1, 0x0, 1, 0x0, 1, true, 0x0, 0x0, 0x0⟩

/-- FLT_QTR_STAT (17_faults_fencing_blackbox). -/
def FLT_QTR_STAT : Reg :=
  ⟨0x302018, 0x0, 1, 0x0, 1, 0x0, 1, true, 0x0, 0x0, 0x4⟩

/-- FLT_BB_CFG (17_faults_fencing_blackbox). -/
def FLT_BB_CFG : Reg :=
  ⟨0x302020, 0x0, 1, 0x0, 1, 0x0, 1, true, 0xffff3fff, 0x0, 0x640100⟩

/-- FLT_BB_STAT (17_faults_fencing_blackbox). -/
def FLT_BB_STAT : Reg :=
  ⟨0x302028, 0x0, 1, 0x0, 1, 0x0, 1, true, 0x0, 0x0, 0x0⟩

/-- FLT_FENCE_VIOL_u (17_faults_fencing_blackbox). -/
def FLT_FENCE_VIOL : Reg :=
  ⟨0x303000, 0x8, 20, 0x0, 1, 0x0, 1, true, 0x0, 0x0, 0x0⟩

/-- FLT_UNACC_FENCE_u (17_faults_fencing_blackbox). -/
def FLT_UNACC_FENCE : Reg :=
  ⟨0x303100, 0x8, 20, 0x0, 1, 0x0, 1, true, 0x0, 0x0, 0x0⟩

/-- FLT_TAKEOVER_CNT (17_faults_fencing_blackbox). -/
def FLT_TAKEOVER_CNT : Reg :=
  ⟨0x303200, 0x0, 1, 0x0, 1, 0x0, 1, true, 0x0, 0x0, 0x0⟩

/-- FLT_XP_DISAGREE_CNT (17_faults_fencing_blackbox). -/
def FLT_XP_DISAGREE_CNT : Reg :=
  ⟨0x303208, 0x0, 1, 0x0, 1, 0x0, 1, true, 0x0, 0x0, 0x0⟩

/-- FLT_SPARE_CNT (17_faults_fencing_blackbox). -/
def FLT_SPARE_CNT : Reg :=
  ⟨0x303210, 0x0, 1, 0x0, 1, 0x0, 1, true, 0x0, 0x0, 0x0⟩

/-- FLT_BB_LOST_CNT (17_faults_fencing_blackbox). -/
def FLT_BB_LOST_CNT : Reg :=
  ⟨0x303218, 0x0, 1, 0x0, 1, 0x0, 1, true, 0x0, 0x0, 0x0⟩

/-- PWR_READY (18_power_clocks_ageing_startup). -/
def PWR_READY : Reg :=
  ⟨0x400000, 0x0, 1, 0x0, 1, 0x0, 1, true, 0x0, 0x0, 0x0⟩

/-- PWR_REST_CFG (18_power_clocks_ageing_startup). -/
def PWR_REST_CFG : Reg :=
  ⟨0x400008, 0x0, 1, 0x0, 1, 0x0, 1, true, 0xffff00000fff, 0x0, 0x3200000000⟩

/-- PWR_UNIT_STAT (18_power_clocks_ageing_startup). -/
def PWR_UNIT_STAT : Reg :=
  ⟨0x400010, 0x0, 1, 0x0, 1, 0x0, 1, true, 0x0, 0x0, 0x10⟩

/-- PWR_AGE_CFG (18_power_clocks_ageing_startup). -/
def PWR_AGE_CFG : Reg :=
  ⟨0x400018, 0x0, 1, 0x0, 1, 0x0, 1, true, 0xffff03ff, 0x0, 0x14100318⟩

/-- PWR_AVS_r (18_power_clocks_ageing_startup). -/
def PWR_AVS : Reg :=
  ⟨0x400020, 0x8, 2, 0x0, 1, 0x0, 1, true, 0x0, 0x0, 0xf3202ee2ee⟩

/-- PWR_LIFE (18_power_clocks_ageing_startup). -/
def PWR_LIFE : Reg :=
  ⟨0x400030, 0x0, 1, 0x0, 1, 0x0, 1, true, 0x0, 0x0, 0xffffffff⟩

/-- PWR_HOURS (18_power_clocks_ageing_startup). -/
def PWR_HOURS : Reg :=
  ⟨0x400038, 0x0, 1, 0x0, 1, 0x0, 1, true, 0x0, 0xffffffff, 0x0⟩

/-- PWR_ISLAND_W_k (18_power_clocks_ageing_startup). -/
def PWR_ISLAND_W : Reg :=
  ⟨0x400040, 0x8, 3, 0x0, 1, 0x0, 1, true, 0x0, 0x0, 0x0⟩

/-- PWR_MON_m (18_power_clocks_ageing_startup). -/
def PWR_MON : Reg :=
  ⟨0x400100, 0x8, 48, 0x0, 1, 0x0, 1, true, 0x0, 0x0, 0x0⟩

/-- QTR_SLEEP_CTRL (18_power_clocks_ageing_startup). -/
def QTR_SLEEP_CTRL : Reg :=
  ⟨0x2000100, 0x100000, 5, 0x0, 1, 0x0, 1, false, 0x3, 0x0, 0x3⟩

/-- PWR_WAKE_CNT_u (18_power_clocks_ageing_startup). -/
def PWR_WAKE_CNT : Reg :=
  ⟨0x400400, 0x8, 17, 0x0, 1, 0x0, 1, true, 0x0, 0x0, 0x0⟩

/-- PWR_REST_DEFER_CNT_u (18_power_clocks_ageing_startup). -/
def PWR_REST_DEFER_CNT : Reg :=
  ⟨0x400500, 0x8, 17, 0x0, 1, 0x0, 1, true, 0x0, 0x0, 0x0⟩

/-- PWR_REPLAN_CNT (18_power_clocks_ageing_startup). -/
def PWR_REPLAN_CNT : Reg :=
  ⟨0x400600, 0x0, 1, 0x0, 1, 0x0, 1, true, 0x0, 0x0, 0x0⟩

/-- PWR_MEASURE_CNT (18_power_clocks_ageing_startup). -/
def PWR_MEASURE_CNT : Reg :=
  ⟨0x400608, 0x0, 1, 0x0, 1, 0x0, 1, true, 0x0, 0x0, 0x0⟩

/-- HKS_STAT (19_housekeeping_microcode). -/
def HKS_STAT : Reg :=
  ⟨0x200000, 0x0, 1, 0x0, 1, 0x0, 1, true, 0x0, 0x0, 0x0⟩

/-- HKS_RUN (19_housekeeping_microcode). -/
def HKS_RUN : Reg :=
  ⟨0x200008, 0x0, 1, 0x0, 1, 0x0, 1, true, 0x0, 0x0, 0x0⟩

/-- HKS_ROM_ID (19_housekeeping_microcode). -/
def HKS_ROM_ID : Reg :=
  ⟨0x200010, 0x0, 1, 0x0, 1, 0x0, 1, false, 0x0, 0x0, 0x0⟩

/-- HKS_PATCH (19_housekeeping_microcode). -/
def HKS_PATCH : Reg :=
  ⟨0x200018, 0x0, 1, 0x0, 1, 0x0, 1, true, 0x0, 0x0, 0x0⟩

/-- HKS_MATCH_k (19_housekeeping_microcode). -/
def HKS_MATCH : Reg :=
  ⟨0x200100, 0x8, 32, 0x0, 1, 0x0, 1, true, 0x0, 0x0, 0x0⟩

/-- HKS_TRAP_CNT (19_housekeeping_microcode). -/
def HKS_TRAP_CNT : Reg :=
  ⟨0x200200, 0x0, 1, 0x0, 1, 0x0, 1, true, 0x0, 0x0, 0x0⟩

/-- HKS_ROUTINE_CNT (19_housekeeping_microcode). -/
def HKS_ROUTINE_CNT : Reg :=
  ⟨0x200208, 0x0, 1, 0x0, 1, 0x0, 1, true, 0x0, 0x0, 0x0⟩

/-- HKS_ABANDON_CNT (19_housekeeping_microcode). -/
def HKS_ABANDON_CNT : Reg :=
  ⟨0x200210, 0x0, 1, 0x0, 1, 0x0, 1, true, 0x0, 0x0, 0x0⟩

/-- HKS_ECC_FIX_CNT (19_housekeeping_microcode). -/
def HKS_ECC_FIX_CNT : Reg :=
  ⟨0x200218, 0x0, 1, 0x0, 1, 0x0, 1, true, 0x0, 0x0, 0x0⟩

/-- HKS_PATCH_LOAD_CNT (19_housekeeping_microcode). -/
def HKS_PATCH_LOAD_CNT : Reg :=
  ⟨0x200220, 0x0, 1, 0x0, 1, 0x0, 1, true, 0x0, 0x0, 0x0⟩

/-- CNT_CYC_b (20_performance_counters). -/
def CNT_CYC : Reg :=
  ⟨0x600000, 0x100, 22, 0x0, 1, 0x0, 1, true, 0x0, 0x0, 0x0⟩

/-- CNT_CTRL_b (20_performance_counters). -/
def CNT_CTRL : Reg :=
  ⟨0x600008, 0x100, 22, 0x0, 1, 0x0, 1, true, 0x1, 0x0, 0x0⟩

/-- CNT_SEL_b_k (20_performance_counters). -/
def CNT_SEL : Reg :=
  ⟨0x600040, 0x100, 22, 0x8, 8, 0x0, 1, true, 0xfffff00fff7ff, 0x0, 0xfff000⟩

/-- CNT_VAL_b_k (20_performance_counters). -/
def CNT_VAL : Reg :=
  ⟨0x600080, 0x100, 22, 0x8, 8, 0x0, 1, true, 0x0, 0x0, 0x0⟩

/-- GLB_ID (21_register_map). -/
def GLB_ID : Reg :=
  ⟨0x0, 0x0, 1, 0x0, 1, 0x0, 1, true, 0x0, 0x0, 0x11096001d7b⟩

/-- GLB_CAPS (21_register_map). -/
def GLB_CAPS : Reg :=
  ⟨0x8, 0x0, 1, 0x0, 1, 0x0, 1, true, 0x0, 0x0, 0x194400000e84560⟩

/-- GLB_SERIAL (21_register_map). -/
def GLB_SERIAL : Reg :=
  ⟨0x10, 0x0, 1, 0x0, 1, 0x0, 1, true, 0x0, 0x0, 0x0⟩

/-- GLB_MAP_VER (21_register_map). -/
def GLB_MAP_VER : Reg :=
  ⟨0x18, 0x0, 1, 0x0, 1, 0x0, 1, true, 0x0, 0x0, 0x100⟩

/-- GLB_SCRATCH (21_register_map). -/
def GLB_SCRATCH : Reg :=
  ⟨0x20, 0x0, 1, 0x0, 1, 0x0, 1, true, 0xffffffffffffffff, 0x0, 0x0⟩

/-- PRT_MODE [3:0] SPEED (RW). -/
def PRT_MODE_SPEED : Fld := ⟨PRT_MODE, 3, 0⟩

/-- PRT_MODE [5:4] FEC (RW). -/
def PRT_MODE_FEC : Fld := ⟨PRT_MODE, 5, 4⟩

/-- PRT_MODE [6:6] AN_EN (RW). -/
def PRT_MODE_AN_EN : Fld := ⟨PRT_MODE, 6, 6⟩

/-- PRT_MODE [7:7] LT_EN (RW). -/
def PRT_MODE_LT_EN : Fld := ⟨PRT_MODE, 7, 7⟩

/-- PRT_MODE [8:8] ENABLE (RW). -/
def PRT_MODE_ENABLE : Fld := ⟨PRT_MODE, 8, 8⟩

/-- PRT_FRAME [13:0] MAX_LEN (RW). -/
def PRT_FRAME_MAX_LEN : Fld := ⟨PRT_FRAME, 13, 0⟩

/-- PRT_PREEMPT [0:0] PREEMPT_EN (RW). -/
def PRT_PREEMPT_PREEMPT_EN : Fld := ⟨PRT_PREEMPT, 0, 0⟩

/-- PRT_PREEMPT [2:1] ADD_FRAG_SIZE (RW). -/
def PRT_PREEMPT_ADD_FRAG_SIZE : Fld := ⟨PRT_PREEMPT, 2, 1⟩

/-- PRT_PREEMPT [3:3] VERIFY_DIS (RW). -/
def PRT_PREEMPT_VERIFY_DIS : Fld := ⟨PRT_PREEMPT, 3, 3⟩

/-- PRT_PREEMPT [10:4] VERIFY_TIME (RW). -/
def PRT_PREEMPT_VERIFY_TIME : Fld := ⟨PRT_PREEMPT, 10, 4⟩

/-- PRT_HOLD [16:0] HOLD_TIME (RW). -/
def PRT_HOLD_HOLD_TIME : Fld := ⟨PRT_HOLD, 16, 0⟩

/-- PRT_LINK_DEBOUNCE [9:0] DEBOUNCE (RW). -/
def PRT_LINK_DEBOUNCE_DEBOUNCE : Fld := ⟨PRT_LINK_DEBOUNCE, 9, 0⟩

/-- PRT_TS_ADJ [15:0] ING_ADJ (RW). -/
def PRT_TS_ADJ_ING_ADJ : Fld := ⟨PRT_TS_ADJ, 15, 0⟩

/-- PRT_TS_ADJ [31:16] EGR_ADJ (RW). -/
def PRT_TS_ADJ_EGR_ADJ : Fld := ⟨PRT_TS_ADJ, 31, 16⟩

/-- PRT_MACSEC_CTRL [0:0] MACSEC_EN (SG). -/
def PRT_MACSEC_CTRL_MACSEC_EN : Fld := ⟨PRT_MACSEC_CTRL, 0, 0⟩

/-- PRT_MACSEC_CTRL [1:1] PTP_BYPASS (SG). -/
def PRT_MACSEC_CTRL_PTP_BYPASS : Fld := ⟨PRT_MACSEC_CTRL, 1, 1⟩

/-- PRT_MACSEC_CTRL [3:2] CONF_OFFSET (SG). -/
def PRT_MACSEC_CTRL_CONF_OFFSET : Fld := ⟨PRT_MACSEC_CTRL, 3, 2⟩

/-- PRT_STATUS [0:0] LINK_UP (RO). -/
def PRT_STATUS_LINK_UP : Fld := ⟨PRT_STATUS, 0, 0⟩

/-- PRT_STATUS [1:1] PCS_LOCK (RO). -/
def PRT_STATUS_PCS_LOCK : Fld := ⟨PRT_STATUS, 1, 1⟩

/-- PRT_STATUS [2:2] FEC_ALIGN (RO). -/
def PRT_STATUS_FEC_ALIGN : Fld := ⟨PRT_STATUS, 2, 2⟩

/-- PRT_STATUS [3:3] LOCAL_FAULT (RO). -/
def PRT_STATUS_LOCAL_FAULT : Fld := ⟨PRT_STATUS, 3, 3⟩

/-- PRT_STATUS [4:4] REMOTE_FAULT (RO). -/
def PRT_STATUS_REMOTE_FAULT : Fld := ⟨PRT_STATUS, 4, 4⟩

/-- PRT_STATUS [5:5] HOLD (RO). -/
def PRT_STATUS_HOLD : Fld := ⟨PRT_STATUS, 5, 5⟩

/-- PRT_STATUS [6:6] PARKED (RO). -/
def PRT_STATUS_PARKED : Fld := ⟨PRT_STATUS, 6, 6⟩

/-- PRT_STATUS [7:7] QUIET (RO). -/
def PRT_STATUS_QUIET : Fld := ⟨PRT_STATUS, 7, 7⟩

/-- PRT_STATUS [8:8] PREEMPT_ACTIVE (RO). -/
def PRT_STATUS_PREEMPT_ACTIVE : Fld := ⟨PRT_STATUS, 8, 8⟩

/-- PRT_STATUS [9:9] MODE_ERR (RO). -/
def PRT_STATUS_MODE_ERR : Fld := ⟨PRT_STATUS, 9, 9⟩

/-- PRT_STATUS [13:10] ACTIVE_SPEED (RO). -/
def PRT_STATUS_ACTIVE_SPEED : Fld := ⟨PRT_STATUS, 13, 10⟩

/-- PRT_STATUS [16:14] QUARTER (RO). -/
def PRT_STATUS_QUARTER : Fld := ⟨PRT_STATUS, 16, 14⟩

/-- PRT_QMUX [2:0] MOVED (RO). -/
def PRT_QMUX_MOVED : Fld := ⟨PRT_QMUX, 2, 0⟩

/-- PRT_QMUX [3:3] BUSY (RO). -/
def PRT_QMUX_BUSY : Fld := ⟨PRT_QMUX, 3, 3⟩

/-- PRT_QUIET_1 [31:0] QUIET_HI (RO). -/
def PRT_QUIET_1_QUIET_HI : Fld := ⟨PRT_QUIET_1, 31, 0⟩

/-- PRT_DEFAULT [11:0] DEF_VID (RW). -/
def PRT_DEFAULT_DEF_VID : Fld := ⟨PRT_DEFAULT, 11, 0⟩

/-- PRT_DEFAULT [14:12] DEF_PCP (RW). -/
def PRT_DEFAULT_DEF_PCP : Fld := ⟨PRT_DEFAULT, 14, 12⟩

/-- QTR_PARSE_ACT [1:0] ACT_01 (RW). -/
def QTR_PARSE_ACT_ACT_01 : Fld := ⟨QTR_PARSE_ACT, 1, 0⟩

/-- QTR_PARSE_ACT [3:2] ACT_02 (RW). -/
def QTR_PARSE_ACT_ACT_02 : Fld := ⟨QTR_PARSE_ACT, 3, 2⟩

/-- QTR_PARSE_ACT [5:4] ACT_03 (RW). -/
def QTR_PARSE_ACT_ACT_03 : Fld := ⟨QTR_PARSE_ACT, 5, 4⟩

/-- QTR_PARSE_ACT [7:6] ACT_04 (RW). -/
def QTR_PARSE_ACT_ACT_04 : Fld := ⟨QTR_PARSE_ACT, 7, 6⟩

/-- QTR_PARSE_ACT [9:8] ACT_05 (RW). -/
def QTR_PARSE_ACT_ACT_05 : Fld := ⟨QTR_PARSE_ACT, 9, 8⟩

/-- QTR_PARSE_ACT [11:10] ACT_10 (RW). -/
def QTR_PARSE_ACT_ACT_10 : Fld := ⟨QTR_PARSE_ACT, 11, 10⟩

/-- QTR_PARSE_ACT [13:12] ACT_11 (RW). -/
def QTR_PARSE_ACT_ACT_11 : Fld := ⟨QTR_PARSE_ACT, 13, 12⟩

/-- QTR_PARSE_ACT [15:14] ACT_12 (RW). -/
def QTR_PARSE_ACT_ACT_12 : Fld := ⟨QTR_PARSE_ACT, 15, 14⟩

/-- QTR_PARSE_ACT [17:16] TTL_ACT (RW). -/
def QTR_PARSE_ACT_TTL_ACT : Fld := ⟨QTR_PARSE_ACT, 17, 16⟩

/-- QTR_PARSE_ACT [19:18] ACT_06 (RW). -/
def QTR_PARSE_ACT_ACT_06 : Fld := ⟨QTR_PARSE_ACT, 19, 18⟩

/-- QTR_EPOCH [15:0] EPOCH (RO). -/
def QTR_EPOCH_EPOCH : Fld := ⟨QTR_EPOCH, 15, 0⟩

/-- QTR_EPOCH [16:16] DRAINING (RO). -/
def QTR_EPOCH_DRAINING : Fld := ⟨QTR_EPOCH, 16, 16⟩

/-- QTR_EPOCH [17:17] GRAPH_BANK (RO). -/
def QTR_EPOCH_GRAPH_BANK : Fld := ⟨QTR_EPOCH, 17, 17⟩

/-- QTR_EPOCH [18:18] GRAPH_PENDING (RO). -/
def QTR_EPOCH_GRAPH_PENDING : Fld := ⟨QTR_EPOCH, 18, 18⟩

/-- QTR_EPOCH [47:32] OLD_REFS (RO). -/
def QTR_EPOCH_OLD_REFS : Fld := ⟨QTR_EPOCH, 47, 32⟩

/-- QTR_EPOCH [63:48] GRAPH_VER (RO). -/
def QTR_EPOCH_GRAPH_VER : Fld := ⟨QTR_EPOCH, 63, 48⟩

/-- QTR_TCAM_SEL_g_j [7:0] SOURCE (RW). -/
def QTR_TCAM_SEL_SOURCE : Fld := ⟨QTR_TCAM_SEL, 7, 0⟩

/-- QTR_TCAM_SEL_g_j [8:8] INNER (RW). -/
def QTR_TCAM_SEL_INNER : Fld := ⟨QTR_TCAM_SEL, 8, 8⟩

/-- QTR_TCAM_SEL_g_j [12:9] FIRST (RW). -/
def QTR_TCAM_SEL_FIRST : Fld := ⟨QTR_TCAM_SEL, 12, 9⟩

/-- QTR_TCAM_SEL_g_j [17:13] LEN (RW). -/
def QTR_TCAM_SEL_LEN : Fld := ⟨QTR_TCAM_SEL, 17, 13⟩

/-- QTR_TCAM_SEL_g_j [24:18] DEST (RW). -/
def QTR_TCAM_SEL_DEST : Fld := ⟨QTR_TCAM_SEL, 24, 18⟩

/-- QTR_TCAM_BANK_n [1:0] WIDTH (RW). -/
def QTR_TCAM_BANK_WIDTH : Fld := ⟨QTR_TCAM_BANK, 1, 0⟩

/-- QTR_TCAM_BANK_n [4:2] GROUP (RW). -/
def QTR_TCAM_BANK_GROUP : Fld := ⟨QTR_TCAM_BANK, 4, 2⟩

/-- QTR_TCAM_BANK_n [5:5] ENABLE (RW). -/
def QTR_TCAM_BANK_ENABLE : Fld := ⟨QTR_TCAM_BANK, 5, 5⟩

/-- QTR_TCAM_BANK_n [6:6] CFG_ERR (RO). -/
def QTR_TCAM_BANK_CFG_ERR : Fld := ⟨QTR_TCAM_BANK, 6, 6⟩

/-- QTR_TCAM_BANK_n [26:16] VALID_CNT (RO). -/
def QTR_TCAM_BANK_VALID_CNT : Fld := ⟨QTR_TCAM_BANK, 26, 16⟩

/-- QTR_TCAM_UPD [15:0] MAX_WAIT (RW). -/
def QTR_TCAM_UPD_MAX_WAIT : Fld := ⟨QTR_TCAM_UPD, 15, 0⟩

/-- QTR_TCAM_UPD [16:16] BUSY (RO). -/
def QTR_TCAM_UPD_BUSY : Fld := ⟨QTR_TCAM_UPD, 16, 16⟩

/-- XPR_TCAM_CFG [1:0] CHAIN (SG). -/
def XPR_TCAM_CFG_CHAIN : Fld := ⟨XPR_TCAM_CFG, 1, 0⟩

/-- XPR_TCAM_CFG [3:2] SLICE_0 (SG). -/
def XPR_TCAM_CFG_SLICE_0 : Fld := ⟨XPR_TCAM_CFG, 3, 2⟩

/-- XPR_TCAM_CFG [5:4] SLICE_1 (SG). -/
def XPR_TCAM_CFG_SLICE_1 : Fld := ⟨XPR_TCAM_CFG, 5, 4⟩

/-- XPR_TCAM_CFG [7:6] SLICE_2 (SG). -/
def XPR_TCAM_CFG_SLICE_2 : Fld := ⟨XPR_TCAM_CFG, 7, 6⟩

/-- XPR_TCAM_CFG [9:8] SLICE_3 (SG). -/
def XPR_TCAM_CFG_SLICE_3 : Fld := ⟨XPR_TCAM_CFG, 9, 8⟩

/-- XPR_TCAM_CFG [10:10] EPOCH (RO). -/
def XPR_TCAM_CFG_EPOCH : Fld := ⟨XPR_TCAM_CFG, 10, 10⟩

/-- XPR_TCAM_CFG [11:11] CFG_ERR (RO). -/
def XPR_TCAM_CFG_CFG_ERR : Fld := ⟨XPR_TCAM_CFG, 11, 11⟩

/-- XPR_RANGE_i [4:0] OFFSET (SG). -/
def XPR_RANGE_OFFSET : Fld := ⟨XPR_RANGE, 4, 0⟩

/-- XPR_RANGE_i [8:8] ENABLE (SG). -/
def XPR_RANGE_ENABLE : Fld := ⟨XPR_RANGE, 8, 8⟩

/-- XPR_RANGE_i [47:32] LOW (SG). -/
def XPR_RANGE_LOW : Fld := ⟨XPR_RANGE, 47, 32⟩

/-- XPR_RANGE_i [63:48] HIGH (SG). -/
def XPR_RANGE_HIGH : Fld := ⟨XPR_RANGE, 63, 48⟩

/-- QTR_HASH_SEED_t [31:0] SEED0 (RO). -/
def QTR_HASH_SEED_SEED0 : Fld := ⟨QTR_HASH_SEED, 31, 0⟩

/-- QTR_HASH_SEED_t [63:32] SEED1 (RO). -/
def QTR_HASH_SEED_SEED1 : Fld := ⟨QTR_HASH_SEED, 63, 32⟩

/-- QTR_HASH_NEW_SEED_t [31:0] NEW_SEED0 (RO). -/
def QTR_HASH_NEW_SEED_NEW_SEED0 : Fld := ⟨QTR_HASH_NEW_SEED, 31, 0⟩

/-- QTR_HASH_NEW_SEED_t [63:32] NEW_SEED1 (RO). -/
def QTR_HASH_NEW_SEED_NEW_SEED1 : Fld := ⟨QTR_HASH_NEW_SEED, 63, 32⟩

/-- QTR_TABLE_STAT_t [21:21] REHASH (RO). -/
def QTR_TABLE_STAT_REHASH : Fld := ⟨QTR_TABLE_STAT, 21, 21⟩

/-- QTR_TABLE_STAT_t [22:22] REHASH_REQ (RO). -/
def QTR_TABLE_STAT_REHASH_REQ : Fld := ⟨QTR_TABLE_STAT, 22, 22⟩

/-- QTR_LEARN_CTRL [0:0] LEARN_EN (RW). -/
def QTR_LEARN_CTRL_LEARN_EN : Fld := ⟨QTR_LEARN_CTRL, 0, 0⟩

/-- QTR_LEARN_CTRL [1:1] NOTIFY_LEARN (RW). -/
def QTR_LEARN_CTRL_NOTIFY_LEARN : Fld := ⟨QTR_LEARN_CTRL, 1, 1⟩

/-- QTR_LEARN_CTRL [2:2] NOTIFY_AGE (RW). -/
def QTR_LEARN_CTRL_NOTIFY_AGE : Fld := ⟨QTR_LEARN_CTRL, 2, 2⟩

/-- QTR_LEARN_CTRL [3:3] NOTIFY_MOVE (RW). -/
def QTR_LEARN_CTRL_NOTIFY_MOVE : Fld := ⟨QTR_LEARN_CTRL, 3, 3⟩

/-- QTR_LEARN_CTRL [23:4] DAMP_US (RW). -/
def QTR_LEARN_CTRL_DAMP_US : Fld := ⟨QTR_LEARN_CTRL, 23, 4⟩

/-- QTR_LEARN_CTRL [42:32] RATE (RW). -/
def QTR_LEARN_CTRL_RATE : Fld := ⟨QTR_LEARN_CTRL, 42, 32⟩

/-- QTR_LEARN_PORT_EN_1 [31:0] EN_HI (RW). -/
def QTR_LEARN_PORT_EN_1_EN_HI : Fld := ⟨QTR_LEARN_PORT_EN_1, 31, 0⟩

/-- QTR_AGE_CTRL [31:0] PERIOD_MS (RW). -/
def QTR_AGE_CTRL_PERIOD_MS : Fld := ⟨QTR_AGE_CTRL, 31, 0⟩

/-- QTR_AGE_CTRL [32:32] AGE_EN (RW). -/
def QTR_AGE_CTRL_AGE_EN : Fld := ⟨QTR_AGE_CTRL, 32, 32⟩

/-- FLW_TIER_CFG [4:0] FIRKIN_GIB (RO). -/
def FLW_TIER_CFG_FIRKIN_GIB : Fld := ⟨FLW_TIER_CFG, 4, 0⟩

/-- FLW_TIER_CFG [5:5] MIRROR (RO). -/
def FLW_TIER_CFG_MIRROR : Fld := ⟨FLW_TIER_CFG, 5, 5⟩

/-- FLW_TIER_CFG [63:32] TUN_BUCKETS (RO). -/
def FLW_TIER_CFG_TUN_BUCKETS : Fld := ⟨FLW_TIER_CFG, 63, 32⟩

/-- FLW_TUN_CTRL [6:0] FILL_LIMIT (RW). -/
def FLW_TUN_CTRL_FILL_LIMIT : Fld := ⟨FLW_TUN_CTRL, 6, 0⟩

/-- FLW_MISS_CTRL [13:0] TIMEOUT_US (RW). -/
def FLW_MISS_CTRL_TIMEOUT_US : Fld := ⟨FLW_MISS_CTRL, 13, 0⟩

/-- FLW_MISS_CTRL [25:16] PER_FLOW (RW). -/
def FLW_MISS_CTRL_PER_FLOW : Fld := ⟨FLW_MISS_CTRL, 25, 16⟩

/-- FLW_MISS_CTRL [31:31] PARALLEL (RW). -/
def FLW_MISS_CTRL_PARALLEL : Fld := ⟨FLW_MISS_CTRL, 31, 31⟩

/-- FLW_WB_CTRL [9:0] PERIOD_US (RW). -/
def FLW_WB_CTRL_PERIOD_US : Fld := ⟨FLW_WB_CTRL, 9, 0⟩

/-- FLW_WB_CTRL [21:16] SHARE (RW). -/
def FLW_WB_CTRL_SHARE : Fld := ⟨FLW_WB_CTRL, 21, 16⟩

/-- FLW_DEMOTE_CTRL [9:0] GILL_IDLE_S (RW). -/
def FLW_DEMOTE_CTRL_GILL_IDLE_S : Fld := ⟨FLW_DEMOTE_CTRL, 9, 0⟩

/-- FLW_DEMOTE_CTRL [26:16] FIRKIN_IDLE_S (RW). -/
def FLW_DEMOTE_CTRL_FIRKIN_IDLE_S : Fld := ⟨FLW_DEMOTE_CTRL, 26, 16⟩

/-- FLW_AGE_CTRL [15:0] SWEEP_S (RW). -/
def FLW_AGE_CTRL_SWEEP_S : Fld := ⟨FLW_AGE_CTRL, 15, 0⟩

/-- FLW_AGE_CTRL [16:16] AGE_EN (RW). -/
def FLW_AGE_CTRL_AGE_EN : Fld := ⟨FLW_AGE_CTRL, 16, 16⟩

/-- FLW_AGE_CTRL [22:17] SHARE (RW). -/
def FLW_AGE_CTRL_SHARE : Fld := ⟨FLW_AGE_CTRL, 22, 17⟩

/-- FLW_KEY_STAT [15:0] KEY_GEN (RO). -/
def FLW_KEY_STAT_KEY_GEN : Fld := ⟨FLW_KEY_STAT, 15, 0⟩

/-- FLW_KEY_STAT [16:16] REKEY (RO). -/
def FLW_KEY_STAT_REKEY : Fld := ⟨FLW_KEY_STAT, 16, 16⟩

/-- FLW_KEY_STAT [17:17] REHASH_REQ (RO). -/
def FLW_KEY_STAT_REHASH_REQ : Fld := ⟨FLW_KEY_STAT, 17, 17⟩

/-- FLW_KEY_STAT [30:18] UNHOMED (RO). -/
def FLW_KEY_STAT_UNHOMED : Fld := ⟨FLW_KEY_STAT, 30, 18⟩

/-- FLW_GILL_OCC [21:0] SLOTS (RO). -/
def FLW_GILL_OCC_SLOTS : Fld := ⟨FLW_GILL_OCC, 21, 0⟩

/-- FLW_FIRKIN_OCC [27:0] RECORDS (RO). -/
def FLW_FIRKIN_OCC_RECORDS : Fld := ⟨FLW_FIRKIN_OCC, 27, 0⟩

/-- FLW_TUN_OCC [31:0] RECORDS (RO). -/
def FLW_TUN_OCC_RECORDS : Fld := ⟨FLW_TUN_OCC, 31, 0⟩

/-- FLW_PEND_OCC [16:0] ENTRIES (RO). -/
def FLW_PEND_OCC_ENTRIES : Fld := ⟨FLW_PEND_OCC, 16, 0⟩

/-- FLW_PEND_OCC [50:32] DESCRIPTORS (RO). -/
def FLW_PEND_OCC_DESCRIPTORS : Fld := ⟨FLW_PEND_OCC, 50, 32⟩

/-- FLW_CT_TMO_s_k [31:0] SECONDS (RW). -/
def FLW_CT_TMO_SECONDS : Fld := ⟨FLW_CT_TMO, 31, 0⟩

/-- FLW_NAT_CTRL [11:0] REUSE_S (RW). -/
def FLW_NAT_CTRL_REUSE_S : Fld := ⟨FLW_NAT_CTRL, 11, 0⟩

/-- FLW_NAT_CTRL [12:12] STRICT_NAT (RW). -/
def FLW_NAT_CTRL_STRICT_NAT : Fld := ⟨FLW_NAT_CTRL, 12, 12⟩

/-- FLW_NAT_CTRL [14:13] PAIR_HALF (RO). -/
def FLW_NAT_CTRL_PAIR_HALF : Fld := ⟨FLW_NAT_CTRL, 14, 13⟩

/-- FLW_TLM_CTRL [0:0] TO_RING (RW). -/
def FLW_TLM_CTRL_TO_RING : Fld := ⟨FLW_TLM_CTRL, 0, 0⟩

/-- FLW_TLM_CTRL [1:1] TO_PORT (RW). -/
def FLW_TLM_CTRL_TO_PORT : Fld := ⟨FLW_TLM_CTRL, 1, 1⟩

/-- FLW_TLM_CTRL [2:2] SEAL (SG). -/
def FLW_TLM_CTRL_SEAL : Fld := ⟨FLW_TLM_CTRL, 2, 2⟩

/-- FLW_TLM_CTRL [9:3] PORT (RW). -/
def FLW_TLM_CTRL_PORT : Fld := ⟨FLW_TLM_CTRL, 9, 3⟩

/-- FLW_TLM_CTRL [21:10] ENCAP (RW). -/
def FLW_TLM_CTRL_ENCAP : Fld := ⟨FLW_TLM_CTRL, 21, 10⟩

/-- FLW_TLM_CTRL [31:22] BATCH_US (RW). -/
def FLW_TLM_CTRL_BATCH_US : Fld := ⟨FLW_TLM_CTRL, 31, 22⟩

/-- FLW_TLM_CTRL [43:32] TEMPLATE_S (RW). -/
def FLW_TLM_CTRL_TEMPLATE_S : Fld := ⟨FLW_TLM_CTRL, 43, 32⟩

/-- FLW_TLM_CTRL [61:48] MSG_MAX (RW). -/
def FLW_TLM_CTRL_MSG_MAX : Fld := ⟨FLW_TLM_CTRL, 61, 48⟩

/-- FLW_TLM_DOMAIN [31:0] OBS_DOMAIN (RW). -/
def FLW_TLM_DOMAIN_OBS_DOMAIN : Fld := ⟨FLW_TLM_DOMAIN, 31, 0⟩

/-- FLW_TLM_DOMAIN [63:32] PEN (RW). -/
def FLW_TLM_DOMAIN_PEN : Fld := ⟨FLW_TLM_DOMAIN, 63, 32⟩

/-- FLW_TLM_UTC [15:0] UTC_OFFSET (RW). -/
def FLW_TLM_UTC_UTC_OFFSET : Fld := ⟨FLW_TLM_UTC, 15, 0⟩

/-- FLW_PROF_STAT [0:0] COPY (RO). -/
def FLW_PROF_STAT_COPY : Fld := ⟨FLW_PROF_STAT, 0, 0⟩

/-- FLW_PROF_STAT [1:1] DRAINING (RO). -/
def FLW_PROF_STAT_DRAINING : Fld := ⟨FLW_PROF_STAT, 1, 1⟩

/-- FLW_PROF_STAT [63:32] OLD_REFS (RO). -/
def FLW_PROF_STAT_OLD_REFS : Fld := ⟨FLW_PROF_STAT, 63, 32⟩

/-- FLW_TASK_CTRL [12:0] MAX_CYCLES (RW). -/
def FLW_TASK_CTRL_MAX_CYCLES : Fld := ⟨FLW_TASK_CTRL, 12, 0⟩

/-- FLW_TASK_CTRL [13:13] NOTIFY_END (RW). -/
def FLW_TASK_CTRL_NOTIFY_END : Fld := ⟨FLW_TASK_CTRL, 13, 13⟩

/-- FLW_TASK_CTRL [15:14] FAULT_ACT (RW). -/
def FLW_TASK_CTRL_FAULT_ACT : Fld := ⟨FLW_TASK_CTRL, 15, 14⟩

/-- FLW_TASK_PRIO [20:0] LEVEL_k (RW). -/
def FLW_TASK_PRIO_LEVEL : Fld := ⟨FLW_TASK_PRIO, 20, 0⟩

/-- FLW_CLUSTER_STAT [3:0] FENCED (RO). -/
def FLW_CLUSTER_STAT_FENCED : Fld := ⟨FLW_CLUSTER_STAT, 3, 0⟩

/-- FLW_CLUSTER_STAT [7:4] RESTING (RO). -/
def FLW_CLUSTER_STAT_RESTING : Fld := ⟨FLW_CLUSTER_STAT, 7, 4⟩

/-- FLW_SPILL_CFG [24:0] CAPACITY (RO). -/
def FLW_SPILL_CFG_CAPACITY : Fld := ⟨FLW_SPILL_CFG, 24, 0⟩

/-- FLW_PROG_STAT [7:0] SLOT (RO). -/
def FLW_PROG_STAT_SLOT : Fld := ⟨FLW_PROG_STAT, 7, 0⟩

/-- FLW_PROG_STAT [8:8] DRAINING (RO). -/
def FLW_PROG_STAT_DRAINING : Fld := ⟨FLW_PROG_STAT, 8, 8⟩

/-- FLW_PROG_STAT [63:32] OLD_REFS (RO). -/
def FLW_PROG_STAT_OLD_REFS : Fld := ⟨FLW_PROG_STAT, 63, 32⟩

/-- FLW_TIMER_STAT [22:0] ARMED (RO). -/
def FLW_TIMER_STAT_ARMED : Fld := ⟨FLW_TIMER_STAT, 22, 0⟩

/-- FLW_BANK_OWN_b [6:0] OWNER (SG). -/
def FLW_BANK_OWN_OWNER : Fld := ⟨FLW_BANK_OWN, 6, 0⟩

/-- FLW_RDY_c_l [12:0] ON_DIE (RO). -/
def FLW_RDY_ON_DIE : Fld := ⟨FLW_RDY, 12, 0⟩

/-- FLW_RDY_c_l [35:16] SPILLED (RO). -/
def FLW_RDY_SPILLED : Fld := ⟨FLW_RDY, 35, 16⟩

/-- FLW_CORE_NOW_n [3:0] KIND (RO). -/
def FLW_CORE_NOW_KIND : Fld := ⟨FLW_CORE_NOW, 3, 0⟩

/-- FLW_CORE_NOW_n [15:8] PROG (RO). -/
def FLW_CORE_NOW_PROG : Fld := ⟨FLW_CORE_NOW, 15, 8⟩

/-- FLW_CORE_NOW_n [39:16] TASK_ID (RO). -/
def FLW_CORE_NOW_TASK_ID : Fld := ⟨FLW_CORE_NOW, 39, 16⟩

/-- BUF_POOL_CFG [19:0] POOL0_SIZE (RW). -/
def BUF_POOL_CFG_POOL0_SIZE : Fld := ⟨BUF_POOL_CFG, 19, 0⟩

/-- BUF_POOL_CFG [51:32] POOL1_SIZE (RW). -/
def BUF_POOL_CFG_POOL1_SIZE : Fld := ⟨BUF_POOL_CFG, 51, 32⟩

/-- BUF_POOL_STAT [19:0] POOL0_USED (RO). -/
def BUF_POOL_STAT_POOL0_USED : Fld := ⟨BUF_POOL_STAT, 19, 0⟩

/-- BUF_POOL_STAT [51:32] POOL1_USED (RO). -/
def BUF_POOL_STAT_POOL1_USED : Fld := ⟨BUF_POOL_STAT, 51, 32⟩

/-- BUF_RESERVE_STAT [19:0] RESERVED (RO). -/
def BUF_RESERVE_STAT_RESERVED : Fld := ⟨BUF_RESERVE_STAT, 19, 0⟩

/-- BUF_RESERVE_STAT [20:20] CFG_ERR (RO). -/
def BUF_RESERVE_STAT_CFG_ERR : Fld := ⟨BUF_RESERVE_STAT, 20, 20⟩

/-- BUF_SPILL_CFG [0:0] EN (RW). -/
def BUF_SPILL_CFG_EN : Fld := ⟨BUF_SPILL_CFG, 0, 0⟩

/-- BUF_SPILL_CFG [1:1] PARITY (RW). -/
def BUF_SPILL_CFG_PARITY : Fld := ⟨BUF_SPILL_CFG, 1, 1⟩

/-- BUF_SPILL_CFG [15:2] ASM_FLUSH_NS (RW). -/
def BUF_SPILL_CFG_ASM_FLUSH_NS : Fld := ⟨BUF_SPILL_CFG, 15, 2⟩

/-- BUF_SPILL_CFG [31:16] HEAD_LOW (RW). -/
def BUF_SPILL_CFG_HEAD_LOW : Fld := ⟨BUF_SPILL_CFG, 31, 16⟩

/-- BUF_SPILL_CFG [51:32] SPILL_RES (RW). -/
def BUF_SPILL_CFG_SPILL_RES : Fld := ⟨BUF_SPILL_CFG, 51, 32⟩

/-- BUF_SPILL_CFG [63:52] ARRIVE_MAX (RW). -/
def BUF_SPILL_CFG_ARRIVE_MAX : Fld := ⟨BUF_SPILL_CFG, 63, 52⟩

/-- BUF_SPILL_STAT [0:0] AVAIL (RO). -/
def BUF_SPILL_STAT_AVAIL : Fld := ⟨BUF_SPILL_STAT, 0, 0⟩

/-- BUF_SPILL_STAT [1:1] DEGRADED (RO). -/
def BUF_SPILL_STAT_DEGRADED : Fld := ⟨BUF_SPILL_STAT, 1, 1⟩

/-- BUF_SPILL_STAT [51:32] SEG_USED (RO). -/
def BUF_SPILL_STAT_SEG_USED : Fld := ⟨BUF_SPILL_STAT, 51, 32⟩

/-- BUF_SPILL_STAT [63:52] SPILLING (RO). -/
def BUF_SPILL_STAT_SPILLING : Fld := ⟨BUF_SPILL_STAT, 63, 52⟩

/-- BUF_SEG_TOTAL [19:0] SEG_TOTAL (RO). -/
def BUF_SEG_TOTAL_SEG_TOTAL : Fld := ⟨BUF_SEG_TOTAL, 19, 0⟩

/-- BUF_CT_EN_1 [31:0] CT_HI (RW). -/
def BUF_CT_EN_1_CT_HI : Fld := ⟨BUF_CT_EN_1, 31, 0⟩

/-- BUF_QPROF_k [19:0] MIN (RW). -/
def BUF_QPROF_MIN : Fld := ⟨BUF_QPROF, 19, 0⟩

/-- BUF_QPROF_k [23:20] ALPHA (RW). -/
def BUF_QPROF_ALPHA : Fld := ⟨BUF_QPROF, 23, 20⟩

/-- BUF_QPROF_k [24:24] SPILL_EN (RW). -/
def BUF_QPROF_SPILL_EN : Fld := ⟨BUF_QPROF, 24, 24⟩

/-- BUF_QPROF_k [47:32] SPILL_ON (RW). -/
def BUF_QPROF_SPILL_ON : Fld := ⟨BUF_QPROF, 47, 32⟩

/-- BUF_QPROF_k [63:48] SPILL_MAX (RW). -/
def BUF_QPROF_SPILL_MAX : Fld := ⟨BUF_QPROF, 63, 48⟩

/-- BUF_PFCPROF_k_W0 [15:0] XOFF_S (RW). -/
def BUF_PFCPROF_W0_XOFF_S : Fld := ⟨BUF_PFCPROF_W0, 15, 0⟩

/-- BUF_PFCPROF_k_W0 [31:16] XON_S (RW). -/
def BUF_PFCPROF_W0_XON_S : Fld := ⟨BUF_PFCPROF_W0, 31, 16⟩

/-- BUF_PFCPROF_k_W0 [47:32] XOFF_NS (RW). -/
def BUF_PFCPROF_W0_XOFF_NS : Fld := ⟨BUF_PFCPROF_W0, 47, 32⟩

/-- BUF_PFCPROF_k_W0 [63:48] XON_NS (RW). -/
def BUF_PFCPROF_W0_XON_NS : Fld := ⟨BUF_PFCPROF_W0, 63, 48⟩

/-- BUF_PFCPROF_k_W1 [15:0] HDRM (RW). -/
def BUF_PFCPROF_W1_HDRM : Fld := ⟨BUF_PFCPROF_W1, 15, 0⟩

/-- BUF_PFCPROF_k_W1 [27:16] REFRESH_US (RW). -/
def BUF_PFCPROF_W1_REFRESH_US : Fld := ⟨BUF_PFCPROF_W1, 27, 16⟩

/-- BUF_QMAP_n [31:0] PROF_t (RW). -/
def BUF_QMAP_PROF : Fld := ⟨BUF_QMAP, 31, 0⟩

/-- BUF_PFC_PORT_n [7:0] LOSSLESS (RW). -/
def BUF_PFC_PORT_LOSSLESS : Fld := ⟨BUF_PFC_PORT, 7, 0⟩

/-- BUF_PFC_PORT_n [10:8] PROFILE (RW). -/
def BUF_PFC_PORT_PROFILE : Fld := ⟨BUF_PFC_PORT, 10, 8⟩

/-- XPR_VOQ_OCC [12:0] SHARED_USED (RO). -/
def XPR_VOQ_OCC_SHARED_USED : Fld := ⟨XPR_VOQ_OCC, 12, 0⟩

/-- SCH_PORT_CFG [7:0] OVERHEAD (RW). -/
def SCH_PORT_CFG_OVERHEAD : Fld := ⟨SCH_PORT_CFG, 7, 0⟩

/-- SCH_PORT_CFG [31:16] LAUNCH_LATE_NS (RW). -/
def SCH_PORT_CFG_LAUNCH_LATE_NS : Fld := ⟨SCH_PORT_CFG, 31, 16⟩

/-- SCH_PREEMPT_ADV [7:0] HOLD_ADVANCE (SG). -/
def SCH_PREEMPT_ADV_HOLD_ADVANCE : Fld := ⟨SCH_PREEMPT_ADV, 7, 0⟩

/-- SCH_PREEMPT_ADV [15:8] RELEASE_ADVANCE (SG). -/
def SCH_PREEMPT_ADV_RELEASE_ADVANCE : Fld := ⟨SCH_PREEMPT_ADV, 15, 8⟩

/-- SCH_WAKE_CFG [0:0] WAKE_EN (RW). -/
def SCH_WAKE_CFG_WAKE_EN : Fld := ⟨SCH_WAKE_CFG, 0, 0⟩

/-- SCH_WAKE_CFG [15:8] WAKE_MASK (RW). -/
def SCH_WAKE_CFG_WAKE_MASK : Fld := ⟨SCH_WAKE_CFG, 15, 8⟩

/-- SCH_WAKE_CFG [31:16] WAKE_LEAD_NS (RW). -/
def SCH_WAKE_CFG_WAKE_LEAD_NS : Fld := ⟨SCH_WAKE_CFG, 31, 16⟩

/-- SCH_WAKE_CFG [63:32] MIN_GAP_NS (RW). -/
def SCH_WAKE_CFG_MIN_GAP_NS : Fld := ⟨SCH_WAKE_CFG, 63, 32⟩

/-- SCH_QCFG_t [0:0] MODE (RW). -/
def SCH_QCFG_MODE : Fld := ⟨SCH_QCFG, 0, 0⟩

/-- SCH_QCFG_t [11:4] WEIGHT (RW). -/
def SCH_QCFG_WEIGHT : Fld := ⟨SCH_QCFG, 11, 4⟩

/-- SCH_QCFG_t [13:12] SHAPER (RW). -/
def SCH_QCFG_SHAPER : Fld := ⟨SCH_QCFG, 13, 12⟩

/-- SCH_QCFG_t [14:14] LAUNCH (RW). -/
def SCH_QCFG_LAUNCH : Fld := ⟨SCH_QCFG, 14, 14⟩

/-- SCH_QCFG_t [23:16] PFC_MASK (RW). -/
def SCH_QCFG_PFC_MASK : Fld := ⟨SCH_QCFG, 23, 16⟩

/-- SCH_QCFG_t [63:32] RATE_KBPS (RW). -/
def SCH_QCFG_RATE_KBPS : Fld := ⟨SCH_QCFG, 63, 32⟩

/-- SCH_QSHAPE_t [23:0] SIZE (RW). -/
def SCH_QSHAPE_SIZE : Fld := ⟨SCH_QSHAPE, 23, 0⟩

/-- SCH_IPOL_p [31:0] RATE_KBPS (RW). -/
def SCH_IPOL_RATE_KBPS : Fld := ⟨SCH_IPOL, 31, 0⟩

/-- SCH_IPOL_p [55:32] BURST (RW). -/
def SCH_IPOL_BURST : Fld := ⟨SCH_IPOL, 55, 32⟩

/-- SCH_IPOL_p [56:56] EN (RW). -/
def SCH_IPOL_EN : Fld := ⟨SCH_IPOL, 56, 56⟩

/-- SCH_GCL_CFG [10:0] ADMIN_LEN (SG). -/
def SCH_GCL_CFG_ADMIN_LEN : Fld := ⟨SCH_GCL_CFG, 10, 0⟩

/-- SCH_GCL_CFG [12:12] ADMIN_EN (SG). -/
def SCH_GCL_CFG_ADMIN_EN : Fld := ⟨SCH_GCL_CFG, 12, 12⟩

/-- SCH_GCL_CFG [61:32] ADMIN_CYCLE_NS (SG). -/
def SCH_GCL_CFG_ADMIN_CYCLE_NS : Fld := ⟨SCH_GCL_CFG, 61, 32⟩

/-- SCH_GCL_BASE_NS [31:0] BASE_NS (SG). -/
def SCH_GCL_BASE_NS_BASE_NS : Fld := ⟨SCH_GCL_BASE_NS, 31, 0⟩

/-- SCH_GCL_BASE_S [47:0] BASE_S (SG). -/
def SCH_GCL_BASE_S_BASE_S : Fld := ⟨SCH_GCL_BASE_S, 47, 0⟩

/-- SCH_GCL_STAT [0:0] OPER_EN (RO). -/
def SCH_GCL_STAT_OPER_EN : Fld := ⟨SCH_GCL_STAT, 0, 0⟩

/-- SCH_GCL_STAT [1:1] PENDING (RO). -/
def SCH_GCL_STAT_PENDING : Fld := ⟨SCH_GCL_STAT, 1, 1⟩

/-- SCH_GCL_STAT [2:2] PAST_BASE (RO). -/
def SCH_GCL_STAT_PAST_BASE : Fld := ⟨SCH_GCL_STAT, 2, 2⟩

/-- SCH_GCL_STAT [3:3] STEPPED (RO). -/
def SCH_GCL_STAT_STEPPED : Fld := ⟨SCH_GCL_STAT, 3, 3⟩

/-- SCH_GCL_STAT [14:4] OPER_LEN (RO). -/
def SCH_GCL_STAT_OPER_LEN : Fld := ⟨SCH_GCL_STAT, 14, 4⟩

/-- SCH_GCL_STAT [61:32] OPER_CYCLE_NS (RO). -/
def SCH_GCL_STAT_OPER_CYCLE_NS : Fld := ⟨SCH_GCL_STAT, 61, 32⟩

/-- SCH_GCL_START_NS [31:0] START_NS (RO). -/
def SCH_GCL_START_NS_START_NS : Fld := ⟨SCH_GCL_START_NS, 31, 0⟩

/-- SCH_GCL_START_S [47:0] START_S (RO). -/
def SCH_GCL_START_S_START_S : Fld := ⟨SCH_GCL_START_S, 47, 0⟩

/-- SCH_GCL_POS [9:0] ENTRY (RO). -/
def SCH_GCL_POS_ENTRY : Fld := ⟨SCH_GCL_POS, 9, 0⟩

/-- SCH_GCL_POS [63:32] CYCLES (RO). -/
def SCH_GCL_POS_CYCLES : Fld := ⟨SCH_GCL_POS, 63, 32⟩

/-- XPR_STREAM_VALID [14:0] COUNT (RO). -/
def XPR_STREAM_VALID_COUNT : Fld := ⟨XPR_STREAM_VALID, 14, 0⟩

/-- TIM_NOW_LO [29:0] NS (RO). -/
def TIM_NOW_LO_NS : Fld := ⟨TIM_NOW_LO, 29, 0⟩

/-- TIM_NOW_LO [63:32] SEC_LO (RO). -/
def TIM_NOW_LO_SEC_LO : Fld := ⟨TIM_NOW_LO, 63, 32⟩

/-- TIM_NOW_HI [15:0] SEC_HI (RO). -/
def TIM_NOW_HI_SEC_HI : Fld := ⟨TIM_NOW_HI, 15, 0⟩

/-- TIM_INCR [31:0] FRAC (SG). -/
def TIM_INCR_FRAC : Fld := ⟨TIM_INCR, 31, 0⟩

/-- TIM_INCR [63:32] INT (SG). -/
def TIM_INCR_INT : Fld := ⟨TIM_INCR, 63, 32⟩

/-- TIM_CTRL [15:0] WD_MS (SG). -/
def TIM_CTRL_WD_MS : Fld := ⟨TIM_CTRL, 15, 0⟩

/-- TIM_CTRL [16:16] HOLD_SRC (SG). -/
def TIM_CTRL_HOLD_SRC : Fld := ⟨TIM_CTRL, 16, 16⟩

/-- TIM_CTRL [17:17] PPS_OUT_EN (SG). -/
def TIM_CTRL_PPS_OUT_EN : Fld := ⟨TIM_CTRL, 17, 17⟩

/-- TIM_CTRL [51:32] PPS_WIDTH_US (SG). -/
def TIM_CTRL_PPS_WIDTH_US : Fld := ⟨TIM_CTRL, 51, 32⟩

/-- TIM_STAT [1:0] STATE (RO). -/
def TIM_STAT_STATE : Fld := ⟨TIM_STAT, 1, 0⟩

/-- TIM_STAT [2:2] VALID (RO). -/
def TIM_STAT_VALID : Fld := ⟨TIM_STAT, 2, 2⟩

/-- TIM_STAT [3:3] REF_LOST (RO). -/
def TIM_STAT_REF_LOST : Fld := ⟨TIM_STAT, 3, 3⟩

/-- TIM_STAT [4:4] CLAMPED (RO). -/
def TIM_STAT_CLAMPED : Fld := ⟨TIM_STAT, 4, 4⟩

/-- TIM_STAT [5:5] TEMP_ACTIVE (RO). -/
def TIM_STAT_TEMP_ACTIVE : Fld := ⟨TIM_STAT, 5, 5⟩

/-- TIM_STAT [7:6] HOLD_REASON (RO). -/
def TIM_STAT_HOLD_REASON : Fld := ⟨TIM_STAT, 7, 6⟩

/-- TIM_STAT [63:32] SESSION (RO). -/
def TIM_STAT_SESSION : Fld := ⟨TIM_STAT, 63, 32⟩

/-- TIM_TEMP [31:0] TEMP_LEFT (RO). -/
def TIM_TEMP_TEMP_LEFT : Fld := ⟨TIM_TEMP, 31, 0⟩

/-- TIM_TEMP [63:32] TEMP_FRAC (RO). -/
def TIM_TEMP_TEMP_FRAC : Fld := ⟨TIM_TEMP, 63, 32⟩

/-- TIM_PAIR [31:0] OFS_NS (RO). -/
def TIM_PAIR_OFS_NS : Fld := ⟨TIM_PAIR, 31, 0⟩

/-- TIM_PAIR [63:32] OFS_MAX_NS (RW). -/
def TIM_PAIR_OFS_MAX_NS : Fld := ⟨TIM_PAIR, 63, 32⟩

/-- TIM_CTRL_PPS [15:0] PPS_ADJ_PS (SG). -/
def TIM_CTRL_PPS_PPS_ADJ_PS : Fld := ⟨TIM_CTRL_PPS, 15, 0⟩

/-- TIM_PIN_CFG [1:0] MODE (SG). -/
def TIM_PIN_CFG_MODE : Fld := ⟨TIM_PIN_CFG, 1, 0⟩

/-- TIM_PIN_CFG [2:2] EDGE (SG). -/
def TIM_PIN_CFG_EDGE : Fld := ⟨TIM_PIN_CFG, 2, 2⟩

/-- TIM_PIN_CFG [3:3] POLARITY (SG). -/
def TIM_PIN_CFG_POLARITY : Fld := ⟨TIM_PIN_CFG, 3, 3⟩

/-- TIM_PIN_CFG [4:4] EVT_EN (SG). -/
def TIM_PIN_CFG_EVT_EN : Fld := ⟨TIM_PIN_CFG, 4, 4⟩

/-- TIM_PIN_CFG [31:16] ADJ_PS (SG). -/
def TIM_PIN_CFG_ADJ_PS : Fld := ⟨TIM_PIN_CFG, 31, 16⟩

/-- TIM_PIN_CFG [63:32] WIDTH_NS (SG). -/
def TIM_PIN_CFG_WIDTH_NS : Fld := ⟨TIM_PIN_CFG, 63, 32⟩

/-- TIM_PIN_START_NS [31:0] START_NS (SG). -/
def TIM_PIN_START_NS_START_NS : Fld := ⟨TIM_PIN_START_NS, 31, 0⟩

/-- TIM_PIN_START_S [47:0] START_S (SG). -/
def TIM_PIN_START_S_START_S : Fld := ⟨TIM_PIN_START_S, 47, 0⟩

/-- TIM_PIN_PERIOD [29:0] PERIOD_NS (SG). -/
def TIM_PIN_PERIOD_PERIOD_NS : Fld := ⟨TIM_PIN_PERIOD, 29, 0⟩

/-- TIM_CAP_LO_k [29:0] NS (RO). -/
def TIM_CAP_LO_NS : Fld := ⟨TIM_CAP_LO, 29, 0⟩

/-- TIM_CAP_LO_k [63:32] SEC_LO (RO). -/
def TIM_CAP_LO_SEC_LO : Fld := ⟨TIM_CAP_LO, 63, 32⟩

/-- TIM_CAP_HI_k [15:0] SEC_HI (RO). -/
def TIM_CAP_HI_SEC_HI : Fld := ⟨TIM_CAP_HI, 15, 0⟩

/-- TIM_CAP_HI_k [16:16] STEP (RO). -/
def TIM_CAP_HI_STEP : Fld := ⟨TIM_CAP_HI, 16, 16⟩

/-- TIM_CAP_HI_k [63:32] CAP_SEQ (RO). -/
def TIM_CAP_HI_CAP_SEQ : Fld := ⟨TIM_CAP_HI, 63, 32⟩

/-- TIM_WAKE_LO [29:0] NS (RO). -/
def TIM_WAKE_LO_NS : Fld := ⟨TIM_WAKE_LO, 29, 0⟩

/-- TIM_WAKE_LO [30:30] PENDING (RO). -/
def TIM_WAKE_LO_PENDING : Fld := ⟨TIM_WAKE_LO, 30, 30⟩

/-- TIM_WAKE_LO [63:32] SEC_LO (RO). -/
def TIM_WAKE_LO_SEC_LO : Fld := ⟨TIM_WAKE_LO, 63, 32⟩

/-- TIM_WAKE_HI [15:0] SEC_HI (RO). -/
def TIM_WAKE_HI_SEC_HI : Fld := ⟨TIM_WAKE_HI, 15, 0⟩

/-- MEM_INIT_CFG [5:0] SPILL_GIB (SG). -/
def MEM_INIT_CFG_SPILL_GIB : Fld := ⟨MEM_INIT_CFG, 5, 0⟩

/-- MEM_INIT_CFG [8:6] PARK_GIB (SG). -/
def MEM_INIT_CFG_PARK_GIB : Fld := ⟨MEM_INIT_CFG, 8, 6⟩

/-- MEM_INIT_CFG [13:9] FIRKIN_GIB (SG). -/
def MEM_INIT_CFG_FIRKIN_GIB : Fld := ⟨MEM_INIT_CFG, 13, 9⟩

/-- MEM_INIT_CFG [18:14] TASK_LOG2 (SG). -/
def MEM_INIT_CFG_TASK_LOG2 : Fld := ⟨MEM_INIT_CFG, 18, 14⟩

/-- MEM_INIT_CFG [19:19] MIRROR (SG). -/
def MEM_INIT_CFG_MIRROR : Fld := ⟨MEM_INIT_CFG, 19, 19⟩

/-- MEM_INIT_CFG [31:31] DONE (RO). -/
def MEM_INIT_CFG_DONE : Fld := ⟨MEM_INIT_CFG, 31, 31⟩

/-- MEM_INIT_CFG [37:32] RESILVER_SHARE (RW). -/
def MEM_INIT_CFG_RESILVER_SHARE : Fld := ⟨MEM_INIT_CFG, 37, 32⟩

/-- MEM_HBM_STAT [31:0] PC_FAILED (RO). -/
def MEM_HBM_STAT_PC_FAILED : Fld := ⟨MEM_HBM_STAT, 31, 0⟩

/-- MEM_HBM_STAT [32:32] TRAINED (RO). -/
def MEM_HBM_STAT_TRAINED : Fld := ⟨MEM_HBM_STAT, 32, 32⟩

/-- MEM_HBM_STAT [33:33] REINT (RO). -/
def MEM_HBM_STAT_REINT : Fld := ⟨MEM_HBM_STAT, 33, 33⟩

/-- MEM_HBM_STAT [47:40] TEMP_C (RO). -/
def MEM_HBM_STAT_TEMP_C : Fld := ⟨MEM_HBM_STAT, 47, 40⟩

/-- MEM_HBM_CFG [4:0] SCRUB_H (RW). -/
def MEM_HBM_CFG_SCRUB_H : Fld := ⟨MEM_HBM_CFG, 4, 0⟩

/-- MEM_HBM_CFG [15:8] FAIL_THRESH (RW). -/
def MEM_HBM_CFG_FAIL_THRESH : Fld := ⟨MEM_HBM_CFG, 15, 8⟩

/-- MEM_HBM_QOS_p [19:0] TARGET_NS (RW). -/
def MEM_HBM_QOS_TARGET_NS : Fld := ⟨MEM_HBM_QOS, 19, 0⟩

/-- MEM_DDR_CFG [1:0] MAP_ORDER (RW). -/
def MEM_DDR_CFG_MAP_ORDER : Fld := ⟨MEM_DDR_CFG, 1, 0⟩

/-- MEM_DDR_CFG [2:2] CFG_ERR (RO). -/
def MEM_DDR_CFG_CFG_ERR : Fld := ⟨MEM_DDR_CFG, 2, 2⟩

/-- MEM_DDR_CFG [7:4] NR_SHIFT (RW). -/
def MEM_DDR_CFG_NR_SHIFT : Fld := ⟨MEM_DDR_CFG, 7, 4⟩

/-- MEM_DDR_CFG [8:8] NR_RADIUS (RW). -/
def MEM_DDR_CFG_NR_RADIUS : Fld := ⟨MEM_DDR_CFG, 8, 8⟩

/-- MEM_DDR_CFG [23:16] SCRUB_H (RW). -/
def MEM_DDR_CFG_SCRUB_H : Fld := ⟨MEM_DDR_CFG, 23, 16⟩

/-- MEM_DDR_CFG [31:24] MARK_THRESH (RW). -/
def MEM_DDR_CFG_MARK_THRESH : Fld := ⟨MEM_DDR_CFG, 31, 24⟩

/-- MEM_DDR_CFG [47:32] ZQ_MS (RW). -/
def MEM_DDR_CFG_ZQ_MS : Fld := ⟨MEM_DDR_CFG, 47, 32⟩

/-- MEM_DDR_CFG [57:48] OSC_MS (RW). -/
def MEM_DDR_CFG_OSC_MS : Fld := ⟨MEM_DDR_CFG, 57, 48⟩

/-- MEM_DDR_STAT [1:0] DIMMS (RO). -/
def MEM_DDR_STAT_DIMMS : Fld := ⟨MEM_DDR_STAT, 1, 0⟩

/-- MEM_DDR_STAT [3:2] RANKS (RO). -/
def MEM_DDR_STAT_RANKS : Fld := ⟨MEM_DDR_STAT, 3, 2⟩

/-- MEM_DDR_STAT [4:4] DENSITY (RO). -/
def MEM_DDR_STAT_DENSITY : Fld := ⟨MEM_DDR_STAT, 4, 4⟩

/-- MEM_DDR_STAT [5:5] DRFM (RO). -/
def MEM_DDR_STAT_DRFM : Fld := ⟨MEM_DDR_STAT, 5, 5⟩

/-- MEM_DDR_STAT [7:6] BIN (RO). -/
def MEM_DDR_STAT_BIN : Fld := ⟨MEM_DDR_STAT, 7, 6⟩

/-- MEM_DDR_STAT [9:8] PEND_BIN (RO). -/
def MEM_DDR_STAT_PEND_BIN : Fld := ⟨MEM_DDR_STAT, 9, 8⟩

/-- MEM_DDR_STAT [10:10] FREQ_PENDING (RO). -/
def MEM_DDR_STAT_FREQ_PENDING : Fld := ⟨MEM_DDR_STAT, 10, 10⟩

/-- MEM_DDR_STAT [11:11] TRAINING (RO). -/
def MEM_DDR_STAT_TRAINING : Fld := ⟨MEM_DDR_STAT, 11, 11⟩

/-- MEM_DDR_STAT [12:12] FENCED (RO). -/
def MEM_DDR_STAT_FENCED : Fld := ⟨MEM_DDR_STAT, 12, 12⟩

/-- MEM_DDR_STAT [13:13] ALONE (RO). -/
def MEM_DDR_STAT_ALONE : Fld := ⟨MEM_DDR_STAT, 13, 13⟩

/-- MEM_DDR_STAT [14:14] RESILVER (RO). -/
def MEM_DDR_STAT_RESILVER : Fld := ⟨MEM_DDR_STAT, 14, 14⟩

/-- MEM_DDR_STAT [15:15] POP_ERR (RO). -/
def MEM_DDR_STAT_POP_ERR : Fld := ⟨MEM_DDR_STAT, 15, 15⟩

/-- MEM_DDR_STAT [16:16] MARKED (RO). -/
def MEM_DDR_STAT_MARKED : Fld := ⟨MEM_DDR_STAT, 16, 16⟩

/-- MEM_DDR_STAT [21:17] MARKED_DEV (RO). -/
def MEM_DDR_STAT_MARKED_DEV : Fld := ⟨MEM_DDR_STAT, 21, 17⟩

/-- MEM_DDR_STAT [39:32] DIMM_TEMP_C (RO). -/
def MEM_DDR_STAT_DIMM_TEMP_C : Fld := ⟨MEM_DDR_STAT, 39, 32⟩

/-- MEM_DDR_QOS_p [19:0] TARGET_NS (RW). -/
def MEM_DDR_QOS_TARGET_NS : Fld := ⟨MEM_DDR_QOS, 19, 0⟩

/-- MEM_DDR_ERR_LOG [0:0] VALID (RO). -/
def MEM_DDR_ERR_LOG_VALID : Fld := ⟨MEM_DDR_ERR_LOG, 0, 0⟩

/-- MEM_DDR_ERR_LOG [1:1] UE (RO). -/
def MEM_DDR_ERR_LOG_UE : Fld := ⟨MEM_DDR_ERR_LOG, 1, 1⟩

/-- MEM_DDR_ERR_LOG [2:2] SC (RO). -/
def MEM_DDR_ERR_LOG_SC : Fld := ⟨MEM_DDR_ERR_LOG, 2, 2⟩

/-- MEM_DDR_ERR_LOG [5:3] BG (RO). -/
def MEM_DDR_ERR_LOG_BG : Fld := ⟨MEM_DDR_ERR_LOG, 5, 3⟩

/-- MEM_DDR_ERR_LOG [7:6] BA (RO). -/
def MEM_DDR_ERR_LOG_BA : Fld := ⟨MEM_DDR_ERR_LOG, 7, 6⟩

/-- MEM_DDR_ERR_LOG [9:8] RANK (RO). -/
def MEM_DDR_ERR_LOG_RANK : Fld := ⟨MEM_DDR_ERR_LOG, 9, 8⟩

/-- MEM_DDR_ERR_LOG [26:10] ROW (RO). -/
def MEM_DDR_ERR_LOG_ROW : Fld := ⟨MEM_DDR_ERR_LOG, 26, 10⟩

/-- MEM_DDR_ERR_LOG [33:27] COL (RO). -/
def MEM_DDR_ERR_LOG_COL : Fld := ⟨MEM_DDR_ERR_LOG, 33, 27⟩

/-- MEM_DDR_ERR_LOG [38:34] DEVICE (RO). -/
def MEM_DDR_ERR_LOG_DEVICE : Fld := ⟨MEM_DDR_ERR_LOG, 38, 34⟩

/-- VAR_TIMING [13:0] HB_NS (SG). -/
def VAR_TIMING_HB_NS : Fld := ⟨VAR_TIMING, 13, 0⟩

/-- VAR_TIMING [31:16] LINK_MISS_NS (SG). -/
def VAR_TIMING_LINK_MISS_NS : Fld := ⟨VAR_TIMING, 31, 16⟩

/-- VAR_TIMING [45:32] WIT_NS (SG). -/
def VAR_TIMING_WIT_NS : Fld := ⟨VAR_TIMING, 45, 32⟩

/-- VAR_TIMING [63:48] WIT_MISS_NS (SG). -/
def VAR_TIMING_WIT_MISS_NS : Fld := ⟨VAR_TIMING, 63, 48⟩

/-- VAR_TIMING2 [15:0] RETX_NS (RW). -/
def VAR_TIMING2_RETX_NS : Fld := ⟨VAR_TIMING2, 15, 0⟩

/-- VAR_TIMING2 [31:16] KICK_NS (SG). -/
def VAR_TIMING2_KICK_NS : Fld := ⟨VAR_TIMING2, 31, 16⟩

/-- VAR_TIMING2 [47:32] SOLO_HOLD_MS (SG). -/
def VAR_TIMING2_SOLO_HOLD_MS : Fld := ⟨VAR_TIMING2, 47, 32⟩

/-- VAR_TIMING2 [54:48] BULK_SHARE (RW). -/
def VAR_TIMING2_BULK_SHARE : Fld := ⟨VAR_TIMING2, 54, 48⟩

/-- VAR_WITNESS [6:0] PORT (SG). -/
def VAR_WITNESS_PORT : Fld := ⟨VAR_WITNESS, 6, 0⟩

/-- VAR_WITNESS [7:7] EN (SG). -/
def VAR_WITNESS_EN : Fld := ⟨VAR_WITNESS, 7, 7⟩

/-- VAR_WITNESS [63:16] DA (SG). -/
def VAR_WITNESS_DA : Fld := ⟨VAR_WITNESS, 63, 16⟩

/-- VAR_STAT [2:0] STATE (RO). -/
def VAR_STAT_STATE : Fld := ⟨VAR_STAT, 2, 0⟩

/-- VAR_STAT [4:3] PAIR_HALF (RO). -/
def VAR_STAT_PAIR_HALF : Fld := ⟨VAR_STAT, 4, 3⟩

/-- VAR_STAT [5:5] LINK_ALIVE (RO). -/
def VAR_STAT_LINK_ALIVE : Fld := ⟨VAR_STAT, 5, 5⟩

/-- VAR_STAT [6:6] WIT_ALIVE (RO). -/
def VAR_STAT_WIT_ALIVE : Fld := ⟨VAR_STAT, 6, 6⟩

/-- VAR_STAT [7:7] JOINER (RO). -/
def VAR_STAT_JOINER : Fld := ⟨VAR_STAT, 7, 7⟩

/-- VAR_STAT [11:8] LANES_IN (RO). -/
def VAR_STAT_LANES_IN : Fld := ⟨VAR_STAT, 11, 8⟩

/-- VAR_STAT [12:12] COVERED (RO). -/
def VAR_STAT_COVERED : Fld := ⟨VAR_STAT, 12, 12⟩

/-- VAR_STAT [22:16] SYNC_PCT (RO). -/
def VAR_STAT_SYNC_PCT : Fld := ⟨VAR_STAT, 22, 16⟩

/-- VAR_LANE_CFG [3:0] LANE_EN (RW). -/
def VAR_LANE_CFG_LANE_EN : Fld := ⟨VAR_LANE_CFG, 3, 0⟩

/-- VAR_LANE_CFG [15:8] DEG_THRESH (RW). -/
def VAR_LANE_CFG_DEG_THRESH : Fld := ⟨VAR_LANE_CFG, 15, 8⟩

/-- VAR_LANE_STAT [1:0] FRAMER (RO). -/
def VAR_LANE_STAT_FRAMER : Fld := ⟨VAR_LANE_STAT, 1, 0⟩

/-- VAR_LANE_STAT [4:2] DEFECT (RO). -/
def VAR_LANE_STAT_DEFECT : Fld := ⟨VAR_LANE_STAT, 4, 2⟩

/-- VAR_LANE_STAT [5:5] RDI_RX (RO). -/
def VAR_LANE_STAT_RDI_RX : Fld := ⟨VAR_LANE_STAT, 5, 5⟩

/-- VAR_LANE_STAT [6:6] RDI_TX (RO). -/
def VAR_LANE_STAT_RDI_TX : Fld := ⟨VAR_LANE_STAT, 6, 6⟩

/-- VAR_LANE_STAT [7:7] IN_STRIPE (RO). -/
def VAR_LANE_STAT_IN_STRIPE : Fld := ⟨VAR_LANE_STAT, 7, 7⟩

/-- VAR_LANE_STAT [25:16] PTR (RO). -/
def VAR_LANE_STAT_PTR : Fld := ⟨VAR_LANE_STAT, 25, 16⟩

/-- VAR_LANE_STAT [31:26] MFAS (RO). -/
def VAR_LANE_STAT_MFAS : Fld := ⟨VAR_LANE_STAT, 31, 26⟩

/-- VAR_LANE_STAT [47:32] SKEW_NS (RO). -/
def VAR_LANE_STAT_SKEW_NS : Fld := ⟨VAR_LANE_STAT, 47, 32⟩

/-- ASC_STAT [0:0] ENROLL (RO). -/
def ASC_STAT_ENROLL : Fld := ⟨ASC_STAT, 0, 0⟩

/-- ASC_STAT [2:1] OP_SLOT (RO). -/
def ASC_STAT_OP_SLOT : Fld := ⟨ASC_STAT, 2, 1⟩

/-- ASC_STAT [3:3] BOOT_OK (RO). -/
def ASC_STAT_BOOT_OK : Fld := ⟨ASC_STAT, 3, 3⟩

/-- ASC_STAT [4:4] NO_PATCH (RO). -/
def ASC_STAT_NO_PATCH : Fld := ⟨ASC_STAT, 4, 4⟩

/-- ASC_STAT [5:5] BOOT_COPY (RO). -/
def ASC_STAT_BOOT_COPY : Fld := ⟨ASC_STAT, 5, 5⟩

/-- ASC_STAT [6:6] REQ_OP_BOOT (RO). -/
def ASC_STAT_REQ_OP_BOOT : Fld := ⟨ASC_STAT, 6, 6⟩

/-- ASC_STAT [10:7] SESSIONS (RO). -/
def ASC_STAT_SESSIONS : Fld := ⟨ASC_STAT, 10, 7⟩

/-- ASC_STAT [31:16] PATCH_VER (RO). -/
def ASC_STAT_PATCH_VER : Fld := ⟨ASC_STAT, 31, 16⟩

/-- ASC_CTRL [0:0] SEAL_BB (SG). -/
def ASC_CTRL_SEAL_BB : Fld := ⟨ASC_CTRL, 0, 0⟩

/-- ASC_CTRL [15:8] SESSION_IDLE_MIN (SG). -/
def ASC_CTRL_SESSION_IDLE_MIN : Fld := ⟨ASC_CTRL, 15, 8⟩

/-- ASC_MIN_VER_k [15:0] MIN_VER (RO). -/
def ASC_MIN_VER_MIN_VER : Fld := ⟨ASC_MIN_VER, 15, 0⟩

/-- ASC_MIN_VER_k [20:16] RAISES_LEFT (RO). -/
def ASC_MIN_VER_RAISES_LEFT : Fld := ⟨ASC_MIN_VER, 20, 16⟩

/-- ASC_SESSION_s [0:0] OPEN (RO). -/
def ASC_SESSION_OPEN : Fld := ⟨ASC_SESSION, 0, 0⟩

/-- ASC_SESSION_s [1:1] DELEGATE (RO). -/
def ASC_SESSION_DELEGATE : Fld := ⟨ASC_SESSION, 1, 1⟩

/-- ASC_SESSION_s [12:2] PRIV (RO). -/
def ASC_SESSION_PRIV : Fld := ⟨ASC_SESSION, 12, 2⟩

/-- ASC_SESSION_s [63:32] SESSION_ID (RO). -/
def ASC_SESSION_SESSION_ID : Fld := ⟨ASC_SESSION, 63, 32⟩

/-- ASC_STAGE_STAT [26:0] FREE_BYTES (RO). -/
def ASC_STAGE_STAT_FREE_BYTES : Fld := ⟨ASC_STAGE_STAT, 26, 0⟩

/-- ASC_STAGE_STAT [42:32] OBJECTS (RO). -/
def ASC_STAGE_STAT_OBJECTS : Fld := ⟨ASC_STAGE_STAT, 42, 32⟩

/-- HST_RING_CFG [4:0] SIZE_LOG2 (RW). -/
def HST_RING_CFG_SIZE_LOG2 : Fld := ⟨HST_RING_CFG, 4, 0⟩

/-- HST_RING_CFG [5:5] EN (RW). -/
def HST_RING_CFG_EN : Fld := ⟨HST_RING_CFG, 5, 5⟩

/-- HST_RING_CFG [6:6] CFG_ERR (RO). -/
def HST_RING_CFG_CFG_ERR : Fld := ⟨HST_RING_CFG, 6, 6⟩

/-- HST_RING_CFG [7:7] DIRECT_EN (SG). -/
def HST_RING_CFG_DIRECT_EN : Fld := ⟨HST_RING_CFG, 7, 7⟩

/-- HST_RING_CFG [13:8] VECTOR (RW). -/
def HST_RING_CFG_VECTOR : Fld := ⟨HST_RING_CFG, 13, 8⟩

/-- HST_RING_CFG [17:14] SLOT_LOG2 (RW). -/
def HST_RING_CFG_SLOT_LOG2 : Fld := ⟨HST_RING_CFG, 17, 14⟩

/-- HST_RING_IDX [31:0] PI (RO). -/
def HST_RING_IDX_PI : Fld := ⟨HST_RING_IDX, 31, 0⟩

/-- HST_RING_IDX [63:32] CI (RO). -/
def HST_RING_IDX_CI : Fld := ⟨HST_RING_IDX, 63, 32⟩

/-- HST_RING_MOD [11:0] MOD_COUNT (RW). -/
def HST_RING_MOD_MOD_COUNT : Fld := ⟨HST_RING_MOD, 11, 0⟩

/-- HST_RING_MOD [31:16] MOD_US (RW). -/
def HST_RING_MOD_MOD_US : Fld := ⟨HST_RING_MOD, 31, 16⟩

/-- HST_DIAG_CTRL [2:0] TABLE (RW). -/
def HST_DIAG_CTRL_TABLE : Fld := ⟨HST_DIAG_CTRL, 2, 0⟩

/-- HST_DIAG_CTRL [5:3] QUARTER (RW). -/
def HST_DIAG_CTRL_QUARTER : Fld := ⟨HST_DIAG_CTRL, 5, 3⟩

/-- HST_DIAG_CTRL [6:6] GO (WO). -/
def HST_DIAG_CTRL_GO : Fld := ⟨HST_DIAG_CTRL, 6, 6⟩

/-- HST_DIAG_CTRL [7:7] GO_ERR (RO). -/
def HST_DIAG_CTRL_GO_ERR : Fld := ⟨HST_DIAG_CTRL, 7, 7⟩

/-- HST_DIAG_STAT [0:0] READY (RO). -/
def HST_DIAG_STAT_READY : Fld := ⟨HST_DIAG_STAT, 0, 0⟩

/-- HST_DIAG_STAT [1:1] HIT (RO). -/
def HST_DIAG_STAT_HIT : Fld := ⟨HST_DIAG_STAT, 1, 1⟩

/-- HST_DIAG_STAT [2:2] IN_PROGRESS (RO). -/
def HST_DIAG_STAT_IN_PROGRESS : Fld := ⟨HST_DIAG_STAT, 2, 2⟩

/-- HST_DIAG_STAT [5:3] TIER (RO). -/
def HST_DIAG_STAT_TIER : Fld := ⟨HST_DIAG_STAT, 5, 3⟩

/-- HST_DIAG_STAT [6:6] PENDING (RO). -/
def HST_DIAG_STAT_PENDING : Fld := ⟨HST_DIAG_STAT, 6, 6⟩

/-- HST_DIAG_STAT [31:16] FP (RO). -/
def HST_DIAG_STAT_FP : Fld := ⟨HST_DIAG_STAT, 31, 16⟩

/-- HST_DIAG_STAT [63:32] SEQ (RO). -/
def HST_DIAG_STAT_SEQ : Fld := ⟨HST_DIAG_STAT, 63, 32⟩

/-- HST_DIAG_POS [31:0] B0 (RO). -/
def HST_DIAG_POS_B0 : Fld := ⟨HST_DIAG_POS, 31, 0⟩

/-- HST_DIAG_POS [63:32] B1 (RO). -/
def HST_DIAG_POS_B1 : Fld := ⟨HST_DIAG_POS, 63, 32⟩

/-- HST_DIAG_LOC [31:0] SLOT (RO). -/
def HST_DIAG_LOC_SLOT : Fld := ⟨HST_DIAG_LOC, 31, 0⟩

/-- HST_PCIE_STAT [2:0] SPEED (RO). -/
def HST_PCIE_STAT_SPEED : Fld := ⟨HST_PCIE_STAT, 2, 0⟩

/-- HST_PCIE_STAT [6:3] WIDTH (RO). -/
def HST_PCIE_STAT_WIDTH : Fld := ⟨HST_PCIE_STAT, 6, 3⟩

/-- HST_PCIE_STAT [7:7] LINK_UP (RO). -/
def HST_PCIE_STAT_LINK_UP : Fld := ⟨HST_PCIE_STAT, 7, 7⟩

/-- HST_JOURNAL_STAT [12:0] USED (RO). -/
def HST_JOURNAL_STAT_USED : Fld := ⟨HST_JOURNAL_STAT, 12, 0⟩

/-- HST_JOURNAL_STAT [44:32] REPLAY_PENDING (RO). -/
def HST_JOURNAL_STAT_REPLAY_PENDING : Fld := ⟨HST_JOURNAL_STAT, 44, 32⟩

/-- HST_PUNT_MAP [3:0] VERDICT (RW). -/
def HST_PUNT_MAP_VERDICT : Fld := ⟨HST_PUNT_MAP, 3, 0⟩

/-- HST_PUNT_MAP [7:4] PARSE (RW). -/
def HST_PUNT_MAP_PARSE : Fld := ⟨HST_PUNT_MAP, 7, 4⟩

/-- HST_PUNT_MAP [11:8] TTL (RW). -/
def HST_PUNT_MAP_TTL : Fld := ⟨HST_PUNT_MAP, 11, 8⟩

/-- HST_PUNT_MAP [15:12] TASK (RW). -/
def HST_PUNT_MAP_TASK : Fld := ⟨HST_PUNT_MAP, 15, 12⟩

/-- HST_PUNT_MAP [19:16] OT (RW). -/
def HST_PUNT_MAP_OT : Fld := ⟨HST_PUNT_MAP, 19, 16⟩

/-- HST_PUNT_MAP [23:20] NAT_ICMP (RW). -/
def HST_PUNT_MAP_NAT_ICMP : Fld := ⟨HST_PUNT_MAP, 23, 20⟩

/-- HST_PUNT_MAP [27:24] NO_ROUTE (RW). -/
def HST_PUNT_MAP_NO_ROUTE : Fld := ⟨HST_PUNT_MAP, 27, 24⟩

/-- FLT_SRC_CFG_i [1:0] SEVERITY (SG). -/
def FLT_SRC_CFG_SEVERITY : Fld := ⟨FLT_SRC_CFG, 1, 0⟩

/-- FLT_SRC_CFG_i [2:2] FENCE (SG). -/
def FLT_SRC_CFG_FENCE : Fld := ⟨FLT_SRC_CFG, 2, 2⟩

/-- FLT_SRC_CFG_i [3:3] ALARM (SG). -/
def FLT_SRC_CFG_ALARM : Fld := ⟨FLT_SRC_CFG, 3, 3⟩

/-- FLT_SRC_CFG_i [4:4] HANDOVER (SG). -/
def FLT_SRC_CFG_HANDOVER : Fld := ⟨FLT_SRC_CFG, 4, 4⟩

/-- FLT_SRC_CFG_i [5:5] LOCK (RO). -/
def FLT_SRC_CFG_LOCK : Fld := ⟨FLT_SRC_CFG, 5, 5⟩

/-- FLT_SRC_CFG_i [15:8] CLASS (RO). -/
def FLT_SRC_CFG_CLASS : Fld := ⟨FLT_SRC_CFG, 15, 8⟩

/-- FLT_SRC_CFG_i [23:16] UNIT (RO). -/
def FLT_SRC_CFG_UNIT : Fld := ⟨FLT_SRC_CFG, 23, 16⟩

/-- FLT_SRC_STAT_i [0:0] PENDING (RO). -/
def FLT_SRC_STAT_PENDING : Fld := ⟨FLT_SRC_STAT, 0, 0⟩

/-- FLT_SRC_STAT_i [1:1] FENCED_BY (RO). -/
def FLT_SRC_STAT_FENCED_BY : Fld := ⟨FLT_SRC_STAT, 1, 1⟩

/-- FLT_SRC_STAT_i [31:16] LAST_DETAIL (RO). -/
def FLT_SRC_STAT_LAST_DETAIL : Fld := ⟨FLT_SRC_STAT, 31, 16⟩

/-- FLT_CTRL [0:0] INJECT_EN (SG). -/
def FLT_CTRL_INJECT_EN : Fld := ⟨FLT_CTRL, 0, 0⟩

/-- FLT_CTRL [15:8] SPARE_THRESH (RW). -/
def FLT_CTRL_SPARE_THRESH : Fld := ⟨FLT_CTRL, 15, 8⟩

/-- FLT_CTRL [23:16] DISAGREE_N (RW). -/
def FLT_CTRL_DISAGREE_N : Fld := ⟨FLT_CTRL, 23, 16⟩

/-- FLT_PIN_CTRL [0:0] ATTN_SW (RW). -/
def FLT_PIN_CTRL_ATTN_SW : Fld := ⟨FLT_PIN_CTRL, 0, 0⟩

/-- FLT_PIN_CTRL [1:1] ATTN_PULSE (RO). -/
def FLT_PIN_CTRL_ATTN_PULSE : Fld := ⟨FLT_PIN_CTRL, 1, 1⟩

/-- FLT_PIN_CTRL [2:2] ATTN_PIN (RO). -/
def FLT_PIN_CTRL_ATTN_PIN : Fld := ⟨FLT_PIN_CTRL, 2, 2⟩

/-- FLT_PIN_CTRL [3:3] ALARM_PIN (RO). -/
def FLT_PIN_CTRL_ALARM_PIN : Fld := ⟨FLT_PIN_CTRL, 3, 3⟩

/-- FLT_PIN_CTRL [25:16] ATTN_PULSE_US (RW). -/
def FLT_PIN_CTRL_ATTN_PULSE_US : Fld := ⟨FLT_PIN_CTRL, 25, 16⟩

/-- FLT_FENCE_STAT [19:0] FENCED (RO). -/
def FLT_FENCE_STAT_FENCED : Fld := ⟨FLT_FENCE_STAT, 19, 0⟩

/-- FLT_QTR_STAT [2:0] RESERVE (RO). -/
def FLT_QTR_STAT_RESERVE : Fld := ⟨FLT_QTR_STAT, 2, 0⟩

/-- FLT_QTR_STAT [3:3] TAKEOVER (RO). -/
def FLT_QTR_STAT_TAKEOVER : Fld := ⟨FLT_QTR_STAT, 3, 3⟩

/-- FLT_BB_CFG [13:0] POST_COUNT (RW). -/
def FLT_BB_CFG_POST_COUNT : Fld := ⟨FLT_BB_CFG, 13, 0⟩

/-- FLT_BB_CFG [31:16] POST_US (RW). -/
def FLT_BB_CFG_POST_US : Fld := ⟨FLT_BB_CFG, 31, 16⟩

/-- FLT_BB_STAT [0:0] LIVE (RO). -/
def FLT_BB_STAT_LIVE : Fld := ⟨FLT_BB_STAT, 0, 0⟩

/-- FLT_BB_STAT [2:1] CLOSED (RO). -/
def FLT_BB_STAT_CLOSED : Fld := ⟨FLT_BB_STAT, 2, 1⟩

/-- FLT_BB_STAT [4:3] SEALED (RO). -/
def FLT_BB_STAT_SEALED : Fld := ⟨FLT_BB_STAT, 4, 3⟩

/-- FLT_BB_STAT [5:5] STOPPED (RO). -/
def FLT_BB_STAT_STOPPED : Fld := ⟨FLT_BB_STAT, 5, 5⟩

/-- FLT_BB_STAT [63:32] SEQ (RO). -/
def FLT_BB_STAT_SEQ : Fld := ⟨FLT_BB_STAT, 63, 32⟩

/-- PWR_READY [0:0] AON_READY (RO). -/
def PWR_READY_AON_READY : Fld := ⟨PWR_READY, 0, 0⟩

/-- PWR_READY [1:1] HOST_READY (RO). -/
def PWR_READY_HOST_READY : Fld := ⟨PWR_READY, 1, 1⟩

/-- PWR_READY [2:2] EXPRESS_READY (RO). -/
def PWR_READY_EXPRESS_READY : Fld := ⟨PWR_READY, 2, 2⟩

/-- PWR_READY [3:3] BULK_READY (RO). -/
def PWR_READY_BULK_READY : Fld := ⟨PWR_READY, 3, 3⟩

/-- PWR_READY [4:4] FULL_READY (RO). -/
def PWR_READY_FULL_READY : Fld := ⟨PWR_READY, 4, 4⟩

/-- PWR_READY [11:8] LAST_RESET (RO). -/
def PWR_READY_LAST_RESET : Fld := ⟨PWR_READY, 11, 8⟩

/-- PWR_REST_CFG [3:0] CL_AUTO (RW). -/
def PWR_REST_CFG_CL_AUTO : Fld := ⟨PWR_REST_CFG, 3, 0⟩

/-- PWR_REST_CFG [11:4] DDR_AUTO (RW). -/
def PWR_REST_CFG_DDR_AUTO : Fld := ⟨PWR_REST_CFG, 11, 4⟩

/-- PWR_REST_CFG [47:32] IDLE_US (RW). -/
def PWR_REST_CFG_IDLE_US : Fld := ⟨PWR_REST_CFG, 47, 32⟩

/-- PWR_UNIT_STAT [16:0] RESTING (RO). -/
def PWR_UNIT_STAT_RESTING : Fld := ⟨PWR_UNIT_STAT, 16, 0⟩

/-- PWR_UNIT_STAT [48:32] WAKING (RO). -/
def PWR_UNIT_STAT_WAKING : Fld := ⟨PWR_UNIT_STAT, 48, 32⟩

/-- PWR_AGE_CFG [7:0] PERIOD_H (RW). -/
def PWR_AGE_CFG_PERIOD_H : Fld := ⟨PWR_AGE_CFG, 7, 0⟩

/-- PWR_AGE_CFG [8:8] AUTO_MEM (RW). -/
def PWR_AGE_CFG_AUTO_MEM : Fld := ⟨PWR_AGE_CFG, 8, 8⟩

/-- PWR_AGE_CFG [9:9] AUTO_SERDES (RW). -/
def PWR_AGE_CFG_AUTO_SERDES : Fld := ⟨PWR_AGE_CFG, 9, 9⟩

/-- PWR_AGE_CFG [23:16] EYE_MIN_PS (RW). -/
def PWR_AGE_CFG_EYE_MIN_PS : Fld := ⟨PWR_AGE_CFG, 23, 16⟩

/-- PWR_AGE_CFG [31:24] SERDES_EYE_MIN_MV (RW). -/
def PWR_AGE_CFG_SERDES_EYE_MIN_MV : Fld := ⟨PWR_AGE_CFG, 31, 24⟩

/-- PWR_AGE_CFG [39:32] NEED_RETRAIN (RO). -/
def PWR_AGE_CFG_NEED_RETRAIN : Fld := ⟨PWR_AGE_CFG, 39, 32⟩

/-- PWR_AVS_r [11:0] SETPOINT_MV (RO). -/
def PWR_AVS_SETPOINT_MV : Fld := ⟨PWR_AVS, 11, 0⟩

/-- PWR_AVS_r [23:12] NOMINAL_MV (RO). -/
def PWR_AVS_NOMINAL_MV : Fld := ⟨PWR_AVS, 23, 12⟩

/-- PWR_AVS_r [35:24] MAX_MV (RO). -/
def PWR_AVS_MAX_MV : Fld := ⟨PWR_AVS, 35, 24⟩

/-- PWR_AVS_r [43:36] G0_MV (RO). -/
def PWR_AVS_G0_MV : Fld := ⟨PWR_AVS, 43, 36⟩

/-- PWR_AVS_r [51:44] DRIFT_MV (RO). -/
def PWR_AVS_DRIFT_MV : Fld := ⟨PWR_AVS, 51, 44⟩

/-- PWR_AVS_r [52:52] LOW (RO). -/
def PWR_AVS_LOW : Fld := ⟨PWR_AVS, 52, 52⟩

/-- PWR_LIFE [31:0] REMAIN_H (RO). -/
def PWR_LIFE_REMAIN_H : Fld := ⟨PWR_LIFE, 31, 0⟩

/-- PWR_LIFE [37:32] LIMIT_MON (RO). -/
def PWR_LIFE_LIMIT_MON : Fld := ⟨PWR_LIFE, 37, 32⟩

/-- PWR_HOURS [31:0] HOURS (SG). -/
def PWR_HOURS_HOURS : Fld := ⟨PWR_HOURS, 31, 0⟩

/-- PWR_ISLAND_W_k [15:0] WATTS (RO). -/
def PWR_ISLAND_W_WATTS : Fld := ⟨PWR_ISLAND_W, 15, 0⟩

/-- PWR_MON_m [15:0] READING (RO). -/
def PWR_MON_READING : Fld := ⟨PWR_MON, 15, 0⟩

/-- PWR_MON_m [31:16] ZERO (RO). -/
def PWR_MON_ZERO : Fld := ⟨PWR_MON, 31, 16⟩

/-- PWR_MON_m [47:32] DRIFT_MV (RO). -/
def PWR_MON_DRIFT_MV : Fld := ⟨PWR_MON, 47, 32⟩

/-- QTR_SLEEP_CTRL [0:0] PLAN_EN (RW). -/
def QTR_SLEEP_CTRL_PLAN_EN : Fld := ⟨QTR_SLEEP_CTRL, 0, 0⟩

/-- QTR_SLEEP_CTRL [1:1] RESERVE_REST (RW). -/
def QTR_SLEEP_CTRL_RESERVE_REST : Fld := ⟨QTR_SLEEP_CTRL, 1, 1⟩

/-- QTR_SLEEP_CTRL [2:2] RESTING (RO). -/
def QTR_SLEEP_CTRL_RESTING : Fld := ⟨QTR_SLEEP_CTRL, 2, 2⟩

/-- QTR_SLEEP_CTRL [3:3] WAKING (RO). -/
def QTR_SLEEP_CTRL_WAKING : Fld := ⟨QTR_SLEEP_CTRL, 3, 3⟩

/-- HKS_STAT [0:0] BUSY (RO). -/
def HKS_STAT_BUSY : Fld := ⟨HKS_STAT, 0, 0⟩

/-- HKS_STAT [2:1] DEPTH (RO). -/
def HKS_STAT_DEPTH : Fld := ⟨HKS_STAT, 2, 1⟩

/-- HKS_STAT [3:3] PATCH_USED (RO). -/
def HKS_STAT_PATCH_USED : Fld := ⟨HKS_STAT, 3, 3⟩

/-- HKS_STAT [12:4] MARKS (RO). -/
def HKS_STAT_MARKS : Fld := ⟨HKS_STAT, 12, 4⟩

/-- HKS_RUN [16:0] PC (RO). -/
def HKS_RUN_PC : Fld := ⟨HKS_RUN, 16, 0⟩

/-- HKS_RUN [31:24] ROUTINE (RO). -/
def HKS_RUN_ROUTINE : Fld := ⟨HKS_RUN, 31, 24⟩

/-- HKS_RUN [33:32] LEVEL (RO). -/
def HKS_RUN_LEVEL : Fld := ⟨HKS_RUN, 33, 32⟩

/-- HKS_ROM_ID [31:0] ROM_ID (RO). -/
def HKS_ROM_ID_ROM_ID : Fld := ⟨HKS_ROM_ID, 31, 0⟩

/-- HKS_PATCH [10:0] WORDS (RO). -/
def HKS_PATCH_WORDS : Fld := ⟨HKS_PATCH, 10, 0⟩

/-- HKS_PATCH [16:11] MATCHES (RO). -/
def HKS_PATCH_MATCHES : Fld := ⟨HKS_PATCH, 16, 11⟩

/-- HKS_MATCH_k [15:0] ROM_ADDR (RO). -/
def HKS_MATCH_ROM_ADDR : Fld := ⟨HKS_MATCH, 15, 0⟩

/-- HKS_MATCH_k [25:16] PATCH_ADDR (RO). -/
def HKS_MATCH_PATCH_ADDR : Fld := ⟨HKS_MATCH, 25, 16⟩

/-- HKS_MATCH_k [31:31] EN (RO). -/
def HKS_MATCH_EN : Fld := ⟨HKS_MATCH, 31, 31⟩

/-- CNT_CTRL_b [0:0] FREEZE (RW). -/
def CNT_CTRL_FREEZE : Fld := ⟨CNT_CTRL, 0, 0⟩

/-- CNT_CTRL_b [1:1] CFG_ERR (RO). -/
def CNT_CTRL_CFG_ERR : Fld := ⟨CNT_CTRL, 1, 1⟩

/-- CNT_SEL_b_k [7:0] EVENT (RW). -/
def CNT_SEL_EVENT : Fld := ⟨CNT_SEL, 7, 0⟩

/-- CNT_SEL_b_k [9:8] MODE (RW). -/
def CNT_SEL_MODE : Fld := ⟨CNT_SEL, 9, 8⟩

/-- CNT_SEL_b_k [10:10] ENABLE (RW). -/
def CNT_SEL_ENABLE : Fld := ⟨CNT_SEL, 10, 10⟩

/-- CNT_SEL_b_k [23:12] QUAL (RW). -/
def CNT_SEL_QUAL : Fld := ⟨CNT_SEL, 23, 12⟩

/-- CNT_SEL_b_k [51:32] THRESH (RW). -/
def CNT_SEL_THRESH : Fld := ⟨CNT_SEL, 51, 32⟩

/-- GLB_ID [15:0] VENDOR (RO). -/
def GLB_ID_VENDOR : Fld := ⟨GLB_ID, 15, 0⟩

/-- GLB_ID [31:16] DEVICE (RO). -/
def GLB_ID_DEVICE : Fld := ⟨GLB_ID, 31, 16⟩

/-- GLB_ID [39:32] STEPPING (RO). -/
def GLB_ID_STEPPING : Fld := ⟨GLB_ID, 39, 32⟩

/-- GLB_ID [47:40] FAMILY (RO). -/
def GLB_ID_FAMILY : Fld := ⟨GLB_ID, 47, 40⟩

/-- GLB_CAPS [7:0] PORTS (RO). -/
def GLB_CAPS_PORTS : Fld := ⟨GLB_CAPS, 7, 0⟩

/-- GLB_CAPS [11:8] QUARTERS (RO). -/
def GLB_CAPS_QUARTERS : Fld := ⟨GLB_CAPS, 11, 8⟩

/-- GLB_CAPS [15:12] CLUSTERS (RO). -/
def GLB_CAPS_CLUSTERS : Fld := ⟨GLB_CAPS, 15, 12⟩

/-- GLB_CAPS [19:16] CHANNELS (RO). -/
def GLB_CAPS_CHANNELS : Fld := ⟨GLB_CAPS, 19, 16⟩

/-- GLB_CAPS [21:20] STACKS (RO). -/
def GLB_CAPS_STACKS : Fld := ⟨GLB_CAPS, 21, 20⟩

/-- GLB_CAPS [23:22] VAR_LANES (RO). -/
def GLB_CAPS_VAR_LANES : Fld := ⟨GLB_CAPS, 23, 22⟩

/-- GLB_CAPS [47:32] STREAMS (RO). -/
def GLB_CAPS_STREAMS : Fld := ⟨GLB_CAPS, 47, 32⟩

/-- GLB_CAPS [63:48] FAULT_SRCS (RO). -/
def GLB_CAPS_FAULT_SRCS : Fld := ⟨GLB_CAPS, 63, 48⟩

/-- GLB_MAP_VER [15:0] MAP_VER (RO). -/
def GLB_MAP_VER_MAP_VER : Fld := ⟨GLB_MAP_VER, 15, 0⟩

/-- FLT_SRC_STAT_i [63:32] COUNT (RO). -/
def FLT_SRC_STAT_COUNT : Fld := ⟨FLT_SRC_STAT, 63, 32⟩

/-- QTR_TABLE_STAT_t [20:0] COUNT (RO). -/
def QTR_TABLE_STAT_COUNT : Fld := ⟨QTR_TABLE_STAT, 20, 0⟩

/-- Part 0 of the register index (Table 21.5). -/
def regIndex0 : List Reg :=
  [PRT_MODE, PRT_FRAME, PRT_PREEMPT, PRT_HOLD, PRT_LINK_DEBOUNCE, PRT_TS_ADJ, PRT_MACSEC_CTRL, PRT_STATUS, PRT_QMUX, PRT_QUIET_0, PRT_QUIET_1, PRT_DEFAULT, QTR_PARSE_ACT, QTR_EPOCH, QTR_PARSE_CNT_0, QTR_PARSE_CNT_1, QTR_EDIT_OVERSIZE_CNT, QTR_TTL_CNT, QTR_EDIT_SKIP_CNT, QTR_NO_MEMBER_CNT, QTR_FAILOVER_CNT, QTR_RECIRC_FULL_CNT, QTR_RECIRC_LIMIT_CNT, QTR_PARSE_CNT_05, QTR_TCAM_SEL, QTR_TCAM_BANK, QTR_TCAM_UPD, QTR_TCAM_STEP_CNT, QTR_TCAM_STEAL_CNT, QTR_TCAM_SCRUB_FIX_CNT, QTR_DENY_CNT, QTR_PAT_FRAME_CNT, QTR_PAT_BYTE_CNT, QTR_PAT_SKIP_CNT, QTR_PAT_REFUSE_CNT, QTR_PAT_FAULT_CNT, QTR_PAT_FREE_WORDS, XPR_TCAM_CFG, XPR_RANGE, XPR_TCAM_DENY_CNT]

/-- Part 1 of the register index (Table 21.5). -/
def regIndex1 : List Reg :=
  [XPR_TCAM_SCRUB_FIX_CNT, QTR_HASH_SEED, QTR_HASH_NEW_SEED, QTR_TABLE_STAT, QTR_LEARN_CTRL, QTR_LEARN_PORT_EN_0, QTR_LEARN_PORT_EN_1, QTR_AGE_CTRL, QTR_CUCKOO_FAIL_CNT, QTR_LEARN_CNT, QTR_LEARN_DEFER_CNT, QTR_LEARN_RESOLVE_CNT, QTR_MOVE_PEND_CNT, QTR_MOVE_CNT, QTR_STATIC_VIOLATION_CNT, QTR_AGE_CNT, QTR_NO_ROUTE_CNT, QTR_NH_DEPTH_CNT, FLW_TIER_CFG, FLW_TUN_CTRL, FLW_MISS_CTRL, FLW_WB_CTRL, FLW_DEMOTE_CTRL, FLW_AGE_CTRL, FLW_KEY_STAT, FLW_GILL_OCC, FLW_FIRKIN_OCC, FLW_TUN_OCC, FLW_PEND_OCC, FLW_REFUSE_DENY, FLW_REFUSE_OVF, FLW_REFUSE_TMO, FLW_TUN_FULL_CNT, FLW_CUCKOO_FAIL_CNT, FLW_GILL_SKIP_CNT, FLW_EVICT_GILL_CNT, FLW_EVICT_FIRKIN_CNT, FLW_WT_STALL_CNT, FLW_WB_LATE_CNT, FLW_WB_FORCED_CNT]

/-- Part 2 of the register index (Table 21.5). -/
def regIndex2 : List Reg :=
  [FLW_AGE_CNT, FLW_CREATE_CNT, FLW_CT_TMO, FLW_NAT_CTRL, FLW_TLM_CTRL, FLW_TLM_DOMAIN, FLW_TLM_UTC, FLW_PROF_STAT, FLW_REFUSE_METER, FLW_PROFILE_DIFF_CNT, FLW_PROFILE_INVALID_CNT, FLW_CT_INVALID_CNT, FLW_CT_REOPEN_CNT, FLW_NAT_ALLOC_FAIL_CNT, FLW_NAT_REUSE_OVF_CNT, FLW_NAT_ICMP_ERR_CNT, FLW_STRICT_WAIT_CNT, FLW_STRICT_UNMIRRORED_CNT, FLW_LB_RECHOOSE_CNT, FLW_LB_NO_MEMBER_CNT, FLW_METER_YELLOW_CNT, FLW_METER_RED_PASS_CNT, FLW_SKETCH_MISS_CNT, FLW_TLM_RECORD_CNT, FLW_TLM_SKIP_CNT, FLW_OT_DENY_CNT, FLW_OT_CLOSE_CNT, FLW_TASK_CTRL, FLW_TASK_PRIO, FLW_CLUSTER_MAP_0, FLW_CLUSTER_MAP_1, FLW_CLUSTER_STAT, FLW_SPILL_CFG, FLW_PROG_STAT, FLW_TIMER_STAT, FLW_BANK_OWN, FLW_RDY, FLW_DISP, FLW_WAIT_SUM, FLW_WAIT_MAX]

/-- Part 3 of the register index (Table 21.5). -/
def regIndex3 : List Reg :=
  [FLW_CORE_BUSY, FLW_CORE_TASKS, FLW_CORE_FAULT, FLW_CORE_NOW, FLW_TASK_CANCEL_CNT, FLW_TASK_FAULT_CNT, FLW_TASK_DROP_CNT, FLW_TASK_STALE_CNT, FLW_TIMER_FULL_CNT, FLW_TASK_RESTART_CNT, BUF_POOL_CFG, BUF_POOL_STAT, BUF_RESERVE_STAT, BUF_SPILL_CFG, BUF_SPILL_STAT, BUF_SEG_TOTAL, BUF_CT_EN_0, BUF_CT_EN_1, BUF_QPROF, BUF_PFCPROF_W0, BUF_PFCPROF_W1, BUF_QMAP, BUF_PFC_PORT, BUF_ACCEPT, BUF_ADM_REFUSE, BUF_HDRM_REFUSE, BUF_FCS_REFUSE, BUF_STOMP, BUF_XOFF, BUF_SPILL_SEG_CNT, BUF_SPILL_PARTIAL_CNT, BUF_SPILL_STALL_CNT, BUF_SPILL_REBUILD_CNT, BUF_SPILL_LOST_CNT, BUF_MC_DIRECT_CNT, BUF_MC_NOCOPY_CNT, XPR_VOQ_OCC, XPR_VOQ_REFUSE, XPR_ACCEPT, SCH_PORT_CFG]

/-- Part 4 of the register index (Table 21.5). -/
def regIndex4 : List Reg :=
  [SCH_PREEMPT_ADV, SCH_WAKE_CFG, SCH_QCFG, SCH_QSHAPE, SCH_QCREDIT, SCH_IPOL, SCH_GCL_CFG, SCH_GCL_BASE_NS, SCH_GCL_BASE_S, SCH_GCL_STAT, SCH_GCL_START_NS, SCH_GCL_START_S, SCH_GCL_POS, SCH_GCL_ADMIN, SCH_GCL_OPER, SCH_IPOL_REFUSE, SCH_LAUNCH_LATE, SCH_LAUNCH_BAD, SCH_PAUSE_RX, SCH_PREEMPT, XPR_SDU_REFUSE_CNT, XPR_SGATE_REFUSE_CNT, XPR_ELIM_CNT, XPR_ROGUE_CNT, XPR_NOTAG_CNT, XPR_METER_REFUSE_CNT, XPR_LATE_CNT, XPR_OVERSIZE_STOMP_CNT, XPR_STREAM_VALID, XPR_LATE_DROP_CNT, TIM_NOW_LO, TIM_NOW_HI, TIM_INCR, TIM_CTRL, TIM_STAT, TIM_TEMP, TIM_STEP_LAST, TIM_PAIR, TIM_CTRL_PPS, TIM_PIN_CFG]

/-- Part 5 of the register index (Table 21.5). -/
def regIndex5 : List Reg :=
  [TIM_PIN_START_NS, TIM_PIN_START_S, TIM_PIN_PERIOD, TIM_CAP_LO, TIM_CAP_HI, TIM_WAKE_LO, TIM_WAKE_HI, TIM_ADJ_CNT, TIM_STEP_CNT, TIM_HOLD_CNT, TIM_CLAMP_CNT, TIM_TRIG_LATE_CNT, TIM_CAP_MISS_CNT, MEM_INIT_CFG, MEM_HBM_STAT, MEM_HBM_CFG, MEM_HBM_QOS, MEM_DDR_CFG, MEM_DDR_STAT, MEM_DDR_QOS, MEM_DDR_ERR_LOG, MEM_HBM_CE_CNT, MEM_HBM_UE_CNT, MEM_HBM_REBUILD_CNT, MEM_HBM_LOST_CNT, MEM_HBM_LAT_MISS, MEM_DDR_CE_CNT, MEM_DDR_UE_CNT, MEM_DDR_SCRUB_FIX_CNT, MEM_DDR_NR_CNT, MEM_DDR_REF_POSTPONE_CNT, MEM_DDR_RETRAIN_CNT, MEM_DDR_TUN_REPAIR_CNT, MEM_DDR_TUN_LOST_CNT, MEM_DDR_LAT_MISS, VAR_TIMING, VAR_TIMING2, VAR_WITNESS, VAR_STAT, VAR_PARTNER_ID]

/-- Part 6 of the register index (Table 21.5). -/
def regIndex6 : List Reg :=
  [VAR_LANE_CFG, VAR_LANE_STAT, VAR_HDR_ERR, VAR_JUST_POS, VAR_JUST_NEG, VAR_PTR_ADOPT, VAR_RETX_CNT, VAR_DUP_CNT, VAR_ICV_FAIL_CNT, VAR_CREATE_WAIT_CNT, VAR_MIRROR_LOST_CNT, VAR_CKPT_LATE_CNT, VAR_CREATE_CONFLICT_CNT, VAR_FENCE_VIOL_CNT, VAR_SUSPEND_CNT, VAR_TAKEOVER_CNT, VAR_REPLAY_CNT, ASC_STAT, ASC_ID_FP, ASC_OP_FP, ASC_CTRL, ASC_MIN_VER, ASC_SESSION, ASC_STAGE_STAT, ASC_AUTH_FAIL_CNT, ASC_REPLAY_CNT, ASC_UNSEALED_REJECT_CNT, ASC_PRIV_REJECT_CNT, ASC_SG_REJECT_CNT, ASC_IMAGE_REJECT_CNT, ASC_SESSION_OPEN_CNT, ASC_SEAL_CNT, HST_RING_BASE, HST_RING_CFG, HST_RING_AUX, HST_RING_IDX, HST_RING_MOD, HST_RING_CNT, HST_DIAG_KEY, HST_DIAG_CTRL]

/-- Part 7 of the register index (Table 21.5). -/
def regIndex7 : List Reg :=
  [HST_DIAG_STAT, HST_DIAG_POS, HST_DIAG_LOC, HST_DIAG_DATA, HST_PCIE_STAT, HST_JOURNAL_STAT, HST_PUNT_MAP, HST_BAD_ACCESS_CNT, HST_DB_ERR_CNT, HST_EVT_DROP_CNT, HST_REPLAY_CNT, HST_FLR_CNT, HST_TX_LOST_CNT, FLT_SRC_CFG, FLT_SRC_STAT, FLT_CTRL, FLT_PIN_CTRL, FLT_FENCE_STAT, FLT_QTR_STAT, FLT_BB_CFG, FLT_BB_STAT, FLT_FENCE_VIOL, FLT_UNACC_FENCE, FLT_TAKEOVER_CNT, FLT_XP_DISAGREE_CNT, FLT_SPARE_CNT, FLT_BB_LOST_CNT, PWR_READY, PWR_REST_CFG, PWR_UNIT_STAT, PWR_AGE_CFG, PWR_AVS, PWR_LIFE, PWR_HOURS, PWR_ISLAND_W, PWR_MON, QTR_SLEEP_CTRL, PWR_WAKE_CNT, PWR_REST_DEFER_CNT, PWR_REPLAN_CNT]

/-- Part 8 of the register index (Table 21.5). -/
def regIndex8 : List Reg :=
  [PWR_MEASURE_CNT, HKS_STAT, HKS_RUN, HKS_ROM_ID, HKS_PATCH, HKS_MATCH, HKS_TRAP_CNT, HKS_ROUTINE_CNT, HKS_ABANDON_CNT, HKS_ECC_FIX_CNT, HKS_PATCH_LOAD_CNT, CNT_CYC, CNT_CTRL, CNT_SEL, CNT_VAL, GLB_ID, GLB_CAPS, GLB_SERIAL, GLB_MAP_VER, GLB_SCRATCH]

/-- Every register of the manual (R499, Table 21.5). -/
def regIndex : List Reg :=
  regIndex0 ++ regIndex1 ++ regIndex2 ++ regIndex3 ++ regIndex4 ++ regIndex5 ++ regIndex6 ++ regIndex7 ++ regIndex8

end Sys2Proof.Machine
end

