-- ==== Sys2Proof/Machine/State.lean ====
section
/-! DEFINITION. The state of the block as plain data: the registers, the queues and tables of every chapter, the queue of
waiting commands, and the state after a full device reset. -/

namespace Sys2Proof.Machine

/-- Why the block stops. No command of the manual stops the device, so the one fault marks a command that names a part
the device does not have. -/
inductive Fault where
  /-- Raised by a meaning whose command names a port, quarter, cluster, channel, lane, ring, pin, core or other unit
  outside the ranges of the manual: no such event exists. Safe: the model stops where the hardware has nothing to do. -/
  | noSuchUnit
deriving DecidableEq, Repr

/-- Why a command has no meaning here. -/
inductive Refusal where
  /-- Raised by an arm of exec for a row without a meaning, by its name in the table. Safe: the model stops. -/
  | notModelled (mnemonic : String)
deriving DecidableEq, Repr

/-- An entry of the EVT ring (R422) before it is given its place: type, source, time and the 16 bytes of DATA. -/
structure Event where
  typ : Nat
  source : Nat
  time : Stamp
  data : List Byte
deriving DecidableEq, Repr

/-- A completion (Table 16.3): the CMD ring 0 to 3, the command's CSEQ, the result, status and detail. -/
structure Completion where
  ring : Nat
  cseq : Nat
  result : Nat
  status : Nat
  detail : Nat
  replayed : Bool
  resultObj : Bool
deriving DecidableEq, Repr

/-- An entry of the command journal in retention SRAM (R414, R420): the ring that carried it, its index on the ring,
whether it is a PKT_TX descriptor, the command sequence number, opcode, sealing, session, verdict (0 authentic,
else the reason of Table 16.4), the staged object it names, whether it is acknowledged by the partner, passed by
the consumer index, running, done or waiting for replay, its 64 bytes, what the signature and certificate checks of an ASC_SESSION_OPEN
found (R386), and the status, DETAIL and RESULT of a command that took effect at its acceptance (R384, R387). -/
structure JEntry where
  ring : Nat
  index : Nat
  tx : Bool
  direct : Bool
  cseq : Nat
  opcode : Nat
  sealed : Bool
  session : Nat
  verdict : Nat
  object : Option Nat
  acked : Bool
  passed : Bool
  running : Bool
  done : Bool
  replay : Bool
  entry : List Byte
  sigOk : Bool
  certOk : Bool
  outcome : Option (Nat × Nat × Nat)
deriving DecidableEq, Repr

/-- A command that has begun and whose completion waits for a later step of the device: its header and what it waits for. -/
structure Waiting where
  ring : Nat
  cseq : Nat
  opcode : Nat
  sealed : Bool
  session : Nat
  replayed : Bool
  result : Nat
  detail : Nat
  key : Nat
deriving DecidableEq, Repr

/-- Work returned on the EXC ring (Table 16.8): a frame or a command with its reason of Table 1.2. -/
structure Returned where
  command : Bool
  reason : Nat
  port : Nat
  queue : Nat
  time : Stamp
  cseq : Nat
  bytes : List Byte
deriving DecidableEq, Repr

/-- A PKT_TX descriptor in flight, in ring order, until its TXC entry is written (R419): its index, its mode, whether
the egress timestamp is asked for, its fields, and its outcome (none while open, else the STATUS of Table 16.6 with the time). -/
structure TxSlot where
  ring : Nat
  index : Nat
  direct : Bool
  tsReq : Bool
  launch : Option Stamp
  port : Nat
  queue : Nat
  bytes : List Byte
  handed : Bool
  outcome : Option (Nat × Stamp)
deriving DecidableEq, Repr

/-- A message bound for the TLM ring: its bytes and whether it is a sealed envelope. -/
structure TlmMsg where
  sealed : Bool
  bytes : List Byte
deriving DecidableEq, Repr

/-- The host side of the block: the command journal, the held completions, the rings' queues, what the device has
written to host memory, the interrupt state, the answer to the last BAR0 read, and for each ring the tick of its first entry since its last
message (chapter 16). -/
structure HostSide where
  journal : List JEntry
  waiting : List Waiting
  completions : List Completion
  entries : Store (List Byte)
  slots : Store (List Byte)
  buffers : Store (List Byte)
  ciWritten : Store Nat
  armed : List Nat
  since : Store Nat
  vectorMask : List Nat
  vectorPending : List Nat
  messages : Store Nat
  evtFifo : List Event
  evtDropped : Nat
  exc : List Returned
  tx : List TxSlot
  tlm : List TlmMsg
  cplRoom : Store Nat
  latch : Store Nat
  diagPending : Option (Nat × Nat × List Byte)
  lostTx : List (Nat × Nat)
  answer : Nat
  sinceAt : Store Nat
deriving DecidableEq, Repr

/-- A session between Ascor and a controller (R385 to R387), with the tick of its last sealed command. -/
structure Session where
  opened : Bool
  delegate : Bool
  priv : Nat
  ident : Nat
  lastCseq : Option Nat
  lastWrap : Option Nat
  receipts : List (List Byte)
  keyIndex : Nat
  used : Nat
deriving DecidableEq, Repr

/-- An object of the staging store (R383) with its SHA-384 digest. -/
structure StagedObj where
  bytes : List Byte
  digest : Nat
deriving DecidableEq, Repr

/-- A MACsec secure association (R50, R395): the key itself never leaves Ascor and the port, so only its number in the
order of drawn values stands here. -/
structure MacsecSa where
  sci : Nat
  pn : Nat
  ssci : Nat
  inUse : Bool
  keyIndex : Nat
deriving DecidableEq, Repr

/-- Ascor: operator slots, challenge with the tick it was drawn at, sessions, staging store, key generations, seal epochs, MACsec associations
and the tick at which the telemetry epoch began, none where a new one is owed (R401) (chapter 15). -/
structure AscorSide where
  opKeys : List Nat
  challenge : Option (List Byte × Nat)
  sessions : Store Session
  staged : Store StagedObj
  flowKeyA : Nat
  flowKeyB : Nat
  tlmEpoch : Nat
  tlmCounter : Nat
  tlmKey : Nat
  bbEpoch : Nat
  bbEpochReady : Bool
  macsec : Store MacsecSa
  tlmAt : Option Nat
deriving DecidableEq, Repr

/-- A black-box entry (Table 17.7) without its CHK, which is computed when the entry is read. -/
structure BbEntry where
  time : Stamp
  source : Nat
  kind : Nat
  flags : Nat
  cls : Nat
  unit : Nat
  seq : Nat
  detail : Nat
  value : Nat
deriving DecidableEq, Repr

/-- One black-box buffer: its ring of entries, oldest first, its write index, the freeze cause of its trailer, the epoch
it was sealed under, and whether the island A engine still has to seal it. -/
structure BbBuffer where
  entries : List BbEntry
  written : Nat
  cause : Nat
  epoch : Nat
  sealDue : Bool
deriving DecidableEq, Repr

/-- A fault injection that waits for its tick (R444). -/
structure Injection where
  kind : Nat
  unit : Nat
  tick : Option Stamp
deriving DecidableEq, Repr

/-- The fault block beside its registers (chapter 17): the severity of each pending occurrence, the two black-box
buffers, the entries left before a freeze closes, the armed injections, the SMBus reset arm, the vote windows, spare
banks, the quarters that a takeover brings in, the bytes that the last SMBus block read returned, the sources whose reactions are still
owed within the present step, with their severity, the ticks at which the attention pulse ends, the freeze that collects began and the SMBus
reset was armed, and the MACsec failures of the last millisecond by port with their ticks (Table 21.4). -/
structure FaultSide where
  pending : Store Nat
  bbA : BbBuffer
  bbB : BbBuffer
  collecting : Option Nat
  injections : List Injection
  resetArmed : Bool
  inverted : List Nat
  disagree : List (Nat × Nat)
  spareUsed : List Nat
  spareCopy : List Nat
  incoming : List Nat
  attnPulse : Bool
  smbus : List Byte
  due : List (Nat × Nat)
  attnUntil : Nat
  freezeAt : Nat
  armedAt : Nat
  macFails : List (Nat × Nat)
deriving DecidableEq, Repr

/-- A time pin beside its registers (R306 to R311): TIME in ns of the next pulse it owes, whether a pulse is in
progress, the tick of its last captured edge, and the tick at which the pulse started. -/
structure PinSide where
  next : Option Nat
  pulsing : Bool
  lastEdge : Option Nat
  startedAt : Nat
deriving DecidableEq, Repr

/-- The clock counter and its servo (chapter 12): SEC, NS and FRAC of R293, the temporary increment, the INCR values of
the session's last 16 TIME_ADJ commands (newest first), the last INCR that TIME_ADJ set, whether the present tick is
that of a step, whether a 1PPS pulse is in progress, the pins, the TIME ticks since reset, the tick from which the servo watchdog counts, and the tick at
which the last 1PPS pulse started. -/
structure TimeSide where
  sec : Nat
  ns : Nat
  frac : Nat
  tempIncr : Nat
  history : List Nat
  lastIncr : Nat
  stepTick : Bool
  ppsPulse : Bool
  pins : Store PinSide
  ticks : Nat
  watch : Nat
  ppsAt : Nat
deriving DecidableEq, Repr

/-- Rails, clocks, resets, rest and ageing beside their registers (chapters 2, 18 and 22): AON on the on-die oscillator, the reference
present, the PLLs out of lock (0 A, 1 X, 2 C, 3 M), the rails out of range (0 VDD_CORE, 1 VDD_XP, 2 VDD_AON and then the others of
Table 22.1 in its order from AVDD_SER), whether VDD_AON has been lost since the last full reset, whether island C and the bulk islands
are out of reset with their supply, whether TEMP_CRIT holds the core reset, the units in reset, the set point in mV that each adaptive
rail steps to, the rails whose AVSBus transaction failed, whether a re-plan runs, the channels it retrains and those for which it
asked a bin change, the eye margin in ps last read for each channel, the ticks of each rail's last set-point step and of its last failed
AVSBus transaction, the tick at which each cluster or channel was last busy, that of the last periodic or start-up measurement, and that
from which the operating hours count. -/
structure PowerSide where
  aonOscillator : Bool
  refPresent : Bool
  unlocked : List Nat
  railsOut : List Nat
  aonLost : Bool
  coreUp : Bool
  hot : Bool
  inReset : List Nat
  targets : Store Nat
  avsFailed : List Nat
  planRunning : Bool
  plan : List Nat
  planBins : List Nat
  eyePs : Store Nat
  steppedAt : Store Nat
  avsAt : Store Nat
  busyAt : Store Nat
  ageAt : Option Nat
  hourAt : Nat
deriving DecidableEq, Repr

/-- Rule counters (R487): per quarter and rule the frames and bytes, the device's accumulator, and the express rule
counters; and the programmable counters, by 8 × block + number, whose level was at or above its threshold (R485). -/
structure CounterSide where
  ruleFrames : Store Nat
  ruleBytes : Store Nat
  accFrames : Store Nat
  accBytes : Store Nat
  xprFrames : Store Nat
  xprBytes : Store Nat
  above : List Nat
deriving DecidableEq, Repr

/-- The sending side of a Varing lane (R348 to R350, R353): the bytes in its lane FIFO, the payload bytes that the frame under way still
takes, the bytes of the container stream taken so far modulo 512, the JC, MFAS and PTR of that frame with its 16-byte header, the overhead
bytes of its multiframe, the SEQs of containers queued on the lane again, and the last container given to it in plain, without its ICV. -/
structure LaneTx where
  fifo : Nat
  room : Nat
  phase : Nat
  jc : Nat
  mfas : Nat
  ptr : Nat
  header : List Byte
  overhead : List Byte
  queue : List Nat
  line : List Byte
deriving DecidableEq, Repr

/-- A Varing lane beside VAR_LANE_k (R345, R346, R351, R356, R357): the place of its last header in bytes of the lane, fitting
headers in PRESYNC, misses in SYNC, whether it is in multiframe alignment with its run of fitting and of unexpected MFAS values, the
expected pointer and the candidate with its run, headers since a pointer was in order, runs of headers with AIS 1, AIS 0, RDI 1 and
RDI 0, the defects present by code, the good windows of DEG, the tick since which it is free of defects, the
overhead bytes collected, the TIME in ns at which the header of MFAS 0 came, T_TX and arrival of the last complete multiframe, the MFAS
expected next, the LANE field of the last header, whether payload is taken from the frame under way, and its sending side. -/
structure Lane where
  pos : Nat
  good : Nat
  bad : Nat
  aligned : Bool
  mfRun : Nat
  mfMiss : Nat
  expect : Option Nat
  cand : Option (Nat × Nat)
  ptrMiss : Nat
  ais1 : Nat
  ais0 : Nat
  rdi1 : Nat
  rdi0 : Nat
  defects : List Nat
  degGood : Nat
  freeSince : Nat
  overhead : List Byte
  mfStart : Nat
  echo : Option (Nat × Nat)
  mfNext : Nat
  sender : Nat
  taken : Bool
  tx : LaneTx
deriving DecidableEq, Repr

/-- A container in the replay store (R353, R354): SEQ, its messages, its lane, the tick at which it was last sent, whether it is
sent on two lanes, its key epoch, whether the loss of its lane makes its retransmission due, and whether it was sent again. -/
structure SentContainer where
  seq : Nat
  messages : List (List Byte)
  lane : Nat
  sentAt : Nat
  dup : Bool
  epoch : Nat
  due : Bool
  again : Bool
deriving DecidableEq, Repr

/-- An entry of the partner journal (R362): ring, index, command sequence number, verdict and the 64-byte entry. -/
structure PartnerEntry where
  ring : Nat
  index : Nat
  cseq : Nat
  verdict : Nat
  entry : List Byte
deriving DecidableEq, Repr

/-- The Varing pair beside its registers (chapter 14): whether fail-silent cessation holds, the mirror messages that wait for
containers with their class in the order generated, the containers of the apply queue with their messages, the containers accepted
into it so far and those wholly applied; the lanes; the next SEQ of data and of fill containers, the highest SEQ acknowledged, the
credit beyond it, the lane whose turn it is, the replay store; the next SEQ expected with the containers that came early; the partner
journal; key numbers and epochs in either direction; witness counts and key numbers; the heartbeat count, ticks of the last
heartbeat and witness frame sent and accepted, of the last sign of the partner and of each domain's last health kick; the partner's
state, the keys still to be synchronised and how many there were; the ticks of the latest ICV failures; and for each entry of the waiting
CKPT messages the tick of its first count (R363). -/
structure PairSide where
  ceased : Bool
  out : List (Nat × List Byte)
  applyQueue : List (List (List Byte))
  received : Nat
  applied : Nat
  lanes : Store Lane
  nextSeq : Nat
  fillSeq : Nat
  acked : Nat
  credit : Nat
  turn : Nat
  sent : List SentContainer
  rxNext : Nat
  early : Store (List (List Byte))
  journal : List PartnerEntry
  sendKey : Nat
  sendEpoch : Nat
  recvKey : Nat
  recvEpoch : Nat
  witSendKey : Nat
  witRecvKey : Nat
  witSendSeq : Nat
  witRecvSeq : Nat
  hbSeq : Nat
  hbSent : Nat
  hbHeard : Nat
  witSent : Nat
  witHeard : Nat
  heard : Nat
  kicks : Store Nat
  partnerState : Nat
  syncKeys : List (List Byte)
  syncTotal : Nat
  icvFails : List Nat
  ckptSince : List Nat
deriving DecidableEq, Repr

/-- A frame held in the shared buffer (R238, R241): its ingress port (96 for a DIRECT frame of the host), the bytes
received, without FCS where its end is known, whether it has ended and was found bad at its end, its ingress timestamp,
priority and class, the cells it holds on die by where they are charged (arrival account,
pool 0 for the arrival, pool 1, headroom, PFC account), the number of linked copies, whether it takes a multicast
descriptor, the segment that holds or takes its cells with the data slot of the first of them (R252) and whether they lie in HBM, the PKT_TX slot it answers to, whether its header descriptor has
left the port, the checks of R76 still to be made at its end (quarter, reason, stated end), and the rule counters that take
its bytes at its end (quarter, counter), the flow record that takes the rest of its bytes at its end: key, bytes counted so
far, meter bucket (0 none, 1 committed, 2 excess), DEF_VID and DEF_PCP of its port as it arrived (R517), the parse reasons counted
for it (R74), and whether it has been written to a segment before (R252). -/
structure Frame where
  port : Nat
  bytes : List Byte
  ended : Bool
  bad : Bool
  stamp : Stamp
  prio : Nat
  lossless : Bool
  arrival : Nat
  pool0 : Nat
  pool1 : Nat
  headroom : Nat
  account : Nat
  refs : Nat
  multicast : Bool
  segment : Option (Nat × Nat)
  inHbm : Bool
  tx : Option (Nat × Nat)
  dispatched : Bool
  late : List (Nat × Nat × Nat)
  counting : List (Nat × Nat)
  flow : Option (List Byte × Nat × Nat)
  defVid : Nat
  defPcp : Nat
  reasons : List Nat
  spilled : Bool
deriving DecidableEq, Repr

/-- A packet descriptor (R238): the frame it names, the frame's bytes as this copy leaves the device without FCS, its
cells, its launch time, the TIME in ns at which it came to where it waits, whether its cells are drawn from the spill
reserve, whether the frame is lossless, whether it leaves by cut-through (R247), and for the host the REASON and RULE of
Table 16.7. -/
structure Copy where
  frame : Nat
  out : List Byte
  cells : Nat
  launch : Option Stamp
  since : Nat
  res : Bool
  lossless : Bool
  cutThrough : Bool
  reason : Nat
  rule : Nat
deriving DecidableEq, Repr

/-- Where a part of a queue between its head and its assembly lies: in the spill area, in the park area, or on die. -/
inductive Area where
  /-- The spill area of HBM (R249). -/
  | spill
  /-- The park area of HBM (R255). -/
  | park
  /-- On die: copies that no segment may take between segments of a parked or released queue (R248, R252, R255). -/
  | die
deriving DecidableEq, Repr

/-- A segment of a queue (R249, R250, R255): its number, its area and parity group, its copies in order (a copy whose frame lies elsewhere
keeps its descriptor on die, R252), whether its write has been acknowledged and whether parity was written. -/
structure Segment where
  number : Nat
  area : Area
  group : Nat
  copies : List Copy
  acked : Bool
  parity : Bool
deriving DecidableEq, Repr

/-- A bulk queue or PKT_RX queue (R239, R249): head, segments in write order, assembly, the segment whose read-back is
outstanding, whether it is SPILLING, whether it is parked (R59, R255: its frames are those of its segments, then a tail that waits on die for its
frames' ends), and whether its present wait for a read-back is counted (R251). -/
structure Queue where
  head : List Copy
  segs : List Segment
  asm : List Copy
  reading : Option Segment
  spilling : Bool
  parked : Bool
  stalled : Bool
deriving DecidableEq, Repr

/-- A multicast group entry (Table 10.2). -/
structure McGroup where
  ports : Nat
  host : Bool
  pruneIn : Bool
  queueValid : Bool
  queue : Nat
  hashGroups : List (Option Nat)
  ring : Nat
deriving DecidableEq, Repr

/-- The shared buffer beside its registers (chapter 10): the frames held, the queues by number (8n + t, and 768 + ring
for PKT_RX), the accounts that a PFC frame holds stopped (8 × port + priority), the multicast groups, the number of the
next segment, the parity groups whose turn is next in the spill and the park area (R250), whether an HBM fault has closed the spill area,
whether the area's being full has been raised, the segments of the park area, the frames in multicast direct read by queue
(R252), the segments read back that wait for the end of a direct read (R252), the frames taken out before their end whose bytes still
arrive and count (R108), the tick of the last XOFF frame of each account that it holds stopped (R257), and of each protected frame that
still arrives its port and the bytes of the line so far (R50). -/
structure BufferSide where
  frames : Store Frame
  nextFrame : Nat
  queues : Store Queue
  xoff : List Nat
  mcGroups : Store McGroup
  segNext : Nat
  spillTurn : Nat
  parkTurn : Nat
  spillClosed : Bool
  fullRaised : Bool
  parkSegs : Nat
  direct : List (Nat × Nat)
  freeing : List Segment
  tails : Store Frame
  xoffAt : Store Nat
  wires : Store (Nat × List Byte)
deriving DecidableEq, Repr

/-- A TCAM entry (R96): its control word, the value and mask of each 160-bit unit, and its handle (R101). -/
structure TEntry where
  ctl : Nat
  units : List (Nat × Nat)
  handle : Nat
deriving DecidableEq, Repr

/-- One step of a TCAM command (R100, R101): in a group, the entry at src is copied to dst, or an entry is written at dst, or
the entry at dst is cleared; and the ring and CSEQ of its command. -/
structure TStep where
  group : Nat
  src : Option Nat
  dst : Nat
  entry : Option TEntry
  ring : Nat
  cseq : Nat
deriving DecidableEq, Repr

/-- A frame on the line of a port, or preempted in the middle (R54, R57): whether it is express, its queue (8 for express),
its copy (for express the identity stands in the frame field), what is left of it for
the credit-based shaper in units of 2^-32 byte, the TIME of its start, whether it has been preempted before, the bytes that its earlier
fragments took, the tick at which its present fragment began, and the MACsec association and packet number it is protected with (R50). -/
structure Sending where
  express : Bool
  queue : Nat
  copy : Copy
  left : Nat
  start : Stamp
  preempted : Bool
  sent : Nat
  since : Nat
  sec : Option (Nat × Nat)
deriving DecidableEq, Repr

/-- A copy of an express frame in the crossbar (R259 to R262): the frame's identity, ingress and egress port, stream, bytes
without FCS as they leave, ingress timestamp, delivery deadline in ns of TIME, cells that have crossed to the egress end,
whether its first cell has been granted, and whether its end has arrived and was bad. -/
structure XCopy where
  ident : Nat
  ingress : Nat
  egress : Nat
  stream : Nat
  out : List Byte
  received : Nat
  stamp : Stamp
  deadline : Option Nat
  crossed : Nat
  granted : Bool
  ended : Bool
  bad : Bool
deriving DecidableEq, Repr

/-- A port beside its registers (chapters 3 and 11): whether it is enabled with the FEC, AN and LT settings in use, whether
the hold time runs, the queues still to be parked and those the park area could not hold, the round robin pointer, the
deficits and the queues not fresh, the frame on the line, the preempted bulk frame, the tick at which the pause of each stopped queue ends,
whether the preemptable MAC is held, whether the port declares its quarter quiet, the queues whose head was reported as
never fitting, the queues whose head's launch time has been reached, the state of verification (0 none, 1 waiting for a
response, 2 succeeded, 3 failed) with the tries made, what last left on the line: bytes and whether with an inverted
FCS; and the ticks at which the hold time (R56) and the present verify time (R54) began. -/
structure PortSide where
  enabled : Bool
  fec : Nat
  an : Bool
  lt : Bool
  holdTimer : Bool
  toPark : List Nat
  heldOnDie : List Nat
  rr : Nat
  deficit : Store Nat
  stale : List Nat
  sending : Option Sending
  preempted : Option Sending
  paused : Store Nat
  held : Bool
  quiet : Bool
  neverFits : List Nat
  launched : List Nat
  verify : Nat
  tries : Nat
  line : Option (List Byte × Bool)
  holdSince : Nat
  verifySince : Nat
deriving DecidableEq, Repr

/-- A gate list made pending or operational (R284): entries, base and cycle time in ns, enable, start in ns of TIME and
whether the base lay in the past. -/
structure GateList where
  entries : List Nat
  base : Nat
  cycle : Nat
  enable : Bool
  start : Nat
  past : Bool
deriving DecidableEq, Repr

/-- A stream gate instance (R277): its admin list, the pending list and the operational list. -/
structure StreamGate where
  admin : Option GateList
  pend : Option GateList
  oper : Option GateList
deriving DecidableEq, Repr

/-- An express stream (R273 to R279): its 384-bit entry, whether it is blocked, its sequence generator, its meter tokens in
units of 2^-32 byte, and its counts: frames passed at 0, refused at stage k at k. -/
structure Stream where
  entry : Nat
  blocked : Bool
  seq : Nat
  tokens : Int
  counts : List Nat
deriving DecidableEq, Repr

/-- A sequence recovery instance (R280): the latest number passed and the history of seen numbers, bit d for the number d
below the latest; and the tick at which a frame last passed. -/
structure Recovery where
  latest : Nat
  seen : Nat
  passed : Nat
deriving DecidableEq, Repr

/-- The express path beside its registers (chapters 5, 10 and 11): streams, recovery instances, stream gates, the crossbar's
copies oldest first, the next frame identity, grant and accept pointers, the copy each egress is locked to, the TCAM by
group and index with its waiting steps, the rows that a parity error has struck (replica, group, row: R114), the byte classes by
window offset and value, the express rule each frame under way counts in, by identity the frames whose end has not arrived, as
received (granted: the flow meter takes their bytes at that end), and of each protected one its port and the bytes of the line so far. -/
structure ExpressSide where
  streams : Store Stream
  recovery : Store Recovery
  gates : Store StreamGate
  copies : List XCopy
  nextIdent : Nat
  gptr : Store Nat
  aptr : Store Nat
  locks : Store Nat
  tcam : Store (Store TEntry)
  steps : List TStep
  damaged : List (Nat × Nat × Nat)
  byteClass : Store Nat
  counting : Store Nat
  tails : Store XCopy
  wires : Store (Nat × List Byte)
deriving DecidableEq, Repr

/-- The egress side of all ports (chapters 3 and 11): the ports, the operational gate lists by port and the pending ones,
the policer tokens by 8 × port + priority in units of 2^-32 byte, whether ingress acceptance goes on (R31), and the tick from which the
next update of shapers, policers and meters counts (R267). -/
structure EgressSide where
  ports : Store PortSide
  gcl : Store GateList
  gclPend : Store GateList
  ipol : Store Int
  accepting : Bool
  shapedAt : Nat
deriving DecidableEq, Repr

/-- A header of a parse result (R66, R72): its kind, offset and length, and the bound it was judged against, none while the
frame's end is not known. -/
structure PHdr where
  kind : Nat
  off : Nat
  len : Nat
  bound : Option Nat
deriving DecidableEq, Repr

/-- A parse result (R66): the headers in order, the outcome (0 OK, 1 PARSE_LIMIT, 2 MALFORMED) and its reason code, whether the
frame is forwarded as layer 2 only (R74), the three UDFs (none where no slot wrote it), and the checks of R76 that wait for
the frame's end: reason and the end the header states. -/
structure Parse where
  hdrs : List PHdr
  outcome : Nat
  reason : Nat
  l2only : Bool
  udf : List (Option (List Byte))
  late : List (Nat × Nat)
deriving DecidableEq, Repr

/-- A parse graph (R67 to R69): 128-bit state entries, 96-bit transition rows and its version. -/
structure Graph where
  states : List Nat
  rows : List Nat
  version : Nat
deriving DecidableEq, Repr

/-- The merged TCAM action of a pass (R108): verdict, the 256-bit action fields with their valid bits, and the rule counters
that counted. -/
structure Merged where
  verdict : Nat
  recirc : Bool
  editList : Nat
  hashGroup : Option Nat
  egress : Option Nat
  queue : Option Nat
  inspect : Bool
  patImage : Nat
  patProg : Nat
  patLen : Nat
  patOvf : Bool
  profile : Nat
  rule : Nat
deriving DecidableEq, Repr

/-- An edit of Table 4.5. -/
inductive Edit where
  | tunnelDecap
  | mplsPop (etherType : Nat)
  | vlanPop
  | setDa (a : Nat)
  | setSa (a : Nat)
  | setVid (v : Nat)
  | setPcpDei (v : Nat)
  | setDscp (v : Nat)
  | setEcn (v : Nat)
  | decTtl
  | mplsSwap (label : Nat)
  | vlanPush (tpid tci : Nat)
  | mplsPush (label : Nat)
  | tunnelEncap (template : Nat)
deriving DecidableEq, Repr

/-- An encapsulation template (Table 4.5): its bytes, and the offsets of the IPv4 header, IPv6 header and UDP header whose length,
source port and checksum fields the device fills in. -/
structure Template where
  bytes : List Byte
  ip4 : Option Nat
  ip6 : Option Nat
  udp : Option Nat
deriving DecidableEq, Repr

/-- Where a frame goes (R134): a port queue, a multicast group, or the host with a REASON. -/
inductive Dest where
  | port (n : Nat)
  | group (g : Nat)
  | host (reason : Nat)
deriving DecidableEq, Repr

/-- A descriptor of the bulk path (chapters 4 to 8): its frame, ingress port, the quarter that serves it, its epoch bit and
whether it is in its second pass, its header bytes as edited so far and the offset in the received frame at which what follows
them starts, the header area as its last pass parsed it, before the edits of that pass, the parse result of that pass, its merged action, its destination, the queue named for it, its lane, flow key
block, VRF, the length limit of its payload, its layer-4 header and payload length as received, how far its layer-3 and layer-4 headers begin
before the end of its header bytes (0: none), the same for the outermost layer-3 header that the edits left, whether DEC_TTL was applied, the automaton verdict, and whether it may leave the release stage. -/
structure Desc where
  frame : Nat
  port : Nat
  quarter : Nat
  epoch : Bool
  second : Bool
  header : List Byte
  rest : Nat
  plain : List Byte
  parse : Parse
  act : Merged
  dest : Dest
  queue : Option Nat
  lane : Nat
  key : List Byte
  vrf : Nat
  limit : Option Nat
  l4 : List Byte
  l4Len : Nat
  l3Tail : Nat
  l4Tail : Nat
  ipTail : Nat
  ttlDone : Bool
  verdict : Nat
  ready : Bool
deriving DecidableEq, Repr

/-- A VLAN entry (R130): forwarding domain, VRF, router-address index, routing enable and flood group. -/
structure VlanEntry where
  fid : Nat
  vrf : Nat
  rmac : Nat
  routing : Bool
  flood : Nat
deriving DecidableEq, Repr

/-- A slot of a cuckoo table (R125, R126). -/
structure Slot where
  fp : Nat
  key : List Byte
  data : List Byte
  inProgress : Bool
deriving DecidableEq, Repr

/-- A cuckoo table (R126, R127): its slots by 8 × bucket + slot, and t.flip and t.victim. -/
structure CTable where
  slots : Store Slot
  flip : Nat
  victim : Nat
deriving DecidableEq, Repr

/-- A hash group (R82): fields, seed, size, symmetric and failover bits. -/
structure HashGroup where
  fields : Nat
  seed : Nat
  size : Nat
  symmetric : Bool
  failover : Bool
deriving DecidableEq, Repr

/-- A learn notice (R139): kind 0 NEW, 1 MOVE, 2 REFRESH. -/
structure Notice where
  kind : Nat
  key : List Byte
  port : Nat
  time : Nat
  origin : Nat
deriving DecidableEq, Repr

/-- A quarter beside its registers (chapters 2, 4, 5 and 6): the descriptors of wake FIFO, recirculation queue, inspection queue, the
32 contexts of its automaton engines (R116) and release stage in order, its TCAM by group and index with the shadow copy of each row
(R106) and the steps that wait, its learned address table, the TIME in ps at which its burst of
learn notices is whole again (R139), the notices at its ring stop, and the tick of its last age sweep (R143). -/
structure Quarter where
  wake : List Nat
  recirc : List Desc
  inspect : List Desc
  engines : List Desc
  release : List Desc
  tcam : Store (Store TEntry)
  shadow : Store (Store TEntry)
  steps : List TStep
  learned : CTable
  tokens : Nat
  notices : List Notice
  agedAt : Nat
deriving DecidableEq, Repr

/-- An automaton image (R118, R119): its words and the start state of each program. -/
structure Image where
  words : List Nat
  starts : List Nat
deriving DecidableEq, Repr

/-- A route instance (R130): its length filters and whether its no-route action is to host. -/
structure RouteInst where
  filter4 : Nat
  filter6 : Nat
  toHost : Bool
deriving DecidableEq, Repr

/-- Classification and forwarding beside the registers (chapters 4, 5 and 6): the quarters, the parse graph of each bank and
the bank of each epoch bit, action entries, automaton images, hash groups with their active and shadow indirection tables,
edit lists and templates, the identical tables (0 exact-match, 1 IPv4 and 2 IPv6 prefixes), route instances, the VRF map of
each epoch bit, VLAN entries, next hops and router addresses. -/
structure ClassSide where
  quarters : Store Quarter
  graphA : Option Graph
  graphB : Option Graph
  bank0 : Bool
  bank1 : Bool
  actions : Store Nat
  images : Store Image
  groups : Store HashGroup
  indir : Store Nat
  shadow : Store Nat
  editLists : Store (List Edit)
  templates : Store Template
  exact : CTable
  pfx4 : CTable
  pfx6 : CTable
  routes : Store RouteInst
  vrf0 : Store Nat
  vrf1 : Store Nat
  vlans : Store VlanEntry
  hops : Store Nat
  macs : Store Nat
deriving DecidableEq, Repr

/-- A firkin copy of a flow record (Tables 7.5 and 7.7) with the fields of its tun record that no copy holds but an unhomed
record still owes (CREATED, NAT_POOL, LEAD): key block, home slot, STATE byte, PROFILE, translation, CHOICE, meter, totals, LAST_T
in µs modulo 2^32, the key of the linked record, VERDICT, PROG_VER, IDLE_S, CT, REF, whether a write-through is outstanding,
whether a partner acknowledgement is (R195), and PINNED. The gill copy shares every field but counts, meter and LAST_T (R154). -/
structure Firkin where
  key : List Byte
  slot : Option Nat
  state : Nat
  lead : Bool
  profile : Nat
  natAddr : List Byte
  natPort : Nat
  natPool : Nat
  choice : Nat
  tokC : Int
  tokE : Int
  meterT : Nat
  pkts : Nat
  bytes : Nat
  lastT : Nat
  link : Option (List Byte)
  verdict : Nat
  progVer : Nat
  idleS : Nat
  ct : List Byte
  created : Stamp
  ref : Bool
  held : Bool
  ackWait : Bool
  pinned : Bool
deriving DecidableEq, Repr

/-- A gill copy (Table 7.6) beside what it shares with its firkin copy: DELTA, meter, LAST_T and REF; a double record takes two
slots (R150). -/
structure Gill where
  key : List Byte
  double : Bool
  frames : Nat
  bytes : Nat
  tokC : Int
  tokE : Int
  meterT : Nat
  lastT : Nat
  ref : Bool
deriving DecidableEq, Repr

/-- What a pending entry waits for (R155, R156, R185, R195, R213, R171). -/
inductive Wait where
  /-- A firkin or tun fetch. -/
  | fetch
  /-- The CT field of the firkin copy. -/
  | ctData
  /-- Room in the write-through queue. -/
  | writeThrough
  /-- A holding task; owed: not yet queued (R218). -/
  | task (owed : Bool)
  /-- A partner acknowledgement. -/
  | partner
  /-- The deletion of the flow. -/
  | deletion
  /-- Room in the class-3 queue (R361). -/
  | mirror
  /-- Room in the export queue for the end records of a flow whose deletion is decided (R206). -/
  | exportRoom
deriving DecidableEq, Repr

/-- The frame that raised the holding task of a pending entry (R213, R214, R224): its number, its FLOW_PROFILE and its time. -/
structure Cause where
  frame : Nat
  profile : Nat
  time : Stamp
deriving DecidableEq, Repr

/-- A pending entry (R155): its key, its waiting descriptors in order, the tick at which its timer started, what it waits
for, whether CT data has been fetched for the frame at its head, whether that frame created the flow, and the frame that raised the
holding task it waits for. -/
structure Pend where
  key : List Byte
  queue : List Desc
  since : Nat
  waits : Wait
  ctReady : Bool
  created : Bool
  cause : Option Cause
deriving DecidableEq, Repr

/-- An entry of the write-through queue (R167): the record's key, its bytes 0 to 127 and, where a task wrote them, bytes 384 to
511. -/
structure WriteThrough where
  key : List Byte
  head : List Byte
  pdata : Option (List Byte)
deriving DecidableEq, Repr

/-- A load-balancing service (R196). -/
structure LbService where
  seed : Nat
  size : Nat
deriving DecidableEq, Repr

/-- A port held after its flow's deletion (R191): pool, address index, port and the tick at which it is freed. -/
structure HeldPort where
  pool : Nat
  addr : Nat
  port : Nat
  until_ : Nat
deriving DecidableEq, Repr

/-- An IPFIX data record in the export queue (R205, R206): its template and its bytes. -/
structure ExportRec where
  template : Nat
  bytes : List Byte
deriving DecidableEq, Repr

/-- One copy of what PROFILE_COMMIT switches (R175): profiles, OT maps (16 rules and the defaults word), services and their
indirection tables. -/
structure PolicyCopy where
  profiles : Store Nat
  otMaps : Store (List Nat)
  services : Store LbService
  indir : Store Nat
deriving DecidableEq, Repr

/-- A FLOW_REKEY that runs (R173): the old keys FKA and FKB, the keys of the tun records still placed under them in the order of their
buckets, and the key that each tun slot held when the command began. -/
structure Rekey where
  keyA : Nat
  keyB : Nat
  left : List (List Byte)
  home : Store (List Byte)
deriving DecidableEq, Repr

/-- The flow engine beside its registers (chapters 7 and 8): descriptors released to it, the gill, firkin and tun tiers with the
clock pointers of their buckets, the records whose tun insertion is owed, the pending table, the write-through queue, the dirty
records with the tick at which each became dirty, the policy copies, members, NAT pools, ports in use (1) or held (2),
bindings by pool, held ports, the sketch store by tun slot, the export queue with the tick of its first record, the IPFIX sequence
number, the TIME in ns of the last tun sweep, the records whose active export that sweep found due and those whose export was skipped,
the lateness report of R169, the flows created under a profile with STICKY (R176), the FLOW_REKEY that runs, and the ticks of the
last tun sweep (R170) and of the last template sets, none where these are owed (R206). -/
structure FlowSide where
  input : List Desc
  gill : Store Gill
  gillPtr : Store Nat
  firkin : Store Firkin
  firkinPtr : Store Nat
  tun : CTable
  homing : List (List Byte)
  pend : Store Pend
  wt : List WriteThrough
  dirty : List (List Byte × Nat)
  policy0 : PolicyCopy
  policy1 : PolicyCopy
  members : Store Nat
  pools : Store Nat
  ports : Store Nat
  bindings : Store Nat
  heldPorts : List HeldPort
  sketch : Store (List Byte)
  exports : List ExportRec
  batchStart : Nat
  ipfixSeq : Nat
  sweptAt : Nat
  due : List (List Byte)
  skipped : List (List Byte)
  lateAt : Nat
  sticky : List (List Byte)
  rekey : Option Rekey
  sweepAt : Nat
  templatesAt : Option Nat
deriving DecidableEq, Repr

/-- A task descriptor (Table 9.3) with its place in the order of raise, the key of its flow's LEAD record, the key of the record or frame
it was raised for, and the containers accepted from the partner when it was raised (R365). -/
structure Task where
  kind : Nat
  prio : Nat
  pcopy : Bool
  prog : Nat
  cluster : Nat
  holds : Bool
  spilled : Bool
  ident : Nat
  seq : Nat
  slot : Option Nat
  pend : Nat
  tag : Nat
  raiseT : Nat
  edata : Nat
  lead : List Byte
  key : List Byte
  rx : Nat
deriving DecidableEq, Repr

/-- A Felric program version in a slot (R221): version, flags, bank mask and instruction words. -/
structure Prog where
  version : Nat
  flags : Nat
  banks : Nat
  words : List Nat
deriving DecidableEq, Repr

/-- A task running on a core (R223, R224, R227): its descriptor, the program version it is bound to, the next word, g0 to g15, its
REC and EVT views, the REC bytes it wrote, the timer action and notices for its commit, the cycles it has run,
the STATE of its view as loaded (R228), and the tick at which the BWAIT at its next word began to wait. -/
structure Running where
  task : Task
  prog : Prog
  pc : Nat
  regs : List Word64
  rec_ : List Byte
  evt : List Byte
  written : List Nat
  tarm : Option Word64
  notes : List Word64
  cycles : Nat
  state0 : Nat
  waitAt : Option Nat
deriving DecidableEq, Repr

/-- The Felric engine beside its registers (chapter 9): the ready lists by 8 × cluster + level with their spill sub-rings, the
running tasks by core, the programs by slot, the scratchpads by 65,536 × core + address, the shared banks by 2^18 × bank + address,
the number of tasks raised, the armed timers with their deadline in ns, and how often each cluster has been reset, which tells one open content of
its scratchpads from the next; and the map entries owed back to a cluster (entry, cluster). -/
structure FelricSide where
  ready : Store (List Task)
  spill : Store (List Task)
  running : Store Running
  progs : Store Prog
  scratch : Store Byte
  banks : Store Byte
  nextTask : Nat
  timers : List (Nat × List Byte)
  resets : Store Nat
  handBack : List (Nat × Nat)
deriving DecidableEq, Repr

/-- A queued neighbour refresh (R329): its arrival tick, rank, bank and row, and whether it is a DRFM of that row. -/
structure Neighbour where
  arrival : Nat
  rank : Nat
  bank : Nat
  row : Nat
  drfm : Bool
deriving DecidableEq, Repr

/-- A DDR5 channel beside its registers (R328 to R337): the training pass that runs (0 none, 1 MEM_INIT, 2 MEM_RETRAIN, 3 bin change,
4 reintegration) and its bin, the ranks on which a step of R334 gathers data, corrections by device in this scrub period, refreshes
owed by bank, queued neighbour refreshes, the request issued last, and the tick of the last refresh due of each
bank. -/
structure Channel where
  pass : Nat
  bin : Nat
  stepping : List Nat
  marks : Store Nat
  owed : Store Nat
  neighbours : List Neighbour
  issued : Option MemReq
  refreshed : Store Nat
deriving DecidableEq, Repr

/-- The memories beside their registers (chapter 13): the channels; the ticks of recent rebuilds that drew on each pseudo-channel, the
request issued last by each; the keys of tun records lost with each channel (R28); whether MEM_INIT has been latched since the full reset
(R318); and the catch-up map: the 1 MiB regions of a mirrored channel in training that writes have marked (R335). -/
structure MemSide where
  channels : Store Channel
  rebuilds : Store (List Nat)
  issued : Store MemReq
  lost : List (Nat × List Byte)
  latched : Bool
  catchUp : List (Nat × Nat)
deriving DecidableEq, Repr

/-- A mark of the mark log (R475): the port and the address of the entry, and the source slot of its move. -/
structure HksMark where
  port : Nat
  addr : Nat
  source : Nat
deriving DecidableEq, Repr

/-- A routine of the housekeeping sequencer (R473 to R478): its number and level, the address of its next word, u1 to u31, the flags Z,
C and N, LC, the call stack (newest first), its outstanding reads (first RW register of each, oldest first), its marks, its cancel
flag, whether the last response carried IN_PROGRESS, whether the last insertion attempt succeeded, whether its last word was a trap
point that no later request has passed, whether it has fetched from patch RAM, and the ticks it has run in this turn and in all. -/
structure HksRun where
  routine : Nat
  level : Nat
  pc : Nat
  regs : List Word64
  z : Bool
  c : Bool
  n : Bool
  lc : Nat
  stack : List Nat
  reads : List Nat
  marks : List HksMark
  cancel : Bool
  inProgress : Bool
  inserted : Bool
  trapPoint : Bool
  patched : Bool
  turn : Nat
  ran : Nat
deriving DecidableEq, Repr

/-- The housekeeping sequencer beside its registers (chapter 19): the running routine, the trap frames, newest first, the routines that
wait in order of arrival, the words of patch RAM, and the 64 bytes last written through each port at each address. -/
structure HksSide where
  running : Option HksRun
  frames : List HksRun
  waiting : List HksRun
  patch : Store Nat
  written : Store (List Byte)
deriving DecidableEq, Repr

/-- The state of the block. -/
structure State where
  /-- The set-up registers that differ from their reset value, by BAR0 offset. -/
  regs : Store Word64
  /-- The model's own counter of free values drawn so far; no part of the device. -/
  free : Nat
  /-- The host side: journal, rings, interrupts. -/
  host : HostSide
  /-- Ascor: sessions, staging, keys. -/
  ascor : AscorSide
  /-- The fault block and the black box. -/
  faults : FaultSide
  /-- The clock. -/
  time : TimeSide
  /-- Rails, clocks, rest and ageing. -/
  power : PowerSide
  /-- Rule counters. -/
  counters : CounterSide
  /-- The Varing pair. -/
  pair : PairSide
  /-- The shared buffer. -/
  buf : BufferSide
  /-- The express path. -/
  xpr : ExpressSide
  /-- The ports and their egress schedulers. -/
  egr : EgressSide
  /-- Classification and forwarding. -/
  cls : ClassSide
  /-- The flow engine. -/
  flow : FlowSide
  /-- The Felric engine. -/
  fel : FelricSide
  /-- The memory controllers. -/
  mem : MemSide
  /-- The housekeeping sequencer. -/
  hks : HksSide
  /-- The commands that wait, first in, first out. -/
  pending : List Instr
deriving DecidableEq, Repr

/-- The host side: journal, rings, interrupts, right after a full device reset. -/
def HostSide.reset : HostSide :=
  ⟨[], [], [], [], [], [], [], [], [], List.range 64, [], [], [], 0, [], [], [], [], [], none, [], 0, []⟩

/-- Ascor: sessions, staging, keys, right after a full device reset. -/
def AscorSide.reset : AscorSide :=
  ⟨[], none, [], [], 0, 0, 0, 0, 0, 0, false, [], none⟩

/-- The fault block and the black box, right after a full device reset. -/
def FaultSide.reset : FaultSide :=
  ⟨[], ⟨[], 0, 0, 0, false⟩, ⟨[], 0, 0, 0, false⟩, none, [], false, [], [], [], [], [], false, [], [], 0, 0, 0, []⟩

/-- The clock, right after a full device reset. -/
def TimeSide.reset : TimeSide :=
  ⟨0, 0, 0, 0, [], 2 ^ 32, false, false, [], 0, 0, 0⟩

/-- Rails, clocks, rest and ageing, right after a full device reset. -/
def PowerSide.reset : PowerSide :=
  ⟨true, true, [], [], false, true, false, [], [], [], false, [], [], [], [], [], [], none, 0⟩

/-- Rule counters, right after a full device reset. -/
def CounterSide.reset : CounterSide :=
  ⟨[], [], [], [], [], [], []⟩

/-- The Varing pair, right after a full device reset. -/
def PairSide.reset : PairSide :=
  ⟨false, [], [], 0, 0, [], 1, 1, 0, 256, 0, [], 1, [], [], 0, 0, 0, 0, 0, 0, 0, 0, 0, 0, 0, 0, 0, 0, [], 0, [], 0, [], []⟩

/-- The shared buffer, right after a full device reset. -/
def BufferSide.reset : BufferSide :=
  ⟨[], 0, [], [], [], 0, 0, 0, false, false, 0, [], [], [], [], []⟩

/-- The express path, right after a full device reset. -/
def ExpressSide.reset : ExpressSide :=
  ⟨[], [], [], [], 0, [], [], [], [], [], [], [], [], [], []⟩

/-- The ports and their egress schedulers, right after a full device reset. -/
def EgressSide.reset : EgressSide :=
  ⟨[], [], [], [], true, 0⟩

/-- Classification and forwarding, right after a full device reset. -/
def ClassSide.reset : ClassSide :=
  ⟨[], none, none, false, false, [], [], [], [], [], [], [], ⟨[], 0, 0⟩, ⟨[], 0, 0⟩, ⟨[], 0, 0⟩, [], [], [], [], [], []⟩

/-- The flow engine, right after a full device reset. -/
def FlowSide.reset : FlowSide :=
  ⟨[], [], [], [], [], ⟨[], 0, 0⟩, [], [], [], [], ⟨[], [], [], []⟩, ⟨[], [], [], []⟩, [], [], [], [], [], [], [], 0, 0, 0, [], [], 0, [], none, 0, none⟩

/-- The Felric engine, right after a full device reset. -/
def FelricSide.reset : FelricSide :=
  ⟨[], [], [], [], [], [], 0, [], [], []⟩

/-- The memory controllers, right after a full device reset. -/
def MemSide.reset : MemSide :=
  ⟨[], [], [], [], false, []⟩

/-- The housekeeping sequencer, right after a full device reset. -/
def HksSide.reset : HksSide :=
  ⟨none, [], [], [], []⟩

/-- The block right after a full device reset: every register at its reset value (an unlisted register reads as its
reset value), every table and queue empty, nothing pending. -/
def State.reset : State where
  regs := []
  free := 0
  host := HostSide.reset
  ascor := AscorSide.reset
  faults := FaultSide.reset
  time := TimeSide.reset
  power := PowerSide.reset
  counters := CounterSide.reset
  pair := PairSide.reset
  buf := BufferSide.reset
  xpr := ExpressSide.reset
  egr := EgressSide.reset
  cls := ClassSide.reset
  flow := FlowSide.reset
  fel := FelricSide.reset
  mem := MemSide.reset
  hks := HksSide.reset
  pending := []

end Sys2Proof.Machine
end

