-- ==== Sys2Proof/Machine/Ops.lean ====
section
/-! DEFINITION. The shared operations over the state: registers and counters, time, free values, events, completions,
returned work and the writing of ring entries. -/

namespace Sys2Proof.Machine

/-! ### Registers -/

/-- The BAR0 offset of instance i, j, k of a register. -/
def Reg.addr (r : Reg) (i j k : Nat) : Nat := r.base + r.s1 * i + r.s2 * j + r.s3 * k

/-- Reset timeouts of Table 8.2 by slot; slot 15 holds 0 (Table 8.12). -/
def ctTimeoutReset (k : Nat) : Nat :=
  [300, 30, 30, 7200, 120, 60, 120, 10, 30, 180, 30, 30, 60, 600, 600, 0].getD k 0

/-- Reset latency targets of the DDR5 requesters in ns (Table 13.4). -/
def ddrTargetReset (p : Nat) : Nat := [200, 2000, 50000, 400, 100000, 10000, 1000000, 5000].getD p 0

/-- Reset latency targets of the HBM requesters in ns (Table 13.4). -/
def hbmTargetReset (p : Nat) : Nat := [2000, 1000, 120, 500, 120, 20000, 100000, 10000].getD p 0

/-- A run of fault sources of Table 21.3: first index, reset settings (severity, then 4 FENCE, 8 ALARM, 16 HANDOVER,
32 LOCK), CLASS and UNIT of each source. -/
def sourceRun (first cls : Nat) (cfg : List (Nat × Nat)) : List (Nat × Nat × Nat × Nat) :=
  cfg.zipIdx.map (fun e => (first + e.2, e.1.1, cls, e.1.2))

/-- The same settings for every unit of a class: unit u has its sources from first + step · u. -/
def sourceUnits (first step cls units unit0 : Nat) (cfg : List Nat) : List (Nat × Nat × Nat × Nat) :=
  (List.range units).flatMap (fun u => sourceRun (first + step * u) cls (cfg.map (fun c => (c, unit0 + u))))

/-- Table 21.3: the assigned fault sources with their reset settings, CLASS and UNIT (Table 17.1). -/
def sourceTable : List (Nat × Nat × Nat × Nat) :=
  sourceRun 0x000 0 ([51, 51, 51, 1, 35, 2, 2, 19, 3, 3, 2, 19, 19, 2, 19, 2, 2, 2, 2, 19, 1, 35, 2, 2, 3, 1,
    3, 3, 3, 3, 3, 3, 3, 3, 3, 3, 2, 2, 2, 3].map (fun c => (c, 0))) ++
  sourceUnits 0x040 1 1 96 0 [1] ++
  sourceUnits 0x0A0 8 2 5 0 [6, 6, 6, 6, 1, 2, 1, 2] ++
  sourceUnits 0x0C8 8 3 4 0 [6, 6, 6, 1, 2, 1] ++
  sourceUnits 0x0E8 4 4 3 0 [6, 1, 1, 6] ++
  sourceRun 0x0F4 4 [(19, 3), (19, 3), (2, 4), (35, 6), (2, 5), (1, 6), (1, 6), (2, 6)] ++
  sourceRun 0x100 5 ([3, 1, 1, 1, 1, 2, 1, 2, 2, 2, 2, 1, 1, 1, 0, 1].map (fun c => (c, 0))) ++
  sourceRun 0x110 5 ([1, 1, 1, 1, 1, 1, 1, 1, 2, 2, 2, 2, 2, 2, 2, 2].map (fun c => (c, 0))) ++
  sourceRun 0x120 5 ([1, 2, 1, 1, 1, 2, 0, 2].map (fun c => (c, 0))) ++
  sourceRun 0x140 6 ([3, 3, 1, 2, 2, 3, 3, 1].map (fun c => (c, 0))) ++
  sourceRun 0x148 6 ([2, 2, 2, 2, 2, 2, 2, 2, 2, 2, 2, 2, 2, 2, 2, 2].map (fun c => (c, 0))) ++
  sourceUnits 0x160 8 7 2 0 [2, 35, 2, 2, 2, 2, 1, 3] ++
  sourceUnits 0x170 6 7 8 2 [6, 2, 2, 2, 2, 2] ++
  sourceUnits 0x1A0 4 8 4 0 [1, 2, 1, 1] ++
  sourceRun 0x1B0 8 ([10, 2, 2, 2, 2, 3, 2, 2, 1, 2, 1, 2].map (fun c => (c, 4))) ++
  sourceRun 0x1C0 9 [(2, 0), (1, 0), (2, 0), (1, 0), (1, 0), (1, 0), (1, 1), (1, 2), (1, 3), (1, 4), (1, 5), (1, 6)] ++
  sourceRun 0x1D0 10 [(1, 0), (1, 0), (2, 0), (3, 0), (1, 0), (3, 0), (2, 0), (2, 0), (3, 1), (2, 1), (1, 1), (1, 1),
    (35, 2), (1, 2), (2, 2), (2, 2)]

/-- The reset settings, CLASS and UNIT of a fault source; none for an unassigned index (R427, R498). -/
def sourceInfo (i : Nat) : Option (Nat × Nat × Nat) :=
  (sourceTable.find? (fun e => e.1 == i)).map (fun e => e.2)

/-- The reset value of FLT_SRC_CFG_i (Table 17.2): the settings of Table 21.3, with ALARM reading 1 at severity 3. -/
def sourceCfgReset (i : Nat) : Nat :=
  match sourceInfo i with
  | none => 0
  | some (c, cls, unit) =>
    let c := if c % 4 = 3 then withBit c 3 true else c
    c + cls * 2 ^ 8 + unit * 2 ^ 16

/-- The reset value of instance i, j of a register, where the tables give one for each instance. -/
def Reg.resetAt (r : Reg) (i j : Nat) : Nat :=
  if r.base = PRT_STATUS.base then withBits r.reset 16 14 (i / 24)
  else if r.base = SCH_QCFG.base then withBits r.reset 23 16 (2 ^ j)
  else if r.base = FLW_CT_TMO.base then ctTimeoutReset j
  else if r.base = MEM_DDR_QOS.base then ddrTargetReset j
  else if r.base = MEM_HBM_QOS.base then hbmTargetReset j
  else if r.base = FLT_SRC_CFG.base then sourceCfgReset i
  else if r.base = QTR_SLEEP_CTRL.base then withBit r.reset 2 (i = 4)
  else r.reset

/-- The present value of a register. -/
def State.reg (s : State) (r : Reg) (i : Nat := 0) (j : Nat := 0) (k : Nat := 0) : Word64 :=
  Store.getD s.regs (r.addr i j k) (BitVec.ofNat 64 (r.resetAt i j))

/-- The state with a register set; a register at its reset value is unlisted. -/
def State.setReg (s : State) (r : Reg) (v : Word64) (i : Nat := 0) (j : Nat := 0) (k : Nat := 0) : State :=
  { s with regs := Store.put s.regs (r.addr i j k) (BitVec.ofNat 64 (r.resetAt i j)) v }

/-- The value of a register as a number. -/
def State.num (s : State) (r : Reg) (i : Nat := 0) (j : Nat := 0) (k : Nat := 0) : Nat := (s.reg r i j k).toNat

/-- The value of a field. -/
def State.get (s : State) (f : Fld) (i : Nat := 0) (j : Nat := 0) (k : Nat := 0) : Nat :=
  bitsOf (s.num f.reg i j k) f.hi f.lo

/-- Whether a one-bit field is 1. -/
def State.on (s : State) (f : Fld) (i : Nat := 0) (j : Nat := 0) (k : Nat := 0) : Bool := s.get f i j k == 1

/-- The state with a field set to the low bits of v. -/
def State.put (s : State) (f : Fld) (v : Nat) (i : Nat := 0) (j : Nat := 0) (k : Nat := 0) : State :=
  s.setReg f.reg (BitVec.ofNat 64 (withBits (s.num f.reg i j k) f.hi f.lo v)) i j k

/-- The state with a one-bit field set from a condition. -/
def State.flag (s : State) (f : Fld) (b : Bool) (i : Nat := 0) (j : Nat := 0) (k : Nat := 0) : State :=
  s.put f (ofBool b) i j k

/-- A counter raised by n, modulo 2^64 (R10). -/
def State.bumpBy (s : State) (n : Nat) (r : Reg) (i : Nat := 0) (j : Nat := 0) (k : Nat := 0) : State :=
  s.setReg r (s.reg r i j k + BitVec.ofNat 64 n) i j k

/-- A counter raised by one. -/
def State.bump (s : State) (r : Reg) (i : Nat := 0) (j : Nat := 0) (k : Nat := 0) : State := s.bumpBy 1 r i j k

/-- A field raised by one, modulo its width. -/
def State.inc (s : State) (f : Fld) (i : Nat := 0) (j : Nat := 0) (k : Nat := 0) : State :=
  s.put f (s.get f i j k + 1) i j k

/-- A field lowered by one, held at zero. -/
def State.dec (s : State) (f : Fld) (i : Nat := 0) (j : Nat := 0) (k : Nat := 0) : State :=
  s.put f (s.get f i j k - 1) i j k

/-! ### Time and free values -/

/-- The value read as TIME (R293). -/
def State.now (s : State) : Stamp := ⟨s.time.sec, s.time.ns⟩

/-- Ticks of the TIME clock since the full device reset, each nominally 1 ns: what durations are counted in, so that a step of TIME
(R297) moves none of them. -/
def State.clock (s : State) : Nat := s.time.ticks

/-- TIME as a count of nanoseconds. -/
def State.nowNs (s : State) : Nat := stampNs s.now

/-- The next free value: a value the manual leaves open and the model does not fix. -/
def State.freeWord (s : State) : Word64 := Config.freeWord s.free

/-- The state after a free value has been drawn. -/
def State.drew (s : State) : State := { s with free := s.free + 1 }

/-- Two free values as one of 128 bits. -/
def State.free128 (s : State) : Nat := s.freeWord.toNat + 2 ^ 64 * s.drew.freeWord.toNat

/-- FKA and FKB drawn afresh (R393). -/
def drawFlowKeys (s : State) : State :=
  { s with ascor := { s.ascor with flowKeyA := s.free128, flowKeyB := s.drew.drew.free128 }, free := s.free + 4 }

/-! ### Programmable counters -/

/-- Counter k of block b counts an occurrence of an event (R485, R486): its selection is enabled, its mode 0, its code and
qualifier admit the event, and the block is not frozen. -/
def selAdmits (s : State) (b k code qual : Nat) : Bool :=
  s.on CNT_SEL_ENABLE b k && s.get CNT_SEL_MODE b k == 0 && s.get CNT_SEL_EVENT b k == code &&
    (s.get CNT_SEL_QUAL b k == 0xFFF || s.get CNT_SEL_QUAL b k == qual) && !s.on CNT_CTRL_FREEZE b

/-- An event of block b with its qualifier and amount, counted by the programmable counters that select it (R485). -/
def countEvent (b code qual amount : Nat) (s : State) : State :=
  (List.range 8).foldl (fun s k => if selAdmits s b k code qual then s.bumpBy amount CNT_VAL b k else s) s

/-! ### Events -/

/-- Events that wait on die at most (R423). -/
def evtFifoSize : Nat := 4096

/-- An event posted: it waits for the EVT ring, or is dropped and counted when the FIFO is full (R423). -/
def postEvent (typ source : Nat) (data : List Byte) (s : State) : State :=
  if s.host.evtFifo.length < evtFifoSize then
    { s with host := { s.host with evtFifo := s.host.evtFifo ++ [⟨typ, source, s.now, padTo 16 data⟩] } }
  else
    { s.bump HST_EVT_DROP_CNT with host := { s.host with evtDropped := s.host.evtDropped + 1 } }

/-- An event whose TIME is not the present one (a capture, a list start: Table 16.9). -/
def postEventAt (typ source : Nat) (t : Stamp) (data : List Byte) (s : State) : State :=
  if s.host.evtFifo.length < evtFifoSize then
    { s with host := { s.host with evtFifo := s.host.evtFifo ++ [⟨typ, source, t, padTo 16 data⟩] } }
  else
    { s.bump HST_EVT_DROP_CNT with host := { s.host with evtDropped := s.host.evtDropped + 1 } }

/-! ### Device-written rings (R407 to R412) -/

/-- The number of entries of a ring (R407). -/
def ringSize (s : State) (r : Nat) : Nat := 2 ^ s.get HST_RING_CFG_SIZE_LOG2 r

/-- The entries of a ring not yet consumed: PI − CI modulo 2^32 (R408). -/
def ringUsed (s : State) (r : Nat) : Nat :=
  (s.get HST_RING_IDX_PI r + 2 ^ 32 - s.get HST_RING_IDX_CI r) % 2 ^ 32

/-- Whether a ring is enabled and the device reaches it: its engine stands in island C (R36). -/
def ringOn (s : State) (r : Nat) : Bool := s.on HST_RING_CFG_EN r && s.power.coreUp

/-- Whether a device-written ring is enabled and has n entries free (R411). -/
def ringRoom (s : State) (r n : Nat) : Bool := ringOn s r && ringUsed s r + n ≤ ringSize s r

/-- The position of index i of a ring (R408). -/
def ringPos (s : State) (r i : Nat) : Nat := i % ringSize s r

/-- The phase bit of index i (R411): 1 − ((i >> SIZE_LOG2) mod 2). -/
def phaseBit (s : State) (r i : Nat) : Nat := 1 - i / ringSize s r % 2

/-- An entry with its PHASE in bit 7 of its last byte (R412). -/
def withPhase (bs : List Byte) (p : Nat) : List Byte :=
  patch bs (bs.length - 1) [BitVec.ofNat 8 (leField bs (bs.length - 1) 1 % 128 + 128 * p)]

/-- The device writes one entry at the ring's producer index, with its slot data where the ring has slots, and advances PI
(R408, R411, R412, R421). HST_RING_CNT counts the entry and the ring's count towards its next message rises (R424). -/
def ringWrite (r : Nat) (entry slot : List Byte) (s : State) : State :=
  let i := s.get HST_RING_IDX_PI r
  let p := ringPos s r i
  let s := { s with host := { s.host with
    entries := Store.set s.host.entries (key2 r p) (withPhase entry (phaseBit s r i)),
    slots := if slot.isEmpty then s.host.slots else Store.set s.host.slots (key2 r p) slot,
    since := Store.upd s.host.since r 0 (· + 1),
    sinceAt := if 0 < Store.getD s.host.since r 0 then s.host.sinceAt else Store.set s.host.sinceAt r s.clock } }
  countEvent 9 0x02 r 1 ((s.put HST_RING_IDX_PI (i + 1) r).bump HST_RING_CNT r)

/-! ### Returned work (R24) -/

/-- Work returned on the EXC ring, waiting there in order (R421). -/
def returnWork (w : Returned) (s : State) : State :=
  { s with host := { s.host with exc := s.host.exc ++ [w] } }

/-! ### The black box (R445 to R447) -/

/-- The live black-box buffer, 0 or 1. -/
def bbLive (s : State) : Nat := s.get FLT_BB_STAT_LIVE

/-- A black-box buffer. -/
def bbBuf (s : State) (b : Nat) : BbBuffer := if b = 0 then s.faults.bbA else s.faults.bbB

/-- The state with a black-box buffer replaced. -/
def setBb (s : State) (b : Nat) (x : BbBuffer) : State :=
  if b = 0 then { s with faults := { s.faults with bbA := x } } else { s with faults := { s.faults with bbB := x } }

/-- Entries of a black-box buffer (R445). -/
def bbSize : Nat := 16384

/-- A buffer with an entry recorded: a ring that keeps its last 16,384 entries, oldest first (R445). -/
def bbPush (b : BbBuffer) (e : BbEntry) : BbBuffer :=
  { b with entries := (b.entries ++ [e]).drop (b.entries.length + 1 - bbSize), written := b.written + 1 }

/-- The state with entry e recorded in the live buffer with the next number (R446). -/
def bbRecord (e : BbEntry) (s : State) : State :=
  let e := { e with time := s.now, seq := s.get FLT_BB_STAT_SEQ }
  (setBb s (bbLive s) (bbPush (bbBuf s (bbLive s)) e)).inc FLT_BB_STAT_SEQ

/-- Bit 1 + b of FLT_BB_STAT says whether buffer b is closed. -/
def bbClosed (s : State) (b : Nat) : Bool := bitOf (s.get FLT_BB_STAT_CLOSED) b

/-- Whether ALARM_N is asserted (pin low). -/
def alarmPin (s : State) : Bool := s.on FLT_PIN_CTRL_ALARM_PIN

/-- Freeze causes of a trailer beside the fault source numbers: the RESET_N pin and the SMBus freeze command (R447). -/
def causePin : Nat := 0x1000
/-- The freeze cause of the SMBus command BB_FREEZE. -/
def causeSmbus : Nat := 0x2000

/-- The freeze closes the live buffer with a freeze marker (KIND 9): the other buffer becomes live and empty, or recording
stops while the other still holds an unreleased image (R447). While SEAL_BB is 1 the island A engine has to seal it. -/
def bbClose (s : State) : State :=
  let l := bbLive s
  let s := bbRecord ⟨s.now, 0, 9, ofBool (alarmPin s) * 4 + (if (bbBuf s l).cause = causeSmbus then 8 else 0), 0, 0, 0, 0, (bbBuf s l).cause⟩ s
  let s := setBb s l { bbBuf s l with sealDue := s.on ASC_CTRL_SEAL_BB }
  let s := s.put FLT_BB_STAT_CLOSED (s.get FLT_BB_STAT_CLOSED ||| 2 ^ l)
  let s := { s with faults := { s.faults with collecting := none } }
  if bbClosed s (1 - l) then s.put FLT_BB_STAT_STOPPED 1
  else setBb (s.put FLT_BB_STAT_LIVE (1 - l)) (1 - l) ⟨[], 0, 0, 0, false⟩

/-- One black-box entry (R446): recorded in the live buffer, counted as lost while recording is stopped; while a freeze
collects, one entry fewer is left, and the last of them closes the buffer (R447). -/
def bbEntry (kind source flags cls unit detail value : Nat) (s : State) : State :=
  if s.on FLT_BB_STAT_STOPPED then s.bump FLT_BB_LOST_CNT
  else
    let s := bbRecord ⟨s.now, source, kind, flags + ofBool (alarmPin s) * 4, cls, unit, 0, detail, value⟩ s
    match s.faults.collecting with
    | none => s
    | some n =>
      if n ≤ 1 then bbClose s else { s with faults := { s.faults with collecting := some (n - 1) } }

/-- A freeze of the live buffer (R447): it collects POST_COUNT further entries; a freeze that finds a freeze collecting
starts none, and one that finds recording stopped has no live buffer. -/
def bbFreeze (cause : Nat) (s : State) : State :=
  if s.on FLT_BB_STAT_STOPPED || s.faults.collecting.isSome then s
  else
    let n := clamp 0 8192 (s.get FLT_BB_CFG_POST_COUNT)
    let s := setBb s (bbLive s) { bbBuf s (bbLive s) with cause := cause }
    if n = 0 then bbClose s else { s with faults := { s.faults with collecting := some n, freezeAt := s.clock } }

/-- A closed black-box buffer freed (R447); where recording had stopped, the freed buffer becomes live. -/
def bbRelease (b : Nat) (s : State) : State :=
  if bbClosed s b then
    let s := s.put FLT_BB_STAT_CLOSED (withBit (s.get FLT_BB_STAT_CLOSED) b false)
    let s := s.put FLT_BB_STAT_SEALED (withBit (s.get FLT_BB_STAT_SEALED) b false)
    let s := setBb s b ⟨[], 0, 0, 0, false⟩
    if s.on FLT_BB_STAT_STOPPED then (s.put FLT_BB_STAT_STOPPED 0).put FLT_BB_STAT_LIVE b else s
  else s

end Sys2Proof.Machine
end

