-- ==== Sys2Proof/Machine/Flags.lean ====
section
/-! DEFINITION. Fault sources, their reactions, the fault pins and the fencing of units (R428 to R435). -/

namespace Sys2Proof.Machine

/-! ### Names of fault sources (Table 21.3) -/

/-- HEALTH_KICK_C, HEALTH_KICK_X, HEALTH_KICK_SEC by domain 0 to 2. -/
def srcHealthKick (d : Nat) : Nat := 0x000 + d
/-- FENCE_VIOL. -/
def srcFenceViol : Nat := 0x003
/-- DEV_NO_SPARE. -/
def srcDevNoSpare : Nat := 0x004
/-- REF_LOST. -/
def srcRefLost : Nat := 0x005
/-- PLL_A, PLL_X, PLL_C and PLL_M_UNLOCK by PLL 0 to 3. -/
def srcPllUnlock (p : Nat) : Nat := 0x006 + p
/-- SUPPLY_CORE, SUPPLY_XP, SUPPLY_AON by rail 0 to 2. -/
def srcSupply (r : Nat) : Nat := 0x00A + r
/-- TEMP_HIGH. -/
def srcTempHigh : Nat := 0x00D
/-- TEMP_CRIT. -/
def srcTempCrit : Nat := 0x00E
/-- MARGIN_LOW_CORE and MARGIN_LOW_XP by rail 0, 1. -/
def srcMarginLow (r : Nat) : Nat := 0x00F + r
/-- MARGIN_AON. -/
def srcMarginAon : Nat := 0x011
/-- AVS_LINK. -/
def srcAvsLink : Nat := 0x012
/-- SPARE_EXHAUSTED. -/
def srcSpareExhausted : Nat := 0x016
/-- CORE_RESET. -/
def srcCoreReset : Nat := 0x018
/-- ARRAY_UE_a. -/
def srcArrayUe (a : Nat) : Nat := 0x01A + a
/-- PORT_n. -/
def srcPort (n : Nat) : Nat := 0x040 + n
/-- Qq_ source i: 0 PIPE_UE, 1 RESIDUE, 2 STALL, 3 WAKE_FAIL, 4 TCAM_SCRUB, 5 PAT_UE, 6 LEARN_RING, 7 TABLE_UE. -/
def srcQuarter (q i : Nat) : Nat := 0x0A0 + 8 * q + i
/-- Fc_ source i: 0 ISTORE_UE, 1 CORE_HANG, 2 DISPATCH_ACK, 3 TASK_FAULT, 4 SCRATCH_UE, 5 SPILL_FULL. -/
def srcCluster (c i : Nat) : Nat := 0x0C8 + 8 * c + i
/-- REPr_ source i: 0 DISAGREE, 1 PARITY, 2 SCRUB, 3 SELFTEST. -/
def srcReplica (r i : Nat) : Nat := 0x0E8 + 4 * r + i
/-- XP_DISAGREE2. -/
def srcXpDisagree2 : Nat := 0x0F7
/-- XP_TCAM_UE. -/
def srcXpTcamUe : Nat := 0x0F8
/-- XP_LATE. -/
def srcXpLate : Nat := 0x0F9
/-- XP_VOQ_FULL. -/
def srcXpVoqFull : Nat := 0x0FA
/-- XP_OVERSIZE_BLOCK. -/
def srcXpOversizeBlock : Nat := 0x0FB
/-- PEND_FULL, MISS_TIMEOUT, WT_STALL, WB_LATE, TUN_FULL, TUN_REHASH, UNHOMED_FULL, GILL_UE, FIRKIN_UE, MIRROR_GAP,
EXPORT_SKIP, NAT_ALLOC_FAIL, NAT_REUSE_OVF, CT_INVALID, LB_NO_MEMBER by number 1 to 15 from FUU_UE. -/
def srcFlow (i : Nat) : Nat := 0x100 + i
/-- TUN_REPAIR_k. -/
def srcTunRepair (k : Nat) : Nat := 0x110 + k
/-- TUN_LOST_k. -/
def srcTunLost (k : Nat) : Nat := 0x118 + k
/-- PROFILE_INVALID, TASK_DROP, TASK_RESTART, TIMER_FULL, PROG_DRAIN, STRICT_UNMIRRORED, SKETCH_MISS, EXPORT_SEAL by
number 0 to 7. -/
def srcTask (i : Nat) : Nat := 0x120 + i
/-- CELL_UE, DESC_UE, SPILL_FULL, SPILL_CLOSED, SPILL_DEGRADED, SPILL_LOST, MC_UE, RESERVE_CFG by number 0 to 7. -/
def srcBuffer (i : Nat) : Nat := 0x140 + i
/-- SPILL_GROUP_g. -/
def srcSpillGroup (g : Nat) : Nat := 0x148 + g
/-- HDRM_REFUSE_p. -/
def srcHdrmRefuse (p : Nat) : Nat := 0x150 + p
/-- Hs_ source i: 0 PC_FAIL, 1 PC_FAIL2, 2 UE, 3 TEMP, 4 TRAIN, 5 REINT_FAIL, 6 REBUILD, 7 STACK_FATAL. -/
def srcStack (st i : Nat) : Nat := 0x160 + 8 * st + i
/-- Dk_ source i: 0 TRAIN_FAIL, 1 UE, 2 DEV_MARKED, 3 DIMM_TEMP, 4 EYE_LOW, 5 ALONE. -/
def srcChannel (k i : Nat) : Nat := 0x170 + 6 * k + i
/-- Vl_ source i: 0 DEFECT, 1 LANE_CHK, 2 RDI_RX, 3 EYE_LOW. -/
def srcLane (l i : Nat) : Nat := 0x1A0 + 4 * l + i
/-- VAR_SUSPENDED, VAR_WITNESS_LOST, VAR_ICV_BURST, VAR_MIRROR_LOST, VAR_CKPT_LATE, VAR_TAKEOVER, VAR_SETUP_FAIL,
VAR_REPLAY_FULL, VAR_FENCE_VIOL, VAR_SYNC_STALL, VAR_KEY_ROLL, VAR_LANE_DEGRADED by number 0 to 11. -/
def srcPair (i : Nat) : Nat := 0x1B0 + i
/-- TIME_HOLDOVER, TIME_CLAMP, TIME_PAIR_OFS, TIME_TRIG_LATE, TIME_CAP_MISS, TIME_STEP by number 0 to 5. -/
def srcTime (i : Nat) : Nat := 0x1C0 + i
/-- ASC_AUTH_REJECT, ASC_IMAGE_REJECT, ASC_NO_PATCH, ASC_ENTROPY, ASC_SG_WRITE, ASC_INTERNAL, ASC_FUSE, ASC_STAGE_UE by
number 0 to 7. -/
def srcAscor (i : Nat) : Nat := 0x1D0 + i
/-- HKS_STORE_UE, HKS_ABANDON, HKS_PATCH_REJECT, HKS_ROUTINE_LATE, JOURNAL_UE, JOURNAL_FULL, BB_LOST, BB_SEAL by number
0 to 7. -/
def srcHks (i : Nat) : Nat := 0x1D8 + i

/-! ### Pins -/

/-- Whether a source with an uncleared occurrence holds ALARM_N: its ALARM bit is 1, or the occurrence was fatal (R429,
R433). -/
def holdsAlarm (s : State) (e : Nat × Nat) : Bool := s.on FLT_SRC_CFG_ALARM e.1 || e.2 == 3

/-- The fault pins follow the pending sources (R433) and the attention pulse or ATTN_SW (R432). -/
def setPins (s : State) : State :=
  let alarm := s.faults.pending.any (holdsAlarm s)
  let attn := s.faults.attnPulse || s.on FLT_PIN_CTRL_ATTN_SW
  ((s.flag FLT_PIN_CTRL_ALARM_PIN alarm).flag FLT_PIN_CTRL_ATTN_PIN attn).flag FLT_PIN_CTRL_ATTN_PULSE s.faults.attnPulse

/-- ALARM_N low at the ball: held low until AON_READY, then as the fault block drives it (R509). -/
def alarmBall (s : State) : Bool := !s.on PWR_READY_AON_READY || alarmPin s

/-- SMB_ALERT_N is asserted while a source is pending at severity 2 or 3 (R510). -/
def smbAlert (s : State) : Bool := s.faults.pending.any (fun e => 2 ≤ e.2)

/-! ### Occurrences -/

/-- The minimum severity of a port source's cause (Table 21.4). -/
def portCauseMin (detail : Nat) : Nat := if 1 ≤ detail && detail ≤ 3 then 2 else if 4 ≤ detail && detail ≤ 6 then 1 else 0

/-- The severity an occurrence is raised at: the record's, or the cause's minimum on a port source (R498). -/
def severityOf (s : State) (src detail : Nat) : Nat :=
  let sev := s.get FLT_SRC_CFG_SEVERITY src
  if 0x040 ≤ src && src < 0x0A0 then max sev (portCauseMin detail) else sev

/-- The fenceable unit of a source's unit (Table 17.4), none where the unit has no replacement. -/
def fenceUnitOf (src : Nat) : Option Nat :=
  match sourceInfo src with
  | none => none
  | some (_, cls, unit) =>
    if cls = 2 then some unit
    else if cls = 3 then some (5 + unit)
    else if cls = 7 && 2 ≤ unit then some (7 + unit)
    else if cls = 4 && unit < 3 then some (17 + unit)
    else none

/-- CLASS and UNIT of fenceable unit u (Table 17.4 against Table 17.1). -/
def unitClass (u : Nat) : Nat × Nat :=
  if u < 5 then (2, u) else if u < 9 then (3, u - 5) else if u < 17 then (7, u - 7) else (4, u - 17)

/-- Whether a fatal occurrence of a source is a fatal fault in island C (R429, Table 2.1, Table 18.2): the flow engine, the
buffer, the HBM controllers, the Varing block, Ascor and HKS, the arrays of island C and the PLLs of the bulk domains.
VAR_TAKEOVER reports the partner's failure and is no fault of this device's island C, and TUN_LOST_k that of a channel island, after which
accepted frames are still delivered (R28). DESIGN CHOICE (log entry 118): a missed kick of island C or SEC is raised by the health monitor in
island A, and outside pair states 2 to 4 it leads to no core reset. -/
def inIslandC (src : Nat) : Bool :=
  (0x100 ≤ src && src < 0x118) || (0x120 ≤ src && src < 0x170) || (0x1A0 ≤ src && src < 0x1C0 && src != 0x1B5) || (0x1D0 ≤ src && src < 0x1DC) ||
  (0x01A ≤ src && src < 0x024) || src == 0x027 || src == 0x008 || src == 0x009

/-- Whether a unit is fenced (FLT_FENCE_STAT, R434). -/
def fenced (s : State) (u : Nat) : Bool := bitOf (s.get FLT_FENCE_STAT_FENCED) u

/-- The pair state (Table 14.1). -/
def pairState (s : State) : Nat := s.get VAR_STAT_STATE

/-- The occurrence itself: COUNT and LAST_DETAIL, and at severity 1 or above PENDING, the pins, the black-box entry
(KIND 1), and on a source that was not pending the fault event (R429, R431, R446). -/
def occur (src detail value : Nat) (s : State) : State :=
  let sev := severityOf s src detail
  let (cls, unit) := match sourceInfo src with | some (_, c, u) => (c, u) | none => (0, 0)
  let s := (s.inc FLT_SRC_STAT_COUNT src).put FLT_SRC_STAT_LAST_DETAIL detail src
  if sev = 0 then s
  else
    let was := s.on FLT_SRC_STAT_PENDING src
    let s := s.put FLT_SRC_STAT_PENDING 1 src
    let s := { s with faults := { s.faults with
      pending := Store.upd s.faults.pending src sev (max sev),
      attnPulse := s.faults.attnPulse || (!was && 2 ≤ sev),
      attnUntil := if !was && 2 ≤ sev then s.clock + clamp 2 1000 (s.get FLT_PIN_CTRL_ATTN_PULSE_US) * 1000 else s.faults.attnUntil } }
    let s := bbEntry 1 src sev cls unit detail value (setPins s)
    if was then s
    else
      let fence := s.on FLT_SRC_CFG_FENCE src && (fenceUnitOf src).isSome
      let hand := s.on FLT_SRC_CFG_HANDOVER src && 2 ≤ pairState s && pairState s ≤ 4
      let react := ofBool fence + 2 * ofBool (holdsAlarm s (src, sev)) + 4 * ofBool hand + 8 * ofBool (2 ≤ sev)
      postEvent 0x0060 src
        (leBytes 1 sev ++ leBytes 1 react ++ leBytes 2 detail ++ leBytes 4 (s.get FLT_SRC_STAT_COUNT src) ++ leBytes 8 value) s

/-- A fault reported to the fault block (R429, R431): the occurrence, and where its reactions are owed (the source was not
yet pending and its severity is 1 or above), the reactions due before the step ends. -/
def raise (src detail value : Nat) (s : State) : State :=
  let was := s.on FLT_SRC_STAT_PENDING src
  let sev := severityOf s src detail
  let s := occur src detail value s
  if sev = 0 || was then s
  else if s.on FLT_SRC_CFG_FENCE src || s.on FLT_SRC_CFG_HANDOVER src || sev = 3 then
    { s with faults := { s.faults with due := s.faults.due ++ [(src, sev)] } }
  else s

/-- A fault whose DETAIL the manual states; its value is left open (R446, Table 16.9). -/
def raiseAt (src detail : Nat) (s : State) : State := raise src detail (s.freeWord.toNat % 2 ^ 48) s.drew

/-- A fault whose DETAIL and value the manual leaves open. -/
def report (src : Nat) (s : State) : State := raiseAt src (s.freeWord.toNat % 2 ^ 16) s.drew

/-- A black-box entry of an event that is no fault (R446): its DATA is left open. -/
def bbNote (kind cls unit : Nat) (s : State) : State :=
  bbEntry kind 0 0 cls unit (s.freeWord.toNat % 2 ^ 16) (s.drew.freeWord.toNat % 2 ^ 48) s.drew.drew

end Sys2Proof.Machine
end

