-- ==== Sys2Proof/Machine/Units.lean ====
section
/-! DEFINITION. Rest and wake of the units of Table 17.4: quarters 0 to 4, clusters 5 to 8, channels 9 to 16 (R454 to R458). -/

namespace Sys2Proof.Machine

/-- Unit u rests. -/
def resting (s : State) (u : Nat) : Bool := bitOf (s.get PWR_UNIT_STAT_RESTING) u

/-- Unit u is waking. -/
def waking (s : State) (u : Nat) : Bool := bitOf (s.get PWR_UNIT_STAT_WAKING) u

/-- Unit u serves: it has its supply, neither rests nor wakes, and is not fenced (R37). -/
def serves (s : State) (u : Nat) : Bool := s.power.coreUp && !resting s u && !waking s u && !fenced s u

/-- FLW_CLUSTER_STAT follows the fences and the rest of the clusters (Table 9.8). -/
def clusterStat (s : State) : State :=
  let mask := fun (p : Nat → Bool) => ((List.range 4).map (fun c => ofBool (p (5 + c)) * 2 ^ c)).sum
  (s.put FLW_CLUSTER_STAT_FENCED (mask (fenced s))).put FLW_CLUSTER_STAT_RESTING (mask (resting s))

/-- The sleep status of unit u (PWR_UNIT_STAT, QTR_SLEEP_CTRL, FLW_CLUSTER_STAT). -/
def setSleep (u : Nat) (rest wake : Bool) (s : State) : State :=
  let s := s.put PWR_UNIT_STAT_RESTING (withBit (s.get PWR_UNIT_STAT_RESTING) u rest)
  let s := s.put PWR_UNIT_STAT_WAKING (withBit (s.get PWR_UNIT_STAT_WAKING) u wake)
  if u < 5 then (s.flag QTR_SLEEP_CTRL_RESTING rest u).flag QTR_SLEEP_CTRL_WAKING wake u
  else if u < 9 then clusterStat s else s

/-- The clock at which unit u was last busy: it is empty since then (R456). -/
def busyNow (u : Nat) (s : State) : State := { s with power := { s.power with busyAt := Store.set s.power.busyAt u s.clock } }

/-- A wake request reaches unit u (R455): a resting unit starts to wake and its wake is counted; for a fenced unit it is
discarded (R458). -/
def wakeUnit (u : Nat) (s : State) : State :=
  if resting s u && !fenced s u then (busyNow u (setSleep u false true s)).bump PWR_WAKE_CNT u else s

/-- A waking unit serves again 2.0 µs after its wake request (R455). -/
def wakeDone (u : Nat) (s : State) : State := if waking s u then setSleep u false false s else s

end Sys2Proof.Machine
end

