-- ==== Sys2Proof/Machine/Buffer.lean ====
section
/-! DEFINITION. The shared buffer: cells and their charges, admission, queues and links, spill segments, parking, priority
flow control, returns and the PKT_TX outcomes of frames (R238 to R258, R419 to R421). -/

namespace Sys2Proof.Machine

/-! ### PKT_TX outcomes (R419, R420) -/

/-- The journal without its first entry that a test accepts. -/
def journalDrop (p : JEntry → Bool) : List JEntry → List JEntry
  | [] => []
  | e :: es => if p e then es else e :: journalDrop p es

/-- HST_JOURNAL_STAT follows the journal. -/
def journalStat (s : State) : State :=
  (s.put HST_JOURNAL_STAT_USED s.host.journal.length).put HST_JOURNAL_STAT_REPLAY_PENDING
    (s.host.journal.filter (fun e => e.replay)).length

/-- The PKT_TX journal entry of ring r, index i is marked done (R420). -/
def txJournalDone (r i : Nat) (s : State) : State :=
  journalStat { s with host := { s.host with
    journal := journalDrop (fun e => e.tx && e.ring == r && e.index == i) s.host.journal } }

/-- The outcome of a PKT_TX descriptor is known (R419): its TXC entry can be written in its turn. The first outcome stands. -/
def txOutcome (tx : Option (Nat × Nat)) (status : Nat) (t : Stamp) (s : State) : State :=
  match tx with
  | none => s
  | some (r, i) =>
    let set := fun (x : TxSlot) =>
      if x.ring == r && x.index == i && x.outcome.isNone then { x with outcome := some (status, t) } else x
    let s := { s with host := { s.host with tx := s.host.tx.map set } }
    if status ≤ 1 then txJournalDone r i s else s

/-! ### Frames and copies -/

/-- A queue with nothing in it. -/
def noQueue : Queue := ⟨[], [], [], none, false, false, false⟩

/-- Queue q of the shared buffer. -/
def queueOf (s : State) (q : Nat) : Queue := Store.getD s.buf.queues q noQueue

/-- The state with queue q replaced; an empty queue is unlisted. -/
def setQueue (q : Nat) (x : Queue) (s : State) : State :=
  { s with buf := { s.buf with queues := Store.put s.buf.queues q noQueue x } }

/-- Frame f of the buffer. -/
def frameOf (s : State) (f : Nat) : Option Frame := Store.get? s.buf.frames f

/-- The state with frame f replaced. -/
def setFrame (f : Nat) (x : Frame) (s : State) : State :=
  { s with buf := { s.buf with frames := Store.set s.buf.frames f x } }

/-- The state with frame f changed, where it is held. -/
def onFrame (f : Nat) (g : Frame → Frame) (s : State) : State :=
  match frameOf s f with
  | none => s
  | some x => setFrame f (g x) s

/-- Cells of 256 bytes that a frame of n bytes without FCS occupies (R238). -/
def cellCount (n : Nat) : Nat := ceilDiv n 256

/-- Whether a frame's cells lie in HBM. -/
def inHbm (s : State) (f : Nat) : Bool := match frameOf s f with | none => false | some x => x.inHbm

/-- Cells on die of a list of copies. -/
def cellsOn (s : State) (l : List Copy) : Nat := (l.map (fun c => if inHbm s c.frame then 0 else c.cells)).sum

/-- Cells of a list of copies, wherever they lie. -/
def cellsAll (l : List Copy) : Nat := (l.map (fun c => c.cells)).sum

/-- The copies of a read-back that is outstanding. -/
def readCopies (x : Queue) : List Copy := match x.reading with | none => [] | some g => g.copies

/-- The segments of a queue that stand on die. -/
def dieSegs (x : Queue) : List Segment := x.segs.filter (fun g => g.area == .die)

/-- The copies of a queue that wait on die: its head, its runs between segments and its assembly. -/
def dieCopies (x : Queue) : List Copy := x.head ++ (dieSegs x).flatMap (fun g => g.copies) ++ x.asm

/-- ondie of R243: the cells of a queue held on die as head, assembly and read-back. -/
def ondie (s : State) (x : Queue) : Nat := cellsOn s (dieCopies x) + cellsAll (readCopies x)

/-- A segment takes the frame of a copy (R252): the frame's cells lie in it. -/
def carries (s : State) (g : Segment) (c : Copy) : Bool :=
  g.area != .die && (match frameOf s c.frame with
    | none => false
    | some x => match x.segment with | none => false | some p => p.1 == g.number)

/-- The copies of a segment whose frames it takes. -/
def carried (s : State) (g : Segment) : List Copy := g.copies.filter (carries s g)

/-- The copies of a segment whose packet descriptors stay on die (R252). -/
def keptDescs (s : State) (g : Segment) : List Copy := g.copies.filter (fun c => !carries s g c)

/-- The copies of segments whose write is not yet acknowledged: their cells are still on die. -/
def unackedCopies (s : State) (x : Queue) : List Copy := (x.segs.filter (fun g => !g.acked)).flatMap (carried s)

/-- Every copy of a queue in its order: head, read-back, segments, assembly (R251). -/
def queueCopies (x : Queue) : List Copy :=
  x.head ++ readCopies x ++ x.segs.flatMap (fun g => g.copies) ++ x.asm

/-- Packet descriptors on die (R238, R250, R252): those of head, read-back and assembly of every queue, and those in the chain of segments
whose frames no segment of the queue takes. -/
def descriptorsUsed (s : State) : Nat :=
  (s.buf.queues.map (fun e =>
    e.2.head.length + (readCopies e.2).length + e.2.asm.length + (e.2.segs.map (fun g => (keptDescs s g).length)).sum)).sum

/-- Multicast descriptors in use (R246). -/
def mcDescriptorsUsed (s : State) : Nat := (s.buf.frames.filter (fun e => e.2.multicast)).length

/-! ### Profiles and pools (R241 to R243, R263) -/

/-- The queue profile of queue q: BUF_QMAP_n for a bulk queue, profile 15 for a PKT_RX queue (R243). -/
def queueProfile (s : State) (q : Nat) : Nat :=
  if q < 768 then bitsOf (s.num BUF_QMAP (q / 8)) (4 * (q % 8) + 3) (4 * (q % 8)) else 15

/-- The guaranteed minimum of queue q; a PKT_RX queue has none (R243). -/
def queueMin (s : State) (q : Nat) : Nat := if q < 768 then s.get BUF_QPROF_MIN (queueProfile s q) else 0

/-- Pool 0 cells that a queue holds: its lossy cells on die beyond its minimum, those of the spill reserve apart. -/
def sharedCells (s : State) (q : Nat) (x : Queue) : Nat :=
  cellsOn s ((dieCopies x).filter (fun c => !c.lossless && !c.res)) - queueMin s q

/-- Pool 0 cells in use: arriving lossy frames and what the queues share. -/
def pool0Used (s : State) : Nat :=
  (s.buf.frames.map (fun e => e.2.pool0)).sum + (s.buf.queues.map (fun e => sharedCells s e.1 e.2)).sum

/-- Pool 1 cells in use. -/
def pool1Used (s : State) : Nat := (s.buf.frames.map (fun e => e.2.pool1)).sum

/-- Cells of the spill reserve in use: assemblies, unacknowledged segments and read-back cells (R249, R256). -/
def reserveUsed (s : State) : Nat :=
  (s.buf.queues.map (fun e =>
    cellsOn s ((dieCopies e.2).filter (fun c => c.res)) + cellsAll (e.2.reading.toList.flatMap (carried s)) + cellsAll (unackedCopies s e.2))).sum

/-- The arrival account of a port (R241). -/
def arrivalAccount (s : State) (p : Nat) : Nat :=
  ((s.buf.frames.filter (fun e => e.2.port == p)).map (fun e => e.2.arrival)).sum

/-- The lossless account of port p and priority i (R256). -/
def pfcAccount (s : State) (p i : Nat) : Nat :=
  ((s.buf.frames.filter (fun e => e.2.port == p && e.2.prio == i)).map (fun e => e.2.account)).sum

/-- Headroom cells in use by port p and priority i (R258). -/
def headroomUsed (s : State) (p i : Nat) : Nat :=
  ((s.buf.frames.filter (fun e => e.2.port == p && e.2.prio == i)).map (fun e => e.2.headroom)).sum

/-- The parts of the buffer set aside: minimums, headroom of every lossless priority, spill reserve (R242). -/
def reservedCells (s : State) : Nat :=
  ((List.range 768).map (fun q => queueMin s q)).sum +
  ((List.range 96).map (fun p =>
    ((List.range 8).filter (fun i => bitOf (s.get BUF_PFC_PORT_LOSSLESS p) i)).length *
      s.get BUF_PFCPROF_W1_HDRM (s.get BUF_PFC_PORT_PROFILE p))).sum +
  clamp 4096 131072 (s.get BUF_SPILL_CFG_SPILL_RES)

/-- Whether the parts of R242 fit the 655,360 cells. -/
def poolsFit (s : State) : Bool :=
  reservedCells s + s.get BUF_POOL_CFG_POOL0_SIZE + s.get BUF_POOL_CFG_POOL1_SIZE ≤ 655360

/-! ### Spill availability and priority flow control (R253, R257) -/

/-- The segments of an area in use: those of the queues, and those read back that a direct read still holds (R252). -/
def areaSegs (s : State) (a : Area) : List Segment :=
  (s.buf.queues.flatMap (fun e => e.2.segs ++ e.2.reading.toList) ++ s.buf.freeing).filter (fun g => g.area == a)

/-- Segments of the spill area in use. -/
def segsUsed (s : State) : Nat := (areaSegs s .spill).length

/-- The spill area is full. -/
def spillFull (s : State) : Bool := s.get BUF_SEG_TOTAL_SEG_TOTAL ≤ segsUsed s

/-- Whether spill is available (R253). -/
def spillAvail (s : State) : Bool :=
  s.on BUF_SPILL_CFG_EN && 0 < s.get BUF_SEG_TOTAL_SEG_TOTAL && !spillFull s && !s.buf.spillClosed

/-- The XOFF in force for a port's accounts (R257). -/
def xoffOf (s : State) (p : Nat) : Nat :=
  let k := s.get BUF_PFC_PORT_PROFILE p
  if s.on BUF_SPILL_STAT_AVAIL then s.get BUF_PFCPROF_W0_XOFF_S k else s.get BUF_PFCPROF_W0_XOFF_NS k

/-- The XON in force for a port's accounts (R257). -/
def xonOf (s : State) (p : Nat) : Nat :=
  let k := s.get BUF_PFC_PORT_PROFILE p
  if s.on BUF_SPILL_STAT_AVAIL then s.get BUF_PFCPROF_W0_XON_S k else s.get BUF_PFCPROF_W0_XON_NS k

/-- A priority of a port is lossless (R241). -/
def losslessPrio (s : State) (p i : Nat) : Bool := p < 96 && bitOf (s.get BUF_PFC_PORT_LOSSLESS p) i

/-- A PFC frame with the maximum pause time leaves port p for a priority, and is counted (R257). -/
def sendXoff (p i : Nat) (s : State) : State :=
  let k := 8 * p + i
  let s := s.bump BUF_XOFF p
  { s with buf := { s.buf with
      xoff := if s.buf.xoff.contains k then s.buf.xoff else s.buf.xoff ++ [k], xoffAt := Store.set s.buf.xoffAt k s.clock } }

/-- A PFC frame with pause time 0 leaves port p for a priority (R257). -/
def sendXon (p i : Nat) (s : State) : State :=
  { s with buf := { s.buf with xoff := s.buf.xoff.filter (fun k => k != 8 * p + i), xoffAt := Store.erase s.buf.xoffAt (8 * p + i) } }

/-- One account against its thresholds (R257): XOFF when it reaches XOFF, XON when it falls to XON. again: the set in force
has just changed, so that an account at or above XOFF sends its frame at once. -/
def pfcCheck (again : Bool) (p i : Nat) (s : State) : State :=
  let held := s.buf.xoff.contains (8 * p + i)
  if !losslessPrio s p i then (if held then sendXon p i s else s)
  else
    let a := pfcAccount s p i
    if xoffOf s p ≤ a && (again || !held) then sendXoff p i s
    else if held && a ≤ xonOf s p then sendXon p i s
    else s

/-- The repeat of an XOFF frame for an account still stopped (R257): counted like the first. -/
def pfcRepeat (p i : Nat) (s : State) : State :=
  if s.buf.xoff.contains (8 * p + i) && losslessPrio s p i && xonOf s p < pfcAccount s p i then sendXoff p i s else pfcCheck false p i s

/-- Every account against its thresholds: those with cells and those stopped. -/
def pfcAll (again : Bool) (s : State) : State :=
  let keys := (s.buf.frames.filter (fun e => 0 < e.2.account)).map (fun e => 8 * e.2.port + e.2.prio) ++ s.buf.xoff
  keys.eraseDups.foldl (fun s k => pfcCheck again (k / 8) (k % 8) s) s

/-! ### Failed pseudo-channels and parity groups (R250, R254, R315) -/

/-- The failed positions of a parity group: pseudo-channel g mod 4 + 4j of its stack holds position j (R315). -/
def failedPositions (s : State) (g : Nat) : List Nat :=
  (List.range 8).filter (fun j => bitOf (s.get MEM_HBM_STAT_PC_FAILED (g / 4)) (g % 4 + 4 * j))

/-- Failed pseudo-channels of a group. -/
def failedIn (s : State) (g : Nat) : Nat := (failedPositions s g).length

/-- The parity group of the next segment of an area (R250): in turn over the groups without a failed pseudo-channel that have room; a group
with one failed pseudo-channel only where no other has room, and only with parity, without which its cells could not be read
(log entry 27). -/
def nextGroup (s : State) (a : Area) : Option Nat :=
  let total := if a == .park then s.buf.parkSegs else s.get BUF_SEG_TOTAL_SEG_TOTAL
  let room := fun g => ((areaSegs s a).filter (fun x => x.group == g)).length < ceilDiv total 8
  let turn := (List.range 8).map (fun i => ((if a == .park then s.buf.parkTurn else s.buf.spillTurn) + i) % 8)
  match turn.find? (fun g => failedIn s g == 0 && room g) with
  | some g => some g
  | none => if s.on BUF_SPILL_CFG_PARITY then turn.find? (fun g => failedIn s g == 1 && room g) else none

/-- A segment has been placed in group g of an area: the turn passes to the group after it. -/
def takeTurn (a : Area) (g : Nat) (s : State) : State :=
  { s with buf := if a == .park then { s.buf with parkTurn := (g + 1) % 8, segNext := s.buf.segNext + 1 }
    else { s.buf with spillTurn := (g + 1) % 8, segNext := s.buf.segNext + 1 } }

/-! ### The layout of a segment (R250) -/

/-- The position of parity in row r. -/
def parityPos (r : Nat) : Nat := 7 - r % 8

/-- The position of data slot k in its row k / 7: ascending, past the parity. -/
def slotPos (k : Nat) : Nat := if k % 7 < parityPos (k / 7) then k % 7 else k % 7 + 1

/-- The data slot at position p of row r; none at the parity. -/
def slotAt (r p : Nat) : Option Nat :=
  if p = parityPos r then none else some (7 * r + (if p < parityPos r then p else p - 1))

/-- Bytewise XOR. -/
def xorBytes (a b : List Byte) : List Byte := List.zipWith (fun x y => x ^^^ y) a b

/-- The 32-byte frame record of a copy. -/
def frameRecord (q : Nat) (c : Copy) : List Byte := leBytes 32 (Config.frameRecord c.frame c.cells q).toNat

/-- Data slot k of segment g of queue q: frame records in slots 0 to 27, the frames' cells in slots 28 to 223, zero elsewhere. -/
def dataSlot (s : State) (q : Nat) (g : Segment) (k : Nat) : List Byte :=
  if k < 28 then padTo 256 ((((carried s g).drop (8 * k)).take 8).flatMap (frameRecord q))
  else
    padTo 256 ((carried s g).flatMap (fun c => match frameOf s c.frame with
      | none => []
      | some x => match x.segment with
        | none => []
        | some (_, k0) => if k0 ≤ k && k < k0 + c.cells then (x.bytes.drop (256 * (k - k0))).take 256 else []))

/-- The parity of row r: the bytewise XOR of its seven data slots. -/
def paritySlot (s : State) (q : Nat) (g : Segment) (r : Nat) : List Byte :=
  ((List.range 7).map (fun i => dataSlot s q g (7 * r + i))).foldl xorBytes (zeros 256)

/-- The slot at position p of row r of a segment as it was written; none where parity is not written. -/
def segmentSlot (s : State) (q : Nat) (g : Segment) (r p : Nat) : Option (List Byte) :=
  match slotAt r p with
  | some k => some (dataSlot s q g k)
  | none => if g.parity then some (paritySlot s q g r) else none

/-- A slot rebuilt from the other seven of its row (R254); none where one of them was not written. -/
def rebuiltSlot (s : State) (q : Nat) (g : Segment) (r p : Nat) : Option (List Byte) :=
  ((List.range 8).filter (fun j => j != p)).foldl (fun (b : Option (List Byte)) j =>
    match b, segmentSlot s q g r j with
    | some x, some y => some (xorBytes x y)
    | _, _ => none) (some (zeros 256))

/-- What a read of a slot gives (R254): the slot, rebuilt where its pseudo-channel has failed; none where the group is unreadable. -/
def readSlot (s : State) (q : Nat) (g : Segment) (r p : Nat) : Option (List Byte) :=
  if !(failedPositions s g.group).contains p then segmentSlot s q g r p
  else if 1 < failedIn s g.group then none
  else rebuiltSlot s q g r p

/-- A segment that cannot be read: two failed pseudo-channels in its group, or one and no parity (R250, R254). -/
def unreadable (s : State) (g : Segment) : Bool :=
  g.area != .die && (1 < failedIn s g.group || (!g.parity && 0 < failedIn s g.group))

/-- Slots rebuilt from parity when n data slots of a segment from slot k on are read (R254): those in a failed pseudo-channel. -/
def rebuilds (s : State) (g : Segment) (k n : Nat) : Nat :=
  ((List.range n).filter (fun i => (failedPositions s g.group).contains (slotPos (k + i)))).length

/-! ### Frames in segments (R248, R250, R252, R255) -/

/-- A copy of a bulk frame is on a line, or preempted in the middle. -/
def transmitting (s : State) (f : Nat) : Bool :=
  s.egr.ports.any (fun e => (e.2.sending.toList ++ e.2.preempted.toList).any (fun x => !x.express && x.copy.frame == f))

/-- A frame that no further segment takes (R252): one takes it now, or one has taken this multicast frame before. -/
def spilledOnce (x : Frame) : Bool := x.segment.isSome || (x.multicast && x.spilled)

/-- The frames of a run of copies are taken by segment n from data slot k on, in order. -/
def takeFrames (n : Nat) : Nat → List Copy → State → State
  | _, [], s => s
  | k, c :: cs, s =>
    match frameOf s c.frame with
    | none => takeFrames n k cs s
    | some x =>
      if spilledOnce x then takeFrames n k cs s
      else takeFrames n (k + c.cells) cs (setFrame c.frame { x with segment := some (n, k), spilled := true } s)

/-- The write of segment n is complete (R249, R252, R256): the cells of the frames it takes are freed on die and leave their PFC accounts. -/
def landed (n : Nat) (l : List Copy) (s : State) : State :=
  l.foldl (fun s c => onFrame c.frame (fun y => match y.segment with
    | none => y
    | some p => if p.1 = n then { y with inHbm := true, account := 0, pool1 := 0, headroom := 0 } else y) s) s

/-- The frames that segment g takes lie on die again (R252). -/
def returned (g : Segment) (s : State) : State :=
  g.copies.foldl (fun s c => onFrame c.frame (fun y => match y.segment with
    | none => y
    | some p => if p.1 = g.number then { y with segment := none, inHbm := false } else y) s) s

/-- Segment g is read back: its frames lie on die, and it is free once every direct read in progress on it has ended (R252). -/
def freeSegment (g : Segment) (s : State) : State :=
  if g.area == .die then s
  else
    let s := { s with buf := { s.buf with freeing := s.buf.freeing ++ [{ g with copies := carried s g }] } }
    returned g s

/-- A frame that the park area takes (R248, R255): ended, not marked, on no line, and in no segment. -/
def parks (s : State) (c : Copy) : Bool :=
  match frameOf s c.frame with
  | none => false
  | some x => x.ended && !x.bad && !transmitting s c.frame && !spilledOnce x

/-- A copy joins the end of a queue's chain on die. -/
def dieTail (c : Copy) (l : List Segment) : List Segment :=
  match l.getLast? with
  | some g => if g.area == .die then l.dropLast ++ [{ g with copies := g.copies ++ [c] }] else l ++ [⟨0, .die, 0, [c], true, false⟩]
  | none => [⟨0, .die, 0, [c], true, false⟩]

/-- Room in the last segment of a chain for a frame of n cells (R249, R250): a park segment with fewer than 196 frames. -/
def parkRoom (s : State) (x : Queue) (n : Nat) : Option Segment :=
  match x.segs.getLast? with
  | none => none
  | some g =>
    if g.area == .park && cellsAll (carried s g) + n ≤ 196 && (carried s g).length < 196 then some g else none

/-- One copy is written to the end of parked queue q (R255): into its last park segment or a new one. A copy that the park area does not
take keeps its place on die. -/
def parkOne (q : Nat) (c : Copy) (s : State) : State :=
  let x := queueOf s q
  let c := { c with res := false }
  if !parks s c then setQueue q { x with segs := dieTail c x.segs } s
  else
    match parkRoom s x c.cells with
    | some g =>
      let s := takeFrames g.number (28 + cellsAll (carried s g)) [c] s
      landed g.number [c] (setQueue q { x with segs := x.segs.dropLast ++ [{ g with copies := g.copies ++ [c] }] } s)
    | none =>
      match nextGroup s .park with
      | none => setQueue q { x with segs := dieTail c x.segs } s
      | some gr =>
        let n := s.buf.segNext
        let s := takeFrames n 28 [c] (takeTurn .park gr s)
        landed n [c] (setQueue q { x with segs := x.segs ++ [⟨n, .park, gr, [c], true, s.on BUF_SPILL_CFG_PARITY⟩] } s)

/-- The tail of a parked queue goes to the park area as far as its frames have ended (R59, R255). -/
def parkTail (q : Nat) : List Copy → State → State
  | [], s => s
  | c :: cs, s =>
    match frameOf s c.frame with
    | none => parkTail q cs (setQueue q { queueOf s q with asm := cs } s)
    | some x => if x.ended then parkTail q cs (parkOne q c (setQueue q { queueOf s q with asm := cs } s)) else s

/-- The segments that direct reads no longer hold are free (R252), and the tails of parked queues go on (R255). -/
def settleSegments (s : State) : State :=
  let s := { s with buf := { s.buf with
    freeing := s.buf.freeing.filter (fun g => g.copies.any (fun c => s.buf.direct.any (fun d => d.1 == c.frame))) } }
  (s.buf.queues.filter (fun e => e.2.parked && !e.2.asm.isEmpty)).foldl (fun s e => parkTail e.1 e.2.asm s) s

/-- The buffer's status after a change: AVAIL with the thresholds of the set in force (R253, R257), the pool and spill
status (Table 10.4). -/
def settleBuffer (s : State) : State :=
  let s := settleSegments s
  let was := s.on BUF_SPILL_STAT_AVAIL
  let avail := spillAvail s
  let s := s.flag BUF_SPILL_STAT_AVAIL avail
  let s := ((s.put BUF_POOL_STAT_POOL0_USED (pool0Used s)).put BUF_POOL_STAT_POOL1_USED (pool1Used s)).put
    BUF_SPILL_STAT_SEG_USED (segsUsed s)
  let s := s.put BUF_SPILL_STAT_SPILLING (min 4095 (s.buf.queues.filter (fun e => e.2.spilling)).length)
  let full := s.on BUF_SPILL_CFG_EN && 0 < s.get BUF_SEG_TOTAL_SEG_TOTAL && spillFull s
  let s := if full && !s.buf.fullRaised then report (srcBuffer 2) s else s
  let s := { s with buf := { s.buf with fullRaised := full } }
  pfcAll (was != avail) s

/-! ### Arrival (R241, R256, R258) -/

/-- One arriving cell of a frame: charged to its pool, or none where it is refused. A lossy cell needs room in pool 0 and
in the arrival account; a lossless one comes from pool 1, or from the headroom once its account stands above XOFF or
pool 1 is empty. -/
def chargeCell (f : Nat) (s : State) : Option State :=
  match frameOf s f with
  | none => none
  | some x =>
    if !x.lossless then
      if s.get BUF_POOL_CFG_POOL0_SIZE ≤ pool0Used s || clamp 256 4095 (s.get BUF_SPILL_CFG_ARRIVE_MAX) ≤ arrivalAccount s x.port
      then none
      else some (setFrame f { x with arrival := x.arrival + 1, pool0 := x.pool0 + 1 } s)
    else if pfcAccount s x.port x.prio ≤ xoffOf s x.port && pool1Used s < s.get BUF_POOL_CFG_POOL1_SIZE then
      some (setFrame f { x with arrival := x.arrival + 1, pool1 := x.pool1 + 1, account := x.account + 1 } s)
    else if headroomUsed s x.port x.prio < s.get BUF_PFCPROF_W1_HDRM (s.get BUF_PFC_PORT_PROFILE x.port) then
      some (setFrame f { x with arrival := x.arrival + 1, headroom := x.headroom + 1, account := x.account + 1 } s)
    else none

/-- n arriving cells, one after the other; none where one of them is refused. -/
def chargeCells (f : Nat) : Nat → State → Option State
  | 0, s => some s
  | n + 1, s => match chargeCell f s with | none => none | some s => chargeCells f n s

/-- A frame taken out before its end goes on arriving: its bytes still count at its end (R74, R108, R271). -/
def arriving (x : Frame) : Bool := !x.ended && x.port < 96

/-- A frame is taken out of the buffer and its cells are freed. -/
def freeFrame (f : Nat) (s : State) : State :=
  settleBuffer { s with buf := { s.buf with
    frames := Store.erase s.buf.frames f, direct := s.buf.direct.filter (fun e => e.1 != f),
    tails := match Store.get? s.buf.frames f with
      | none => s.buf.tails
      | some x => if arriving x then Store.set s.buf.tails f x else s.buf.tails } }

/-- A frame refused before acceptance in counter r of its ingress port (R18, R244): its cells are freed, and a PIPELINE
frame's TXC entry has status 4. -/
def refuseFrame (r : Reg) (f : Nat) (s : State) : State :=
  match frameOf s f with
  | none => s
  | some x => freeFrame f (txOutcome x.tx 4 s.now (s.bump r x.port))

/-- A frame refused for want of cells: BUF_HDRM_REFUSE_n and its fault source for a lossless frame, BUF_ADM_REFUSE_n for a
lossy one (Table 10.1). -/
def refuseCells (f : Nat) (s : State) : State :=
  match frameOf s f with
  | none => s
  | some x =>
    if x.lossless then report (srcHdrmRefuse x.prio) (refuseFrame BUF_HDRM_REFUSE f s)
    else refuseFrame BUF_ADM_REFUSE f s

/-! ### Segments (R249 to R254) -/

/-- The longest run of whole, ended frames at the front of an assembly that one segment holds: 196 cells and 196 frames
(R249, R250), none of them on a line (R248). A copy whose frame another segment takes or has taken keeps its descriptor and its cells. -/
def segmentRun (s : State) : Nat → Nat → List Copy → List Copy
  | _, _, [] => []
  | cells, frames, c :: cs =>
    match frameOf s c.frame with
    | none => []
    | some x =>
      if spilledOnce x then c :: segmentRun s cells frames cs
      else if x.ended && !transmitting s c.frame && c.cells ≤ cells && 0 < frames
      then c :: segmentRun s (cells - c.cells) (frames - 1) cs else []

/-- A queue's assembly is written out as a segment (R249): not while spill is unavailable or the queue holds SPILL_MAX
segments (R253). The first queue to write a frame carries it (R252). -/
def writeAssembly (q : Nat) (s : State) : State :=
  let x := queueOf s q
  let run := segmentRun s 196 196 x.asm
  let taken := run.filter (fun c => match frameOf s c.frame with | none => false | some y => !spilledOnce y)
  let held := (x.segs.filter (fun g => g.area == .spill)).length
  if x.parked || taken.isEmpty || !spillAvail s || clamp 1 65535 (s.get BUF_QPROF_SPILL_MAX (queueProfile s q)) ≤ held then s
  else
    match nextGroup s .spill with
    | none => s
    | some g =>
      let n := s.buf.segNext
      let s := takeFrames n 28 run (takeTurn .spill g s)
      let s := setQueue q { x with
        asm := x.asm.drop run.length, segs := x.segs ++ [⟨n, .spill, g, run, false, s.on BUF_SPILL_CFG_PARITY⟩] } s
      let s := s.bump BUF_SPILL_SEG_CNT
      let s := if cellsAll taken < 196 then s.bump BUF_SPILL_PARTIAL_CNT else s
      countEvent 6 0x05 0xFFF 1 s

/-- The queue with the largest assembly. -/
def largestAssembly (s : State) : Option Nat :=
  (s.buf.queues.foldl (fun (b : Option (Nat × Nat)) e =>
    let n := if e.2.parked then 0 else cellsOn s e.2.asm
    match b with
    | none => if n = 0 then none else some (e.1, n)
    | some (_, m) => if m < n then some (e.1, n) else b) none).map (fun e => e.1)

/-- The spill reserve has no n cells left. -/
def reserveEmpty (s : State) (n : Nat) : Bool := clamp 4096 131072 (s.get BUF_SPILL_CFG_SPILL_RES) < reserveUsed s + n

/-- A copy linked into an assembly (R249): an assembly it would take past 196 cells or 196 frames is written first, and so
is the largest assembly while the spill reserve is empty. Its cells come from the reserve where it has them. -/
def assemble (q : Nat) (c : Copy) (s : State) : State :=
  let x := queueOf s q
  let s := if !x.asm.isEmpty && (196 < cellsOn s x.asm + c.cells || 196 ≤ x.asm.length) then writeAssembly q s else s
  let s := if reserveEmpty s c.cells then (match largestAssembly s with | none => s | some p => writeAssembly p s) else s
  let res := !reserveEmpty s c.cells
  let x := queueOf s q
  let s := setQueue q { x with asm := x.asm ++ [{ c with res := res }] } s
  if res then onFrame c.frame (fun y => { y with pool1 := 0, headroom := 0 }) s else s

/-- The segment write of segment n of queue q is acknowledged (R249). -/
def ackSegment (q n : Nat) (s : State) : State :=
  let x := queueOf s q
  match x.segs.find? (fun g => g.number == n && !g.acked) with
  | none => s
  | some g =>
    let s := setQueue q { x with segs := x.segs.map (fun h => if h.number == n && !h.acked then { h with acked := true } else h) } s
    settleBuffer (landed n g.copies s)

/-- The head of a queue holds fewer than HEAD_LOW cells (R251). -/
def headLow (s : State) (x : Queue) : Bool := cellsOn s x.head < clamp 256 65535 (s.get BUF_SPILL_CFG_HEAD_LOW)

/-- What stands on die behind the head joins it (R251): runs that no segment holds, and with no segment left the assembly, which makes the
queue NORMAL again. -/
def rejoin (x : Queue) : Queue :=
  if x.parked || x.reading.isSome then x
  else
    let run := x.segs.takeWhile (fun g => g.area == .die)
    let rest := x.segs.dropWhile (fun g => g.area == .die)
    let x := { x with head := x.head ++ run.flatMap (fun g => g.copies), segs := rest }
    if x.spilling && rest.isEmpty then { x with head := x.head ++ x.asm, asm := [], spilling := false } else x

/-- The oldest segment is read back when the head falls below HEAD_LOW (R251). -/
def readBack (q : Nat) (s : State) : State :=
  let x := queueOf s q
  match x.segs with
  | [] => s
  | g :: rest =>
    if !x.parked && x.reading.isNone && g.area != .die && g.acked && headLow s x then
      let s := setQueue q { x with segs := rest, reading := some g } s
      settleBuffer (countEvent 6 0x06 0xFFF 1 (s.bumpBy (rebuilds s g 0 224) BUF_SPILL_REBUILD_CNT))
    else s

/-- A read-back lands (R251, R252): its frames are linked behind the head, those it took in cells of the spill reserve, and the segment is
free once no direct read holds it. -/
def landReadBack (q : Nat) (s : State) : State :=
  let x := queueOf s q
  match x.reading with
  | none => s
  | some g =>
    let back := g.copies.map (fun c => if carries s g c then { c with res := true, since := s.nowNs } else c)
    let s := freeSegment g s
    settleBuffer (setQueue q (rejoin { x with head := x.head ++ back, reading := none, stalled := false }) s)

/-! ### The link (R239, R243, R247) -/

/-- Port rates in kb/s by mode code (Table 3.1). -/
def rateOfSpeed (m : Nat) : Nat :=
  [0, 1000000, 10000000, 25000000, 50000000, 100000000, 200000000, 400000000].getD m 0

/-- The rate of a port in kb/s. -/
def portRate (s : State) (p : Nat) : Nat := rateOfSpeed (s.get PRT_STATUS_ACTIVE_SPEED p)

/-- The ingress CT_EN bit of a port (Table 10.4). -/
def ctEnabled (s : State) (p : Nat) : Bool :=
  if p < 64 then bitOf (s.num BUF_CT_EN_0) p else bitOf (s.get BUF_CT_EN_1_CT_HI) (p - 64)

/-- The queue test of R243 for a lossy frame of n cells. -/
def queueTest (s : State) (q n : Nat) : Bool :=
  let od := ondie s (queueOf s q)
  let extra := od + n - queueMin s q
  let taken := extra - (od - queueMin s q)
  let a := min 12 (s.get BUF_QPROF_ALPHA (queueProfile s q))
  let free := s.get BUF_POOL_CFG_POOL0_SIZE - pool0Used s
  taken == 0 || (taken ≤ free && extra * 64 ≤ 2 ^ a * (free - taken))

/-- New segments that a run of frames takes, with room for the given cells and frames in the one begun (R249, R250): none, a copy that the
park area does not take, ends the one begun. -/
def newSegs : Nat → Nat → List (Option Nat) → Nat
  | _, _, [] => 0
  | _, _, none :: l => newSegs 0 0 l
  | cells, frames, some n :: l =>
    if n ≤ cells && 0 < frames then newSegs (cells - n) (frames - 1) l else 1 + newSegs (196 - n) 195 l

/-- The cells of each copy that the park area takes. -/
def parkSizes (s : State) (l : List Copy) : List (Option Nat) := l.map (fun c => if parks s c then some c.cells else none)

/-- Segments of the park area that head and assembly of a queue take when it is parked (R255). -/
def parkNeed (s : State) (x : Queue) : Nat := newSegs 0 0 (parkSizes s x.head) + newSegs 0 0 (parkSizes s x.asm)

/-- Segments that the waiting tail of a parked queue will take. -/
def tailNeed (s : State) (x : Queue) (l : List Copy) : Nat :=
  let sizes := l.map (fun c => some c.cells)
  match x.segs.getLast? with
  | none => newSegs 0 0 sizes
  | some g => if g.area == .park then newSegs (196 - cellsAll (carried s g)) (196 - (carried s g).length) sizes else newSegs 0 0 sizes

/-- Segments of the park area in use or held for waiting tails. -/
def parkUsed (s : State) : Nat :=
  (areaSegs s .park).length + (s.buf.queues.map (fun e => if e.2.parked then tailNeed s e.2 e.2.asm else 0)).sum

/-- Whether a copy may be linked into queue q (R243): acceptance goes on (R31; log entry 123), the queue test for a lossy frame, a free packet descriptor, and room
in the park area where the queue is parked. -/
def admits (s : State) (q : Nat) (c : Copy) : Bool :=
  let x := queueOf s q
  s.egr.accepting && (c.lossless || queueTest s q c.cells) && descriptorsUsed s < 1048576 &&
    (!x.parked || parkUsed s - tailNeed s x x.asm + tailNeed s x (x.asm ++ [c]) ≤ s.buf.parkSegs)

/-- A link would make the queue's ondie exceed SPILL_ON, its profile has SPILL_EN and spill is available (R249). -/
def entersSpill (s : State) (q n : Nat) : Bool :=
  q < 768 && s.on BUF_QPROF_SPILL_EN (queueProfile s q) && spillAvail s &&
    clamp 1024 65535 (s.get BUF_QPROF_SPILL_ON (queueProfile s q)) < ondie s (queueOf s q) + n

/-- A copy is appended to its queue (R239, R240, R249, R59): to the assembly while the queue spills, to the parked tail
while it is parked, which the park area takes as its frames end, else to the head. -/
def appendCopy (q : Nat) (c : Copy) (s : State) : State :=
  let x := queueOf s q
  let x := if !x.parked && !x.spilling && entersSpill s q c.cells then { x with spilling := true } else x
  let s := setQueue q x s
  if x.parked then
    parkTail q (x.asm ++ [c]) (setQueue q { x with asm := x.asm ++ [c] } s)
  else if x.spilling then assemble q c s
  else setQueue q { x with head := x.head ++ [c] } s

/-- A frame's charge leaves the arrival account when it is linked (R243). -/
def linkCharge (f : Nat) (s : State) : State := onFrame f (fun y => { y with arrival := 0, pool0 := 0 }) s

/-- One copy of frame f is linked into queue q, which accepts it (R16, R243): the frame's charge moves to the queue, the
reference count rises and BUF_ACCEPT_n counts. none where admission refuses it. -/
def linkCopy (q : Nat) (c : Copy) (s : State) : Option State :=
  if admits s q c then
    let p := match frameOf s c.frame with | none => 96 | some y => y.port
    let s := linkCharge c.frame (onFrame c.frame (fun y => { y with refs := y.refs + 1 }) s)
    let s := appendCopy q c s
    some (if p < 96 then s.bump BUF_ACCEPT p else s)
  else none

/-! ### Endings of accepted frames (R21) -/

/-- A copy of a frame has ended: its reference is dropped, and the frame's cells are freed with the last (R246). -/
def dropCopy (f : Nat) (s : State) : State :=
  match frameOf s f with
  | none => settleBuffer s
  | some x =>
    if x.refs ≤ 1 then freeFrame f s
    else settleBuffer (setFrame f { x with refs := x.refs - 1 } s)

/-- A bulk frame returned on the EXC ring (R24): reason, egress port and queue; a DIRECT frame's TXC entry has status 1. -/
def returnCopy (reason port queue : Nat) (c : Copy) (s : State) : State :=
  let tx := match frameOf s c.frame with | none => none | some x => x.tx
  let s := returnWork ⟨false, reason, port, queue, s.now, 0, c.out⟩ s
  dropCopy c.frame (txOutcome tx 1 s.now s)

/-- Queue q is emptied, its segments read back. -/
def takeQueue (q : Nat) (s : State) : State :=
  let x := queueOf s q
  setQueue q noQueue ((x.reading.toList ++ x.segs).foldl (fun s g => freeSegment g s) s)

/-- Every frame of queue q is returned in its order, and the queue is empty (R59, R62). -/
def returnQueue (reason q : Nat) (s : State) : State :=
  (queueCopies (queueOf s q)).foldl (fun s c => returnCopy reason (q / 8) (q % 8) c s) (takeQueue q s)

/-- PARKED of a port: at least one of its queues is parked (Table 3.8). -/
def parkedStat (p : Nat) (s : State) : State :=
  s.flag PRT_STATUS_PARKED ((List.range 8).any (fun t => (queueOf s (8 * p + t)).parked)) p

end Sys2Proof.Machine
end

