-- ==== Sys2Proof/Machine/Complete.lean ====
section
/-! DEFINITION. The completion of commands, receipts, results, the staging store, and the sending of mirror messages (R359, R383,
R391, R413 to R417). -/

namespace Sys2Proof.Machine

/-! ### Mirror messages (R359) -/

/-- Mirror messages are generated: STATE 2 or 3 (R359, Table 14.1). -/
def mirrors (s : State) : Bool := pairState s == 2 || pairState s == 3

/-- Mirroring is active: STATE 3 (R339). -/
def mirrorActive (s : State) : Bool := pairState s == 3

/-- A mirror message: TYPE, LEN, five type-specific bytes and the body (R359). -/
def mirrorMessage (typ : Nat) (spec body : List Byte) : List Byte :=
  leBytes 1 typ ++ leBytes 2 (8 + body.length) ++ padTo 5 spec ++ body

/-- A mirror message of a class waits for a container (R359, R361), where messages are generated. -/
def sendMirror (cls typ : Nat) (spec body : List Byte) (s : State) : State :=
  if !mirrors s then s
  else { s with pair := { s.pair with out := s.pair.out ++ [(cls, mirrorMessage typ spec body)] } }

/-! ### The staging store (R383) -/

/-- Bytes of the staging store. -/
def stageBytes : Nat := 67108864

/-- Bytes that staged objects take. -/
def stagedBytes (s : State) : Nat := (s.ascor.staged.map (fun e => e.2.bytes.length)).sum

/-- ASC_STAGE_STAT follows the store. -/
def stageStat (s : State) : State :=
  (s.put ASC_STAGE_STAT_FREE_BYTES (stageBytes - stagedBytes s)).put ASC_STAGE_STAT_OBJECTS s.ascor.staged.length

/-- A staged object. -/
def stagedOf (s : State) (n : Nat) : Option StagedObj := Store.get? s.ascor.staged n

/-- An object of the store replaced, with its digest. -/
def setStaged (n : Nat) (bs : List Byte) (s : State) : State :=
  stageStat { s with ascor := { s.ascor with staged := Store.set s.ascor.staged n ⟨bs, Config.digest bs⟩ } }

/-- An object that an accepted ASC_STAGE has taken and not yet filled (R384). -/
def stageTaken (s : State) (n : Nat) : Bool := s.host.journal.any (fun e => e.passed && e.opcode == 0x0104 && e.object == some n)

/-- Bytes that fit an object and the store (R383). -/
def stageFits (s : State) (len : Nat) : Bool := len ≤ 16777216 && stagedBytes s + len ≤ stageBytes

/-- The lowest free object, where the bytes fit the store and the limit of an object. -/
def freeObject (s : State) (len : Nat) : Option Nat :=
  if stageFits s len then leastBelow (fun n => (stagedOf s n).isNone && !stageTaken s n) 1024 else none

/-- An object held by an accepted command other than the one with this ring and CSEQ (R384). -/
def lockedBy (s : State) (ring cseq n : Nat) : Bool :=
  s.host.journal.any (fun e => e.object == some n && e.passed && !(e.ring == ring && e.cseq == cseq))

/-! ### Completion (R391, R415 to R417) -/

/-- The outcome of a command: STATUS, DETAIL, RESULT, and whether RESULT names a staged object (Table 16.3). -/
structure Res where
  status : Nat
  detail : Nat
  result : Nat
  object : Bool
deriving DecidableEq, Repr

/-- A plain OK. -/
def resOk : Res := ⟨0, 0, 0, false⟩
/-- OK with a RESULT. -/
def resWith (n : Nat) : Res := ⟨0, 0, n, false⟩
/-- A status that tells a failure (Table 16.4). -/
def resFail (st : Nat) : Res := ⟨st, 0, 0, false⟩

/-- A receipt (R391): CSEQ, OPCODE, status, reserved bytes and a tag, whose value is open. -/
def receiptBytes (cseq opcode status tag : Nat) : List Byte :=
  leBytes 8 cseq ++ leBytes 2 opcode ++ leBytes 2 status ++ zeros 4 ++ leBytes 16 tag

/-- The 64-byte entry of a command as the journal holds it. -/
def entryOf (s : State) (ring cseq : Nat) : List Byte :=
  match s.host.journal.find? (fun e => !e.tx && e.ring == ring && e.cseq == cseq) with
  | none => leBytes 2 0 ++ zeros 6 ++ leBytes 8 cseq ++ zeros 48
  | some e => padTo 64 e.entry

/-- The receipt of a sealed command joins the ring of 1024 of its session, which may have ended in between (R391). ident: the SESSION_ID of its
entry. -/
def addReceipt (session ident cseq opcode status : Nat) (s : State) : State :=
  match Store.get? s.ascor.sessions session with
  | none => s
  | some x =>
    if x.ident != ident then s
    else
      let tag := s.freeWord.toNat + 2 ^ 64 * s.drew.freeWord.toNat
      let rs := x.receipts ++ [receiptBytes cseq opcode status tag]
      let s := s.drew.drew
      { s with ascor := { s.ascor with
          sessions := Store.set s.ascor.sessions session { x with receipts := rs.drop (rs.length - 1024) } } }

/-- A command completes (R415): its completion is queued, its journal entry is done, a sealed one gets its receipt, a replay is
counted, and the partner learns of it (JDONE). -/
def complete (ring cseq opcode : Nat) (sealed : Bool) (session : Nat) (replayed : Bool) (r : Res) (s : State) : State :=
  let ident := leField (entryOf s ring cseq) 4 4
  let s := { s with host := { s.host with
    completions := s.host.completions ++ [(⟨ring, cseq, r.result, r.status, r.detail, replayed, r.object⟩ : Completion)] } }
  let s := { s with host := { s.host with
    journal := journalDrop (fun e => !e.tx && e.ring == ring && e.cseq == cseq) s.host.journal } }
  let s := journalStat s
  let s := if sealed then addReceipt session ident cseq opcode r.status s else s
  let s := if replayed then s.bump HST_REPLAY_CNT else s
  sendMirror 1 0x03 (leBytes 1 ring) (leBytes 8 cseq) s

/-- The first waiting command that a test accepts. -/
def waitingOf (s : State) (p : Waiting → Bool) : Option Waiting := s.host.waiting.find? p

/-- The list of waiting commands without the first that a test accepts. -/
def dropWaiting (p : Waiting → Bool) : List Waiting → List Waiting
  | [] => []
  | w :: ws => if p w then ws else w :: dropWaiting p ws

/-- The first waiting command that a test accepts completes. -/
def finishWaiting (p : Waiting → Bool) (r : Waiting → Res) (s : State) : State :=
  match waitingOf s p with
  | none => s
  | some w =>
    complete w.ring w.cseq w.opcode w.sealed w.session w.replayed (r w)
      { s with host := { s.host with waiting := dropWaiting p s.host.waiting } }

/-! ### Execution (R390, R415, R461) -/

/-- What a command's execution comes to: it completes, or it has begun and a later event completes it. -/
inductive Answer where
  /-- It completes with this outcome. -/
  | done (r : Res) (s : State)
  /-- It waits, with what its completion needs. -/
  | wait (result detail key : Nat) (s : State)
  /-- The device cannot execute it (R22): it is returned on the EXC ring with code 0x05. -/
  | back (s : State)

/-- Completion with OK. -/
def ok_ (s : State) : Answer := .done resOk s
/-- Completion with OK and a result. -/
def okWith (n : Nat) (s : State) : Answer := .done (resWith n) s
/-- Completion with a status that tells a failure. -/
def failed (st : Nat) (s : State) : Answer := .done (resFail st) s

/-- The start-up stage a command needs (R461): 1 HOST_READY, 2 EXPRESS_READY, 3 BULK_READY, 4 FULL_READY, by its opcode. A TCAM command
whose target or handle is of a quarter needs BULK_READY beside it (bulkTarget). -/
def stageNeeded (op : Nat) : Nat :=
  let fam := op / 256
  if fam = 2 then (if 0x020C ≤ op || (0x0202 ≤ op && op ≤ 0x0205) then 2 else 3)
  else if 3 ≤ fam && fam ≤ 5 then 3
  else if fam = 6 then 2
  else if fam = 7 then 2
  else if fam = 9 then (if op = 0x0900 then 3 else 4)
  else if fam = 0x0A then 3
  else if fam = 0x0F then 3
  else if op = 0x0E00 || op = 0x0E01 then 3
  else 1

/-- Whether a stage has set its bit in PWR_READY (Table 18.4). -/
def stageReached (s : State) (n : Nat) : Bool :=
  if n = 1 then s.on PWR_READY_HOST_READY else if n = 2 then s.on PWR_READY_EXPRESS_READY
  else if n = 3 then s.on PWR_READY_BULK_READY else s.on PWR_READY_FULL_READY

/-- A rejection under R390: one counter, the fault, and the completion with AUTH and its reason; it earns no receipt. -/
def rejectCommand (c : Cmd) (op reason : Nat) (s : State) : State :=
  let r := if reason = 1 then ASC_AUTH_FAIL_CNT else if reason = 2 then ASC_REPLAY_CNT else if reason = 3 then ASC_UNSEALED_REJECT_CNT else ASC_PRIV_REJECT_CNT
  complete c.ring c.cseq op false 0 c.replayed ⟨6, reason, 0, false⟩ (report (srcAscor 0) (s.bump r))

/-- A command completes with an outcome. -/
def finish (c : Cmd) (op : Nat) (r : Res) (s : State) : State := complete c.ring c.cseq op c.sealed c.session c.replayed r s

/-- The black-box entry of a command of families 0x09 to 0x0B (KIND 8, Table 17.7). -/
def noteCommand (op : Nat) (s : State) : State :=
  if 9 ≤ op / 256 && op / 256 ≤ 11 then
    bbEntry 8 op 0 0 0 (s.freeWord.toNat % 2 ^ 16) (s.drew.freeWord.toNat % 2 ^ 48) s.drew.drew
  else s

/-- The reason for which an entry is rejected (R390): its verdict, or an unsealed entry outside class U. -/
def rejection (c : Cmd) (classU : Bool) : Nat := if !c.sealed && !classU then 3 else c.verdict

/-- What an answer makes of the command: its completion, its wait for a later event, or its return on the EXC ring (R22). -/
def conclude (c : Cmd) (op : Nat) : Answer → State
  | .done r s => finish c op r s
  | .wait result detail key s =>
    let w : Waiting := ⟨c.ring, c.cseq, op, c.sealed, c.session, c.replayed, result, detail, key⟩
    { s with host := { s.host with waiting := s.host.waiting ++ [w] } }
  | .back s => finish c op (resFail 0x0A) (returnWork ⟨true, 0x05, c.ring, 0, s.now, c.cseq, entryOf s c.ring c.cseq⟩ s)

/-- A TCAM command on a table of the quarters, before BULK_READY: it completes with STATE (R113, R461). -/
def bulkTarget (express : Bool) (s : State) (a : Answer) : Answer := if express || stageReached s 3 then a else failed 3 s

/-- A reserved field in the header of an entry is not 0 (R8, Table 15.3): FLAGS [7:2] or byte 3. -/
def headerReserved (entry : List Byte) : Bool := leField entry 2 1 / 4 != 0 || leField entry 3 1 != 0

/-- Command c with opcode op executes now (R22, R415): the journal holds its entry, accepted and begun in its turn, with the fields that c
carries; its execution has not already led to a wait. -/
def executes (s : State) (c : Cmd) (op : Nat) : Bool :=
  s.host.journal.any (fun e => !e.tx && e.ring == c.ring && e.cseq == c.cseq && e.running && e.opcode == op && e.sealed == c.sealed &&
    e.session == c.session && e.verdict == c.verdict && e.replay == c.replayed && (!headerReserved e.entry || c.reserved)) &&
  !s.host.waiting.any (fun w => w.ring == c.ring && w.cseq == c.cseq)

/-- The execution of a catalogue command (R22, R371, R390, R415, R461): nothing unless its entry's turn has come; a rejection, a replay of the
failed partner's own units, an entry with a reserved field set (R8), a command whose stage is not ready; else its own effect. -/
def command (c : Cmd) (op : Nat) (classU : Bool) (body : State → Answer) (s : State) : State :=
  if !executes s c op then s
  else if rejection c classU != 0 then rejectCommand c op (rejection c classU) s
  else if c.partnerLocal then finish c op (resFail 0x0C) s
  else if c.reserved then finish c op (resFail 1) s
  else if !stageReached s (stageNeeded op) then finish c op (resFail 3) s
  else conclude c op (body (noteCommand op s))

/-- A result of more than 4 bytes (R413, Table 16.2): a sealed command's goes to a free staged object, an unsealed one's to the host
buffer at addr; where no object is free, CAPACITY. -/
def giveResult (c : Cmd) (addr detail : Nat) (bs : List Byte) (result : Nat) (s : State) : Answer :=
  if c.sealed then
    match freeObject s bs.length with
    | none => failed 2 s
    | some n => .done ⟨0, detail, n, true⟩ (setStaged n bs s)
  else .done ⟨0, detail, result, false⟩ { s with host := { s.host with buffers := Store.set s.host.buffers addr bs } }

/-- A command that names a staged object (R384): without one it completes with an argument error. -/
def withObject (n : Nat) (body : List Byte → State → Answer) (s : State) : Answer :=
  match stagedOf s n with
  | none => failed 1 s
  | some x => body x.bytes s

/-- The image in a staged object and Ascor's checks of R380: its VERSION is not below the minimum of its kind, and sigOk: its digest,
its signature and its signer's certificate pass. A failure completes with IMAGE and is counted. -/
def withImage (n kind : Nat) (sigOk : Bool) (body : List Byte → State → Answer) (s : State) : Answer :=
  withObject n (fun bs s =>
    if sigOk && leField bs 0 2 == kind && s.get ASC_MIN_VER_MIN_VER kind ≤ leField bs 2 2 then body bs s
    else failed 7 (report (srcAscor 1) (s.bump ASC_IMAGE_REJECT_CNT))) s

end Sys2Proof.Machine
end

