-- ==== Sys2Proof/Machine/Tcam.lean ====
section
/-! DEFINITION. TCAM entries, searches and the planning of insertions, shared by the quarters and the express path (R94 to
R101). -/

namespace Sys2Proof.Machine

/-- The units of an entry of WIDTH code c (Table 5.1). -/
def widthUnits (c : Nat) : Nat := 2 ^ c

/-- The control word of an entry: VALID, WIDTH and PRIORITY (Table 5.1). -/
def TEntry.valid (e : TEntry) : Bool := bitOf e.ctl 0
/-- WIDTH code of an entry. -/
def TEntry.width (e : TEntry) : Nat := bitsOf e.ctl 2 1
/-- PRIORITY of an entry. -/
def TEntry.prio (e : TEntry) : Nat := bitsOf e.ctl 16 5
/-- ACTION of an entry. -/
def TEntry.action (e : TEntry) : Nat := bitsOf e.ctl 33 18

/-- The entry of a buffer (R96) with w units; a value bit whose mask bit is 0 is stored as 0. -/
def entryOfBytes (w handle : Nat) (bs : List Byte) : TEntry :=
  ⟨leField bs 0 8, (List.range w).map (fun u =>
    let m := leField bs (28 + 40 * u) 20
    (leField bs (8 + 40 * u) 20 &&& m, m)), handle⟩

/-- The buffer of an entry (R96). -/
def entryBytes (e : TEntry) : List Byte :=
  leBytes 8 e.ctl ++ e.units.flatMap (fun u => leBytes 20 u.1 ++ leBytes 20 u.2)

/-- Whether every unit of an entry matches the key. -/
def unitsMatch : List (Nat × Nat) → List Nat → Bool
  | [], _ => true
  | (v, m) :: us, k :: ks => (k &&& m) == v && unitsMatch us ks
  | (v, _) :: us, [] => v == 0 && unitsMatch us []

/-- Whether an entry hits (R94): VALID, the epoch bit admitted, and every compared key bit equal. -/
def TEntry.hits (e : TEntry) (epoch : Bool) (key : List Nat) : Bool :=
  e.valid && bitOf e.ctl (if epoch then 4 else 3) && unitsMatch e.units key

/-- The result of a group (R94): the hitting entry of lowest physical index. -/
def tcamSearch : Store TEntry → Bool → List Nat → Option (Nat × TEntry)
  | [], _, _ => none
  | (i, e) :: rest, epoch, key => if e.hits epoch key then some (i, e) else tcamSearch rest epoch key

/-- Whether index i of a group holds a valid entry. -/
def heldAt (t : Store TEntry) (i : Nat) : Bool :=
  match Store.get? t i with | none => false | some e => e.valid

/-- The moves of an insertion of priority p into a group of n entries (R100): the copies (from, to) in order and the index
the entry is written at; none where the group is full. -/
def planInsert (t : Store TEntry) (n p : Nat) : Option (List (Nat × Nat) × Nat) :=
  let pos := (t.filter (fun e => e.2.valid && e.2.prio ≤ p)).foldl (fun b e => max b (e.1 + 1)) 0
  let hd := ((List.range (n - pos)).map (fun i => pos + i)).find? (fun i => !heldAt t i)
  let hu := ((List.range pos).map (fun i => pos - 1 - i)).find? (fun i => !heldAt t i)
  match hd, hu with
  | none, none => none
  | some d, none => some ((List.range (d - pos)).map (fun i => (d - 1 - i, d - i)), pos)
  | none, some u => some ((List.range (pos - 1 - u)).map (fun i => (u + 1 + i, u + i)), pos - 1)
  | some d, some u =>
    if d - pos ≤ pos - 1 - u then some ((List.range (d - pos)).map (fun i => (d - 1 - i, d - i)), pos)
    else some ((List.range (pos - 1 - u)).map (fun i => (u + 1 + i, u + i)), pos - 1)

/-- One step in a table (R100, R101): a copy, a write, or the clearing of VALID. -/
def TStep.apply (x : TStep) (t : Store TEntry) : Store TEntry :=
  match x.entry, x.src with
  | some e, _ => Store.set t x.dst e
  | none, some i => match Store.get? t i with | none => t | some e => Store.set t x.dst e
  | none, none => Store.erase t x.dst

/-- One step in the groups of a table. -/
def TStep.applyTo (x : TStep) (m : Store (Store TEntry)) : Store (Store TEntry) := Store.put m x.group [] (x.apply (Store.getD m x.group []))

/-- The steps of a plan: the copies and then the write. -/
def planSteps (g ring cseq : Nat) (plan : List (Nat × Nat) × Nat) (e : TEntry) : List TStep :=
  plan.1.map (fun m => ⟨g, some m.1, m.2, none, ring, cseq⟩) ++ [⟨g, none, plan.2, some e, ring, cseq⟩]

/-- The highest index of a group that holds the entry of a handle: while an insertion moves it, the copy that stays. -/
def findHandle (t : Store TEntry) (h : Nat) : Option (Nat × TEntry) :=
  t.find? (fun e => e.2.valid && e.2.handle == h)

end Sys2Proof.Machine
end

