-- ==== Sys2Proof/Machine/Ports.lean ====
section
/-! DEFINITION. Ports, link hold and quieting, gate lists, shapers and the choice of the next frame (R45 to R63, R264 to
R292). -/

namespace Sys2Proof.Machine

/-- A port as reset leaves it. -/
def noPort : PortSide :=
  ⟨false, 0, false, false, false, [], [], 0, [], [], none, none, [], false, false, [], [], 0, 0, none, 0, 0⟩

/-- Port p beside its registers. -/
def portOf (s : State) (p : Nat) : PortSide := Store.getD s.egr.ports p noPort

/-- The state with port p replaced. -/
def setPort (p : Nat) (x : PortSide) (s : State) : State :=
  { s with egr := { s.egr with ports := Store.put s.egr.ports p noPort x } }

/-- The state with port p changed. -/
def onPort (p : Nat) (f : PortSide → PortSide) (s : State) : State := setPort p (f (portOf s p)) s

/-- Whether a speed and FEC code form a mode of Table 3.1 (R45). -/
def modeValid (speed fec : Nat) : Bool :=
  if speed = 1 then fec == 0
  else if speed = 2 then fec ≤ 1
  else if speed = 3 then fec ≤ 2
  else if 4 ≤ speed && speed ≤ 7 then fec == 3
  else false

/-- A group mode (R46) on port p: only P4k, with P4k+1 to P4k+3 off. -/
def groupValid (s : State) (p : Nat) : Bool :=
  p % 4 == 0 && [1, 2, 3].all (fun i => s.get PRT_MODE_SPEED (p + i) == 0 && !s.on PRT_MODE_ENABLE (p + i))

/-- Port p belongs to a running group of another port, so that its registers have no effect (R46). -/
def inGroup (s : State) (p : Nat) : Bool :=
  p % 4 != 0 && (portOf s (p - p % 4)).enabled && 6 ≤ s.get PRT_STATUS_ACTIVE_SPEED (p - p % 4)

/-- PREEMPT_ACTIVE of a port (R55): PREEMPT_EN, and verification succeeded or disabled. -/
def preemptStat (p : Nat) (s : State) : State :=
  s.flag PRT_STATUS_PREEMPT_ACTIVE (s.on PRT_PREEMPT_PREEMPT_EN p &&
    (s.on PRT_PREEMPT_VERIFY_DIS p || (portOf s p).verify == 2)) p

/-- Whether preemption is active on a port (R55). -/
def preemptActive (s : State) (p : Nat) : Bool := s.on PRT_STATUS_PREEMPT_ACTIVE p

/-- Whether a port is quieted (R63). -/
def quieted (s : State) (p : Nat) : Bool := s.on PRT_STATUS_QUIET p

/-- HOLD of a port: the hold time runs, queues wait to be parked, or a queue is held on die (Table 3.8, R60). -/
def holdStat (p : Nat) (s : State) : State :=
  let x := portOf s p
  s.flag PRT_STATUS_HOLD (x.holdTimer || !x.toPark.isEmpty || !x.heldOnDie.isEmpty) p

/-- MAX_LEN of a port (Table 3.3): above 9216 acts as 9216, below 64 as 64. -/
def maxLen (s : State) (p : Nat) : Nat := clamp 64 9216 (s.get PRT_FRAME_MAX_LEN p)

/-- Whether a frame is protected on a port: MACsec is on and the frame is not a PTP frame that passes in clear (R51). -/
def protects (s : State) (p : Nat) (bs : List Byte) : Bool :=
  s.on PRT_MACSEC_CTRL_MACSEC_EN p && !(s.on PRT_MACSEC_CTRL_PTP_BYPASS p && beField bs 12 2 == 0x88F7)

/-- The length of a frame on the wire, destination address through FCS (R264, R521). -/
def wireLen (s : State) (p : Nat) (bs : List Byte) : Nat :=
  bs.length + 4 + (if protects s p bs then Config.macsecBytes else 0)

/-- The counted length of n bytes on the wire at a port (R264): OVERHEAD added, below 1 counts as 1. -/
def countedLen (s : State) (p n : Nat) : Nat :=
  (max 1 ((n : Int) + signedOf 8 (s.get SCH_PORT_CFG_OVERHEAD p))).toNat

/-- The transmission time in ns of n counted bytes at a port's rate. -/
def sendNs (s : State) (p n : Nat) : Nat := if portRate s p = 0 then 0 else ceilDiv (n * 8000000) (portRate s p)

/-! ### Link, hold and quieting (R56 to R63) -/

/-- A frame whose transmission is cut stays at the head of its queue and is sent again from its first byte (R57). -/
def cutSending (p : Nat) (s : State) : State := onPort p (fun x => { x with sending := none, preempted := none }) s

/-- The hold begins on a port (R56): the scheduler stops, HOLD is set, the hold time starts and a link event is posted. -/
def beginHold (p : Nat) (s : State) : State :=
  let s := onPort p (fun x => { x with holdTimer := true, holdSince := s.clock }) (cutSending p s)
  postEvent 0x0010 p [0] (holdStat p s)

/-- QUIET of a port and its common bit (Tables 3.8 and 3.9). -/
def setQuiet (p : Nat) (b : Bool) (s : State) : State :=
  let s := s.flag PRT_STATUS_QUIET b p
  if p < 64 then s.setReg PRT_QUIET_0 (BitVec.ofNat 64 (withBit (s.num PRT_QUIET_0) p b))
  else s.put PRT_QUIET_1_QUIET_HI (withBit (s.get PRT_QUIET_1_QUIET_HI) (p - 64) b)

/-- Verification begins on a port where it is on and the link is up (R54, R55). -/
def startVerify (p : Nat) (s : State) : State :=
  let go := s.on PRT_STATUS_LINK_UP p && s.on PRT_PREEMPT_PREEMPT_EN p && !s.on PRT_PREEMPT_VERIFY_DIS p
  preemptStat p (onPort p (fun x => { x with
    verify := if go then 1 else 0, tries := if go then 1 else 0, verifySince := if go then s.clock else x.verifySince }) s)

/-- PRT_PREEMPT has been written (R54, R55); verifies: verification was on before. Turned on with the link up, it begins. -/
def preemptWritten (p : Nat) (verifies : Bool) (s : State) : State :=
  if s.on PRT_PREEMPT_PREEMPT_EN p && !s.on PRT_PREEMPT_VERIFY_DIS p && verifies then preemptStat p s else startVerify p s

/-- The bytes of the fragment on a line that have left, at the port's rate. -/
def fragmentSent (s : State) (p : Nat) (x : Sending) : Nat := (s.clock - x.since) * portRate s p / 8000000

/-- A port may transmit (R265): enabled, link up, not in hold by its timer and not quieted. -/
def mayTransmit (s : State) (p : Nat) : Bool :=
  (portOf s p).enabled && s.on PRT_STATUS_LINK_UP p && !quieted s p && !(portOf s p).holdTimer && (portOf s p).toPark.isEmpty

/-! ### Gate lists (R282 to R288) -/

/-- INTERVAL of a gate entry (Table 11.3). -/
def gateInterval (e : Nat) : Nat := bitsOf e 23 0
/-- OP of a gate entry. -/
def gateOp (e : Nat) : Nat := bitsOf e 35 33
/-- Gate t of a gate entry, t = 0 to 7 for the bulk queues and 8 for the express gate. -/
def gateOpen (t e : Nat) : Bool := bitOf e (24 + t)

/-- The entry in force at an offset into the cycle: its index, the offset at which it ends (the cycle's end cuts the last one
or lets it hold, R283), and its word. -/
def entryAt : List Nat → Nat → Nat → Nat → Nat → Nat × Nat × Nat
  | [], i, _, _, cycle => (i, cycle, 0)
  | [e], i, _, _, cycle => (i, cycle, e)
  | e :: es, i, base, off, cycle =>
    let fin := min (base + gateInterval e) cycle
    if off < fin then (i, fin, e) else entryAt es (i + 1) (base + gateInterval e) off cycle

/-- The offset into the cycle of a list at TIME t ns; a step of TIME may lie before the start (R286). -/
def cycleOffset (g : GateList) (t : Nat) : Nat := (((t : Int) - (g.start : Int)) % ((max 1 g.cycle : Nat) : Int)).toNat

/-- The list in force at TIME t: the pending one from its start, else the operational one. -/
def listAt (oper pend : Option GateList) (t : Nat) : Option GateList :=
  match pend with
  | none => oper
  | some p => if p.start ≤ t then some p else oper

/-- Whether a gate is open at TIME t (R283): with no list, or the list disabled, every gate is open. -/
def openAt (oper pend : Option GateList) (gate : Nat → Bool) (t : Nat) : Bool :=
  match listAt oper pend t with
  | none => true
  | some g => if g.enable then gate (entryAt g.entries 0 0 (cycleOffset g t) g.cycle).2.2 else true

/-- Whether a gate stays open for d ns from TIME t, under the operational list and any pending change (R287). -/
def staysOpen (oper pend : Option GateList) (gate : Nat → Bool) : Nat → Nat → Nat → Bool
  | 0, _, _ => false
  | n + 1, t, d =>
    let limit := match pend with | none => t + d | some p => if t < p.start then min (t + d) p.start else t + d
    match listAt oper pend t with
    | none => if t + d ≤ limit then true else staysOpen oper pend gate n limit (t + d - limit)
    | some g =>
      if !g.enable then (if t + d ≤ limit then true else staysOpen oper pend gate n limit (t + d - limit))
      else
        let off := cycleOffset g t
        let e := entryAt g.entries 0 0 off g.cycle
        let fin := min limit (t + (e.2.1 - off))
        if !gate e.2.2 then false
        else if t + d ≤ fin then true
        else staysOpen oper pend gate n fin (t + d - fin)

/-- Entries looked at when a fit is judged: more than the longest frame at the lowest rate crosses. -/
def fitFuel : Nat := 8192

/-- A port's operational and pending gate lists. -/
def gateLists (s : State) (p : Nat) : Option GateList × Option GateList :=
  (Store.get? s.egr.gcl p, Store.get? s.egr.gclPend p)

/-- Whether gate t of a port is open now. -/
def portGateOpen (s : State) (p t : Nat) : Bool :=
  openAt (gateLists s p).1 (gateLists s p).2 (gateOpen t) s.nowNs

/-- Whether gate t of a port stays open for n counted bytes from now (R287). -/
def fits (s : State) (p t n : Nat) : Bool :=
  staysOpen (gateLists s p).1 (gateLists s p).2 (gateOpen t) fitFuel s.nowNs (sendNs s p n)

/-- The start offsets of the entries of a list. -/
def entryStarts : List Nat → Nat → List Nat
  | [], _ => []
  | e :: es, base => base :: entryStarts es (base + gateInterval e)

/-- A frame of n counted bytes is longer than any open period of its gate (R287). -/
def neverFits (s : State) (p t n : Nat) : Bool :=
  match (gateLists s p).1 with
  | none => false
  | some g => g.enable && !((entryStarts g.entries 0).any (fun o =>
      o < g.cycle && staysOpen (some g) none (gateOpen t) fitFuel (g.start + o) (sendNs s p n)))

/-- The start of a committed list (R285): base b, cycle c, commit evaluated at te; whether the base lay in the past. -/
def listStart (b c te : Nat) : Nat × Bool :=
  if te + 1000 < b then (b, false) else (b + ((te + 1000 - b) / c + 1) * c, true)

/-! ### Shapers (R267 to R269) -/

/-- The bytes of a rate in 16 ns, in units of 2^-32 byte (R267). -/
def rateInc (kbps : Nat) : Nat := kbps * 2 ^ 33 / 1000000

/-- The credit or tokens of queue t of port p, in units of 2^-32 byte. -/
def creditOf (s : State) (p t : Nat) : Int := signedOf 64 (s.num SCH_QCREDIT p t)

/-- The state with a queue's credit set. -/
def setCredit (p t : Nat) (c : Int) (s : State) : State := s.setReg SCH_QCREDIT (BitVec.ofInt 64 c) p t

/-- RATE_KBPS of a queue, at most the port's rate (Table 11.4). -/
def queueRate (s : State) (p t : Nat) : Nat := min (s.get SCH_QCFG_RATE_KBPS p t) (portRate s p)

/-- The limits lo and hi of the credit-based shaper (R267). -/
def creditLimits (s : State) (p t : Nat) : Int × Int :=
  let r := portRate s p
  let k := queueRate s p t
  if r = 0 then (0, 0)
  else (-((countedLen s p (maxLen s p) * 2 ^ 32 * (r - k) / r : Nat) : Int),
    ((s.get SCH_QSHAPE_SIZE p t * 2 ^ 32 * k / r : Nat) : Int))

/-- The queue on the line of a port, if a bulk frame is in transmission. -/
def sendingQueue (s : State) (p : Nat) : Option Sending :=
  match (portOf s p).sending with
  | none => none
  | some x => if x.express then none else some x

/-- One 16 ns update of the credit-based shaper of queue t (R267). -/
def creditUpdate (p t : Nat) (s : State) : State :=
  if !portGateOpen s p t then s
  else
    let c := creditOf s p t
    let empty := (queueCopies (queueOf s (8 * p + t))).isEmpty
    let sending := match sendingQueue s p with | none => none | some x => if x.queue = t then some x else none
    let c := if sending.isSome || !empty || c < 0 then c + (rateInc (queueRate s p t) : Nat) else c
    let sent := match sending with | none => 0 | some x => min x.left (rateInc (portRate s p))
    let c := c - (sent : Nat)
    let c := if empty && sending.isNone && 0 < c then 0 else c
    let lim := creditLimits s p t
    let s := setCredit p t (clampInt lim.1 lim.2 c) s
    match sending with
    | none => s
    | some x => onPort p (fun y => { y with sending := some { x with left := x.left - sent } }) s

/-- One 16 ns update of a token bucket (R268). -/
def tokenUpdate (kbps size : Nat) (c : Int) : Int := min (c + (rateInc kbps : Nat)) ((size * 2 ^ 32 : Nat) : Int)

/-- One 16 ns update of queue t of port p (R267, R268). -/
def shaperUpdate (p t : Nat) (s : State) : State :=
  let k := s.get SCH_QCFG_SHAPER p t
  if k = 1 then creditUpdate p t s
  else if k = 2 then setCredit p t (tokenUpdate (queueRate s p t) (s.get SCH_QSHAPE_SIZE p t) (creditOf s p t)) s
  else s

/-! ### Choosing the next frame (R265, R266) -/

/-- A copy has all its bytes on die and its frame has ended. -/
def copyEnded (s : State) (c : Copy) : Bool := match frameOf s c.frame with | none => true | some x => x.ended

/-- The counted length of a bulk copy at its egress port. -/
def copyLen (s : State) (p : Nat) (c : Copy) : Nat := countedLen s p (wireLen s p c.out)

/-- The length a bulk frame is judged with (R287): MAX_LEN of the port while it leaves by cut-through, else its own. -/
def fitLen (s : State) (p : Nat) (c : Copy) : Nat :=
  if copyEnded s c then copyLen s p c else countedLen s p (maxLen s p)

/-- The smallest fragment of a port in bytes (R54). -/
def fragmentLen (s : State) (p : Nat) : Nat := 64 * (1 + s.get PRT_PREEMPT_ADD_FRAG_SIZE p)

/-- A bulk head fits its gate (R287): for its whole length, or for its first fragment while preemption is active. -/
def bulkFits (s : State) (p t : Nat) (c : Copy) : Bool :=
  fits s p t (fitLen s p c) || (preemptActive s p && fits s p t (fragmentLen s p))

/-- A launch time that is taken as already reached: more than 1 s after its frame came to the head (R289). -/
def launchBad (c : Copy) : Bool := match c.launch with | none => false | some t => c.since + nsPerSec < stampNs t

/-- The head's launch time allows it (R289): LAUNCH 0, none, reached, or too far ahead. -/
def launchAllows (s : State) (p t : Nat) (c : Copy) : Bool :=
  !s.on SCH_QCFG_LAUNCH p t || c.launch.isNone || (portOf s p).launched.contains t || launchBad c ||
    (match c.launch with | none => true | some l => stampNs l ≤ s.nowNs)

/-- Queue t of port p is eligible and its head (R265): the head is whole on die, or leaves by cut-through; a multicast frame
in HBM waits for its direct read (R252). -/
def eligible (s : State) (p t : Nat) : Option Copy :=
  let x := queueOf s (8 * p + t)
  match x.head with
  | [] => none
  | c :: _ =>
    if !x.parked && (copyEnded s c || c.cutThrough) && (!inHbm s c.frame || s.buf.direct.contains (c.frame, 8 * p + t)) &&
        portGateOpen s p t && bulkFits s p t c &&
        (s.get SCH_QCFG_SHAPER p t == 0 || s.get SCH_QCFG_SHAPER p t == 3 || 0 ≤ creditOf s p t) &&
        (Store.get? (portOf s p).paused t).isNone && launchAllows s p t c && !(portOf s p).held
    then some c else none

/-- The DWRR rounds of R266, n steps of the pointer at most. -/
def dwrr (s : State) (p : Nat) : Nat → PortSide → Option (Nat × Copy) × PortSide
  | 0, x => (none, x)
  | n + 1, x =>
    let t := x.rr
    let next := { x with stale := x.stale.filter (· != t), rr := (t + 1) % 8 }
    if s.get SCH_QCFG_MODE p t = 1 then
      match eligible s p t with
      | none => dwrr s p n next
      | some c =>
        let fresh := !x.stale.contains t
        let d := Store.getD x.deficit t 0 + (if fresh then 64 * clamp 1 255 (s.get SCH_QCFG_WEIGHT p t) else 0)
        let len := copyLen s p c
        if len ≤ d then
          (some (t, c), { x with deficit := Store.put x.deficit t 0 (d - len), stale := if fresh then x.stale ++ [t] else x.stale })
        else dwrr s p n { next with deficit := Store.put x.deficit t 0 d }
    else dwrr s p n next

/-- Steps of the pointer that bring any frame's deficit together: 8 queues, quanta of at least 64 bytes. -/
def dwrrFuel : Nat := 8 * 256

/-- The bulk selection (R266): strict priority above deficit-weighted round robin. -/
def selectBulk (s : State) (p : Nat) : Option (Nat × Copy) × PortSide :=
  match [7, 6, 5, 4, 3, 2, 1, 0].find? (fun t => s.get SCH_QCFG_MODE p t == 0 && (eligible s p t).isSome) with
  | some t => ((eligible s p t).map (fun c => (t, c)), portOf s p)
  | none =>
    if (List.range 8).any (fun t => s.get SCH_QCFG_MODE p t == 1 && (eligible s p t).isSome)
    then dwrr s p dwrrFuel (portOf s p) else (none, portOf s p)

/-- The head of a queue leaves it: the next frame comes to the head now (R289), the deficit of a DWRR queue that becomes
empty is 0 (R266), a wait for a read-back is counted once, and with the head low and no segment left the assembly joins it (R251). -/
def popHead (p t : Nat) (s : State) : State :=
  let q := 8 * p + t
  let x := queueOf s q
  let rest := match x.head.drop 1 with | [] => [] | c :: cs => { c with since := s.nowNs } :: cs
  let stall := rest.isEmpty && x.reading.isSome && !x.stalled
  let x' := { x with head := rest, stalled := x.stalled || stall }
  let s := setQueue q (if headLow s x' then rejoin x' else x') s
  let s := if stall then s.bump BUF_SPILL_STALL_CNT else s
  onPort p (fun y => { y with
    launched := y.launched.filter (· != t), neverFits := y.neverFits.filter (· != t),
    deficit := if (queueCopies x').isEmpty then Store.erase y.deficit t else y.deficit }) s

/-- A timestamp with a signed correction in ps (R52). DESIGN CHOICE (log entry 121): the clock's fraction of a ns is left out, and the sum is
rounded down to whole ns. -/
def adjusted (t : Stamp) (adj : Int) : Stamp := nsStamp ((((stampNs t * 1000 : Nat) : Int) + adj).toNat / 1000)

end Sys2Proof.Machine
end

