-- ==== Sys2Proof/Machine/Express.lean ====
section
/-! DEFINITION. The express path: stream identification, the stages of the decision, sequence recovery, the express store
and the crossbar (R109 to R114, R259 to R262, R272 to R281). -/

namespace Sys2Proof.Machine

/-! ### The window and the stream table (R272, R273) -/

/-- The tags of a frame as it stands from byte 12 (R272): at most n VLAN tags (EtherType 0x8100 or 0x88A8) are passed; the VIDs
of the tags and the position of the EtherType after them. -/
def tagsFrom (bs : List Byte) : Nat → Nat → List Nat × Nat
  | 0, i => ([], i)
  | n + 1, i =>
    if beField bs i 2 = 0x8100 || beField bs i 2 = 0x88A8 then
      let r := tagsFrom bs n (i + 4)
      (beField bs (i + 2) 2 :: r.1, r.2)
    else ([], i)

/-- The tag control words of a frame, outer first, and where its EtherType after the tags stands. -/
def frameTags (bs : List Byte) : List Nat × Nat := tagsFrom bs 2 12

/-- The priority of a frame as received: the PCP of its outer tag, or DEF_PCP of its port (R241, R517). -/
def framePrio (s : State) (p : Nat) (bs : List Byte) : Nat :=
  match (frameTags bs).1 with
  | [] => s.get PRT_DEFAULT_DEF_PCP p
  | t :: _ => bitsOf t 15 13

/-- A frame carries an R-tag after its VLAN tags (R272, R279). -/
def hasRtag (bs : List Byte) : Bool := beField bs (frameTags bs).2 2 == 0xF1C1

/-- The sequence number of an R-tag: its last two bytes. -/
def rtagSeq (bs : List Byte) : Nat := beField bs ((frameTags bs).2 + 4) 2

/-- An R-tag with a sequence number (R279), 6 bytes: EtherType 0xF1C1, two reserved bytes, the number. -/
def rtagBytes (n : Nat) : List Byte := beBytes 2 0xF1C1 ++ zeros 2 ++ beBytes 2 n

/-- The frame with an R-tag inserted after its VLAN tags. -/
def pushRtag (n : Nat) (bs : List Byte) : List Byte :=
  bs.take (frameTags bs).2 ++ rtagBytes n ++ bs.drop (frameTags bs).2

/-- The frame without its R-tag. -/
def popRtag (bs : List Byte) : List Byte :=
  if hasRtag bs then bs.take (frameTags bs).2 ++ bs.drop ((frameTags bs).2 + 6) else bs

/-- The 32-byte window of an express decision (Table 2.4). -/
def window (bs : List Byte) : List Byte := padTo 32 bs

/-- A stream with no entry. -/
def noStream : Stream := ⟨0, false, 0, 0, []⟩

/-- Stream h of the table. -/
def streamOf (s : State) (h : Nat) : Stream := Store.getD s.xpr.streams h noStream

/-- The state with stream h replaced. -/
def setStream (h : Nat) (x : Stream) (s : State) : State :=
  { s with xpr := { s.xpr with streams := Store.put s.xpr.streams h noStream x } }

/-- The key of a stream entry (R272): the fields a frame is compared with. -/
def streamKey (e : Nat) : Nat × Nat × Nat × Nat × Nat × Nat :=
  let tags := bitsOf e 10 9
  (if bitOf e 1 then 128 else bitsOf e 8 2, tags, if 1 ≤ tags then bitsOf e 27 16 else 0,
    if 2 ≤ tags then bitsOf e 43 32 else 0, bitsOf e 63 48, bitsOf e 111 64)

/-- Whether a frame of a port hits an entry (R272). -/
def streamHits (e p : Nat) (w : List Byte) : Bool :=
  let t := frameTags w
  let k := streamKey e
  let vids := t.1.map (fun x => bitsOf x 11 0)
  let et := if hasRtag w then beField w (t.2 + 6) 2 else beField w t.2 2
  bitOf e 0 && (k.1 == 128 || k.1 == p) && k.2.1 == vids.length &&
    k.2.2.1 == vids.getD 0 0 && k.2.2.2.1 == vids.getD 1 0 && k.2.2.2.2.1 == et && k.2.2.2.2.2 == beField w 0 6

/-- The stream handle a frame hits, if any (R13, R14). -/
def streamHit (s : State) (p : Nat) (bs : List Byte) : Option Nat :=
  (s.xpr.streams.find? (fun x => streamHits x.2.entry p (window bs))).map (fun x => x.1)

/-- The valid egress ports of a stream entry, in order (Table 11.1). -/
def streamEgress (e : Nat) : List Nat :=
  [0, 1, 2, 3].filterMap (fun i => if bitOf e (135 + 8 * i) then some (bitsOf e (134 + 8 * i) (128 + 8 * i)) else none)

/-- MAX_SDU of a stream entry. -/
def streamSdu (e : Nat) : Nat := bitsOf e 221 208

/-! ### The express TCAM (R109 to R111) -/

/-- Range checker i over the window (R110). -/
def rangeCheck (s : State) (w : List Byte) (i : Nat) : Bool :=
  let f := beField w (min 30 (s.get XPR_RANGE_OFFSET i)) 2
  s.on XPR_RANGE_ENABLE i && s.get XPR_RANGE_LOW i ≤ f && f ≤ s.get XPR_RANGE_HIGH i

/-- The bits of range checkers a to a + 63 as a number. -/
def rangeBits (s : State) (w : List Byte) (a : Nat) : Nat :=
  ((List.range 64).map (fun i => ofBool (rangeCheck s w (a + i)) * 2 ^ i)).sum

/-- Units 4 to 7 of the express key: the byte classes of window bytes 8k to 8k + 7 (Table 5.6). -/
def classUnit (s : State) (w : List Byte) (k : Nat) : Nat :=
  ((List.range 8).map (fun j =>
    Store.getD s.xpr.byteClass (key2 (8 * k + j) (leField w (8 * k + j) 1)) 0 % 2 ^ 20 * 2 ^ (20 * j))).sum

/-- The express key vector (Table 5.6). -/
def expressKey (s : State) (p : Nat) (hit : Option Nat) (w : List Byte) : List Nat :=
  [p * 2 ^ 153 + hit.getD 0 * 2 ^ 139 + ofBool hit.isSome * 2 ^ 138 + (frameTags w).1.length * 2 ^ 136 + beField w 0 16,
    beField w 16 16 * 2 ^ 32,
    2 ^ (64 + p) + rangeBits s w 0,
    rangeBits s w 64 * 2 ^ 96,
    classUnit s w 0, classUnit s w 1, classUnit s w 2, classUnit s w 3]

/-- CHAIN in force (Table 5.13): 3 acts as 0. -/
def xprChain (s : State) : Nat := if s.get XPR_TCAM_CFG_CHAIN = 3 then 0 else s.get XPR_TCAM_CFG_CHAIN

/-- The groups that a CHAIN forms (Table 5.5). -/
def chainGroups (c : Nat) : Nat := if c = 0 then 4 else if c = 1 then 2 else 1

/-- The WIDTH code of the entries of a CHAIN (R113). -/
def chainWidth (c : Nat) : Nat := c + 1

/-- SLICE of bank b (Table 5.13). -/
def sliceOf (s : State) (b : Nat) : Nat :=
  if b = 0 then s.get XPR_TCAM_CFG_SLICE_0 else if b = 1 then s.get XPR_TCAM_CFG_SLICE_1
  else if b = 2 then s.get XPR_TCAM_CFG_SLICE_2 else s.get XPR_TCAM_CFG_SLICE_3

/-- The units group g searches (Table 5.5): the slice of its first bank; in CHAIN 1 a slice of 0 or 1, other values by their
low bit. -/
def groupUnits (s : State) (g : Nat) (key : List Nat) : List Nat :=
  let c := xprChain s
  if c = 0 then (key.drop (2 * sliceOf s g)).take 2
  else if c = 1 then (key.drop (4 * (sliceOf s (2 * g) % 2))).take 4
  else key

/-- The express result (R111): the lowest-numbered group whose hit has ACT 1 or 2, with the entry's index in it and its ACTION. -/
def expressResult (s : State) (key : List Nat) : Option (Nat × Nat × Nat) :=
  ((List.range (chainGroups (xprChain s))).filterMap (fun g =>
    (tcamSearch (Store.getD s.xpr.tcam g []) (s.on XPR_TCAM_CFG_EPOCH) (groupUnits s g key)).map (fun e => (g, e.1, e.2.action)))).find?
    (fun r => bitsOf r.2.2 1 0 == 1 || bitsOf r.2.2 1 0 == 2)

/-- The ACTION of the express result; the counter index is a field of it (Table 5.8). -/
def expressAction (s : State) (key : List Nat) : Option Nat := (expressResult s key).map (fun r => r.2.2)

/-- The replicas whose own result differs from the others': those in dissent, those an injection inverts (R444), and those that read a row
whose parity fails (R114): a search compares every row, so each row struck makes its replica differ. -/
def differing (s : State) (dissent : List Nat) : List Nat :=
  (List.range 3).filter (fun r => dissent.contains r || s.faults.inverted.contains r || s.xpr.damaged.any (fun e => e.1 == r))

/-! ### Stages of the decision (R275 to R280) -/

/-- The verdict of sequence recovery (R280): passed, eliminated as a duplicate, or rogue. -/
inductive SeqVerdict where
  | pass
  | duplicate
  | rogue
deriving DecidableEq, Repr

/-- Sequence recovery of number n by instance r (R280): alg 0 vector recovery with a history of hist numbers, 1 match
recovery. -/
def recoverSeq (alg : Bool) (hist n : Nat) (r : Option Recovery) : SeqVerdict × Recovery :=
  match r with
  | none => (.pass, ⟨n, 1, 0⟩)
  | some r =>
    if alg then (if r.latest = n then (.duplicate, r) else (.pass, ⟨n, 1, r.passed⟩))
    else
      let d := signedOf 16 (n + 2 ^ 16 - r.latest)
      if 0 < d then (.pass, ⟨n, (r.seen * 2 ^ d.toNat + 1) % 2 ^ hist, r.passed⟩)
      else
        let back := (-d).toNat
        if hist ≤ back then (.rogue, r)
        else if bitOf r.seen back then (.duplicate, r)
        else (.pass, { r with seen := r.seen + 2 ^ back })

/-- A stream counts a frame refused at a stage, or passed (stage 0). -/
def streamCount (h stage : Nat) (s : State) : State :=
  let x := streamOf s h
  let c := padCounts x.counts
  setStream h { x with counts := c.set stage (c.getD stage 0 + 1) } s
where
  /-- Seven counts, zero where none stands. -/
  padCounts (l : List Nat) : List Nat := (l ++ List.replicate 7 0).take 7

/-- A stream is blocked for an oversize frame where its entry asks for it (R276). -/
def blockStream (h : Nat) (s : State) : State :=
  let x := streamOf s h
  if bitOf x.entry 222 && !x.blocked then report srcXpOversizeBlock (setStream h { x with blocked := true } s)
  else s

/-- Whether the stream gate of an entry is open at a time in ns (R277). -/
def streamGateOpen (s : State) (e t : Nat) : Bool :=
  if !bitOf e 223 then true
  else
    match Store.get? s.xpr.gates (bitsOf e 231 224) with
    | none => true
    | some g => openAt g.oper g.pend (fun w => bitOf w 24) t

/-! ### The express store and its cells (R259) -/

/-- Cells of 128 bytes that n bytes take. -/
def xCells (n : Nat) : Nat := ceilDiv n 128

/-- Cells of a copy written at its ingress end and not yet crossed. -/
def XCopy.waiting (c : XCopy) : Nat := xCells c.out.length - c.crossed

/-- Cells of a copy that may cross now: whole ones while the frame still arrives. -/
def XCopy.ready (c : XCopy) : Nat := (if c.ended then xCells c.out.length else c.out.length / 128) - c.crossed

/-- Cells in use at the ingress end of port p. -/
def ingressCells (s : State) (p : Nat) : Nat := ((s.xpr.copies.filter (fun c => c.ingress == p)).map (fun c => c.waiting)).sum

/-- Cells in use at the egress end of port p. -/
def egressCells (s : State) (p : Nat) : Nat := ((s.xpr.copies.filter (fun c => c.egress == p)).map (fun c => c.crossed)).sum

/-- Shared express cells in use (R259): what ports use beyond their reserved cells. -/
def xShared (s : State) : Nat :=
  ((List.range 96).map (fun p => (ingressCells s p - 256) + (egressCells s p - 32))).sum

/-- XPR_VOQ_OCC follows the store. -/
def xprStat (s : State) : State := s.put XPR_VOQ_OCC_SHARED_USED (xShared s)

/-- n more cells find room at the ingress end of port p (R259). -/
def ingressRoom (s : State) (p n : Nat) : Bool :=
  let used := ingressCells s p
  xShared s + (used + n - 256) - (used - 256) ≤ 5120

/-- One more cell finds room at the egress end of port p (R259). -/
def egressRoom (s : State) (p : Nat) : Bool := egressCells s p < 32 || xShared s < 5120

/-- The state with the crossbar's copies replaced. -/
def setCopies (l : List XCopy) (s : State) : State := xprStat { s with xpr := { s.xpr with copies := l } }

/-- A copy of the crossbar is taken out; a lock on it ends. -/
def dropXCopy (ident e : Nat) (s : State) : State :=
  let s := setCopies (s.xpr.copies.filter (fun c => !(c.ident == ident && c.egress == e))) s
  if Store.get? s.xpr.locks e = some ident then { s with xpr := { s.xpr with locks := Store.erase s.xpr.locks e } } else s

/-- Every copy of a frame that has not been granted is taken out: the frame is refused for those egresses. -/
def dropUngranted (ident : Nat) (s : State) : State :=
  setCopies (s.xpr.copies.filter (fun c => !(c.ident == ident && !c.granted))) s

/-- Express frames of ingress p refused as virtual output queue full (R259, R262). -/
def refuseVoq (p : Nat) (s : State) : State := raise srcXpVoqFull p 0 (s.bump XPR_VOQ_REFUSE p)

/-! ### The crossbar (R260, R261) -/

/-- A list rotated to begin at a: a, a + 1, up to 95, 0, up to a − 1. -/
def wrapFrom (a : Nat) : List Nat := (List.range 96).map (fun k => (a + k) % 96)

/-- The copy at the head of the virtual output queue from i to e that asks for a cell: the oldest not wholly crossed. While
the egress is locked to a frame, only that frame asks (R261). -/
def voqHead (s : State) (i e : Nat) : Option XCopy :=
  match Store.get? s.xpr.locks e with
  | some id => s.xpr.copies.find? (fun c => c.ident == id && c.egress == e && c.ingress == i && 0 < c.ready)
  | none =>
    match s.xpr.copies.find? (fun c => c.ingress == i && c.egress == e && (0 < c.waiting || !c.ended)) with
    | none => none
    | some c => if 0 < c.ready then some c else none

/-- The pairs of ingress and egress port that ask for a cell; none asks for a first cell once acceptance has stopped (R31). -/
def requests (s : State) : List (Nat × Nat) :=
  ((s.xpr.copies.map (fun c => (c.ingress, c.egress))).eraseDups).filter (fun r =>
    match voqHead s r.1 r.2 with | none => false | some c => c.granted || s.egr.accepting)

/-- One iteration of the matching (R260): each unmatched egress with room grants the first asking ingress from gptr; each
ingress accepts the first granting egress from aptr. -/
def matchRound (s : State) (reqs : List (Nat × Nat)) (done : List (Nat × Nat)) : List (Nat × Nat) :=
  let grants := (List.range 96).filterMap (fun e =>
    if done.any (fun m => m.2 == e) || !egressRoom s e then none
    else ((wrapFrom (Store.getD s.xpr.gptr e 0)).find? (fun i =>
      !(done.any (fun m => m.1 == i)) && reqs.contains (i, e))).map (fun i => (i, e)))
  (List.range 96).filterMap (fun i =>
    ((wrapFrom (Store.getD s.xpr.aptr i 0)).find? (fun e => grants.contains (i, e))).map (fun e => (i, e)))

/-- One cell of the copy at the head of (i, e) crosses. first: the match was made in iteration 1, where a first cell moves
the pointers (R260). The grant of a first cell accepts the copy and locks the egress (R16, R261). The last shared cell goes to the first of
the matches that need it (R259). -/
def crossCell (first : Bool) (i e : Nat) (s : State) : State :=
  match (if egressRoom s e then voqHead s i e else none) with
  | none => s
  | some c =>
    let n := { c with crossed := c.crossed + 1, granted := true }
    let s := setCopies (s.xpr.copies.map (fun x => if x.ident == c.ident && x.egress == e then n else x)) s
    let last := n.ended && xCells n.out.length ≤ n.crossed
    let s := { s with xpr := { s.xpr with
      locks := if last then Store.erase s.xpr.locks e else Store.set s.xpr.locks e c.ident } }
    if c.granted then s
    else
      let s := countEvent 5 0x02 e 1 (s.bump XPR_ACCEPT i)
      if first then { s with xpr := { s.xpr with
        aptr := Store.put s.xpr.aptr i 0 ((e + 1) % 96), gptr := Store.put s.xpr.gptr e 0 ((i + 1) % 96) } }
      else s

end Sys2Proof.Machine
end

