-- ==== Sys2Proof/Machine/Macsec.lean ====
section
/-! DEFINITION. MACsec on the line (R50, R51, R65): the SecTAG, the protected frame and the validation of a frame received. The cipher
suite's keystream and its integrity check value are free functions of Config; the SecTAG is that of IEEE 802.1AE, which R50 names (PRESUMED,
log entry 75). -/

namespace Sys2Proof.Machine

/-- The number of a secure association: port, channel, direction (0 receive, 1 transmit) and association number. -/
def saKey (p chan dir an : Nat) : Nat := ((p * 64 + chan) * 2 + dir) * 4 + an

/-- The bytes that the confidentiality offset of a port leaves in clear (R50). -/
def confOffset (s : State) (p : Nat) : Nat :=
  let c := s.get PRT_MACSEC_CTRL_CONF_OFFSET p
  if c = 1 then 30 else if c = 2 then 50 else 0

/-- The length of a SecTAG. -/
def tagBytes : Nat := Config.macsecBytes - 16

/-- The SecTAG of a frame: EtherType, TCI with AN, short length, the low bits of PN, and the SCI where the tag holds one. -/
def secTag (an pn sci n : Nat) : List Byte :=
  padTo tagBytes (beBytes 2 0x88E5 ++ beBytes 1 ((if 16 ≤ tagBytes then 0x20 else 0) + 12 + an) ++ beBytes 1 (if n < 48 then n else 0) ++
    beBytes 4 (pn % 2 ^ 32) ++ beBytes 8 sci)

/-- Secure data under a key and PN: the first off bytes stand in clear, each other byte is combined with its byte of the keystream. The same
operation encrypts and decrypts. -/
def secure (key ssci pn off : Nat) (data : List Byte) : List Byte :=
  data.zipIdx.map (fun e => if e.2 < off then e.1 else e.1 ^^^ Config.macsecStream key ssci pn e.2)

/-- The protected form of a frame (R51): its addresses, the SecTAG, the secure data and the ICV over all of these. -/
def protectedFrame (a : MacsecSa) (an pn off : Nat) (bs : List Byte) : List Byte :=
  let data := bs.drop 12
  let body := bs.take 12 ++ secTag an pn a.sci data.length ++ secure a.keyIndex a.ssci pn off data
  body ++ beBytes 16 (Config.macsecIcv a.keyIndex a.ssci pn body).toNat

/-! ### Transmission -/

/-- The association that port p transmits under: in use, with a packet number left. -/
def txSa (s : State) (p : Nat) : Option (Nat × MacsecSa) :=
  s.ascor.macsec.find? (fun e => e.1 / 512 == p && e.1 / 4 % 2 == 1 && e.2.inUse && e.2.pn < 2 ^ 64)

/-- A frame that port p has to protect waits while no association can protect it (DESIGN CHOICE, log entry 75). -/
def secBlocked (s : State) (p : Nat) (bs : List Byte) : Bool := protects s p bs && (txSa s p).isNone

/-- A frame that starts on port p takes the packet number of its association (R50). Answers the association and the number, none in clear. -/
def takePn (p : Nat) (bs : List Byte) (s : State) : Option (Nat × Nat) × State :=
  if !protects s p bs then (none, s)
  else
    match txSa s p with
    | none => (none, s)
    | some (k, a) =>
      (some (k, a.pn), { s with ascor := { s.ascor with macsec := Store.set s.ascor.macsec k { a with pn := a.pn + 1 } } })

/-- The bytes of a frame as they stand on the line of port p, without FCS (R51): protected where it took a packet number. -/
def onLine (s : State) (p : Nat) (sec : Option (Nat × Nat)) (bs : List Byte) : List Byte :=
  match sec with
  | none => bs
  | some (k, pn) =>
    match Store.get? s.ascor.macsec k with
    | none => bs.take 12 ++ secTag (k % 4) pn 0 (bs.length - 12)
    | some a => protectedFrame a (k % 4) pn (confOffset s p) bs

/-! ### Reception -/

/-- The packet number that the 32 bits of a SecTAG stand for, where next is the one expected (XPN). -/
def fullPn (next low : Nat) : Nat :=
  let lo := next % 2 ^ 32
  let hi := next / 2 ^ 32
  if 2 ^ 31 ≤ lo && low < lo - 2 ^ 31 then (hi + 1) * 2 ^ 32 + low else hi * 2 ^ 32 + low

/-- The association that a received SecTAG names: by its SCI where it holds one, else the port's channel that has the AN. -/
def rxSa (s : State) (p : Nat) (wire : List Byte) : Option (Nat × MacsecSa) :=
  let tci := beField wire 14 1
  s.ascor.macsec.find? (fun e => e.1 / 512 == p && e.1 / 4 % 2 == 0 && e.2.inUse && e.1 % 4 == tci % 4 &&
    (!bitOf tci 5 || e.2.sci == beField wire 20 8))

/-- What MACsec makes of the bytes of a frame received so far: it passes in clear, it is discarded (a replay or not), or it is the plain bytes
so far under an association with its packet number, whose ICV, once the frame has ended, fits or does not. -/
inductive Secured where
  | clear
  | discard (replay : Bool)
  | valid (key pn : Nat) (bytes : List Byte) (icvOk : Bool)
deriving DecidableEq, Repr

/-- Port p validates a frame of which these bytes have arrived (R50, R51, R65). The last 16 bytes may be the ICV and are held back. DESIGN
CHOICE (log entry 75): an untagged frame, one without an association and one behind the replay window are discarded. -/
def validate (s : State) (p : Nat) (wire : List Byte) (ended : Bool) : Secured :=
  if !protects s p wire then .clear
  else if beField wire 12 2 != 0x88E5 || wire.length < 12 + Config.macsecBytes || (bitOf (beField wire 14 1) 5 != decide (16 ≤ tagBytes)) then .discard false
  else
    match rxSa s p wire with
    | none => .discard false
    | some (k, a) =>
      let pn := fullPn a.pn (beField wire 16 4)
      if pn + (Config.replayWindow p).toNat < a.pn then .discard true
      else
        let body := wire.take (wire.length - 16)
        let plain := wire.take 12 ++ secure a.keyIndex a.ssci pn (confOffset s p) (body.drop (12 + tagBytes))
        .valid k pn plain (!ended || beNat (wire.drop (wire.length - 16)) == (Config.macsecIcv a.keyIndex a.ssci pn body).toNat)

/-- A replay or a failed ICV on port p: the 65th within 1 ms raises cause 3 of its source (Table 21.4). -/
def secFailure (p : Nat) (s : State) : State :=
  let recent := s.faults.macFails.filter (fun e => s.clock < e.2 + 1000000)
  let s := { s with faults := { s.faults with macFails := recent ++ [(p, s.clock)] } }
  if (s.faults.macFails.filter (fun e => e.1 == p)).length ≤ 64 then s else raiseAt (srcPort p) 3 s

/-- A frame that MACsec discards is refused before acceptance and counted with the bad frames (R18; DESIGN CHOICE, log entry 75). -/
def secRefuse (p : Nat) (replay : Bool) (s : State) : State :=
  let s := s.bump BUF_FCS_REFUSE p
  if replay then secFailure p s else s

/-- A protected frame has ended well: the packet number expected next goes past its own (R50). fcs: its FCS fits; icvOk: its ICV does. -/
def secEnds (p key pn : Nat) (fcs icvOk : Bool) (s : State) : State :=
  if !fcs then s
  else if !icvOk then secFailure p s
  else
    match Store.get? s.ascor.macsec key with
    | none => s
    | some a => { s with ascor := { s.ascor with macsec := Store.set s.ascor.macsec key { a with pn := max a.pn (pn + 1) } } }

end Sys2Proof.Machine
end

