-- ==== Sys2Proof/Machine/Traffic.lean ====
section
/-! DEFINITION. What frames do at the ports: arrival and its end, the express decision, the crossbar's cell time, the start
and end of a frame on the line, preemption, pauses, gates and launch times, link events and parking (chapters 3, 10 and 11). -/

namespace Sys2Proof.Machine

/-! ### Readiness (R460) -/

/-- The bulk path forwards: from BULK_READY, while island C is up. -/
def bulkReady (s : State) : Bool := s.on PWR_READY_BULK_READY && s.power.coreUp

/-- The express path forwards: from EXPRESS_READY. -/
def expressReady (s : State) : Bool := s.on PWR_READY_EXPRESS_READY

/-- A port takes frames from the line: it is enabled, its link is up and ingress acceptance goes on (R31). -/
def receives (s : State) (p : Nat) : Bool :=
  (portOf s p).enabled && s.on PRT_STATUS_LINK_UP p && s.egr.accepting && !inGroup s p

/-! ### Arrival of bulk frames (R241, R271, R521) -/

/-- The ingress timestamp of a frame that arrives now on port p (R52). -/
def ingressStamp (s : State) (p : Nat) : Stamp := adjusted s.now (signedOf 16 (s.get PRT_TS_ADJ_ING_ADJ p))

/-- The bytes the MAC of port p keeps of a frame (R521), given without FCS: none beyond MAX_LEN; and whether the frame has a
length error: MAX_LEN reached without an end, or an end below 64 bytes. -/
def macTake (s : State) (p : Nat) (bs : List Byte) (ended : Bool) : List Byte × Bool :=
  let extra := wireLen s p bs - bs.length - 4
  let reach := if ended then bs.length + 4 + extra else bs.length + extra
  if maxLen s p < reach || (!ended && maxLen s p ≤ reach) then (bs.take (maxLen s p - extra), true)
  else (bs, ended && bs.length + 4 + extra < 64)

/-- The ingress policer of a port and priority refuses a frame that starts to arrive (R271). -/
def policerRefuses (s : State) (p i : Nat) : Bool :=
  s.on SCH_IPOL_EN p i && Store.getD s.egr.ipol (8 * p + i) 0 < 0

/-- The counted length of a frame is taken from its policer when its end arrives (R271). -/
def policerTake (p i n : Nat) (s : State) : State :=
  if s.on SCH_IPOL_EN p i then
    { s with egr := { s.egr with
      ipol := Store.upd s.egr.ipol (8 * p + i) 0 (fun t => t - ((countedLen s p n * 2 ^ 32 : Nat) : Int)) } }
  else s

/-- QTR_PARSE_CNT of quarter q for a reason (R74, Table 4.9). -/
def parseCount (q reason : Nat) (s : State) : State :=
  if reason = 0x06 then s.bump QTR_PARSE_CNT_05 q
  else if reason < 0x06 then s.bump QTR_PARSE_CNT_0 q (reason - 1)
  else s.bump QTR_PARSE_CNT_1 q (reason - 0x10)

/-- Bytes counted in rule counter c of quarter q (R108). -/
def ruleBytes (q c n : Nat) (s : State) : State :=
  { s with counters := { s.counters with
    ruleBytes := Store.upd s.counters.ruleBytes (key2 q c) 0 (fun b => (b + n) % 2 ^ 64) } }

/-- A check of R76 fails at the frame's end, n bytes without FCS. -/
def lateFails (n : Nat) (c : Nat × Nat × Nat) : Bool := if c.2.1 = 0x01 then n < c.2.2 else c.2.2 != n

/-- The reasons of a list that are not yet counted for a frame, each once (R74). -/
def freshReasons (seen : List Nat) : List (Nat × Nat × Nat) → List (Nat × Nat × Nat)
  | [] => []
  | c :: rest => if seen.contains c.2.1 then freshReasons seen rest else c :: freshReasons (c.2.1 :: seen) rest

/-- What the end of a frame counts whatever has become of it (R76, R108, R271): its policer and its rule counters take its bytes, and
each reason whose waiting check fails is counted once. -/
def endCounts (x : Frame) (s : State) : State :=
  let s := if x.port < 96 then policerTake x.port x.prio (wireLen s x.port x.bytes) s else s
  let s := (freshReasons x.reasons (x.late.filter (lateFails x.bytes.length))).foldl (fun s c => parseCount c.1 c.2.1 s) s
  x.counting.foldl (fun s c => ruleBytes c.1 c.2 (x.bytes.length + 4) s) s

/-- The end of a frame of the buffer (R23, R76, R248, R521): its counts are made; a bad frame whose header has not left the port is
refused and counted in BUF_FCS_REFUSE_n; one already linked or under decision is marked. -/
def frameEnds (f : Nat) (bad : Bool) (s : State) : State :=
  match frameOf s f with
  | none => s
  | some x =>
    let s := setFrame f { x with ended := true } (endCounts x s)
    if bad && x.refs = 0 && !x.dispatched then refuseFrame BUF_FCS_REFUSE f s
    else settleBuffer (setFrame f { x with
      ended := true, bad := bad || x.late.any (lateFails x.bytes.length), late := [], counting := [] } s)

/-- The next frame identity of the buffer. -/
def newFrame (x : Frame) (s : State) : State :=
  { setFrame s.buf.nextFrame x s with buf := { (setFrame s.buf.nextFrame x s).buf with nextFrame := s.buf.nextFrame + 1 } }

/-- A frame on port p as it starts to arrive, with nothing charged. -/
def freshFrame (p prio : Nat) (lossless : Bool) (bs : List Byte) (t : Stamp) (tx : Option (Nat × Nat)) : Frame :=
  ⟨p, bs, false, false, t, prio, lossless, 0, 0, 0, 0, 0, 0, false, none, false, tx, false, [], [], none, 0, 0, [], false⟩

/-- A frame's cells are charged one by one and written (R241, R258), or the frame is refused. -/
def admitCells (f n : Nat) (s : State) : State :=
  match chargeCells f n s with
  | none => refuseCells f s
  | some s =>
    match frameOf s f with
    | none => s
    | some x => settleBuffer (countEvent 6 0x01 x.port n s)

/-- A bulk frame starts to arrive on port p with its first bytes (R241, R271, R521); it may end with them. A frame that hits an
express stream is no bulk frame (R13). tx names the PKT_TX slot of a PIPELINE frame. -/
def bulkArrive (p : Nat) (bs : List Byte) (ended good : Bool) (tx : Option (Nat × Nat)) (s : State) : State :=
  let m := macTake s p bs ended
  let prio := framePrio s p m.1
  if policerRefuses s p prio then txOutcome tx 4 s.now (s.bump SCH_IPOL_REFUSE p)
  else
    let f := s.buf.nextFrame
    let s := newFrame { freshFrame p prio (losslessPrio s p prio) m.1 (ingressStamp s p) tx with
      defVid := s.get PRT_DEFAULT_DEF_VID p, defPcp := s.get PRT_DEFAULT_DEF_PCP p } s
    let s := admitCells f (cellCount m.1.length) s
    if (ended || m.2) then frameEnds f (m.2 || !good) s else s

/-- More bytes of frame f of the buffer arrive: its cells are charged as at the arrival while it is not linked, and belong to
its copies once it is; every copy carries the bytes on. -/
def growFrame (f : Nat) (bs : List Byte) (s : State) : State :=
  match frameOf s f with
  | none => s
  | some x =>
    let n := cellCount bs.length - cellCount x.bytes.length
    let tail := bs.drop x.bytes.length
    let s := setFrame f { x with bytes := bs } s
    if x.refs = 0 then admitCells f n s
    else
      let grow := fun (c : Copy) => if c.frame == f then { c with out := c.out ++ tail, cells := c.cells + n } else c
      let s := { s with buf := { s.buf with queues := s.buf.queues.map (fun (e : Nat × Queue) =>
        (e.1, { e.2 with head := e.2.head.map grow, asm := e.2.asm.map grow, segs := e.2.segs.map (fun (g : Segment) => { g with copies := g.copies.map grow }) })) } }
      let s := { s with egr := { s.egr with ports := s.egr.ports.map (fun (e : Nat × PortSide) => (e.1, { e.2 with
        sending := e.2.sending.map (fun y => if y.express then y else { y with copy := grow y.copy }) })) } }
      let s := if x.lossless then
          (match chargeCells f n s with
          | none => onFrame f (fun y => { y with account := y.account + n, pool1 := y.pool1 + n }) s
          | some s => linkCharge f s)
        else s
      settleBuffer (countEvent 6 0x01 x.port n s)

/-- The end of frame f that was taken out before it arrives (R108): only its counts are made. -/
def tailEnds (f : Nat) (rest : List Byte) (s : State) : State :=
  match Store.get? s.buf.tails f with
  | none => s
  | some x =>
    let m := macTake s x.port (x.bytes ++ rest) true
    endCounts { x with bytes := m.1 } { s with buf := { s.buf with tails := Store.erase s.buf.tails f } }

/-- The last bytes of bulk frame f arrive (R23, R521). -/
def bulkEnd (f : Nat) (rest : List Byte) (good : Bool) (s : State) : State :=
  match frameOf s f with
  | none => tailEnds f rest s
  | some x =>
    if x.ended || 96 ≤ x.port then s
    else
      let m := macTake s x.port (x.bytes ++ rest) true
      frameEnds f (m.2 || !good) (growFrame f m.1 s)

/-! ### The express decision (R109 to R114, R275 to R280, R441) -/

/-- The decision replicas that vote: those not fenced. -/
def votingReplicas (s : State) : List Nat := [0, 1, 2].filter (fun r => !fenced s (17 + r))

/-- Replica r is outvoted in a decision (R441): the vote masks it, and DISAGREE_N disagreements within 1 ms raise its fault
source, which fences it. -/
def outvoted (r : Nat) (s : State) : State :=
  let recent := (s.faults.disagree.filter (fun e => e.1 == r && s.clock ≤ e.2 + 1000000)).length + 1
  let s := { s with faults := { s.faults with
    disagree := s.faults.disagree.filter (fun e => s.clock ≤ e.2 + 1000000) ++ [(r, s.clock)] } }
  let s := countEvent 5 0x04 r 1 s
  if clamp 1 255 (s.get FLT_CTRL_DISAGREE_N) ≤ recent then report (srcReplica r 0) s else s

/-- An express rule counter takes a frame, or its bytes. -/
def expressRule (a : Option Nat) (frames bytes : Nat) (s : State) : State :=
  match a with
  | none => s
  | some a =>
    if !bitOf a 14 then s
    else
      let c := bitsOf a 13 2
      { s with counters := { s.counters with
        xprFrames := Store.upd s.counters.xprFrames c 0 (fun n => (n + frames) % 2 ^ 64),
        xprBytes := Store.upd s.counters.xprBytes c 0 (fun n => (n + bytes) % 2 ^ 64) } }

/-- A frame of stream h refused at a stage, in counter r (R275). -/
def expressRefuse (h stage : Nat) (r : Reg) (s : State) : State := streamCount h stage (s.bump r)

/-- Stage 4 (R280): the recovery instance of an ELIM stream judges the R-tag; a frame without one passes untouched. Answers
whether the frame passes. -/
def stageRecover (h : Nat) (bs : List Byte) (s : State) : Bool × State :=
  let e := (streamOf s h).entry
  if !bitOf e 182 then (true, s)
  else if !hasRtag bs then (true, s.bump XPR_NOTAG_CNT)
  else
    let r := bitsOf e 205 192
    let v := recoverSeq (bitOf e 183) (bitsOf e 189 184 + 1) (rtagSeq bs) (Store.get? s.xpr.recovery r)
    match v.1 with
    | .pass => (true, { s with xpr := { s.xpr with recovery := Store.set s.xpr.recovery r { v.2 with passed := s.clock } } })
    | .duplicate => (false, expressRefuse h 4 XPR_ELIM_CNT s)
    | .rogue => (false, expressRefuse h 4 XPR_ROGUE_CNT s)

/-- Express frame ident still arrives: its bytes so far, as received, stand aside until its end (R108, R278, R521). -/
def beginTail (ident h p : Nat) (bs : List Byte) (s : State) : State :=
  { s with xpr := { s.xpr with tails := Store.set s.xpr.tails ident ⟨ident, p, 0, h, bs, bs.length, s.now, none, 0, false, false, false⟩ } }

/-- The flow meter takes the bytes of express frame ident at its end (R278). -/
def meterLater (ident : Nat) (s : State) : State :=
  match Store.get? s.xpr.tails ident with
  | none => s
  | some t => { s with xpr := { s.xpr with tails := Store.set s.xpr.tails ident { t with granted := true } } }

/-- Stage 6 and the copies (R259, R262, R279) of frame ident: it is written into the virtual output queue of each egress; without
room it is refused as virtual output queue full. -/
def stageQueue (ident h p : Nat) (bs : List Byte) (ended bad : Bool) (s : State) : State :=
  let x := streamOf s h
  let gen := bitOf x.entry 180
  let out := if gen then pushRtag x.seq bs else bs
  let out := if bitOf x.entry 181 then popRtag out else out
  let s := if gen then setStream h { x with seq := (x.seq + 1) % 2 ^ 16 } s else s
  let egr := streamEgress x.entry
  if !ingressRoom s p (egr.length * xCells out.length) then refuseVoq p (streamCount h 6 s)
  else
    let t := ingressStamp s p
    let d := bitsOf x.entry 179 160
    let copies := egr.map (fun e => (⟨ident, p, e, h, out, bs.length, t,
      if d = 0 then none else some (stampNs t + 100 * d), 0, false, ended, bad⟩ : XCopy))
    setCopies (s.xpr.copies ++ copies) (streamCount h 0 s)

/-- The frame's counted length is taken from its stream's meter when its end arrives (R278). -/
def meterTake (h p n : Nat) (s : State) : State :=
  let x := streamOf s h
  setStream h { x with tokens := x.tokens - ((countedLen s p n * 2 ^ 32 : Nat) : Int) } s

/-- Stages 1 to 6 of Table 11.2 in order for frame ident of stream h. -/
def expressFilter (ident h p : Nat) (bs : List Byte) (ended bad : Bool) (a : Option Nat) (s : State) : State :=
  let x := streamOf s h
  let sdu := streamSdu x.entry
  if (match a with | none => false | some a => bitsOf a 1 0 == 2) then expressRefuse h 1 XPR_TCAM_DENY_CNT s
  else if x.blocked then expressRefuse h 2 XPR_SDU_REFUSE_CNT s
  else if sdu != 0 && sdu < bs.length then blockStream h (expressRefuse h 2 XPR_SDU_REFUSE_CNT s)
  else if !streamGateOpen s x.entry (stampNs (ingressStamp s p)) then expressRefuse h 3 XPR_SGATE_REFUSE_CNT s
  else
    let r := stageRecover h bs s
    if !r.1 then r.2
    else if (streamOf r.2 h).tokens < 0 then expressRefuse h 5 XPR_METER_REFUSE_CNT r.2
    else stageQueue ident h p bs ended bad (if ended then meterTake h p (wireLen r.2 p bs) r.2 else meterLater ident r.2)

/-- The decision on a frame of stream h with express action a (R111, R275): its rule counter takes the frame, and its bytes once they have
all arrived, whatever the stages do with it (R108); then the stages. -/
def expressStages (h p : Nat) (bs : List Byte) (ended bad : Bool) (a : Option Nat) (s : State) : State :=
  let ident := s.xpr.nextIdent
  let s := { s with xpr := { s.xpr with nextIdent := ident + 1 } }
  let s := if ended then expressRule a 1 (bs.length + 4) s
    else
      let s := expressRule a 1 0 (beginTail ident h p bs s)
      match a with | none => s | some a => { s with xpr := { s.xpr with counting := Store.set s.xpr.counting ident a } }
  expressFilter ident h p bs ended bad a s

/-- The replicas decide a frame that arrives on port p with its first bytes (R275, R441). dissent: the voting replicas whose
own result differs. With two replicas voting, a disagreement refuses the frame. -/
def expressDecide (p : Nat) (bs : List Byte) (ended good : Bool) (dissent : List Nat) (s : State) : State :=
  let m := macTake s p bs ended
  match streamHit s p m.1 with
  | none => s
  | some h =>
    let a := expressAction s (expressKey s p (some h) (window m.1))
    let vote := votingReplicas s
    let out := vote.filter (fun r => (differing s dissent).contains r)
    if vote.length ≤ 2 && !out.isEmpty then
      raise srcXpDisagree2 p 0 (s.bump FLT_XP_DISAGREE_CNT)
    else
      let s := out.foldl (fun s r => outvoted r s) (countEvent 5 0x01 p 1 s)
      let bad := (ended || m.2) && (m.2 || !good)
      if bad then
        expressRule a 1 (m.1.length + 4) (s.bump BUF_FCS_REFUSE p)
      else expressStages h p m.1 ended bad a s

/-- The copies of an express frame. -/
def xCopiesOf (s : State) (ident : Nat) : List XCopy := s.xpr.copies.filter (fun c => c.ident == ident)

/-- The counts that wait for the end of an express frame (R108, R278): tail t with the bytes of the whole frame. -/
def tailCounts (t : XCopy) (bs : List Byte) (s : State) : State :=
  let s := if t.granted then meterTake t.stream t.ingress (wireLen s t.ingress bs) s else s
  let s := expressRule (Store.get? s.xpr.counting t.ident) 0 (bs.length + 4) s
  { s with xpr := { s.xpr with counting := Store.erase s.xpr.counting t.ident, tails := Store.erase s.xpr.tails t.ident } }

/-- The ingress MAC counts more than MAX_SDU bytes of express frame ident (R276): what is not granted is refused at stage 2, what is
granted is cut off and stomped; the stream may be blocked. DESIGN CHOICE (log entry 122): the copies not granted beside granted ones count
as one refusal of stage 2 (R18). -/
def expressOversize (ident : Nat) (s : State) : State :=
  match (xCopiesOf s ident).find? (fun c => !c.ended) with
  | none => s
  | some c =>
    let sdu := streamSdu (streamOf s c.stream).entry
    if sdu = 0 then s
    else
      let cut := (xCopiesOf s ident).any (fun x => x.granted)
      let s := if (xCopiesOf s ident).any (fun x => !x.granted) then
        dropUngranted ident (expressRefuse c.stream 2 XPR_SDU_REFUSE_CNT s) else s
      let s := if !cut then s
        else setCopies (s.xpr.copies.map (fun x =>
          if x.ident == ident then { x with out := x.out.take sdu, ended := true, bad := true } else x)) (s.bump XPR_OVERSIZE_STOMP_CNT)
      blockStream c.stream s

/-- The n bytes that end express frame ident find no free cell for its copies that are not yet granted (R259). -/
def voqLacks (s : State) (ident p n : Nat) : Bool :=
  let l := (xCopiesOf s ident).filter (fun x => !x.granted && !x.ended)
  !l.isEmpty && !ingressRoom s p (l.map (fun x => xCells (x.out.length + n) - xCells x.out.length)).sum

/-- The end of express frame ident arrives (R23, R259, R276, R278, R521): its counts are made whatever has become of it. One longer than
MAX_SDU is oversize, one without room is refused where it is not granted; a bad frame is refused where it is not granted, and its granted
copies end in a stomp. -/
def expressEnd (ident : Nat) (rest : List Byte) (good : Bool) (s : State) : State :=
  match Store.get? s.xpr.tails ident with
  | none => s
  | some t =>
    let p := t.ingress
    let m := macTake s p (t.out ++ rest) true
    let bad := m.2 || !good
    let s := tailCounts t m.1 s
    let sdu := streamSdu (streamOf s t.stream).entry
    let s := if sdu != 0 && sdu < m.1.length then expressOversize ident s else s
    let s := if voqLacks s ident p (m.1.length - t.out.length) then dropUngranted ident (refuseVoq p s) else s
    if (xCopiesOf s ident).all (fun c => c.ended) then s
    else
      let more := m.1.drop t.out.length
      let s := setCopies (s.xpr.copies.map (fun x =>
        if x.ident == ident && !x.ended then { x with out := x.out ++ more, received := m.1.length, ended := true, bad := bad } else x)) s
      let s := if bad && (xCopiesOf s ident).any (fun x => !x.granted) then
        dropUngranted ident (s.bump BUF_FCS_REFUSE p) else s
      { s with xpr := { s.xpr with locks := s.xpr.locks.filter (fun l => !(l.2 == ident &&
        (xCopiesOf s ident).any (fun x => x.egress == l.1 && xCells x.out.length ≤ x.crossed))) } }

/-- A frame of the express store passes its deadline before it starts (R262, R281): an ungranted copy is refused as virtual
output queue full; a granted one is returned with code 0x01, or taken out and counted while island C is out. -/
def expressDeadline (ident e : Nat) (s : State) : State :=
  match s.xpr.copies.find? (fun c => c.ident == ident && c.egress == e) with
  | none => s
  | some c =>
    let started := match (portOf s e).sending with | none => false | some x => x.express && x.copy.frame == ident
    match c.deadline with
    | none => s
    | some d =>
      if s.nowNs < d || started then s
      else
        let s := dropXCopy ident e s
        if !c.granted then refuseVoq c.ingress s
        else if s.power.coreUp then
          raise srcXpLate e 0 ((returnWork ⟨false, 0x01, e, 0xFF, s.now, 0, c.out⟩ s).bump XPR_LATE_CNT)
        else s.bump XPR_LATE_DROP_CNT

/-- One 4 ns cell time of the crossbar (R260): three iterations, then the matched cells cross; each asking ingress left
unmatched counts (Table 20.2). -/
def cellTime (s : State) : State :=
  let reqs := requests s
  let m1 := matchRound s reqs []
  let m2 := m1 ++ matchRound s reqs m1
  let m3 := m2 ++ matchRound s reqs m2
  let idle := ((reqs.map (fun r => r.1)).eraseDups).filter (fun i => !(m3.any (fun m => m.1 == i)))
  let s := idle.foldl (fun s i => countEvent 5 0x05 i 1 s) s
  let s := m1.foldl (fun s m => crossCell true m.1 m.2 s) s
  (m3.drop m1.length).foldl (fun s m => crossCell false m.1 m.2 s) s

/-! ### Frames on the line (R265, R21, R57, R287) -/

/-- Whether the egress MAC may start an express copy (R261): by cut-through only where the ingress rate is at least the egress
rate and that is at most 256 Gb/s, else once its last cell is in the egress end. -/
def expressStarts (s : State) (c : XCopy) : Bool :=
  0 < c.crossed && ((c.ended && xCells c.out.length ≤ c.crossed) ||
    (portRate s c.egress ≤ portRate s c.ingress && portRate s c.egress ≤ 256000000))

/-- The length an express frame is judged with (R287). -/
def expressFitLen (s : State) (c : XCopy) : Nat :=
  if c.ended then countedLen s c.egress (wireLen s c.egress c.out)
  else
    let sdu := streamSdu (streamOf s c.stream).entry
    countedLen s c.egress (if sdu = 0 then maxLen s c.egress else sdu + 4)

/-- The express frame a port starts next (R265): the oldest eligible one whose first cell is in the egress end, once the MAC may start it. -/
def selectExpress (s : State) (p : Nat) : Option XCopy :=
  (s.xpr.copies.find? (fun c => c.egress == p && 0 < c.crossed && portGateOpen s p 8 && fits s p 8 (expressFitLen s c))).bind (fun c =>
    if expressStarts s c then some c else none)

/-- An express frame goes on the line. -/
def startExpress (p : Nat) (c : XCopy) (s : State) : State :=
  let r := takePn p c.out s
  onPort p (fun x => { x with sending := some ⟨true, 8,
    ⟨c.ident, c.out, 0, none, 0, false, false, !c.ended, 0, 0xFFFF⟩, 0, s.now, false, 0, s.clock, r.1⟩ }) r.2

/-- A bulk frame goes on the line from the head of queue t (R265, R268, R289): its tokens are taken, and a late or bad launch
time is counted. -/
def startBulk (p t : Nat) (c : Copy) (s : State) : State :=
  let len := copyLen s p c
  let s := if s.get SCH_QCFG_SHAPER p t = 2 then setCredit p t (creditOf s p t - ((len * 2 ^ 32 : Nat) : Int)) s else s
  let s := if !s.on SCH_QCFG_LAUNCH p t then s
    else if launchBad c then s.bump SCH_LAUNCH_BAD p
    else match c.launch with
      | none => s
      | some l => if stampNs l + s.get SCH_PORT_CFG_LAUNCH_LATE_NS p < s.nowNs then s.bump SCH_LAUNCH_LATE p else s
  let r := takePn p c.out s
  onPort p (fun x => { x with sending := some ⟨false, t, c, len * 2 ^ 32, s.now, false, 0, s.clock, r.1⟩ }) r.2

/-- A head frame that fits no open period of its gate is reported once (R287). -/
def reportNeverFits (p t : Nat) (s : State) : State :=
  match (queueOf s (8 * p + t)).head with
  | [] => s
  | c :: _ =>
    if !preemptActive s p && neverFits s p t (fitLen s p c) && !(portOf s p).neverFits.contains t then
      raiseAt (srcPort p) 2 (onPort p (fun x => { x with neverFits := x.neverFits ++ [t] }) s)
    else s

/-- A preempted bulk frame continues when its gate is open again and the MAC is not held (R287, R288); a pause received since it started does
not stop it (R270). -/
def resumes (s : State) (p : Nat) (x : Sending) : Bool := !(portOf s p).held && portGateOpen s p x.queue

/-- The line of port p is free and the next frame starts (R265): express first, then a preempted bulk frame, then the bulk
selection. -/
def frameStart (p : Nat) (s : State) : State :=
  if !mayTransmit s p || (portOf s p).sending.isSome then s
  else
    match selectExpress s p with
    | some c => if secBlocked s p c.out then s else startExpress p c s
    | none =>
      if !bulkReady s then s
      else
        match (portOf s p).preempted with
        | some x => if resumes s p x then onPort p (fun y => { y with
            sending := some { x with since := s.clock }, preempted := none }) s else s
        | none =>
          let sel := selectBulk s p
          match sel.1 with
          | some (t, c) => if secBlocked s p c.out then s else startBulk p t c (setPort p sel.2 s)
          | none => (List.range 8).foldl (fun s t => reportNeverFits p t s) (setPort p sel.2 s)

/-- A stomp (R23, R248): the frame ends with an inverted FCS and is counted at its egress. -/
def stomp (p : Nat) (s : State) : State := if s.power.coreUp then s.bump BUF_STOMP p else s

/-- The counts of a frame that has left a port (Table 20.2). -/
def sentCounts (p len : Nat) (express : Bool) (s : State) : State :=
  let s := countEvent 7 0x02 p len (countEvent 7 0x01 p 1 s)
  if express then countEvent 7 0x03 p 1 s else s

/-- The last byte of the express frame on the line leaves (R21). -/
def endExpress (p : Nat) (x : Sending) (s : State) : State :=
  match s.xpr.copies.find? (fun c => c.ident == x.copy.frame && c.egress == p) with
  | none => onPort p (fun y => { y with sending := none }) s
  | some c =>
    if !c.ended || c.crossed < xCells c.out.length then s
    else
      let s := onPort p (fun y => { y with sending := none, line := some (onLine s p x.sec c.out, c.bad) }) s
      let s := sentCounts p (countedLen s p (wireLen s p c.out)) true s
      let s := if c.bad then stomp p s else s
      dropXCopy c.ident p s

/-- The last byte of the bulk frame on the line leaves (R21, R248): it is delivered, or stomped where its end was bad. -/
def endBulk (p : Nat) (x : Sending) (s : State) : State :=
  let c := match (queueOf s (8 * p + x.queue)).head with | [] => x.copy | c :: _ => c
  if !copyEnded s c then s
  else
    let fr := frameOf s c.frame
    let bad := match fr with | none => false | some f => f.bad
    let tx := match fr with | none => none | some f => f.tx
    let s := onPort p (fun y => { y with sending := none, line := some ((onLine s p x.sec c.out).drop x.sent, bad) }) s
    let s := sentCounts p (copyLen s p c) false s
    let s := if bad then stomp p s else s
    let s := popHead p x.queue s
    let direct := match fr with | none => false | some f => f.port == 96
    let s := if direct then txOutcome tx 0 (adjusted x.start (signedOf 16 (s.get PRT_TS_ADJ_EGR_ADJ p))) s else s
    let s := { s with buf := { s.buf with direct := s.buf.direct.filter (fun e => e != (c.frame, 8 * p + x.queue)) } }
    dropCopy c.frame s

/-- The last byte of the frame on the line of port p leaves the egress MAC (R21). -/
def frameEnd (p : Nat) (s : State) : State :=
  match (portOf s p).sending with
  | none => s
  | some x => if x.express then endExpress p x s else endBulk p x s

/-- The frame on a line may be cut here (R54): the fragment has at least the minimum of ADD_FRAG_SIZE, and at least 64 bytes are left for
the last one, with the FCS (IEEE 802.3br). -/
def mayCut (s : State) (p : Nat) (x : Sending) : Bool :=
  let n := fragmentSent s p x
  fragmentLen s p ≤ n && x.sent + n + 64 ≤ wireLen s p x.copy.out

/-- The bulk frame on the line is preempted at an allowed boundary (R54, R55, R287, R288): for an express frame, for its
closed gate, or while the MAC is held. -/
def preempt (p : Nat) (s : State) : State :=
  match sendingQueue s p with
  | none => s
  | some x =>
    if preemptActive s p && mayCut s p x && ((selectExpress s p).isSome || !portGateOpen s p x.queue || (portOf s p).held) then
      let n := fragmentSent s p x
      let s := onPort p (fun y => { y with
        sending := none, preempted := some { x with preempted := true, sent := x.sent + n },
        line := some (((onLine s p x.sec x.copy.out).drop x.sent).take n, false) }) s
      if x.preempted then s else countEvent 7 0x04 p 1 (s.bump SCH_PREEMPT p)
    else s

/-! ### Pauses, gates and launch times (R270, R283 to R291) -/

/-- The tick at which a pause of n quanta of 512 bit times that starts now on port p ends (R270). -/
def pauseEnd (s : State) (p n : Nat) : Nat := s.clock + (if portRate s p = 0 then 0 else ceilDiv (n * 512000000) (portRate s p))

/-- A pause frame is received (R270). pfc: a PFC frame, whose entries pair a priority with its pause time; else a PAUSE frame
with one time for all queues. DESIGN CHOICE (log entry 133): a queue whose PFC_MASK holds several priorities of the frame takes the longest
of their times. -/
def pauseReceived (p : Nat) (pfc : Bool) (times : List (Nat × Nat)) (s : State) : State :=
  let s := s.bump SCH_PAUSE_RX p
  let timeOf := fun t =>
    if !pfc then (times.head?).map (fun e => e.2)
    else
      let mine := (times.filter (fun e => bitOf (s.get SCH_QCFG_PFC_MASK p t) e.1)).map (fun e => e.2)
      if mine.isEmpty then none else some (mine.foldl max 0)
  onPort p (fun x => { x with paused := (List.range 8).foldl (fun m t =>
    match timeOf t with
    | none => m
    | some 0 => Store.erase m t
    | some n => Store.set m t (pauseEnd s p n)) x.paused }) s

/-- The pause time of a queue runs out (R270). -/
def pauseExpires (p t : Nat) (s : State) : State :=
  match Store.get? (portOf s p).paused t with
  | none => s
  | some e => if s.clock < e then s else onPort p (fun x => { x with paused := Store.erase x.paused t }) s

/-- The launch time of the head of a queue is reached (R289). -/
def launchReached (p t : Nat) (s : State) : State :=
  match (queueOf s (8 * p + t)).head with
  | [] => s
  | c :: _ =>
    match c.launch with
    | none => s
    | some l =>
      if stampNs l ≤ s.nowNs && !(portOf s p).launched.contains t
      then onPort p (fun x => { x with launched := x.launched ++ [t] }) s else s

/-- SCH_GCL_POS follows the operational list (R283, R286): the entry in force and the cycles begun. -/
def gatePosition (p : Nat) (s : State) : State :=
  match Store.get? s.egr.gcl p with
  | none => s
  | some g =>
    if !g.enable then s
    else
      let e := entryAt g.entries 0 0 (cycleOffset g s.nowNs) g.cycle
      (s.put SCH_GCL_POS_ENTRY e.1 p).put SCH_GCL_POS_CYCLES ((s.nowNs - g.start) / max 1 g.cycle + 1) p

/-- The word of the entry in force d ns from now under a port's operational list, if it is enabled. -/
def entryAhead (s : State) (p d : Nat) : Option Nat :=
  match listAt (gateLists s p).1 (gateLists s p).2 (s.nowNs + d) with
  | none => none
  | some g => if g.enable then some (entryAt g.entries 0 0 (cycleOffset g (s.nowNs + d)) g.cycle).2.2 else none

/-- The preemptable MAC is held HOLD_ADVANCE before an OP 1 entry (R288). -/
def macHold (p : Nat) (s : State) : State :=
  match entryAhead s p (s.get SCH_PREEMPT_ADV_HOLD_ADVANCE p) with
  | none => s
  | some e => if gateOp e = 1 then onPort p (fun x => { x with held := true }) s else s

/-- The preemptable MAC is released RELEASE_ADVANCE before an OP 2 entry (R288). -/
def macRelease (p : Nat) (s : State) : State :=
  match entryAhead s p (s.get SCH_PREEMPT_ADV_RELEASE_ADVANCE p) with
  | none => s
  | some e => if gateOp e = 2 then onPort p (fun x => { x with held := false }) s else s

/-- A pending gate list reaches its start and becomes operational from entry 0 (R284): its registers follow and a list-start
event is posted. -/
def gateListStarts (p : Nat) (s : State) : State :=
  match Store.get? s.egr.gclPend p with
  | none => s
  | some g =>
    if s.nowNs < g.start then s
    else
      let s := { s with egr := { s.egr with
        gcl := Store.set s.egr.gcl p g, gclPend := Store.erase s.egr.gclPend p } }
      let s := ((s.flag SCH_GCL_STAT_OPER_EN g.enable p).put SCH_GCL_STAT_PENDING 0 p).put SCH_GCL_STAT_OPER_LEN g.entries.length p
      let s := s.put SCH_GCL_STAT_OPER_CYCLE_NS g.cycle p
      let s := g.entries.zipIdx.foldl (fun s e => s.setReg SCH_GCL_OPER (BitVec.ofNat 64 e.1) p e.2) s
      let s := if g.enable then gatePosition p s else onPort p (fun x => { x with held := false }) (s.setReg SCH_GCL_POS 0 p)
      postEventAt 0x0032 p (nsStamp g.start) [BitVec.ofNat 8 (ofBool g.past)] s

/-- A pending stream gate list reaches its start (R277). -/
def streamListStarts (i : Nat) (s : State) : State :=
  match Store.get? s.xpr.gates i with
  | none => s
  | some x =>
    match x.pend with
    | none => s
    | some g =>
      if s.nowNs < g.start then s
      else
        let s := { s with xpr := { s.xpr with gates := Store.set s.xpr.gates i { x with pend := none, oper := some g } } }
        postEventAt 0x0032 (0x100 + i) (nsStamp g.start) [BitVec.ofNat 8 (ofBool g.past)] s

/-! ### Link events and parking (R56 to R62) -/

/-- An express frame still held for a port is returned (R61): the granted copies for it, with the reason given; a copy not yet
granted stays unaccepted in its queue. -/
def returnExpress (reason p : Nat) (s : State) : State :=
  (s.xpr.copies.filter (fun c => c.egress == p && c.granted)).foldl (fun s c =>
    let s := dropXCopy c.ident p s
    if s.power.coreUp then
      let s := returnWork ⟨false, reason, p, 0xFF, s.now, 0, c.out⟩ s
      if reason = 0x01 then s.bump XPR_LATE_CNT else s
    else s.bump XPR_LATE_DROP_CNT) s

/-- The hold time of a port in ns (Table 3.5). -/
def holdTime (s : State) (p : Nat) : Nat := min 100000 (s.get PRT_HOLD_HOLD_TIME p) * 1000

/-- The hold time of a port expires with the link down (R58, R59, R61): its bulk queues are to be parked, in order of number, and
its express frames are returned with code 0x01. -/
def holdExpires (p : Nat) (s : State) : State :=
  if !(portOf s p).holdTimer || s.clock < (portOf s p).holdSince + holdTime s p then s
  else
    let s := onPort p (fun x => { x with holdTimer := false, toPark := List.range 8 }) s
    holdStat p (returnExpress 0x01 p s)

/-- The hold of a port (R56); with HOLD_TIME 0 it expires at once (Table 3.5). -/
def startHold (p : Nat) (s : State) : State :=
  let s := beginHold p s
  if holdTime s p = 0 then holdExpires p s else s

/-- A cause has lasted DEBOUNCE µs (Table 3.5). -/
def debounced (s : State) (p lasted : Nat) : Bool := min 1000 (s.get PRT_LINK_DEBOUNCE_DEBOUNCE p) ≤ lasted

/-- A loss of block lock (cause bit 0) or FEC alignment (1), a local (2) or remote fault (3) has lasted the given µs on an enabled port: the
undebounced bits show it, and once it has lasted DEBOUNCE, link down is declared (R56). A quieted port is in hold already (R63): it posts
its link event only. -/
def linkDown (p cause lasted : Nat) (s : State) : State :=
  if !(portOf s p).enabled || cause % 16 = 0 then s
  else
    let s := if bitOf cause 0 then s.put PRT_STATUS_PCS_LOCK 0 p else s
    let s := if bitOf cause 1 then s.put PRT_STATUS_FEC_ALIGN 0 p else s
    let s := (s.flag PRT_STATUS_LOCAL_FAULT (bitOf cause 2) p).flag PRT_STATUS_REMOTE_FAULT (bitOf cause 3) p
    if !s.on PRT_STATUS_LINK_UP p || !debounced s p lasted then s
    else
      let s := s.put PRT_STATUS_LINK_UP 0 p
      let s := preemptStat p (onPort p (fun x => { x with verify := 0, tries := 0 }) s)
      if quieted s p then postEvent 0x0010 p [0] s else startHold p s

/-- Lock, alignment and the absence of faults have lasted the given µs: once that is DEBOUNCE, link up is declared (R58): transmission
resumes from each queue head, HOLD clears, queues not yet parked stay, and verification begins where it is on (R55). A quieted port's
receiver runs, but its queues stay in hold (R63). -/
def linkUp (p lasted : Nat) (s : State) : State :=
  if !(portOf s p).enabled then s
  else
    let s := (s.put PRT_STATUS_PCS_LOCK 1 p).put PRT_STATUS_FEC_ALIGN 1 p
    let s := (s.put PRT_STATUS_LOCAL_FAULT 0 p).put PRT_STATUS_REMOTE_FAULT 0 p
    if s.on PRT_STATUS_LINK_UP p || !debounced s p lasted then s
    else
      let s := startVerify p (s.put PRT_STATUS_LINK_UP 1 p)
      let s := if quieted s p then s
        else holdStat p (onPort p (fun x => { x with holdTimer := false, toPark := [], heldOnDie := [] }) s)
      postEvent 0x0010 p [1] s

/-- A port's transmitter is brought to electrical idle (R63): QUIET and the common quiet bit are set and its queues are
treated as under link down. A port already quieted stays so. -/
def quietPort (p : Nat) (s : State) : State :=
  if quieted s p then s
  else
    let s := setQuiet p true s
    if s.on PRT_STATUS_LINK_UP p then startHold p s else s

/-- A quieted port is released (R63): it restarts auto-negotiation and link training, so that its link goes down and comes up anew. -/
def unquietPort (p : Nat) (s : State) : State :=
  if !quieted s p then s
  else
    let up := s.on PRT_STATUS_LINK_UP p
    let s := setQuiet p false (s.put PRT_STATUS_LINK_UP 0 p)
    if up then preemptStat p (onPort p (fun x => { x with verify := 0, tries := 0 }) (postEvent 0x0010 p [0] s)) else s

/-- The next queue of a port whose hold expired is moved to the park area (R59, R255): PARKED is set and a queue-parked event
posted. Where the park area cannot hold it, it stays on die and a park-full fault is raised (R60). -/
def parkNext (p : Nat) (s : State) : State :=
  match (portOf s p).toPark with
  | [] => s
  | t :: rest =>
    let q := 8 * p + t
    let x := queueOf s q
    let s := onPort p (fun y => { y with toPark := rest }) s
    if parkUsed s + parkNeed s x ≤ s.buf.parkSegs then
      let s := setQueue q { noQueue with parked := true } s
      let s := x.head.foldl (fun s c => parkOne q c s) s
      let s := setQueue q { queueOf s q with segs := (queueOf s q).segs ++ x.reading.toList ++ x.segs } s
      let s := parkTail q x.asm (setQueue q { queueOf s q with asm := x.asm.map (fun c => { c with res := false }) } s)
      holdStat p (settleBuffer (postEvent 0x0011 p [BitVec.ofNat 8 t] (s.put PRT_STATUS_PARKED 1 p)))
    else
      let s := onPort p (fun y => { y with heldOnDie := y.heldOnDie ++ [t] }) s
      holdStat p (raiseAt (srcPort p) 1 (postEvent 0x0012 p [BitVec.ofNat 8 t] s))

/-- A parked queue is linked in its order into queue q of the target (R59, R255), behind the frames it holds: its segments stand in the
target's chain until they are read back in turn, and the target's assembly keeps its place before them. Frames released to a queue that is
itself parked join its parked tail. -/
def releasePark (src q : Nat) (s : State) : State :=
  let x := queueOf s src
  let y := if src = q then noQueue else queueOf s q
  let s := if src = q then s else setQueue src noQueue s
  let run := fun (l : List Copy) => if l.isEmpty then [] else [(⟨0, .die, 0, l, true, false⟩ : Segment)]
  let y := { y with segs := y.segs ++ run y.asm ++ x.segs, asm := x.asm, spilling := !y.parked }
  settleBuffer (setQueue q (rejoin y) s)

/-- Port p is disabled while it holds frames (R62): every queued, parked or held express frame is returned with code 0x04, and
the port goes down. -/
def disablePort (p : Nat) (s : State) : State :=
  let s := cutSending p s
  let s := (List.range 8).foldl (fun s t => returnQueue 0x04 (8 * p + t) s) s
  let s := returnExpress 0x04 p s
  let s := (((s.put PRT_MODE_ENABLE 0 p).put PRT_STATUS_LINK_UP 0 p).put PRT_STATUS_PCS_LOCK 0 p).put PRT_STATUS_FEC_ALIGN 0 p
  let s := (s.put PRT_STATUS_ACTIVE_SPEED 0 p).put PRT_STATUS_HOLD 0 p
  let s := onPort p (fun x => { x with enabled := false, holdTimer := false, toPark := [], heldOnDie := [], verify := 0, tries := 0 }) s
  preemptStat p (parkedStat p s)

/-- PRT_MODE of port p is written with ENABLE going from 0 to 1 (R45 to R47): a valid mode applies SPEED, FEC, AN_EN and
LT_EN; any other sets MODE_ERR and the port stays down. DESIGN CHOICE (log entries 119, 120): SPEED 0x0, the row of Table 3.1 that is off,
counts as any other; on a member port of a running group the fields are taken and ENABLE is not. -/
def enablePort (p mode : Nat) (s : State) : State :=
  let speed := bitsOf mode 3 0
  let fec := bitsOf mode 5 4
  let s := (((s.put PRT_MODE_SPEED speed p).put PRT_MODE_FEC fec p).put PRT_MODE_AN_EN (bitsOf mode 6 6) p).put
    PRT_MODE_LT_EN (bitsOf mode 7 7) p
  if s.on PRT_MODE_ENABLE p || !expressReady s || inGroup s p then s
  else
    let good := modeValid speed fec && (speed < 6 || groupValid s p)
    let s := (s.put PRT_MODE_ENABLE 1 p).flag PRT_STATUS_MODE_ERR (!good) p
    if !good then s
    else preemptStat p (onPort p (fun x => { x with
      enabled := true, fec := fec, an := bitOf mode 6, lt := bitOf mode 7 }) (s.put PRT_STATUS_ACTIVE_SPEED speed p))

/-! ### Verification (R54, R55) -/

/-- The verify time of a port, VERIFY_TIME ms, runs out with no response (R54): the verify is sent again, and after the third try
verification has failed (IEEE 802.3br). -/
def verifyExpires (p : Nat) (s : State) : State :=
  let x := portOf s p
  if x.verify != 1 || s.clock < x.verifySince + max 1 (s.get PRT_PREEMPT_VERIFY_TIME p) * 1000000 then s
  else if 3 ≤ x.tries then preemptStat p (onPort p (fun x => { x with verify := 3 }) s)
  else onPort p (fun x => { x with tries := x.tries + 1, verifySince := s.clock }) s

/-- A verify or respond mPacket arrives (R54, R55): a respond to a waiting verify makes verification succeed; a verify is
answered with a respond, which changes no state of the port. -/
def verifyReceived (p : Nat) (respond : Bool) (s : State) : State :=
  if respond && (portOf s p).verify = 1 then preemptStat p (onPort p (fun x => { x with verify := 2 }) s) else s

/-! ### Quiet periods (R290, R291) -/

/-- An entry opens at least one gate of WAKE_MASK. -/
def opensBulk (s : State) (p e : Nat) : Bool := (bitsOf e 31 24 &&& s.get SCH_WAKE_CFG_WAKE_MASK p) != 0

/-- A closed stretch of port p runs from now for d ns: no gate of WAKE_MASK opens under the operational list and any pending
change. -/
def closedFor (s : State) (p d : Nat) : Bool :=
  staysOpen (gateLists s p).1 (gateLists s p).2 (fun e => !opensBulk s p e) fitFuel s.nowNs d

end Sys2Proof.Machine
end

