-- ==== Sys2Proof/Machine/Parser.lean ====
section
/-! DEFINITION. CRC-32C, the parse window, the default parse graph and loaded graphs, the fields of a parse result and the flow
key block (R65 to R76, R123, R146, R147). -/

namespace Sys2Proof.Machine

/-! ### CRC-32C (R123) -/

/-- One bit step of the reflected CRC. -/
def crcBit (c : Nat) : Nat := if c % 2 = 1 then Nat.xor (c / 2) 0x82F63B78 else c / 2

/-- One byte of the CRC. -/
def crcByte (c : Nat) (x : Byte) : Nat :=
  crcBit (crcBit (crcBit (crcBit (crcBit (crcBit (crcBit (crcBit (Nat.xor c x.toNat))))))))

/-- CRC-32C of a byte string with a 32-bit seed (R123). -/
def crc32c (m : List Byte) (seed : Nat) : Nat :=
  Nat.xor (m.foldl crcByte (Nat.xor seed 0xFFFFFFFF)) 0xFFFFFFFF

/-! ### The walk (R66 to R73) -/

/-- The parse window (R65): the first 256 bytes, or the whole frame if shorter. -/
def parseWindow (bs : List Byte) : List Byte := bs.take 256

/-- Lengths of headers of fixed length by kind; none where the header states its own. Those the manual does not give come from
the standards of the protocols. -/
def fixedLen (k : Nat) : Option Nat :=
  [none, some 14, some 4, some 4, some 4, none, some 40, none, none, some 8, some 12, some 8, none, some 8, none, some 28,
    some 34, none, some 2, some 2, some 8, none, some 7, some 10, some 6].getD k none

/-- The length of a header of a kind at an offset of the window; prev is the next-header value that named an extension. -/
def headerLen (w : List Byte) (k off prev : Nat) : Nat :=
  let b := fun i => leField w (off + i) 1
  match fixedLen k with
  | some n => n
  | none =>
    if k = 0x05 then max 5 (b 0 % 16) * 4
    else if k = 0x07 then (if prev = 44 then 8 else (b 1 + 1) * 8)
    else if k = 0x08 then max 5 (b 12 / 16) * 4
    else if k = 0x0C then 4 + 4 * (ofBool (bitOf (b 0) 7) + ofBool (bitOf (b 0) 5) + ofBool (bitOf (b 0) 4))
    else if k = 0x0E then 8 + 4 * (b 0 % 64)
    else if k = 0x11 then 2 + beField w off 2 % 512
    else if k = 0x15 then (if bitOf (b 0) 5 then 14 else 6)
    else 0

/-- The kind an EtherType enters (Table 4.3), tags apart. -/
def etherKind (et : Nat) : Option Nat :=
  if et = 0x8847 || et = 0x8848 then some 0x04 else if et = 0x0800 then some 0x05 else if et = 0x86DD then some 0x06
  else if et = 0x0806 then some 0x0F else if et = 0x88F7 then some 0x10 else if et = 0x88CC then some 0x11
  else if et = 0x8892 then some 0x12 else if et = 0x88A4 then some 0x13 else if et = 0x88B8 || et = 0x88BA then some 0x14
  else if et = 0x88E5 then some 0x15 else none

/-- The kind a protocol number enters (Table 4.3); GRE only outside a tunnel (Table 4.2). -/
def protoKind (p tunnels : Nat) : Option Nat :=
  if p = 6 then some 0x08 else if p = 17 then some 0x09 else if p = 132 then some 0x0A
  else if p = 1 || p = 58 then some 0x0B else if p = 47 && tunnels = 0 then some 0x0C else none

/-- The kind a next-header value enters: an extension within the limit of 4, or a layer-4 header unless the packet is a
fragment with a non-zero offset (R71). -/
def nextHeaderKind (nh exts tunnels : Nat) (later : Bool) : Option Nat :=
  if nh = 0 || nh = 43 || nh = 60 || nh = 44 then (if exts < 4 then some 0x07 else none)
  else if later then none else protoKind nh tunnels

/-- The kind a tunnel protocol enters (Table 4.3). -/
def tunnelKind (p : Nat) : Option Nat :=
  if p = 0x6558 then some 0x01 else if p = 0x0800 then some 0x05 else if p = 0x86DD then some 0x06 else none

/-- The kind a TCP or UDP port enters (Table 4.3). -/
def portKind (k src dst tunnels : Nat) : Option Nat :=
  let any := fun p => src == p || dst == p
  if k = 0x08 then
    if any 502 then some 0x16 else if any 20000 then some 0x17 else if any 2404 then some 0x18 else none
  else if dst = 4789 then (if tunnels = 0 then some 0x0D else none)
  else if dst = 6081 then (if tunnels = 0 then some 0x0E else none)
  else if any 319 || any 320 then some 0x10 else if any 20000 then some 0x17 else none

/-- Where a walk stands: the header to enter, its offset and bound, the tags, labels, extensions and tunnels passed, the
next-header value that named it, whether the packet is a later fragment. -/
structure Walk where
  kind : Nat
  off : Nat
  bound : Option Nat
  atEnd : Bool
  tags : Nat
  labels : Nat
  exts : Nat
  tunnels : Nat
  prev : Nat
  later : Bool
deriving DecidableEq, Repr

/-- The bound that the header's own length gives to what it encloses: IPv4 total length, IPv6 payload length. -/
def innerBound (w : List Byte) (k off : Nat) : Option Nat :=
  if k = 0x05 then some (off + beField w (off + 2) 2)
  else if k = 0x06 then some (off + 40 + beField w (off + 4) 2) else none

/-- The layer-4 minimum header of a protocol (Table 4.4, reason 0x05); 0: not checked. -/
def l4Min (p : Nat) : Nat :=
  if p = 6 then 20 else if p = 132 then 12 else if p = 17 || p = 1 || p = 58 then 8 else 0

/-- An end that no frame has: a payload length of 0 is a mismatch whatever the end (Table 4.4, reason 0x03). -/
def neverEnds : Nat := 2 ^ 32

/-- The reason of a header that reaches past the bytes of the window (R72): FRAME_END only for a frame known to be shorter than its
window, else WINDOW. -/
def fitReason (w : List Byte) (flen : Option Nat) : Nat := if w.length = 256 || flen.isNone then 0x11 else 0x12

/-- The checks of R73 step 3 on a header that fits: the failing reason, or the checks that wait for the frame's end (R76).
flen is the frame's length where it is known. checks: bit n for reason 0x01 + n. -/
def checkHeader (w : List Byte) (checks off : Nat) (bound : Option Nat) (atEnd : Bool) (flen : Option Nat) :
    Option Nat × List (Nat × Nat) :=
  let tot := off + beField w (off + 2) 2
  let six := off + 40 + beField w (off + 4) 2
  let c1 := bitOf checks 0 && (match bound with | none => false | some b => b < tot)
  let c3 := bitOf checks 2 && (match bound with
    | none => false
    | some b => beField w (off + 4) 2 == 0 || b < six || (six < b && !(atEnd && flen == some 60)))
  let c4 := bitOf checks 3 && 8 ≤ beField w (off + 4) 2 &&
    (match bound with | none => false | some b => b < off + beField w (off + 4) 2)
  let frag := beField w (off + 6) 2 % 8192
  let c5 := bitOf checks 4 && frag != 0 && frag * 8 < l4Min (leField w (off + 9) 1)
  let late := (if bitOf checks 0 && bound.isNone then [(0x01, tot)] else []) ++
    (if bitOf checks 2 && bound.isNone then [(0x03, if beField w (off + 4) 2 = 0 then neverEnds else six)] else [])
  if c1 then (some 0x01, []) else if c3 then (some 0x03, []) else if c4 then (some 0x04, [])
  else if c5 then (some 0x05, []) else (none, late)

/-- The checks of the default graph by kind (R73). -/
def defaultChecks (k : Nat) : Nat :=
  if k = 0x05 then 0x13 else if k = 0x06 then 0x04 else if k = 0x09 then 0x08 else if k = 0x08 then 0x20 else 0

/-- Reasons 0x02 and 0x06, which test a header's own length field where the window holds it (R73 step 1). -/
def ownLengthFails (w : List Byte) (checks off : Nat) : Option Nat :=
  if bitOf checks 1 && off < w.length && leField w off 1 % 16 < 5 then some 0x02
  else if bitOf checks 5 && off + 12 < w.length && leField w (off + 12) 1 / 16 < 5 then some 0x06
  else none

/-- Where the layer-4 payload of a TCP or UDP header ends: its bound, for UDP also its own length (below 8: empty). -/
def l4PayloadEnd (w : List Byte) (k off : Nat) (bound : Option Nat) : Nat :=
  let b := bound.getD (off + 65536)
  if k = 0x09 then
    let n := beField w (off + 4) 2
    if n < 8 then off + 8 else min b (off + n)
  else b

/-- The next header of the default graph after header k at off, of length len (R70, Tables 4.2 and 4.3). -/
def defaultNext (w : List Byte) (x : Walk) (len : Nat) : Option Walk :=
  let off := x.off
  let k := x.kind
  let go := fun (n : Option Nat) (y : Walk) => n.map (fun n => { y with kind := n, off := off + len })
  let inner := { x with bound := innerBound w k off, atEnd := false }
  if k = 0x01 then
    let et := beField w (off + 12) 2
    let y := { x with tags := 0, labels := 0 }
    go (if et = 0x8100 then some 0x02 else if et = 0x88A8 then some 0x03 else etherKind et) y
  else if k = 0x02 || k = 0x03 then
    let et := beField w (off + 2) 2
    go (if et = 0x8100 && x.tags < 1 then some 0x02 else etherKind et) { x with tags := x.tags + 1 }
  else if k = 0x04 then
    go (if !bitOf (leField w (off + 2) 1) 0 && x.labels < 3 then some 0x04 else none) { x with labels := x.labels + 1 }
  else if k = 0x05 then
    go (if beField w (off + 6) 2 % 8192 != 0 then none else protoKind (leField w (off + 9) 1) x.tunnels) inner
  else if k = 0x06 then
    let nh := leField w (off + 6) 1
    go (nextHeaderKind nh 0 x.tunnels false) { inner with exts := 0, prev := nh, later := false }
  else if k = 0x07 then
    let nh := leField w off 1
    let later := x.later || (x.prev = 44 && beField w (off + 2) 2 / 8 != 0)
    go (nextHeaderKind nh (x.exts + 1) x.tunnels later) { x with exts := x.exts + 1, prev := nh, later := later }
  else if k = 0x08 || k = 0x09 then
    if off + len < l4PayloadEnd w k off x.bound
    then go (portKind k (beField w off 2) (beField w (off + 2) 2) x.tunnels) x else none
  else if k = 0x0C || k = 0x0E then go (tunnelKind (beField w (off + 2) 2)) { x with tunnels := x.tunnels + 1 }
  else if k = 0x0D then go (some 0x01) { x with tunnels := x.tunnels + 1 }
  else none

/-- The walk of the default graph, n headers at most (R72, R73). acc holds the headers passed, newest first. -/
def walkDefault (w : List Byte) (flen : Option Nat) : Nat → Walk → List PHdr → List (Nat × Nat) → Parse
  | 0, x, acc, late =>
    match ownLengthFails w (defaultChecks x.kind) x.off with
    | some r => ⟨acc.reverse, 2, r, false, [none, none, none], late⟩
    | none => ⟨acc.reverse, 1, 0x10, false, [none, none, none], late⟩
  | n + 1, x, acc, late =>
    let checks := defaultChecks x.kind
    match ownLengthFails w checks x.off with
    | some r => ⟨acc.reverse, 2, r, false, [none, none, none], late⟩
    | none =>
      let len := headerLen w x.kind x.off x.prev
      if w.length < x.off + len then
        ⟨acc.reverse, 1, fitReason w flen, false, [none, none, none], late⟩
      else
        let c := checkHeader w checks x.off x.bound x.atEnd flen
        let acc := ⟨x.kind, x.off, len, x.bound⟩ :: acc
        match c.1 with
        | some r => ⟨acc.reverse, 2, r, false, [none, none, none], late⟩
        | none =>
          match defaultNext w x len with
          | none => ⟨acc.reverse, 0, 0, false, [none, none, none], late ++ c.2⟩
          | some y => walkDefault w flen n y acc (late ++ c.2)

/-- The bound of the first headers: the end of the frame without FCS, where it is known. -/
def firstWalk (flen : Option Nat) : Walk := ⟨0x01, 0, flen, true, 0, 0, 0, 0, 0, false⟩

/-! ### Loaded graphs (R67 to R69) -/

/-- A field of n bits at a bit offset from a header's first bit in wire order. -/
def wireBits (w : List Byte) (off bit n : Nat) : Nat :=
  if n = 0 then 0
  else
    let first := off + bit / 8
    let bytes := (bit % 8 + n + 7) / 8
    beField w first bytes / 2 ^ (bytes * 8 - bit % 8 - n) % 2 ^ n

/-- The next state a state entry gives for a selector (R69); 0x7F ends the headers. -/
def graphNext (g : Graph) (e sel : Nat) : Nat :=
  if bitsOf e 45 40 = 0 then bitsOf e 70 64
  else
    let base := bitsOf e 57 48
    match ((List.range (min 16 (bitsOf e 62 58))).map (fun i => g.rows.getD (base + i) 0)).find? (fun r =>
      bitOf r 71 && (sel &&& bitsOf r 63 32) == (bitsOf r 31 0 &&& bitsOf r 63 32)) with
    | some r => bitsOf r 70 64
    | none => bitsOf e 70 64

/-- The UDFs after the EXTRACT slots of a header (Table 4.1); a later slot replaces an earlier one. -/
def extractUdf (w : List Byte) (e off : Nat) (udf : List (Option (List Byte))) : List (Option (List Byte)) :=
  [0, 1, 2].foldl (fun u k =>
    let x := bitsOf e (95 + 16 * k) (80 + 16 * k)
    let d := bitsOf x 13 12
    if d = 0 then u else u.set (d - 1) (some (slice w (off + bitsOf x 7 0) (bitsOf x 11 8 + 1)))) udf

/-- A header that a layer-3 header names by its protocol number: the layer-4 headers and GRE (Table 4.3). -/
def protocolKind (k : Nat) : Bool := 0x08 ≤ k && k ≤ 0x0C

/-- The packet is a fragment with a non-zero offset, after a header of a kind at off (R71): an IPv4 header says so itself, an IPv6
packet by the fragment header that prev names. -/
def laterFragment (w : List Byte) (kind off prev : Nat) (later : Bool) : Bool :=
  if kind = 0x05 then beField w (off + 6) 2 % 8192 != 0
  else if kind = 0x06 then false
  else later || (kind = 0x07 && prev = 44 && beField w (off + 2) 2 / 8 != 0)

/-- The next-header value that a header of a kind at off gives to what follows it. -/
def nextNamed (w : List Byte) (kind off prev : Nat) : Nat :=
  if kind = 0x06 then leField w (off + 6) 1 else if kind = 0x07 then leField w off 1 else prev

/-- Where the walk of a loaded graph stands: the state to enter, its offset and bound, the next-header value that named it, whether
the packet is a later fragment, and the UDFs so far. -/
structure GraphWalk where
  state : Nat
  off : Nat
  bound : Option Nat
  atEnd : Bool
  prev : Nat
  later : Bool
  udf : List (Option (List Byte))
deriving DecidableEq, Repr

/-- The walk of a loaded graph, n headers at most (R67 to R73). DESIGN CHOICE (log entry 110): a NEXT or DEFAULT_NEXT of 64 to 126,
which no rule gives a meaning, ends the headers like 0x7F. -/
def walkGraph (g : Graph) (w : List Byte) (flen : Option Nat) : Nat → GraphWalk → List PHdr → List (Nat × Nat) → Parse
  | 0, x, acc, late =>
    match ownLengthFails w (bitsOf (g.states.getD x.state 0) 77 72) x.off with
    | some r => ⟨acc.reverse, 2, r, false, x.udf, late⟩
    | none => ⟨acc.reverse, 1, 0x10, false, x.udf, late⟩
  | n + 1, x, acc, late =>
    let e := g.states.getD x.state 0
    let checks := bitsOf e 77 72
    let kind := bitsOf e 5 0
    match ownLengthFails w checks x.off with
    | some r => ⟨acc.reverse, 2, r, false, x.udf, late⟩
    | none =>
      let len := bitsOf e 15 8 + wireBits w x.off (bitsOf e 23 16) (min 16 (bitsOf e 28 24)) * 2 ^ bitsOf e 30 29
      if w.length < x.off + len then ⟨acc.reverse, 1, fitReason w flen, false, x.udf, late⟩
      else
        let c := checkHeader w checks x.off x.bound x.atEnd flen
        let acc := ⟨kind, x.off, len, x.bound⟩ :: acc
        let udf := extractUdf w e x.off x.udf
        match c.1 with
        | some r => ⟨acc.reverse, 2, r, false, udf, late⟩
        | none =>
          let next := graphNext g e (wireBits w x.off (bitsOf e 39 32) (min 32 (bitsOf e 45 40)))
          let later := laterFragment w kind x.off x.prev x.later
          if 64 ≤ next || (later && protocolKind (bitsOf (g.states.getD next 0) 5 0)) then
            ⟨acc.reverse, 0, 0, false, udf, late ++ c.2⟩
          else
            let ip := kind = 0x05 || kind = 0x06
            walkGraph g w flen n ⟨next, x.off + len, if ip then innerBound w kind x.off else x.bound, x.atEnd && !ip,
              nextNamed w kind x.off x.prev, later, udf⟩ acc (late ++ c.2)

/-- The parse of a frame's window (R66): by the loaded graph, or by the default graph; flen is the frame's length without FCS
where its end is known. At most 12 headers are passed (Table 4.2). DESIGN CHOICE (log entry 109): the walk of a loaded graph starts
in state 0, the spec names no start state. -/
def parseFrame (g : Option Graph) (bs : List Byte) (flen : Option Nat) : Parse :=
  let w := parseWindow bs
  match g with
  | none => walkDefault w flen 12 (firstWalk flen) [] []
  | some g => walkGraph g w flen 12 ⟨0, 0, flen, true, 0, false, [none, none, none]⟩ [] []

/-! ### Fields of a parse result -/

/-- The header at index i of a parse result. -/
def hdrAt (p : Parse) (i : Nat) : Option PHdr := p.hdrs[i]?

/-- Index of the first layer-3 header (IPv4 or IPv6), or of the innermost one. -/
def l3Index (p : Parse) (inner : Bool) : Option Nat :=
  let ix := (p.hdrs.zipIdx.filter (fun e => e.1.kind == 0x05 || e.1.kind == 0x06)).map (fun e => e.2)
  if inner then ix.getLast? else ix.head?

/-- The layer-3 header of a parse result; none for a frame forwarded as layer 2 only (R74). -/
def l3Of (p : Parse) (inner : Bool) : Option PHdr :=
  if p.l2only then none else (l3Index p inner).bind (hdrAt p)

/-- The headers that belong to a layer-3 header: those after it and before the next one. -/
def l3Follow (p : Parse) (inner : Bool) : List PHdr :=
  match l3Index p inner with
  | none => []
  | some i => (p.hdrs.drop (i + 1)).takeWhile (fun h => h.kind != 0x05 && h.kind != 0x06)

/-- The layer-4 header of a layer-3 header: TCP, UDP, SCTP or ICMP. -/
def l4Of (p : Parse) (inner : Bool) : Option PHdr :=
  if p.l2only then none else (l3Follow p inner).find? (fun h => 0x08 ≤ h.kind && h.kind ≤ 0x0B)

/-- The IP protocol or final next header. -/
def protoOf (p : Parse) (bs : List Byte) (inner : Bool) : Option Nat :=
  (l3Of p inner).map (fun h =>
    if h.kind = 0x05 then leField bs (h.off + 9) 1
    else match ((l3Follow p inner).filter (fun x => x.kind == 0x07)).getLast? with
      | some x => leField bs x.off 1
      | none => leField bs (h.off + 6) 1)

/-- The next-header values that name the extension headers of an IPv6 header, each with its header. -/
def extNames (bs : List Byte) : Nat → List PHdr → List (Nat × PHdr)
  | _, [] => []
  | nh, h :: hs => (nh, h) :: extNames bs (leField bs h.off 1) hs

/-- Whether the packet of a layer-3 header is a fragment (R71). -/
def fragmentOf (p : Parse) (bs : List Byte) (inner : Bool) : Bool :=
  match l3Of p inner with
  | none => false
  | some h =>
    if h.kind = 0x05 then beField bs (h.off + 6) 2 % 16384 != 0
    else (extNames bs (leField bs (h.off + 6) 1) ((l3Follow p inner).filter (fun x => x.kind == 0x07))).any (fun e => e.1 == 44)

/-- An IPv4 address as an IPv4-mapped IPv6 address. -/
def mapped4 (a : List Byte) : List Byte := zeros 10 ++ [0xFF, 0xFF] ++ a

/-- Source and destination address of a layer-3 header, 16 bytes each, IPv4 mapped. -/
def ipAddrs (p : Parse) (bs : List Byte) (inner : Bool) : Option (List Byte × List Byte) :=
  (l3Of p inner).map (fun h =>
    if h.kind = 0x05 then (mapped4 (slice bs (h.off + 12) 4), mapped4 (slice bs (h.off + 16) 4))
    else (slice bs (h.off + 8) 16, slice bs (h.off + 24) 16))

/-- Layer-4 source and destination port, 0 for fragments (R71); none without a TCP, UDP or SCTP header. -/
def l4Ports (p : Parse) (bs : List Byte) (inner : Bool) : Option (Nat × Nat) :=
  (l4Of p inner).bind (fun h =>
    if h.kind = 0x0B then none
    else if fragmentOf p bs inner then some (0, 0)
    else some (beField bs h.off 2, beField bs (h.off + 2) 2))

/-- The VLAN tags of the outer Ethernet header in the parse result: their control words. -/
def tagWords (p : Parse) (bs : List Byte) : List Nat :=
  ((p.hdrs.drop 1).takeWhile (fun h => h.kind == 0x02 || h.kind == 0x03)).map (fun h => beField bs h.off 2)

/-- The offset of the EtherType after the outer tags. -/
def etherOff (p : Parse) : Nat :=
  12 + 4 * ((p.hdrs.drop 1).takeWhile (fun h => h.kind == 0x02 || h.kind == 0x03)).length

/-- The top MPLS label entry. -/
def mplsTop (p : Parse) (bs : List Byte) : Option Nat :=
  if p.l2only then none else (p.hdrs.find? (fun h => h.kind == 0x04)).map (fun h => beField bs h.off 4)

/-- VXLAN or GENEVE VNI, or GRE key. -/
def vniOf (p : Parse) (bs : List Byte) : Option Nat :=
  if p.l2only then none
  else (p.hdrs.find? (fun h => h.kind == 0x0C || h.kind == 0x0D || h.kind == 0x0E)).bind (fun h =>
    if h.kind = 0x0C then
      (if bitOf (leField bs h.off 1) 5 then some (beField bs (h.off + 4 + 4 * ofBool (bitOf (leField bs h.off 1) 7)) 4) else none)
    else some (beField bs (h.off + 4) 3))

/-- Where the payload starts: after the last header, for a frame forwarded as layer 2 only after its last layer-2 header (R115).
DEDUCED (log entry 111): MPLS labels (kind 0x04) count as layer-2 headers here. -/
def payloadStart (p : Parse) : Nat :=
  let hs := if p.l2only then p.hdrs.takeWhile (fun h => h.kind ≤ 0x04) else p.hdrs
  match hs.getLast? with
  | none => 0
  | some h => h.off + h.len

/-! ### The flow key block (R146, R147) -/

/-- The port fields of the key block. -/
def keyPorts (p : Parse) (bs : List Byte) : Nat × Nat :=
  if fragmentOf p bs false then (0, 0)
  else
    match l4Of p false with
    | none => (0, 0)
    | some h =>
      if h.kind = 0x0B then
        let t := leField bs h.off 1
        let echo := match protoOf p bs false with
          | some 1 => t == 0 || t == 8
          | some 58 => t == 128 || t == 129
          | _ => false
        if echo then (beField bs (h.off + 4) 2, 0) else (0, 0)
      else (beField bs h.off 2, beField bs (h.off + 2) 2)

/-- The flow key block of a frame (Table 7.1): from its last parse, before any edit. -/
def flowKey (p : Parse) (bs : List Byte) (vrf port defVid defPcp : Nat) : List Byte :=
  let tags := tagWords p bs
  match l3Of p false with
  | some h =>
    let ports := keyPorts p bs
    let six := h.kind = 0x06
    let head := [BitVec.ofNat 8 ((if six then 2 else 1) + 16 * ofBool (fragmentOf p bs false)),
      BitVec.ofNat 8 ((protoOf p bs false).getD 0)] ++ beBytes 2 (vrf % 4096) ++ beBytes 2 ports.1 ++ beBytes 2 ports.2
    padTo 40 (head ++ (if six then slice bs (h.off + 8) 32 else slice bs (h.off + 12) 8))
  | none =>
    let outer := match tags with | [] => defVid | t :: _ => t % 4096
    let pcp := match tags with | [] => defPcp | t :: _ => t / 8192 % 8
    let inner := (tags.getD 1 0) % 4096
    padTo 40 ([3, BitVec.ofNat 8 pcp] ++ beBytes 2 port ++ beBytes 2 outer ++ beBytes 2 inner ++ slice bs 6 6 ++ slice bs 0 6)

/-- The key length n of a key block (Table 7.1). -/
def keyLen (k : List Byte) : Nat :=
  let kk := leField k 0 1 % 16
  if kk = 1 then 16 else if kk = 2 then 40 else 24

end Sys2Proof.Machine
end

