-- ==== Sys2Proof/Machine/Tables.lean ====
section
/-! DEFINITION. The cuckoo tables: placement, lookup, insertion by moves and rehash, for the tables of a quarter and for the flow
tiers; KH64; the learned address entries (R121 to R129, R138). -/

namespace Sys2Proof.Machine

/-! ### Placement (R124, R125) -/

/-- The two buckets and the fingerprint of a key. -/
structure Place where
  b0 : Nat
  b1 : Nat
  fp : Nat
deriving DecidableEq, Repr

/-- b1 moved off b0, and a fingerprint of 0 replaced by 1 (R125). -/
def placeFix (nb b0 b1 fp : Nat) : Place :=
  ⟨b0, if b1 = b0 then (b0 + 1) % nb else b1, if fp = 0 then 1 else fp⟩

/-- The place of a key in an ordinary table of nb buckets (R125). -/
def crcPlace (nb seed0 seed1 : Nat) (key : List Byte) : Place :=
  let h0 := crc32c key seed0
  placeFix nb (h0 % nb) (crc32c key seed1 % nb) (bitsOf h0 31 16)

/-- 64-bit rotation to the left. -/
def rotl64 (x r : Nat) : Nat := (x * 2 ^ r + x / 2 ^ (64 - r)) % 2 ^ 64

/-- The constants of KH64. -/
def khP : Nat := 0x9E3779B97F4A7C15
/-- The second constant of KH64. -/
def khQ : Nat := 0xD6E8FEB86659FD93

/-- The words of KH64: n words of 8 bytes, missing bytes 0. -/
def khWords : Nat → List Byte → Nat → Nat → Nat → Nat × Nat
  | 0, _, _, a, b => (a, b)
  | n + 1, m, k0, a, b =>
    let a := rotl64 (Nat.xor a (leField m 0 8) * khQ % 2 ^ 64) 31
    let b := Nat.xor (rotl64 ((b + a) % 2 ^ 64 * khP % 2 ^ 64) 27) k0
    khWords n (m.drop 8) k0 a b

/-- One final round of KH64. -/
def khRound (x : Nat × Nat) : Nat × Nat :=
  let a := (x.1 + x.2) % 2 ^ 64
  let b := Nat.xor (rotl64 x.2 23) a
  (rotl64 a 41 * khQ % 2 ^ 64, b * khP % 2 ^ 64)

/-- KH64 of a byte string with key (k0, k1) (R124). -/
def kh64 (m : List Byte) (k0 k1 : Nat) : Nat :=
  let x := khWords (ceilDiv m.length 8) m k0 k0 (Nat.xor k1 khP)
  let y := khRound (khRound (Nat.xor x.1 (m.length * khP % 2 ^ 64), Nat.xor x.2 k1))
  let h := Nat.xor y.1 y.2
  let h := Nat.xor h (h / 2 ^ 29) * khQ % 2 ^ 64
  Nat.xor h (h / 2 ^ 32)

/-- The place of a flow key in a tier of nb buckets under the keys FKA and FKB, 128 bits each with k0 in the low half (R125). -/
def khPlace (nb fka fkb : Nat) (key : List Byte) : Place :=
  let ha := kh64 key (fka % 2 ^ 64) (fka / 2 ^ 64)
  let hb := kh64 key (fkb % 2 ^ 64) (fkb / 2 ^ 64)
  placeFix nb (ha / 2 ^ 32 * nb / 2 ^ 32) (hb / 2 ^ 32 * nb / 2 ^ 32) (ha % 2 ^ 16)

/-! ### Lookup and insertion (R126, R127) -/

/-- The slot of a bucket that holds a key: its number 8 × bucket + slot. -/
def slotIn (t : CTable) (c fp : Nat) (key : List Byte) : Option Nat :=
  ((List.range 8).find? (fun i => match Store.get? t.slots (8 * c + i) with
    | none => false | some x => x.fp == fp && x.key == key)).map (fun i => 8 * c + i)

/-- The slot that holds a key, in either of its buckets (R126). -/
def findSlot (t : CTable) (p : Place) (key : List Byte) : Option Nat :=
  match slotIn t p.b0 p.fp key with
  | some i => some i
  | none => slotIn t p.b1 p.fp key

/-- The entry of a key. -/
def lookupSlot (t : CTable) (p : Place) (key : List Byte) : Option Slot :=
  (findSlot t p key).bind (Store.get? t.slots)

/-- The lowest free slot of a bucket. -/
def freeIn (t : CTable) (c : Nat) : Option Nat :=
  (leastBelow (fun i => (Store.get? t.slots (8 * c + i)).isNone) 8).map (fun i => 8 * c + i)

/-- The planned path of at most n moves, from bucket c at step m (R127): the sources, last move first, and the free slot that
ends it. other gives the other bucket of a key that stands in a bucket. -/
def cuckooPath (t : CTable) (other : List Byte → Nat → Nat) : Nat → Nat → Nat → List Nat → Option (List Nat × Nat)
  | 0, _, _, _ => none
  | n + 1, m, c, path =>
    let from_ := (List.range 8).map (fun j => 8 * c + (t.victim + m + j) % 8)
    let free := fun (i : Nat) => match Store.get? t.slots i with | none => false | some x => !x.inProgress && !path.contains i
    match from_.find? free with
    | none => none
    | some i =>
      match Store.get? t.slots i with
      | none => none
      | some x =>
        let a := other x.key c
        match freeIn t a with
        | some f => some (i :: path, f)
        | none => cuckooPath t other n (m + 1) a (i :: path)

/-- The moves of a path, last first: each source is copied to its target and then cleared (R128); answers the table and the slot
left free at the path's start. -/
def makeMoves (m : Store Slot) (target : Nat) : List Nat → Store Slot × Nat
  | [] => (m, target)
  | i :: rest =>
    match Store.get? m i with
    | none => (m, target)
    | some x => makeMoves (Store.erase (Store.set m target x) i) i rest

/-- The insertion of a key with its data into a table (R127): none where it fails, and then nothing changes. -/
def cuckooInsert (t : CTable) (p : Place) (other : List Byte → Nat → Nat) (key data : List Byte) : Option CTable :=
  match findSlot t p key with
  | some i => some { t with slots := Store.upd t.slots i ⟨p.fp, key, data, false⟩ (fun x => { x with data := data }) }
  | none =>
    let put := fun (m : Store Slot) (i : Nat) => Store.set m i (⟨p.fp, key, data, false⟩ : Slot)
    match freeIn t p.b0 with
    | some i => some { t with slots := put t.slots i }
    | none =>
      match freeIn t p.b1 with
      | some i => some { t with slots := put t.slots i }
      | none =>
        match cuckooPath t other 128 1 (if t.flip = 0 then p.b0 else p.b1) [] with
        | none => none
        | some (path, f) =>
          let r := makeMoves t.slots f path
          some { slots := put r.1 r.2, flip := 1 - t.flip, victim := (t.victim + 1) % 8 }

/-- The other bucket of a key under a placement. -/
def otherBucket (place : List Byte → Place) (key : List Byte) (c : Nat) : Nat :=
  if (place key).b0 = c then (place key).b1 else (place key).b0

/-- The insertion under one placement. -/
def insertBy (place : List Byte → Place) (t : CTable) (key data : List Byte) : Option CTable :=
  cuckooInsert t (place key) (otherBucket place) key data

/-- The table without a key. -/
def eraseKey (p : Place) (t : CTable) (key : List Byte) : CTable :=
  match findSlot t p key with
  | none => t
  | some i => { t with slots := Store.erase t.slots i }

/-- The table with the data of a key replaced where it stands. -/
def setData (p : Place) (t : CTable) (key data : List Byte) : CTable :=
  match findSlot t p key with
  | none => t
  | some i => { t with slots := Store.upd t.slots i ⟨p.fp, key, data, false⟩ (fun x => { x with data := data }) }

/-- The visits of a rehash from slot i on (R129): an entry that stands in neither of its buckets under the new hashes is marked,
inserted under them and cleared from its old slot; none where an entry cannot be placed. An entry that such an insertion moves goes to one
of its new buckets, so that none is left behind. -/
def rehashFrom (new : List Byte → Place) : Nat → Nat → CTable → Option CTable
  | 0, _, t => some t
  | n + 1, i, t =>
    match t.slots.find? (fun e => i ≤ e.1) with
    | none => some t
    | some (j, x) =>
      let p := new x.key
      if j / 8 = p.b0 || j / 8 = p.b1 then rehashFrom new n (j + 1) t
      else
        match insertBy new { t with slots := Store.set t.slots j { x with inProgress := true } } x.key x.data with
        | none => none
        | some t => rehashFrom new n (j + 1) { t with slots := Store.erase t.slots j }

/-- Every entry carries the fingerprint of its key under a placement. -/
def refinger (place : List Byte → Place) (t : CTable) : CTable :=
  { t with slots := t.slots.map (fun e => (e.1, { e.2 with fp := (place e.2.key).fp })) }

/-- The rehash of a table (R129): every bucket in ascending order; flip and victim are 0 at its end, whatever its outcome. -/
def rehashTable (new : List Byte → Place) (t : CTable) : CTable × Bool :=
  match rehashFrom new (130 * (t.slots.length + 1)) 0 t with
  | none => ({ t with flip := 0, victim := 0 }, false)
  | some u => ({ refinger new u with flip := 0, victim := 0 }, true)

/-! ### The tables of a quarter (Table 6.1) -/

/-- A quarter with nothing in it. -/
def noQuarter : Quarter := ⟨[], [], [], [], [], [], [], [], ⟨[], 0, 0⟩, 0, [], 0⟩

/-- Quarter q. -/
def quarterOf (s : State) (q : Nat) : Quarter := Store.getD s.cls.quarters q noQuarter

/-- The state with quarter q changed; an empty quarter is unlisted. -/
def onQuarter (q : Nat) (f : Quarter → Quarter) (s : State) : State :=
  { s with cls := { s.cls with quarters := Store.put s.cls.quarters q noQuarter (f (quarterOf s q)) } }

/-- Buckets of table t: 0 learned address, 1 exact-match, 2 IPv4 prefix, 3 IPv6 prefix (R144). -/
def tableBuckets (t : Nat) : Nat := [65536, 32768, 131072, 32768].getD t 65536

/-- The placement of table t in quarter q under its seeds (R123, R125). -/
def tablePlace (s : State) (q t : Nat) : List Byte → Place :=
  crcPlace (tableBuckets t) (s.get QTR_HASH_SEED_SEED0 q t) (s.get QTR_HASH_SEED_SEED1 q t)

/-- Table t of quarter q: the learned address table of its own, or the identical table. -/
def tableOf (s : State) (q t : Nat) : CTable :=
  if t = 0 then (quarterOf s q).learned
  else if t = 1 then s.cls.exact else if t = 2 then s.cls.pfx4 else s.cls.pfx6

/-- The quarters that take a table command: those not fenced (R105, R122). -/
def liveQuarters (s : State) : List Nat := (List.range 5).filter (fun q => !fenced s q)

/-- The mask of the quarters that applied a command (R105). -/
def quarterMask (s : State) : Nat := ((liveQuarters s).map (fun q => 2 ^ q)).sum

/-- QTR_TABLE_STAT_t.COUNT of quarter q follows the table. -/
def tableCount (q t : Nat) (s : State) : State := s.put QTR_TABLE_STAT_COUNT (tableOf s q t).slots.length q t

/-- Table t of quarter q replaced; an identical table is replaced for every quarter. -/
def setTable (q t : Nat) (x : CTable) (s : State) : State :=
  if t = 0 then tableCount q 0 (onQuarter q (fun y => { y with learned := x }) s)
  else
    let c := s.cls
    let s := { s with cls := if t = 1 then { c with exact := x } else if t = 2 then { c with pfx4 := x } else { c with pfx6 := x } }
    (liveQuarters s).foldl (fun s q => tableCount q t s) s

/-- A failed insertion (R127): counted in QTR_CUCKOO_FAIL_CNT_t, and a rehash request is posted where none is outstanding. -/
def rehashRequest (q t : Nat) (s : State) : State :=
  let s := s.bump QTR_CUCKOO_FAIL_CNT q t
  if s.on QTR_TABLE_STAT_REHASH_REQ q t then s
  else
    let fill := leBytes 4 (tableOf s q t).slots.length
    postEvent 0x0004 q ([BitVec.ofNat 8 t] ++ zeros 3 ++ fill) (s.put QTR_TABLE_STAT_REHASH_REQ 1 q t)

/-- One insertion by the table engine of quarter q (R127): for an identical table in every quarter that is not fenced. Answers
whether the entry was placed. -/
def tableInsert (q t : Nat) (key data : List Byte) (s : State) : State × Bool :=
  match insertBy (tablePlace s q t) (tableOf s q t) key data with
  | some x => (setTable q t x s, true)
  | none =>
    if t = 0 then (rehashRequest q t s, false)
    else ((liveQuarters s).foldl (fun s q => rehashRequest q t s) s, false)

/-- The entry of a key in table t of quarter q. -/
def tableLookup (s : State) (q t : Nat) (key : List Byte) : Option Slot :=
  lookupSlot (tableOf s q t) (tablePlace s q t key) key

/-- A key removed from table t of quarter q. -/
def tableErase (q t : Nat) (key : List Byte) (s : State) : State :=
  setTable q t (eraseKey (tablePlace s q t key) (tableOf s q t) key) s

/-! ### Learned address entries (Table 6.3) -/

/-- The key of a learned address: FID and MAC address in network order (Table 6.1). -/
def l2Key (fid : Nat) (mac : List Byte) : List Byte := beBytes 2 fid ++ padTo 6 mac

/-- A learned address entry as a 256-bit number. MAC is the address as a number in network order. -/
def l2Entry (key : List Byte) (port : Nat) (static hit : Bool) (origin time : Nat) : Nat :=
  beField key 2 6 + beField key 0 2 % 4096 * 2 ^ 48 + port % 128 * 2 ^ 64 + ofBool static * 2 ^ 71 + ofBool hit * 2 ^ 72 +
    origin % 8 * 2 ^ 75 + time % 2 ^ 64 * 2 ^ 128

/-- The entry of a slot as a number; IN_PROGRESS is the slot's mark. -/
def l2Of (x : Slot) : Nat := withBit (leNat x.data) 73 x.inProgress

/-- PORT of a learned entry. -/
def l2Port (e : Nat) : Nat := bitsOf e 70 64
/-- STATIC of a learned entry. -/
def l2Static (e : Nat) : Bool := bitOf e 71
/-- LEARN_T of a learned entry. -/
def l2Time (e : Nat) : Nat := bitsOf e 191 128

/-- The 32 bytes of a learned entry. -/
def l2Bytes (e : Nat) : List Byte := leBytes 32 e

/-- The learned entry of a key in quarter q. -/
def l2Lookup (s : State) (q : Nat) (key : List Byte) : Option Nat := (tableLookup s q 0 key).map l2Of

/-- The learned entry of a key in quarter q rewritten where it stands. -/
def l2Set (q : Nat) (key : List Byte) (e : Nat) (s : State) : State :=
  setTable q 0 (setData (tablePlace s q 0 key) (tableOf s q 0) key (l2Bytes e)) s

end Sys2Proof.Machine
end

