-- ==== Sys2Proof/Machine/Edits.lean ====
section
/-! DEFINITION. Header edits, incremental checksums, hash groups and their members (R77 to R84). -/

namespace Sys2Proof.Machine

/-! ### Checksums (R79) -/

/-- One's complement sum folded to 16 bits. -/
def fold16 (n : Nat) : Nat :=
  let a := n % 65536 + n / 65536
  let b := a % 65536 + a / 65536
  b % 65536 + b / 65536

/-- RFC 1624: the checksum c after the 16-bit word m has become m'. -/
def checksumUpdate (c m m' : Nat) : Nat := 65535 - fold16 ((65535 - c) + (65535 - m % 65536) + m' % 65536)

/-- The 16-bit words of a byte string in network order. -/
def words16 : List Byte → List Nat
  | [] => []
  | [a] => [a.toNat * 256]
  | a :: b :: rest => (a.toNat * 256 + b.toNat) :: words16 rest

/-- The checksum at offset at of bs after the bytes old have been replaced by new (of the same even length and place). DESIGN CHOICE (log
entry 113): a UDP checksum that the update turns into 0x0000 is written so; no rule replaces it by 0xFFFF. -/
def checksumPatch (bs : List Byte) (at_ : Nat) (old new : List Byte) : List Byte :=
  let c := ((words16 old).zip (words16 new)).foldl (fun c w => if w.1 = w.2 then c else checksumUpdate c w.1 w.2) (beField bs at_ 2)
  patch bs at_ (beBytes 2 c)

/-- The IPv4 header checksum of a header without options whose checksum field is 0. -/
def ipv4Checksum (h : List Byte) : Nat := 65535 - fold16 (words16 h).sum

/-! ### Header edits (R77 to R81) -/

/-- The order of an edit in Table 4.5. -/
def editOrder : Edit → Nat
  | .tunnelDecap => 1
  | .mplsPop _ => 2
  | .vlanPop => 3
  | .setDa _ => 4
  | .setSa _ => 4
  | .setVid _ => 5
  | .setPcpDei _ => 5
  | .setDscp _ => 6
  | .setEcn _ => 6
  | .decTtl => 7
  | .mplsSwap _ => 8
  | .vlanPush _ _ => 9
  | .mplsPush _ => 10
  | .tunnelEncap _ => 11

/-- The kind of an edit, so that limits can be counted (Table 4.5). -/
def editKind : Edit → Nat
  | .tunnelDecap => 0
  | .mplsPop _ => 1
  | .vlanPop => 2
  | .setDa _ => 3
  | .setSa _ => 4
  | .setVid _ => 5
  | .setPcpDei _ => 6
  | .setDscp _ => 7
  | .setEcn _ => 8
  | .decTtl => 9
  | .mplsSwap _ => 10
  | .vlanPush _ _ => 11
  | .mplsPush _ => 12
  | .tunnelEncap _ => 13

/-- How often an edit of a kind is applied at most (Table 4.5). -/
def editLimit (k : Nat) : Nat := if k = 1 || k = 12 then 3 else if k = 2 || k = 11 then 2 else 1

/-- The edits in the order of Table 4.5, each kind within its limit (R77). -/
def orderedEdits (l : List Edit) : List Edit :=
  let within := (List.range 14).flatMap (fun k => (l.filter (fun e => editKind e == k)).take (editLimit k))
  (List.range 12).flatMap (fun o => within.filter (fun e => editOrder e == o))

/-- The net growth of a list of edits in bytes (R78); an encapsulation counts its template. -/
def editGrowth (templateLen : Nat → Nat) (l : List Edit) : Int :=
  l.foldl (fun n e => n + (match e with
    | .mplsPop _ => -4
    | .vlanPop => -4
    | .vlanPush _ _ => 4
    | .mplsPush _ => 4
    | .tunnelEncap t => (templateLen t : Int)
    | _ => 0)) 0

/-- Where the EtherType after the VLAN tags of a header area stands, at most n tags being passed. -/
def tagsEnd (bs : List Byte) : Nat → Nat → Nat
  | 0, i => i
  | n + 1, i =>
    let et := beField bs i 2
    if (et = 0x8100 || et = 0x88A8) && i + 6 ≤ bs.length then tagsEnd bs n (i + 4) else i

/-- The offset of the EtherType after all the tags of a header area: two received and two pushed at most (Tables 4.2 and 4.5). -/
def etherAt (bs : List Byte) : Nat := tagsEnd bs 4 12

/-- The offset of the top label of an MPLS frame. -/
def labelAt (bs : List Byte) : Option Nat :=
  let e := etherAt bs
  if beField bs e 2 = 0x8847 || beField bs e 2 = 0x8848 then some (e + 2) else none

/-- A word of an IPv4 header at offset o rewritten, with the header checksum updated (R79). -/
def ipv4Word (bs : List Byte) (l3 o v : Nat) : List Byte :=
  let old := slice bs (l3 + o) 2
  patch (checksumPatch bs (l3 + 10) old (beBytes 2 v)) (l3 + o) (beBytes 2 v)

/-- The traffic class of the layer-3 header at offset o, IPv6 where six holds, replaced by f of it. -/
def setTrafficClass (f : Nat → Nat) (o : Nat) (six : Bool) (bs : List Byte) : List Byte :=
  let w := beField bs o 2
  if six then patch bs o (beBytes 2 (w / 4096 * 4096 + f (w / 16 % 256) % 256 * 16 + w % 16))
  else ipv4Word bs o 0 (w / 256 * 256 + f (w % 256) % 256)

/-- The TTL or hop limit of the layer-3 header at offset o. -/
def ttlOf (o : Nat) (six : Bool) (bs : List Byte) : Nat := leField bs (o + (if six then 7 else 8)) 1

/-- DEC_TTL on the layer-3 header at offset o. -/
def decTtl (o : Nat) (six : Bool) (bs : List Byte) : List Byte :=
  if six then patch bs (o + 7) (leBytes 1 (leField bs (o + 7) 1 - 1)) else ipv4Word bs o 8 (beField bs (o + 8) 2 - 256)

/-- n bytes removed at offset i. -/
def cutAt (bs : List Byte) (i n : Nat) : List Byte := bs.take i ++ bs.drop (i + n)

/-- Bytes inserted at offset i. -/
def insertAt (bs : List Byte) (i : Nat) (ys : List Byte) : List Byte := bs.take i ++ ys ++ bs.drop i

/-- The outer tag control word rewritten, where there is a tag. -/
def setTci (f : Nat → Nat) (bs : List Byte) : List Byte := patch bs 14 (beBytes 2 (f (beField bs 14 2)))

/-- Header bytes carry a VLAN tag. -/
def hasTag (bs : List Byte) : Bool := etherAt bs != 12

/-- The UDP source port of an encapsulation (Table 4.5): of the hash of the last hash group the frame passed (R82), else of the hash of its
flow key block. Which bits of a hash are taken is open (log entry 116). -/
def sourcePort (h : Option Nat) (key : List Byte) : Nat := (Config.hashPort (h.getD (Config.ungroupedHash key))).toNat

/-- A template prepended (Table 4.5): n bytes follow it; hash fills the UDP source port. -/
def encapsulate (t : Template) (n hash : Nat) : List Byte :=
  let b := t.bytes
  let total := b.length + n
  let b := match t.udp with
    | none => b
    | some u => patch (patch b u (beBytes 2 hash)) (u + 4) (beBytes 2 (total - u))
  let b := match t.ip6 with
    | none => b
    | some o => patch b (o + 4) (beBytes 2 (total - o - 40))
  match t.ip4 with
  | none => b
  | some o =>
    let b := patch (patch b (o + 2) (beBytes 2 (total - o))) (o + 10) [0, 0]
    patch b (o + 10) (beBytes 2 (ipv4Checksum (slice b o 20)))

/-- What the application of edits carries: the header area so far, the edits skipped, whether DEC_TTL met a TTL of 0 or 1, the layer-3
headers that remain, outermost first, each by its distance from the area's end and whether it is IPv6, and whether the area begins with
an Ethernet header. -/
structure Edited where
  bytes : List Byte
  skipped : Nat
  expired : Bool
  l3 : List (Nat × Bool)
  ether : Bool
deriving DecidableEq, Repr

/-- What the edits of a pass draw on: whether the frame is forwarded as layer 2 only; where its tunnel header ends and whether an Ethernet
header follows that; the bytes of the frame behind the header area; the templates; and the UDP source port of an encapsulation. -/
structure EditContext where
  l2 : Bool
  tun : Option (Nat × Bool)
  after : Nat
  template : Nat → Option Template
  port : Nat

/-- The outermost remaining layer-3 header of the header area: its offset and whether it is IPv6. None where the area holds none, as
behind the last label popped (R70: what labels carry is payload). -/
def Edited.outer (x : Edited) : Option (Nat × Bool) :=
  match x.l3 with | [] => none | (d, six) :: _ => if d ≤ x.bytes.length then some (x.bytes.length - d, six) else none

/-- One edit on the header area (Table 4.5, R80, R81). DESIGN CHOICE (log entry 112): an edit that finds nothing to act on, that is a decap
without a tunnel, a pop or swap without a label or tag, a traffic class or TTL without a layer-3 header, an address or tag without an Ethernet
header or an encapsulation whose template is absent, leaves the frame as it is and counts nothing. -/
def applyEdit (c : EditContext) (x : Edited) (e : Edit) : Edited :=
  let b := x.bytes
  let skip : Edited := { x with skipped := x.skipped + 1 }
  let on := fun (y : List Byte) => ({ x with bytes := y } : Edited)
  let onEther := fun (y : List Byte) => if x.ether then on y else x
  let label := if x.ether then labelAt b else none
  if c.l2 && (editOrder e = 1 || editOrder e = 6 || editOrder e = 7 || editOrder e = 11) then skip
  else
    match e with
    | .tunnelDecap => (match c.tun with
      | none => x
      | some (n, ether) =>
        let y := b.drop n
        { x with bytes := y, l3 := x.l3.filter (fun h => h.1 ≤ y.length), ether := ether })
    | .mplsPop et =>
      (match label with
      | none => x
      | some o =>
        let last := bitOf (leField b (o + 2) 1) 0
        let y := cutAt b o 4
        on (if last then patch y (o - 2) (beBytes 2 et) else y))
    | .vlanPop => if x.ether && hasTag b then on (cutAt b 12 4) else x
    | .setDa a => onEther (patch b 0 (beBytes 6 a))
    | .setSa a => onEther (patch b 6 (beBytes 6 a))
    | .setVid v => if x.ether && hasTag b then on (setTci (fun t => t / 4096 * 4096 + v % 4096) b) else skip
    | .setPcpDei v => if x.ether && hasTag b then on (setTci (fun t => v % 16 * 4096 + t % 4096) b) else skip
    | .setDscp v => (match x.outer with | none => x | some (o, six) => on (setTrafficClass (fun t => v % 64 * 4 + t % 4) o six b))
    | .setEcn v => (match x.outer with | none => x | some (o, six) => on (setTrafficClass (fun t => t / 4 * 4 + v % 4) o six b))
    | .decTtl => (match x.outer with
      | none => x
      | some (o, six) => if ttlOf o six b ≤ 1 then { x with expired := true } else on (decTtl o six b))
    | .mplsSwap l => (match label with
      | none => x
      | some o => on (patch b o (beBytes 4 (l % 2 ^ 20 * 4096 + beField b o 4 % 4096))))
    | .vlanPush tpid tci => onEther (insertAt b 12 (beBytes 2 tpid ++ beBytes 2 tci))
    | .mplsPush l =>
      let o := etherAt b + 2
      let y := insertAt b o (beBytes 4 (withBit l 8 label.isNone))
      onEther (if label.isNone then patch y (o - 2) [0x88, 0x47] else y)
    | .tunnelEncap t => match c.template t with
      | none => x
      | some t => { on (encapsulate t (b.length + c.after) c.port ++ b) with ether := true }

/-- A list of edits on a header area, in the order of Table 4.5 (R77). l3: its layer-3 headers. -/
def applyEdits (c : EditContext) (l3 : List (Nat × Bool)) (l : List Edit) (b : List Byte) : Edited :=
  (orderedEdits l).foldl (applyEdit c) ⟨b, 0, false, l3, true⟩

/-- Where the tunnel header of a parse result ends, and whether an Ethernet header follows it. -/
def tunnelEnd (p : Parse) : Option (Nat × Bool) :=
  match p.hdrs.dropWhile (fun h => !(h.kind == 0x0C || h.kind == 0x0D || h.kind == 0x0E)) with
  | [] => none
  | h :: rest => some (h.off + h.len, match rest with | [] => false | n :: _ => n.kind == 0x01)

/-- The layer-3 headers of a parse result by their distance from the end of a header area of n bytes. -/
def l3Dists (p : Parse) (n : Nat) : List (Nat × Bool) :=
  if p.l2only then [] else (p.hdrs.filter (fun h => h.kind == 0x05 || h.kind == 0x06)).map (fun h => (n - h.off, h.kind == 0x06))

/-! ### Hash groups (R82 to R84) -/

/-- Hash group g; before HASH_GROUP_SET it selects no field and has one entry. -/
def hashGroupOf (s : State) (g : Nat) : HashGroup := Store.getD s.cls.groups g ⟨0, 0, 0, false, false⟩

/-- Member entry i of group g; an entry never written is invalid. -/
def memberOf (s : State) (g i : Nat) : Nat := Store.getD s.cls.indir (key2 g i) (3 * 2 ^ 16)

/-- TARGET of a member entry. -/
def memberTarget (e : Nat) : Nat := bitsOf e 15 0
/-- KIND of a member entry. -/
def memberKind (e : Nat) : Nat := bitsOf e 17 16

/-- The bytes of a hash field (Table 4.6); an absent field gives zeros. inner: fields 5 to 10 come from the innermost layer-3
header. -/
def hashField (g : HashGroup) (port : Nat) (p : Parse) (bs : List Byte) (i : Nat) : List Byte :=
  let inner := bitOf g.fields 13
  let ips := (ipAddrs p bs inner).getD (zeros 16, zeros 16)
  let ips := if g.symmetric && beNat ips.2 < beNat ips.1 then (ips.2, ips.1) else ips
  let ports := (l4Ports p bs inner).getD (0, 0)
  let ports := if g.symmetric && ports.2 < ports.1 then (ports.2, ports.1) else ports
  let udf := fun (k : Nat) => padTo 16 ((p.udf.getD k none).getD [])
  match i with
  | 0 => beBytes 1 port
  | 1 => slice bs 0 6
  | 2 => slice bs 6 6
  | 3 => beBytes 2 (((tagWords p bs).head?.getD 0) % 4096)
  | 4 => slice bs (etherOff p) 2
  | 5 => ips.1
  | 6 => ips.2
  | 7 => beBytes 1 ((protoOf p bs inner).getD 0)
  | 8 => beBytes 2 ports.1
  | 9 => beBytes 2 ports.2
  | 10 => match l3Of p inner with
    | none => zeros 3
    | some h => if h.kind = 0x06 then beBytes 3 (beField bs (h.off + 1) 3 % 2 ^ 20) else zeros 3
  | 11 => beBytes 3 ((mplsTop p bs).getD 0 / 2 ^ 12)
  | 12 => beBytes 4 ((vniOf p bs).getD 0)
  | 14 => udf 0
  | 15 => udf 1
  | _ => []

/-- The hash h of a frame in a hash group (R82). -/
def spreadHash (g : HashGroup) (port : Nat) (p : Parse) (bs : List Byte) : Nat :=
  crc32c (((List.range 16).filter (fun i => bitOf g.fields i)).flatMap (hashField g port p bs)) g.seed

/-- The index a frame takes in a hash group (R82). -/
def hashIndex (g : HashGroup) (port : Nat) (p : Parse) (bs : List Byte) : Nat :=
  let h := spreadHash g port p bs
  Nat.xor (bitsOf h 31 20) (bitsOf h 11 0) % 2 ^ min 12 g.size

/-- A port member whose port has none of HOLD, PARKED and QUIET (R84). -/
def freePort (s : State) (e : Nat) : Bool :=
  memberKind e == 0 && memberTarget e < 96 && !s.on PRT_STATUS_HOLD (memberTarget e) &&
    !s.on PRT_STATUS_PARKED (memberTarget e) && !s.on PRT_STATUS_QUIET (memberTarget e)

/-- The member of a hash group for a frame, and whether R84 redirected it. -/
def chooseMember (s : State) (g port : Nat) (p : Parse) (bs : List Byte) : Nat × Bool :=
  let x := hashGroupOf s g
  let i := hashIndex x port p bs
  let e := memberOf s g i
  if x.failover && memberKind e = 0 && !freePort s e then
    match ((List.range 8).map (fun k => memberOf s g ((i + k + 1) % 2 ^ min 12 x.size))).find? (freePort s) with
    | some e' => (e', true)
    | none => (e, false)
  else (e, false)

end Sys2Proof.Machine
end

