-- ==== Sys2Proof/Machine/Quarter.lean ====
section
/-! DEFINITION. The pipeline of a quarter: dispatch of header descriptors, parse, TCAM search and merge, learning, the forwarding
decision, edits, recirculation, inspection and the release stage (chapters 4, 5 and 6). -/

namespace Sys2Proof.Machine

/-! ### Epochs (R88, R89) -/

/-- The quarter that serves a port: its home quarter, or Q4 while PRT_QMUX names that quarter (R48). -/
def servingQuarter (s : State) (p : Nat) : Nat := if s.get PRT_QMUX_MOVED = p / 24 then 4 else p / 24

/-- The current epoch bit of quarter q. -/
def epochBit (s : State) (q : Nat) : Bool := bitOf (s.get QTR_EPOCH_EPOCH q) 0

/-- Descriptors of quarter q that carry the old epoch bit. -/
def oldRefs (s : State) (q : Nat) : Nat :=
  ((quarterOf s q).release.filter (fun d => d.epoch != epochBit s q)).length

/-- OLD_REFS and DRAINING of quarter q follow its descriptors (Table 4.8). -/
def epochStat (q : Nat) (s : State) : State :=
  let n := oldRefs s q
  (s.put QTR_EPOCH_OLD_REFS n q).flag QTR_EPOCH_DRAINING (n != 0) q

/-- The parse graph of an epoch bit: that of its bank; none is the default graph (R67, R88). -/
def graphOf (s : State) (epoch : Bool) : Option Graph :=
  let bank := if epoch then s.cls.bank1 else s.cls.bank0
  if bank then s.cls.graphB else s.cls.graphA

/-! ### Dispatch (R43, R44, R516) -/

/-- The parse window of a frame is present and it is known whether the frame is shorter (R516); a store-and-forward frame waits
for its end. -/
def windowPresent (s : State) (x : Frame) : Bool :=
  x.ended || (ctEnabled s x.port && 260 ≤ x.bytes.length)

/-- Frame f refused before acceptance, counted in register r (R18). -/
def refuseAt (r : Reg) (i j f : Nat) (s : State) : State :=
  match frameOf s f with
  | none => s
  | some x => freeFrame f (txOutcome x.tx 4 s.now (s.bump r i j))

/-- The header descriptor of frame f leaves for its quarter (R43, R48, R516): it waits in the quarter's wake FIFO, whose first
descriptor wakes a resting quarter, or finds it full and is refused (R44). -/
def dispatchFrame (f : Nat) (s : State) : State :=
  match frameOf s f with
  | none => s
  | some x =>
    if x.dispatched || 96 ≤ x.port || !windowPresent s x then s
    else
      let q := servingQuarter s x.port
      if 8192 ≤ (quarterOf s q).wake.length then refuseFrame BUF_ADM_REFUSE f s
      else
        let s := onFrame f (fun y => { y with dispatched := true }) s
        wakeUnit q (onQuarter q (fun y => { y with wake := y.wake ++ [f] }) s)

/-! ### The TCAM of a quarter (R92 to R98) -/

/-- WIDTH code of bank n of quarter q; 3 acts as 0 (Table 5.10). -/
def bankWidth (s : State) (q n : Nat) : Nat := s.get QTR_TCAM_BANK_WIDTH q n % 3

/-- The enabled banks of group g (R93). -/
def groupBanks (s : State) (q g : Nat) : List Nat :=
  (List.range 24).filter (fun n => s.on QTR_TCAM_BANK_ENABLE q n && s.get QTR_TCAM_BANK_GROUP q n == g)

/-- WIDTH code of group g: that of its lowest-numbered enabled bank. -/
def groupWidth (s : State) (q g : Nat) : Nat :=
  match groupBanks s q g with | [] => 0 | n :: _ => bankWidth s q n

/-- The searched banks of group g. -/
def searchedBanks (s : State) (q g : Nat) : List Nat :=
  (groupBanks s q g).filter (fun n => bankWidth s q n == groupWidth s q g)

/-- Entries that group g holds. -/
def groupSize (s : State) (q g : Nat) : Nat := (searchedBanks s q g).length * (1024 / widthUnits (groupWidth s q g))

/-- The entries of group g. -/
def groupTcam (s : State) (q g : Nat) : Store TEntry := Store.getD (quarterOf s q).tcam g []

/-- VALID_CNT of the banks of group g follows its entries (Table 5.10); the entries of a bank that no lookup searches stand under
8 + bank (log entry 91). -/
def bankStat (q g : Nat) (s : State) : State :=
  if 8 ≤ g then s.put QTR_TCAM_BANK_VALID_CNT ((groupTcam s q g).filter (fun e => e.2.valid)).length q (g - 8) else
  let per := 1024 / widthUnits (groupWidth s q g)
  let t := groupTcam s q g
  (searchedBanks s q g).zipIdx.foldl (fun s b =>
    s.put QTR_TCAM_BANK_VALID_CNT (t.filter (fun e => e.2.valid && e.1 / per == b.2)).length q b.1) s

/-- The source field of a key selector, in network order; none where it is absent (R98, Table 5.3). -/
def selectField (p : Parse) (bs : List Byte) (src : Nat) (inner : Bool) : Option (List Byte) :=
  let eth := match p.hdrs.head? with | none => false | some h => h.kind == 0x01
  let l3 := l3Of p inner
  let l4 := l4Of p inner
  match src with
  | 0x01 => if eth then some (slice bs 0 6) else none
  | 0x02 => if eth then some (slice bs 6 6) else none
  | 0x03 => (tagWords p bs)[0]?.map (beBytes 2)
  | 0x04 => (tagWords p bs)[1]?.map (beBytes 2)
  | 0x05 => if eth then some (slice bs (etherOff p) 2) else none
  | 0x06 => (ipAddrs p bs inner).map (fun a => a.1)
  | 0x07 => (ipAddrs p bs inner).map (fun a => a.2)
  | 0x08 => (protoOf p bs inner).map (beBytes 1)
  | 0x09 => l3.map (fun h => beBytes 1 (if h.kind = 0x05 then leField bs (h.off + 1) 1 else beField bs h.off 2 / 16 % 256))
  | 0x0A => l3.map (fun h => beBytes 1 (leField bs (h.off + (if h.kind = 0x05 then 8 else 7)) 1))
  | 0x0B => l3.bind (fun h => if h.kind = 0x06 then some (beBytes 3 (beField bs (h.off + 1) 3 % 2 ^ 20)) else none)
  | 0x0C => (l4Ports p bs inner).map (fun x => beBytes 2 x.1)
  | 0x0D => (l4Ports p bs inner).map (fun x => beBytes 2 x.2)
  | 0x0E => l4.bind (fun h => if h.kind = 0x08 then some (beBytes 2 (beField bs (h.off + 12) 2 % 4096)) else none)
  | 0x0F => l4.bind (fun h => if h.kind = 0x0B then some (slice bs h.off 2) else none)
  | 0x10 => (mplsTop p bs).map (beBytes 4)
  | 0x11 => (vniOf p bs).map (beBytes 4)
  | 0x12 => some (beBytes 4 ((((List.range 31).map (· + 1)).filter (fun k => p.hdrs.any (fun h => h.kind == k))).map (fun k => 2 ^ k)).sum)
  | 0x13 => p.udf.getD 0 none
  | 0x14 => p.udf.getD 1 none
  | 0x15 => p.udf.getD 2 none
  | 0x16 => some (beBytes 1 p.reason)
  | _ => none

/-- Bytes of the data area of a group of WIDTH code w (R97). -/
def dataBytes (w : Nat) : Nat := 20 * widthUnits w - 4

/-- The data area of a group and its PRESENT bits (R98). -/
def keyData (s : State) (q g : Nat) (p : Parse) (bs : List Byte) : List Byte × Nat :=
  (List.range 16).foldl (fun a j =>
    let src := s.get QTR_TCAM_SEL_SOURCE q g j
    let n := min 16 (s.get QTR_TCAM_SEL_LEN q g j)
    if src = 0 || 0x16 < src || n = 0 then a
    else
      let f := selectField p bs src (s.on QTR_TCAM_SEL_INNER q g j && 0x06 ≤ src && src ≤ 0x0F)
      let data := slice (f.getD []) (s.get QTR_TCAM_SEL_FIRST q g j) n
      (patch a.1 (s.get QTR_TCAM_SEL_DEST q g j) data, if f.isSome then a.2 + 2 ^ j else a.2))
    (zeros (dataBytes (groupWidth s q g)), 0)

/-- The key of group g, one number for each unit (R97, Table 5.2). -/
def tcamKey (s : State) (q g port : Nat) (second : Bool) (p : Parse) (bs : List Byte) : List Nat :=
  let d := keyData s q g p bs
  let head := port % 128 * 2 ^ 25 + p.outcome * 2 ^ 23 + ofBool p.l2only * 2 ^ 22 + ofBool (fragmentOf p bs false) * 2 ^ 21 +
    ofBool second * 2 ^ 20 + d.2
  (head * 2 ^ 128 + beNat (d.1.take 16)) ::
    (List.range (widthUnits (groupWidth s q g) - 1)).map (fun k => beNat (slice d.1 (16 + 20 * k) 20))

/-- The hitting groups of a pass with their action entries, in ascending group number (R94). -/
def groupHits (s : State) (q port : Nat) (epoch second : Bool) (p : Parse) (bs : List Byte) : List (Nat × Nat) :=
  (List.range 8).filterMap (fun g =>
    if (groupBanks s q g).isEmpty then none
    else (tcamSearch (groupTcam s q g) epoch (tcamKey s q g port second p bs)).map (fun e =>
      (g, Store.getD s.cls.actions e.2.action 0)))

/-! ### The merged action (R108) -/

/-- How restrictive a verdict is: deny, to host, permit, continue. -/
def verdictRank (v : Nat) : Nat := if v = 2 then 3 else if v = 3 then 2 else if v = 1 then 1 else 0

/-- The value of the lowest-numbered hitting group that a test accepts. -/
def firstHit {α : Type} (hits : List Nat) (f : Nat → Option α) : Option α := hits.findSome? f

/-- An optional field of an action: its value where the valid bit is 1. -/
def validField (v hi lo : Nat) (a : Nat) : Option Nat := if bitOf a v then some (bitsOf a hi lo) else none

/-- A field whose value 0 means none. -/
def nonZero (hi lo : Nat) (a : Nat) : Option Nat := if bitsOf a hi lo = 0 then none else some (bitsOf a hi lo)

/-- The merged action of the hits of a pass (R108). host: the parse outcome's action is to host. rule is the counter of the
lowest-numbered hit that gives the verdict (Table 16.7). -/
def mergeHits (host : Bool) (hits : List Nat) : Merged :=
  let v := hits.foldl (fun v a => if verdictRank (bitsOf a 1 0) > verdictRank v then bitsOf a 1 0 else v) (if host then 3 else 0)
  let ins := firstHit hits (fun a => if bitOf a 53 then some a else none)
  ⟨v, hits.any (fun a => bitOf a 2), (firstHit hits (nonZero 31 20)).getD 0, firstHit hits (validField 40 39 32),
    firstHit hits (validField 48 47 41), firstHit hits (validField 52 51 49), ins.isSome,
    bitsOf (ins.getD 0) 59 54, bitsOf (ins.getD 0) 63 60, bitsOf (ins.getD 0) 71 64, bitOf (ins.getD 0) 72,
    (firstHit hits (nonZero 88 73)).getD 0,
    (firstHit hits (fun a => if bitsOf a 1 0 = v && bitOf a 3 then some (bitsOf a 19 4) else none)).getD 0xFFFF⟩

/-- The hitting groups with COUNT_EN count the frame and its bytes as received, with FCS (R108); the bytes of a frame whose end
has not arrived are counted at its end. -/
def countHits (q f : Nat) (hits : List Nat) (s : State) : State :=
  match frameOf s f with
  | none => s
  | some x =>
    (hits.filter (fun a => bitOf a 3)).foldl (fun s a =>
      let c := bitsOf a 19 4
      let s := { s with counters := { s.counters with
        ruleFrames := Store.upd s.counters.ruleFrames (key2 q c) 0 (fun n => (n + 1) % 2 ^ 64) } }
      if x.ended then ruleBytes q c (x.bytes.length + 4) s
      else onFrame f (fun y => { y with counting := y.counting ++ [(q, c)] }) s) s

/-! ### Learning (R137 to R141) -/

/-- The VLAN entry of a VID (R130); before its first VLAN_WRITE it holds FID v, VRF 0, routing off and flood group v. -/
def vlanOf (s : State) (v : Nat) : VlanEntry := Store.getD s.cls.vlans v ⟨v, 0, 0, false, v⟩

/-- The outer VID of header bytes; vid, the DEF_VID that travels with the frame, for an untagged one (R517). -/
def outerVid (vid : Nat) (bs : List Byte) : Nat :=
  match (frameTags bs).1 with
  | [] => vid
  | t :: _ => t % 4096

/-- Notices per ms that a quarter may send (Table 6.6). -/
def learnRate (s : State) (q : Nat) : Nat := clamp 1 1750 (s.get QTR_LEARN_CTRL_RATE q)

/-- Room for a notice within RATE per ms with a burst of 256 (R139): the quarter after one has been taken. -/
def takeToken (q : Nat) (s : State) : Option State :=
  let step := ceilDiv 1000000000 (learnRate s q)
  let now := s.clock * 1000
  let full := max now (min (quarterOf s q).tokens (now + 256 * step))
  if full ≤ now + 255 * step then some (onQuarter q (fun y => { y with tokens := full + step }) s) else none

/-- A notice put on the ring by quarter q: it waits at the next ring stop, NEW and MOVE before REFRESH (R139). -/
def sendNotice (q : Nat) (n : Notice) (s : State) : State :=
  let queue := fun (l : List Notice) =>
    if n.kind = 2 then l ++ [n] else l.filter (fun m => m.kind != 2) ++ [n] ++ l.filter (fun m => m.kind == 2)
  countEvent q 0x08 n.kind 1 (onQuarter ((q + 1) % 5) (fun y => { y with notices := queue y.notices }) s)

/-- The data of a learn, age or station-move event (Table 16.9). -/
def learnData (key : List Byte) (port : Nat) : List Byte :=
  slice key 2 6 ++ leBytes 2 (beField key 0 2) ++ [BitVec.ofNat 8 port]

/-- A source not yet known is learned in quarter q (R137, R139). -/
def learnNew (q : Nat) (key : List Byte) (port t : Nat) (s : State) : State :=
  match takeToken q s with
  | none => s.bump QTR_LEARN_DEFER_CNT q
  | some s' =>
    let r := tableInsert q 0 key (l2Bytes (l2Entry key port false true q t)) s'
    if !r.2 then r.1
    else
      let s := sendNotice q ⟨0, key, port, t, q⟩ (r.1.bump QTR_LEARN_CNT q)
      if s.on QTR_LEARN_CTRL_NOTIFY_LEARN q then postEvent 0x0001 q (learnData key port) s else s

/-- A source hit on entry e of quarter q from port p at time t (R141). -/
def sourceHit (q : Nat) (key : List Byte) (e p t : Nat) (s : State) : State :=
  if l2Port e = p then l2Set q key (withBit (withBit e 72 true) 74 false) s
  else if l2Static e then s.bump QTR_STATIC_VIOLATION_CNT q
  else if !bitOf e 74 || bitsOf e 84 78 != p then
    let e := withBits (withBits (withBit e 74 true) 84 78 p) 255 192 t
    (l2Set q key e s).bump QTR_MOVE_PEND_CNT q
  else
    let age := signedOf 64 (t + 2 ^ 64 - bitsOf e 255 192 % 2 ^ 64)
    if age < ((min 1000000 (s.get QTR_LEARN_CTRL_DAMP_US q) * 1000 : Nat) : Int) then s
    else
      match takeToken q s with
      | none => s.bump QTR_LEARN_DEFER_CNT q
      | some s' =>
        let old := l2Port e
        let e := withBits (withBits (withBits (withBit (withBit e 74 false) 72 true) 70 64 p) 191 128 t) 77 75 q
        let s := (sendNotice q ⟨1, key, p, t, q⟩ (l2Set q key e s')).bump QTR_MOVE_CNT q
        if s.on QTR_LEARN_CTRL_NOTIFY_MOVE q then
          postEvent 0x0003 q (learnData key p ++ [BitVec.ofNat 8 old]) s else s

/-- Learning is on for a port in quarter q (R137). -/
def learnsFrom (s : State) (q p : Nat) : Bool :=
  s.on QTR_LEARN_CTRL_LEARN_EN q &&
    (if p < 64 then bitOf (s.num QTR_LEARN_PORT_EN_0 q) p else bitOf (s.get QTR_LEARN_PORT_EN_1_EN_HI q) (p - 64))

/-- The learn stage of quarter q for a frame on its first pass (R137). -/
def learnFrame (q : Nat) (x : Frame) (s : State) : State :=
  let sa := slice x.bytes 6 6
  if !learnsFrom s q x.port || bitOf (leField sa 0 1) 0 || beNat sa = 0 || x.bad then s
  else
    let key := l2Key (vlanOf s (outerVid x.defVid x.bytes)).fid sa
    let t := stampNs x.stamp % 2 ^ 64
    match l2Lookup s q key with
    | none => learnNew q key x.port t s
    | some e => sourceHit q key e x.port t s

/-- A notice applied at quarter q (R140). -/
def applyNotice (q : Nat) (n : Notice) (s : State) : State :=
  match l2Lookup s q n.key with
  | none => (tableInsert q 0 n.key (l2Bytes (l2Entry n.key n.port false true n.origin n.time)) s).1
  | some e =>
    let take := fun (e : Nat) => withBits (withBits (withBits e 70 64 n.port) 191 128 n.time) 77 75 n.origin
    if l2Static e then (if l2Port e = n.port || n.kind = 1 then s else s.bump QTR_LEARN_RESOLVE_CNT q)
    else if l2Port e = n.port then l2Set q n.key (withBit e 72 true) s
    else if n.kind = 1 then l2Set q n.key (withBit (withBit (take e) 74 false) 72 true) s
    else
      let s := s.bump QTR_LEARN_RESOLVE_CNT q
      if n.time < l2Time e || (n.time = l2Time e && n.port < l2Port e) then l2Set q n.key (take e) s else s

/-- The next notice at the ring stop of quarter q: applied where the quarter is not fenced, and passed on until it returns to
its origin (R139). -/
def learnNotice (q : Nat) (s : State) : State :=
  match (quarterOf s q).notices with
  | [] => s
  | n :: rest =>
    let s := onQuarter q (fun y => { y with notices := rest }) s
    let s := if fenced s q then s else applyNotice q n s
    if (q + 1) % 5 = n.origin then s else sendNotice q n s

/-- A quarter takes an entry's origin for its own: its number, and for Q4 the quarter it stands for (R142). -/
def ownOrigin (s : State) (q origin : Nat) : Bool := origin == q || (q == 4 && s.get PRT_QMUX_MOVED == origin)

/-- One entry met by the sweep of quarter q (R143). -/
def sweepEntry (q : Nat) (x : Slot) (s : State) : State :=
  let e := l2Of x
  if l2Static e || x.inProgress then s
  else
    let old := s.nowNs - bitsOf e 255 192
    let e := if bitOf e 74 && max 100 (s.get QTR_AGE_CTRL_PERIOD_MS q) * 1000000 < old then withBit e 74 false else e
    if bitOf e 72 then
      let s := l2Set q x.key (withBit e 72 false) s
      if ownOrigin s q (bitsOf e 77 75) then sendNotice q ⟨2, x.key, l2Port e, l2Time e, q⟩ s else s
    else
      let s := (tableErase q 0 x.key s).bump QTR_AGE_CNT q
      if s.on QTR_LEARN_CTRL_NOTIFY_AGE q then postEvent 0x0002 q (learnData x.key (l2Port e)) s else s

/-- One sweep of the learned address table of quarter q (R143). -/
def ageSweep (q : Nat) (s : State) : State :=
  if fenced s q || !s.on QTR_AGE_CTRL_AGE_EN q || s.clock < (quarterOf s q).agedAt + max 100 (s.get QTR_AGE_CTRL_PERIOD_MS q) * 1000000 then s
  else (quarterOf s q).learned.slots.foldl (fun s e => sweepEntry q e.2 s) (onQuarter q (fun y => { y with agedAt := s.clock }) s)

/-! ### Longest-prefix match (R130, R131) -/

/-- Route instance r; before RT_WRITE its filters are empty and its action is drop. -/
def routeInst (s : State) (r : Nat) : RouteInst := Store.getD s.cls.routes r ⟨0, 0, false⟩

/-- The route instance of a VRF under an epoch bit (R130). -/
def vrfInst (s : State) (epoch : Bool) (v : Nat) : Nat := Store.getD (if epoch then s.cls.vrf1 else s.cls.vrf0) v 0

/-- Address bytes cut to a prefix length: the bits beyond it are 0. -/
def truncBits (a : List Byte) (len : Nat) : List Byte :=
  let n := a.length
  beBytes n (beNat a / 2 ^ (8 * n - len) * 2 ^ (8 * n - len))

/-- The key of a prefix (Table 6.1). -/
def prefixKey (r len : Nat) (a : List Byte) : List Byte := beBytes 2 r ++ beBytes 1 len ++ truncBits a len

/-- The lengths of a filter of w bits, ascending. -/
def filterLens (f w : Nat) : List Nat := (List.range (w + 1)).filter (fun i => bitOf f i)

/-- The lengths of a family in route instance r; six: IPv6. -/
def instLens (s : State) (r : Nat) (six : Bool) : List Nat :=
  if six then filterLens (routeInst s r).filter6 128 else filterLens (routeInst s r).filter4 32

/-- The data of a prefix entry: the next-hop index, bit 0 of byte 2 for a prefix, bit 1 where it carries a result. -/
def prefixData (nh : Option Nat) (isPrefix : Bool) : List Byte :=
  leBytes 2 (nh.getD 0) ++ [BitVec.ofNat 8 (ofBool isPrefix + 2 * ofBool nh.isSome)]

/-- The result that an entry carries. -/
def prefixResult (x : Slot) : Option Nat := if bitOf (leField x.data 2 1) 1 then some (leField x.data 0 2) else none

/-- The binary search of R131 over the lengths from lo to hi − 1, at most n probes. -/
def searchLens (s : State) (q t r : Nat) (a : List Byte) (lens : List Nat) :
    Nat → Nat → Nat → Option Nat → Option Nat
  | 0, _, _, best => best
  | n + 1, lo, hi, best =>
    if hi ≤ lo then best
    else
      let mid := (lo + (hi - 1)) / 2
      match tableLookup s q t (prefixKey r (lens.getD mid 0) a) with
      | some x => searchLens s q t r a lens n (mid + 1) hi (prefixResult x)
      | none => searchLens s q t r a lens n lo mid best

/-- The longest-prefix search of an address in route instance r (R131): the next-hop index, none for the no-route action. -/
def lpm (s : State) (q r : Nat) (six : Bool) (a : List Byte) : Option Nat :=
  let lens := instLens s r six
  searchLens s q (if six then 3 else 2) r a lens 8 0 lens.length none

/-- The key of an exact-match entry (Table 6.1). -/
def exactKey (kind r : Nat) (v : List Byte) : List Byte := beBytes 1 kind ++ beBytes 2 r ++ v

/-- The next-hop index of an exact-match entry. -/
def exactLookup (s : State) (q kind r : Nat) (v : List Byte) : Option Nat :=
  (tableLookup s q 1 (exactKey kind r v)).map (fun x => leField x.data 0 2)

/-! ### The forwarding decision (R134 to R136) -/

/-- What a frame's path through next hops and hash groups has gathered: the later DA and VID, the later SA_INDEX to apply, DEC_TTL,
the redirections of R84 and the hash of the last hash group. -/
structure Path where
  da : Option Nat
  vid : Option Nat
  sa : Option Nat
  dec : Bool
  failover : Bool
  hash : Option Nat
deriving DecidableEq, Repr

/-- The outcome of a decision: a destination, an encapsulation template, or a refusal counted in a register of the quarter. -/
inductive Decision where
  | to (d : Dest)
  | encap (t : Nat)
  | refuse (r : Reg)
deriving DecidableEq, Repr

/-- Next-hop entry i; an index never written is invalid (R135). -/
def hopOf (s : State) (i : Nat) : Nat := Store.getD s.cls.hops i (3 * 2 ^ 16)

/-- The path after next hop e (R135): the later next hop's fields replace the earlier one's. -/
def viaHop (e : Nat) (x : Path) : Path :=
  { x with
    da := some (bitsOf e 79 32),
    vid := if bitOf e 19 then some (bitsOf e 31 20) else x.vid,
    sa := if bitOf e 88 then some (bitsOf e 87 80) else x.sa,
    dec := x.dec || bitOf e 18 }

/-- A port as a destination; a number beyond P95 names none and is treated as an invalid next hop. -/
def toPort (n : Nat) : Decision := if n < 96 then .to (.port n) else .refuse QTR_NO_ROUTE_CNT

/-- A path from a next hop (group false) or a hash group (group true) with number i; hashes is how many hash groups it has
passed. A frame passes at most two (R136). -/
def follow (s : State) (port : Nat) (p : Parse) (bs : List Byte) : Nat → Bool → Nat → Nat → Path → Decision × Path
  | 0, _, _, _, x => (.refuse QTR_NH_DEPTH_CNT, x)
  | n + 1, true, i, hashes, x =>
    if 2 ≤ hashes then (.refuse QTR_NH_DEPTH_CNT, x)
    else
      let m := chooseMember s i port p bs
      let x := { x with failover := x.failover || m.2, hash := some (spreadHash (hashGroupOf s i) port p bs) }
      let e := m.1
      if memberKind e = 0 then (toPort (memberTarget e), x)
      else if memberKind e = 1 then follow s port p bs n false (memberTarget e) (hashes + 1) x
      else if memberKind e = 2 then (.encap (memberTarget e), x)
      else (.refuse QTR_NO_MEMBER_CNT, x)
  | n + 1, false, i, hashes, x =>
    let e := hopOf s i
    let k := bitsOf e 17 16
    if k = 3 then (.refuse QTR_NO_ROUTE_CNT, x)
    else
      let x := viaHop e x
      if k = 0 then (toPort (bitsOf e 15 0), x)
      else if k = 1 then follow s port p bs n true (bitsOf e 7 0) hashes x
      else (.encap (bitsOf e 15 0), x)

/-- The path before any next hop. -/
def noPath : Path := ⟨none, none, none, false, false, none⟩

/-- Steps that a path can take: two hash groups and the next hops around them. -/
def pathFuel : Nat := 6

/-- The no-route action of route instance r (R130). -/
def noRoute (s : State) (r : Nat) : Decision :=
  if (routeInst s r).toHost then .to (.host 0x25) else .refuse QTR_NO_ROUTE_CNT

/-- The layer-2 destination of header bytes with default VID vid (rule 4 of R134). -/
def bridge (s : State) (q vid : Nat) (bs : List Byte) : Decision :=
  let v := vlanOf s (outerVid vid bs)
  if bitOf (leField bs 0 1) 0 then .to (.group v.flood)
  else match l2Lookup s q (l2Key v.fid (slice bs 0 6)) with
    | none => .to (.group v.flood)
    | some e => toPort (l2Port e)

/-- Whether a frame is routed: its destination address is the router address of its VLAN (rule 2 of R134). -/
def isRouted (s : State) (vid : Nat) (p : Parse) (bs : List Byte) : Bool :=
  let v := vlanOf s (outerVid vid bs)
  let et := beField bs (etherOff p) 2
  v.routing && Store.get? s.cls.macs v.rmac == some (beField bs 0 6) && !p.l2only && (et == 0x0800 || et == 0x86DD) &&
    (l3Of p false).isSome

/-- The destination of a frame in quarter q with default VID vid (R134, R135, R136). DESIGN CHOICE (log entry 115): of an action with both
EGRESS_VALID and HASH_VALID, which R108 names without an order, EGRESS applies. -/
def forward (s : State) (q port vid : Nat) (epoch : Bool) (act : Merged) (p : Parse) (bs : List Byte) : Decision × Path :=
  match act.egress, act.hashGroup with
  | some e, _ => (toPort e, noPath)
  | none, some g => follow s port p bs pathFuel true g 0 noPath
  | none, none =>
    let v := vlanOf s (outerVid vid bs)
    let r := vrfInst s epoch v.vrf
    if isRouted s vid p bs then
      match l3Of p false with
      | none => (bridge s q vid bs, noPath)
      | some h =>
        let six := h.kind = 0x06
        let a := if six then slice bs (h.off + 24) 16 else slice bs (h.off + 16) 4
        match exactLookup s q (if six then 4 else 3) r a with
        | some i => follow s port p bs pathFuel false i 0 noPath
        | none => match lpm s q r six a with
          | some i => follow s port p bs pathFuel false i 0 noPath
          | none => (noRoute s r, noPath)
    else
      match mplsTop p bs with
      | some l => match exactLookup s q 1 0 (beBytes 3 (l / 4096)) with
        | some i => follow s port p bs pathFuel false i 0 noPath
        | none => (noRoute s 0, noPath)
      | none => (bridge s q vid bs, noPath)

/-- The source-address rewrite that a next hop gives where the edit list has none (R81, R135): the edits, and the rewrites skipped because
their router address is not valid. -/
def hopSource (s : State) (x : Path) : List Edit × Nat :=
  match x.sa with
  | none => ([], 0)
  | some i => match Store.get? s.cls.macs i with
    | none => ([], 1)
    | some a => ([.setSa a], 0)

/-- The edits of a frame: its edit list, and the fields of its next hops where the list has no edit of the same kind (R135); and the
rewrites skipped. -/
def frameEdits (s : State) (list : List Edit) (x : Path) : List Edit × Nat :=
  let has := fun (k : Nat) => list.any (fun e => editKind e == k)
  let sa := if has 4 then ([], 0) else hopSource s x
  (list ++ (match x.da with | some a => if has 3 then [] else [.setDa a] | none => []) ++ sa.1 ++
    (match x.vid with | some v => if has 5 then [] else [.setVid v] | none => []) ++
    (if x.dec && !has 9 then [.decTtl] else []), sa.2)

/-- Edit list n; 0 is none (Table 5.4). A list that grows a frame by more than 64 bytes is rejected when written (R78), so it stands
nowhere. -/
def editListOf (s : State) (n : Nat) : List Edit :=
  let l := if n = 0 then [] else Store.getD s.cls.editLists n []
  if 64 < editGrowth (fun t => match Store.get? s.cls.templates t with | none => 0 | some x => x.bytes.length) l then [] else l

/-! ### A pass (R66, R74, R76 to R81, R86) -/

/-- The action of QTR_PARSE_ACT for a reason (Table 4.7): 0 drop, 1 layer 2 only, 2 to host. -/
def parseAction (s : State) (q reason : Nat) : Nat :=
  let v := s.num QTR_PARSE_ACT q
  let lo := if reason = 0x06 then 18 else if reason < 0x06 then 2 * (reason - 1) else 10 + 2 * (reason - 0x10)
  let a := bitsOf v (lo + 1) lo
  if a = 3 then 0 else a

/-- Contexts of the automaton engines of a quarter: 8 engines with 4 each (R116). -/
def engineContexts : Nat := 32

/-- Free contexts take the descriptors that have waited longest (R116). -/
def fillEngines (y : Quarter) : Quarter :=
  { y with engines := (y.engines ++ y.inspect).take engineContexts, inspect := (y.engines ++ y.inspect).drop engineContexts }

/-- The descriptor leaves the release stage and every other queue of its quarter. -/
def dropDesc (q f : Nat) (s : State) : State :=
  epochStat q (onQuarter q (fun y => fillEngines { y with
    recirc := y.recirc.filter (fun d => d.frame != f),
    inspect := y.inspect.filter (fun d => d.frame != f),
    engines := y.engines.filter (fun d => d.frame != f),
    release := y.release.filter (fun d => d.frame != f) }) s)

/-- A frame of quarter q is refused before acceptance and counted in register r. -/
def quarterRefuse (q f : Nat) (r : Reg) (s : State) : State := refuseAt r q 0 f (dropDesc q f s)

/-- The descriptor takes its place in the release stage, or replaces the one that holds the place of a recirculated frame. -/
def enterRelease (q : Nat) (d : Desc) (s : State) : State :=
  let place := fun (l : List Desc) =>
    if l.any (fun x => x.frame == d.frame) then l.map (fun x => if x.frame == d.frame then d else x) else l ++ [d]
  epochStat q (onQuarter q (fun y => { y with release := place y.release }) s)

/-- The length limit that the headers give the payload (R115): up to the bound of the innermost header; none where the frame's end gives
it. -/
def payloadLimit (p : Parse) : Option Nat :=
  match p.hdrs.getLast? with
  | none => none
  | some h => if p.l2only then none else h.bound.map (fun b => b - payloadStart p)

/-- The layer-4 header of a parse result, at most 60 bytes, and the length of its payload. -/
def l4Parts (p : Parse) (bs : List Byte) : List Byte × Nat :=
  match l4Of p false with
  | none => ([], 0)
  | some h => (slice bs h.off (min 60 h.len), min (h.bound.getD bs.length) 65535 - (h.off + h.len))

/-- The lane of a flow key block (R87): bits [5:0] of its CRC-32C with seed 0. -/
def laneOf (key : List Byte) : Nat := crc32c (key.take (keyLen key)) 0 % 64

/-- A descriptor asks for inspection (R116): a free context takes it, else it waits in the inspection queue. -/
def beginInspection (q : Nat) (d : Desc) (s : State) : State :=
  onQuarter q (fun y => fillEngines { y with inspect := y.inspect ++ [d] }) s

/-- The inspection queue of quarter q holds no further frame: no context is free and 512 descriptors wait (R116). -/
def inspectionFull (s : State) (q : Nat) : Bool :=
  engineContexts ≤ (quarterOf s q).engines.length && 512 ≤ (quarterOf s q).inspect.length

/-- The descriptor after its last pass enters the release stage; with INSPECT it first waits for its verdict (R115, R116). n = 0
is known where the payload's limit is 0 or the frame has ended without payload. -/
def finishPass (q : Nat) (d : Desc) (x : Frame) (s : State) : State :=
  let avail := x.bytes.length - d.rest
  let empty := d.limit == some 0 || (x.ended && avail = 0)
  if !d.act.inspect || empty then enterRelease q { d with ready := true } s
  else if inspectionFull s q then
    if d.act.patOvf then quarterRefuse q d.frame QTR_PAT_REFUSE_CNT s
    else (enterRelease q { d with verdict := 0xFFFF, ready := true } s).bump QTR_PAT_SKIP_CNT q
  else enterRelease q d (beginInspection q d s)

/-- The length of the header area of a descriptor's last pass. -/
def areaLen (d : Desc) : Nat := max (payloadStart d.parse) d.header.length

/-- A descriptor with its header area taken as parsed, without edits: what a frame for the host carries. bs: the bytes its last pass saw. -/
def unedited (d : Desc) (bs : List Byte) : Desc :=
  { d with header := bs.take (areaLen d), rest := d.rest + (areaLen d - d.header.length) }

/-- A frame goes to the host in place of its forwarding (R519). -/
def hostPass (q reason : Nat) (d : Desc) (x : Frame) (bs : List Byte) (s : State) : State :=
  finishPass q { unedited d bs with dest := .host reason } x s

/-- The edits of a pass on its header area, applied (R77 to R81); the descriptor with its edited header. hash: that of the last hash group
the frame passed. The length that an encapsulation states for a frame whose end has not arrived is open (log entry 116). -/
def editPass (s : State) (d : Desc) (x : Frame) (bs : List Byte) (hash : Option Nat) (edits : List Edit) : Desc × Edited :=
  let hh := areaLen d
  let area := bs.take hh
  let after := if x.ended then bs.length - area.length else s.freeWord.toNat % 65536
  let e := applyEdits ⟨d.parse.l2only, tunnelEnd d.parse, after, Store.get? s.cls.templates, sourcePort hash d.key⟩
    (l3Dists d.parse hh) edits area
  let ttl := edits.any (fun x => editKind x == 9) && !d.parse.l2only
  let kept := fun (h : Option PHdr) => match h with
    | none => 0
    | some h => if e.l3.any (fun (t : Nat × Bool) => hh - h.off ≤ t.1) then hh - h.off else 0
  let d := { d with
    l3Tail := kept (l3Of d.parse false), l4Tail := kept (l4Of d.parse false), ipTail := match e.l3 with | [] => 0 | t :: _ => t.1 }
  ({ d with header := e.bytes, rest := d.rest + (hh - d.header.length), ttlDone := d.ttlDone || ttl }, e)

/-- The frame takes TTL_ACT (R80): refused, or sent to the host; counted in QTR_TTL_CNT either way. -/
def ttlAction (q : Nat) (d : Desc) (x : Frame) (bs : List Byte) (s : State) : State :=
  if s.get QTR_PARSE_ACT_TTL_ACT q = 2 then hostPass q 0x20 d x bs (s.bump QTR_TTL_CNT q)
  else quarterRefuse q d.frame QTR_TTL_CNT s

/-- A frame whose decision is an encapsulation template leaves by the layer-2 destination of its new outer header. -/
def resolveEncap (s : State) (q : Nat) (d : Desc) (x : Frame) : Decision :=
  match bridge s q x.defVid d.header with
  | .encap _ => .refuse QTR_NO_ROUTE_CNT
  | x => x

/-- The forwarding of a descriptor whose verdict lets it pass, after its last pass. -/
def forwardPass (q : Nat) (d : Desc) (x : Frame) (bs : List Byte) (s : State) : State :=
  let f := forward s q d.port x.defVid d.epoch d.act d.parse bs
  let s := if f.2.failover then s.bump QTR_FAILOVER_CNT q else s
  match f.1 with
  | .refuse r => quarterRefuse q d.frame r s
  | .to (.host reason) => hostPass q reason d x bs s
  | dec =>
    let edits := frameEdits s (editListOf s d.act.editList) f.2
    let e := editPass s d x bs f.2.hash (edits.1 ++ (match dec with | .encap t => [.tunnelEncap t] | _ => []))
    let s := (if x.ended then s else s.drew).bumpBy (e.2.skipped + edits.2) QTR_EDIT_SKIP_CNT q
    if e.2.expired then ttlAction q d x bs s
    else
      match (match dec with | .encap _ => resolveEncap s q e.1 x | y => y) with
      | .to y => finishPass q { e.1 with dest := y } x s
      | .refuse r => quarterRefuse q d.frame r s
      | .encap _ => quarterRefuse q d.frame QTR_NO_ROUTE_CNT s

/-- A first pass that asks for a second one (R86): its edit list is applied and the edited header is sent back, unless the
recirculation queue is full. -/
def recirculate (q : Nat) (d : Desc) (x : Frame) (bs : List Byte) (s : State) : State :=
  if 64 ≤ (quarterOf s q).recirc.length then quarterRefuse q d.frame QTR_RECIRC_FULL_CNT s
  else
    let e := editPass s d x bs none (editListOf s d.act.editList)
    let s := (if x.ended then s else s.drew).bumpBy e.2.skipped QTR_EDIT_SKIP_CNT q
    if e.2.expired then ttlAction q d x bs s
    else
      let d := { e.1 with second := true }
      enterRelease q d (onQuarter q (fun y => { y with recirc := y.recirc ++ [d] }) s)

/-- The checks of R76 that wait for the frame's end, with offsets in the received frame. -/
def lateChecks (q : Nat) (d : Desc) (p : Parse) : List (Nat × Nat × Nat) :=
  p.late.map (fun c => (q, c.1, c.2 + d.rest - d.header.length))

/-- A parse reason of frame f in quarter q, counted once per frame (R74). -/
def parseCountOnce (q reason f : Nat) (s : State) : State :=
  match frameOf s f with
  | none => parseCount q reason s
  | some x =>
    if x.reasons.contains reason then s
    else parseCount q reason (onFrame f (fun y => { y with reasons := y.reasons ++ [reason] }) s)

/-- A frame dropped by its parse outcome: the reason counter, already raised, is its refusal counter (R74). -/
def parseDrop (q f : Nat) (s : State) : State :=
  match frameOf s f with
  | none => s
  | some y => freeFrame f (txOutcome y.tx 4 s.now (dropDesc q f s))

/-- The pass after the parse: action of the parse outcome, TCAM search, merge, learning, and what follows from the verdict. A recirculate
request of a second pass is ignored and counted (R86). -/
def classify (q : Nat) (d : Desc) (x : Frame) (bs : List Byte) (s : State) : State :=
  let p := d.parse
  let bad := p.outcome != 0
  let action := if bad then parseAction s q p.reason else 3
  let s := if bad then parseCountOnce q p.reason d.frame s else s
  if bad && action = 0 then parseDrop q d.frame s
  else
    let p := { p with l2only := action = 1 }
    let s := onFrame d.frame (fun y => { y with late := y.late ++ lateChecks q d p }) s
    let v := outerVid x.defVid bs
    let vrf := (vlanOf s v).vrf
    let key := flowKey p bs vrf d.port v x.defPcp
    let groups := groupHits s q d.port d.epoch d.second p bs
    let hits := groups.map (fun h => h.2)
    let act := mergeHits (action = 2) hits
    let d := { d with parse := p, act := act, key := key, lane := laneOf key, vrf := vrf }
    let d := { d with limit := payloadLimit p, queue := act.queue }
    let d := { d with l4 := (l4Parts p bs).1, l4Len := (l4Parts p bs).2 }
    let d := { d with plain := bs.take (areaLen d) }
    let s := countHits q d.frame hits (groups.foldl (fun s h => countEvent q 0x03 h.1 1 s) s)
    let s := if act.verdict = 2 || d.second then s else learnFrame q x s
    let s := if act.recirc && d.second then s.bump QTR_RECIRC_LIMIT_CNT q else s
    if act.verdict = 2 then quarterRefuse q d.frame QTR_DENY_CNT s
    else if act.verdict = 3 then hostPass q (if action = 2 then p.reason else 0x00) d x bs s
    else if act.recirc && !d.second then recirculate q d x bs s
    else forwardPass q d x bs s

/-- One pass of a descriptor through quarter q: the parse of its window, then the classification. -/
def runPass (q : Nat) (d : Desc) (s : State) : State :=
  match frameOf s d.frame with
  | none => dropDesc q d.frame s
  | some x =>
    let bs := d.header ++ x.bytes.drop d.rest
    let p := parseFrame (graphOf s d.epoch) bs (if x.ended then some bs.length else none)
    classify q { d with parse := p } x bs s

/-- A descriptor that enters its first pass in quarter q with the current epoch bit (R88). -/
def newDesc (s : State) (q f : Nat) (x : Frame) : Desc :=
  ⟨f, x.port, q, epochBit s q, false, [], 0, [], ⟨[], 0, 0, false, [], []⟩,
    ⟨0, false, 0, none, none, none, false, 0, 0, 0, false, 0, 0xFFFF⟩, .host 0, none, 0, [], 0, none, [], 0, 0, 0, 0, false, 0, false⟩

/-- The quarter processes its oldest waiting header descriptor, unless it rests, wakes, is fenced, or its release stage is full
(R43, R66, R87). -/
def quarterPass (q : Nat) (s : State) : State :=
  if !serves s q || s.faults.incoming.contains q || 4096 ≤ (quarterOf s q).release.length then s
  else
    match (quarterOf s q).wake with
    | [] => s
    | f :: rest =>
      let s := onQuarter q (fun y => { y with wake := rest }) s
      match frameOf s f with
      | none => s
      | some x => runPass q (newDesc s q f x) (countEvent q 0x01 x.port 1 s)

/-- The oldest recirculated descriptor takes its second pass (R86). -/
def recirculationPass (q : Nat) (s : State) : State :=
  if !serves s q then s
  else
    match (quarterOf s q).recirc with
    | [] => s
    | d :: rest => runPass q d (countEvent q 0x02 d.port 1 (onQuarter q (fun y => { y with recirc := rest }) s))

/-! ### Pattern automata (R115 to R119) -/

/-- The next state of a state record for a byte (R118). -/
def automatonNext (words : List Nat) (a : Nat) (b : Byte) : Nat :=
  let h := words.getD a 0
  let dflt := bitsOf h 26 8
  if bitsOf h 1 0 = 0 then
    let w := words.getD (a + 1 + b.toNat / 2) 0
    if b.toNat % 2 = 0 then bitsOf w 18 0 else bitsOf w 50 32
  else if bitsOf h 1 0 = 1 then
    let pair := fun (k : Nat) =>
      let w := words.getD (a + 1 + k / 2) 0
      if k % 2 = 0 then bitsOf w 31 0 else bitsOf w 63 32
    match ((List.range (bitsOf h 4 2)).map pair).find? (fun x => bitsOf x 7 0 == b.toNat) with
    | some x => bitsOf x 26 8
    | none => dflt
  else dflt

/-- The run of an automaton from state a over the inspected bytes (R117): the verdict and the bytes consumed. -/
def automatonRun (words : List Nat) : Nat → Nat → Nat → List Byte → Nat × Nat
  | a, v, n, [] =>
    let h := words.getD a 0
    (if bitOf h 48 && bitOf h 49 then max v (bitsOf h 47 32) else v, n)
  | a, v, n, b :: bs =>
    let a := automatonNext words a b
    let h := words.getD a 0
    if bitOf h 48 && !bitOf h 49 then
      let v := max v (bitsOf h 47 32)
      if bitOf h 50 then (v, n + 1) else automatonRun words a v (n + 1) bs
    else automatonRun words a v (n + 1) bs

/-- The verdict of a descriptor is ready: it may leave the release stage, and its context takes the next waiting descriptor (R116). -/
def verdictReady (q f v : Nat) (s : State) : State :=
  onQuarter q (fun y => fillEngines { y with
    engines := y.engines.filter (fun d => d.frame != f),
    release := y.release.map (fun d => if d.frame == f then { d with verdict := v, ready := true } else d) }) s

/-- The bytes of a frame that its descriptor wants inspected, at most (R115). -/
def inspectWant (d : Desc) : Nat := min (d.act.patLen + 1) (d.limit.getD 256)

/-- The inspected bytes of a descriptor have arrived, or its frame is gone. -/
def inspectable (s : State) (d : Desc) : Bool :=
  match frameOf s d.frame with
  | none => true
  | some x => x.ended || inspectWant d ≤ x.bytes.length - d.rest

/-- A context of quarter q whose frame's inspected bytes have arrived runs to its end (R115, R117): the first of those that can. ue: an
uncorrectable error is read during the inspection. An image that is not loaded gives an open verdict. -/
def inspectPattern (q : Nat) (ue : Bool) (s : State) : State :=
  if !serves s q then s
  else
    match (quarterOf s q).engines.find? (inspectable s) with
    | none => s
    | some d =>
      match frameOf s d.frame with
      | none => dropDesc q d.frame s
      | some x =>
        let n := min (inspectWant d) (x.bytes.length - d.rest)
        if n = 0 then verdictReady q d.frame 0 s
        else
          let s := s.bump QTR_PAT_FRAME_CNT q
          if ue then
            report (srcQuarter q 5) ((verdictReady q d.frame 0xFFFE s).bump QTR_PAT_FAULT_CNT q)
          else
            match Store.get? s.cls.images d.act.patImage with
            | none => verdictReady q d.frame (s.freeWord.toNat % 2 ^ 16) s.drew
            | some im =>
              let r := automatonRun im.words (im.starts.getD d.act.patProg 0) 0 0 ((x.bytes.drop d.rest).take n)
              (verdictReady q d.frame r.1 s).bumpBy r.2 QTR_PAT_BYTE_CNT q

/-! ### The release stage (R87) -/

/-- The first descriptor of a release stage that may leave: its verdict is ready and no earlier one of its port and lane waits. -/
def releasable : List Desc → List Desc → Option Desc
  | _, [] => none
  | before, d :: rest =>
    if d.ready && !before.any (fun e => e.port == d.port && e.lane == d.lane) then some d else releasable (before ++ [d]) rest

/-- Another quarter that is not fenced still holds descriptors of ports that quarter q serves (R438). -/
def heldElsewhere (s : State) (q : Nat) : Bool :=
  (List.range 5).any (fun j => j != q && !fenced s j && (quarterOf s j).release.any (fun d => servingQuarter s d.port == q))

/-- The first releasable descriptor of quarter q is taken out of its release stage. -/
def takeReleased (q : Nat) (s : State) : Option (Desc × State) :=
  if !serves s q || heldElsewhere s q then none
  else (releasable [] (quarterOf s q).release).map (fun d => (d, dropDesc q d.frame s))

end Sys2Proof.Machine
end

