-- ==== Sys2Proof/Machine/Tiers.lean ====
section
/-! DEFINITION. Flow records in gill, firkin and tun: layouts, lookup, promotion, replacement, write-through and write-back, sketches
and the mirror messages of chapter 14 (R145 to R173, R202, R359 to R361). -/

namespace Sys2Proof.Machine

/-! ### Keys and places (R125, R148) -/

/-- The place of a flow key in a tier of nb buckets. -/
def flowPlace (s : State) (nb : Nat) (key : List Byte) : Place :=
  khPlace (max 1 nb) s.ascor.flowKeyA s.ascor.flowKeyB (key.take (keyLen key))

/-- FKA that tags and key identities are taken under: while a FLOW_REKEY runs, the old one. DESIGN CHOICE (log entry 130). -/
def hashKey (s : State) : Nat := match s.flow.rekey with | none => s.ascor.flowKeyA | some r => r.keyA

/-- ha of a flow key (R125). -/
def flowHash (s : State) (key : List Byte) : Nat :=
  kh64 (key.take (keyLen key)) (hashKey s % 2 ^ 64) (hashKey s / 2 ^ 64)

/-- The place of a key in a tier of nb buckets under the key set that its tun record stands under (R173). -/
def standingPlace (s : State) (nb : Nat) (key : List Byte) : Place :=
  match s.flow.rekey with
  | none => flowPlace s nb key
  | some r => if r.left.contains key then khPlace (max 1 nb) r.keyA r.keyB (key.take (keyLen key)) else flowPlace s nb key

/-- Buckets of gill, firkin and tun (Table 7.2). -/
def gillBuckets : Nat := 262144
/-- Buckets of firkin: F / 1 KiB. -/
def firkinBuckets (s : State) : Nat := s.get FLW_TIER_CFG_FIRKIN_GIB * 2 ^ 20
/-- Buckets of tun. -/
def tunBuckets (s : State) : Nat := s.get FLW_TIER_CFG_TUN_BUCKETS

/-- "No slot" and no link (R149). -/
def noSlot : Nat := 0xFFFFFFFF

/-! ### The tiers -/

/-- The gill copy of a key with its slot. -/
def gillOf (s : State) (key : List Byte) : Option (Nat × Gill) := s.flow.gill.find? (fun e => e.2.key == key)

/-- The firkin copy of a key with its slot. -/
def firkinOf (s : State) (key : List Byte) : Option (Nat × Firkin) := s.flow.firkin.find? (fun e => e.2.key == key)

/-- The tun record of a key with its slot. -/
def tunOf (s : State) (key : List Byte) : Option (Nat × Slot) := s.flow.tun.slots.find? (fun e => e.2.key == key)

/-- KSET of the slot of a key (R151, R173): the parity of the key set that it is placed under. -/
def ksetOf (s : State) (key : List Byte) : Bool :=
  let g := bitOf (s.get FLW_KEY_STAT_KEY_GEN) 0
  match s.flow.rekey with
  | none => g
  | some r => if r.left.contains key then g else !g

/-- The bucket line of tun bucket b (Table 7.3), 64 bytes. -/
def bucketLine (s : State) (b : Nat) : List Byte :=
  let slot := fun (i : Nat) => Store.get? s.flow.tun.slots (8 * b + i)
  let mask := fun (p : Slot → Bool) => ((List.range 8).map (fun i => ofBool ((slot i).any p) * 2 ^ i)).sum
  (List.range 8).flatMap (fun i => leBytes 2 (((slot i).map (fun x => x.fp)).getD 0)) ++
    leBytes 1 (mask (fun x => x.inProgress)) ++ leBytes 1 (mask (fun x => ksetOf s x.key)) ++ zeros 46

/-- The tun slot of a key is marked by a routine that moves its record (R162). -/
def tunMarked (s : State) (key : List Byte) : Bool := (tunOf s key).any (fun e => e.2.inProgress)

/-- Occupancy of the tiers and of the pending table (Table 7.9). -/
def tierStat (s : State) : State :=
  let s := s.put FLW_GILL_OCC_SLOTS ((s.flow.gill.map (fun e => if e.2.double then 2 else 1)).sum)
  let s := s.put FLW_FIRKIN_OCC_RECORDS s.flow.firkin.length
  let s := s.put FLW_TUN_OCC_RECORDS s.flow.tun.slots.length
  let s := s.put FLW_KEY_STAT_UNHOMED (s.flow.firkin.filter (fun e => e.2.pinned)).length
  let s := s.put FLW_PEND_OCC_ENTRIES s.flow.pend.length
  s.put FLW_PEND_OCC_DESCRIPTORS (s.flow.pend.map (fun e => e.2.queue.length)).sum

/-- The firkin copy of a key changed. -/
def onFirkin (key : List Byte) (f : Firkin → Firkin) (s : State) : State :=
  match firkinOf s key with
  | none => s
  | some (i, x) => { s with flow := { s.flow with firkin := Store.set s.flow.firkin i (f x) } }

/-- The gill copy of a key changed. -/
def onGill (key : List Byte) (f : Gill → Gill) (s : State) : State :=
  match gillOf s key with
  | none => s
  | some (i, x) => { s with flow := { s.flow with gill := Store.set s.flow.gill i (f x) } }

/-- Tun slot i is written (R335): where a channel of its pair runs a training pass, the slot's 1 MiB region is marked in the channel's
catch-up map. -/
def tunWritten (s : State) (i : Nat) : State :=
  if !s.on FLW_TIER_CFG_MIRROR then s
  else
    let region := (i / 32 * 4096 + i % 8 * 512) / 1048576
    ([2 * (i / 8 % 4), 2 * (i / 8 % 4) + 1].filter (fun k => s.on MEM_DDR_STAT_TRAINING k)).foldl (fun s k =>
      if s.mem.catchUp.contains (k, region) then s else { s with mem := { s.mem with catchUp := s.mem.catchUp ++ [(k, region)] } }) s

/-- The tun record of a key replaced. -/
def onTun (key : List Byte) (f : List Byte → List Byte) (s : State) : State :=
  match tunOf s key with
  | none => s
  | some (i, x) => { tunWritten s i with flow := { s.flow with tun := { s.flow.tun with
      slots := Store.set s.flow.tun.slots i { x with data := f x.data } } } }

/-- A change applied to a record and to its linked record. -/
def onBoth (key : List Byte) (f : Firkin → Firkin) (s : State) : State :=
  match firkinOf s key with
  | none => s
  | some (_, x) =>
    let s := onFirkin key f s
    match x.link with | none => s | some k => onFirkin k f s

/-- The tun slot of a key. -/
def slotOf (s : State) (key : List Byte) : Option Nat := (tunOf s key).map (fun e => e.1)

/-! ### Times in copies (R153) -/

/-- TIME in µs modulo 2^32. -/
def nowUs (s : State) : Nat := s.nowNs / 1000 % 2 ^ 32

/-- The age of a time in µs modulo 2^32, by signed difference: a time ahead has age 0. -/
def ageUs (s : State) (t : Nat) : Nat := (signedOf 32 (nowUs s + 2 ^ 32 - t % 2 ^ 32)).toNat

/-- The timestamp of a LAST_T. -/
def stampOfUs (s : State) (t : Nat) : Stamp := nsStamp (s.nowNs / 1000 * 1000 - ageUs s t * 1000)

/-- The timestamp of a METER_T in ns modulo 2^32. -/
def stampOfMeter (s : State) (t : Nat) : Stamp :=
  nsStamp (s.nowNs - (signedOf 32 (s.nowNs + 2 ^ 32 - t % 2 ^ 32)).toNat)

/-! ### Record bytes (Table 7.4) -/

/-- FLAGS of a tun record: VALID, LEAD, LINKED; STATIC as it stands. -/
def recordFlags (f : Firkin) (old : List Byte) : Nat :=
  1 + 2 * ofBool f.lead + 4 * ofBool f.link.isSome + 8 * ofBool (bitOf (leField old 45 1) 3)

/-- Bytes 0 to 127 of a record from its copy, over what stands in tun. -/
def recordHead (s : State) (f : Firkin) (old : List Byte) : List Byte :=
  let link := match f.link with | none => noSlot | some k => (slotOf s k).getD noSlot
  padTo 40 f.key ++ leBytes 4 link ++ leBytes 1 f.state ++ leBytes 1 (recordFlags f old) ++ leBytes 2 f.profile ++
    stampBytes f.created ++ zeros 6 ++ padTo 16 f.natAddr ++ beBytes 2 f.natPort ++ leBytes 2 f.choice ++ leBytes 2 f.natPool ++
    leBytes 2 f.verdict ++ leBytes 4 f.idleS ++ leBytes 2 f.progVer ++ zeros 2 ++ padTo 16 f.ct ++ zeros 16

/-- Counts and time of a record with those of its gill copy: PKTS, BYTES and LAST_T. -/
def mergedCounts (s : State) (f : Firkin) : Nat × Nat × Nat :=
  match gillOf s f.key with
  | none => (f.pkts, f.bytes, f.lastT)
  | some (_, g) => ((f.pkts + g.frames) % 2 ^ 64, (f.bytes + g.bytes) % 2 ^ 64, g.lastT)

/-- Meter of a record: that of its gill copy where there is one. -/
def recordMeter (s : State) (f : Firkin) : Int × Int × Nat :=
  match gillOf s f.key with
  | none => (f.tokC, f.tokE, f.meterT)
  | some (_, g) => (g.tokC, g.tokE, g.meterT)

/-- Bytes 128 to 163 of a record: counts, LAST_SEEN and LAST_WB. -/
def recordCounts (s : State) (f : Firkin) (wb : List Byte) : List Byte :=
  let c := mergedCounts s f
  leBytes 8 c.1 ++ leBytes 8 c.2.1 ++ stampBytes (stampOfUs s c.2.2) ++ wb

/-- Bytes 0 to 255 of a record from its copies (R164). -/
def recordBytes (s : State) (f : Firkin) (old : List Byte) : List Byte :=
  let m := recordMeter s f
  let b := patch (padTo 512 old) 0 (recordHead s f old)
  let b := patch b 128 (recordCounts s f (slice old 154 10))
  patch b 192 (leBytes 4 (signedCode 32 m.1) ++ leBytes 4 (signedCode 32 m.2.1) ++ stampBytes (stampOfMeter s m.2.2))

/-- TIMER of a record (Table 7.4) as the timer wheel holds it (R235): all zero where none is armed. -/
def timerBytes (s : State) (key : List Byte) : List Byte :=
  match s.fel.timers.find? (fun t => t.2 == key) with
  | none => zeros 10
  | some t => stampBytes (nsStamp t.1)

/-- The tun record of a copy that gets its first slot (R161). -/
def firstRecord (s : State) (f : Firkin) : List Byte := patch (recordBytes s f (zeros 512)) 210 (timerBytes s f.key)

/-- FLAGS of a copy (Table 7.7). -/
def copyFlags (s : State) (f : Firkin) (ref : Bool) : Nat :=
  1 + 2 * ofBool ref + 4 * ofBool ((f.link.bind (firkinOf s)).isSome) + 8 * ofBool (f.held || f.ackWait) +
    16 * ofBool (s.flow.dirty.any (fun d => d.1 == f.key)) + 32 * ofBool f.pinned

/-- LINK of a copy. -/
def linkSlot (s : State) (f : Firkin) : Nat := ((f.link.bind (slotOf s))).getD noSlot

/-- A firkin record (Table 7.5), 128 bytes. -/
def firkinBytes (s : State) (f : Firkin) : List Byte :=
  padTo 40 f.key ++ leBytes 4 (f.slot.getD noSlot) ++ leBytes 1 f.state ++ leBytes 1 (copyFlags s f f.ref) ++ leBytes 2 f.profile ++
    padTo 16 f.natAddr ++ beBytes 2 f.natPort ++ leBytes 2 f.choice ++ leBytes 4 (signedCode 32 f.tokC) ++
    leBytes 4 (signedCode 32 f.tokE) ++ leBytes 4 f.meterT ++ leBytes 8 f.pkts ++ leBytes 8 f.bytes ++ leBytes 4 f.lastT ++
    leBytes 4 (linkSlot s f) ++ leBytes 2 f.verdict ++ leBytes 2 f.progVer ++ leBytes 4 f.idleS ++ padTo 16 f.ct

/-- A gill record (Table 7.6): 64 bytes, or 128 as a double record. -/
def gillBytes (s : State) (f : Firkin) (g : Gill) : List Byte :=
  let k := if g.double then 40 else 24
  padTo (if g.double then 128 else 64) (padTo k (f.key.take k) ++ leBytes 4 (f.slot.getD noSlot) ++ leBytes 1 f.state ++
    leBytes 1 (copyFlags s f g.ref) ++ leBytes 2 f.profile ++ padTo (if g.double then 16 else 4) (f.natAddr.take (if g.double then 16 else 4)) ++
    beBytes 2 f.natPort ++ leBytes 2 f.choice ++ leBytes 4 (signedCode 32 g.tokC) ++ leBytes 4 (signedCode 32 g.tokE) ++
    leBytes 4 g.meterT ++ leBytes 3 g.frames ++ leBytes 5 g.bytes ++ leBytes 4 g.lastT)

/-- The copy of a tun record in slot i (R153). -/
def copyOfRecord (s : State) (i : Nat) (b : List Byte) : Firkin :=
  let link := leField b 40 4
  ⟨b.take 40, some i, leField b 44 1, bitOf (leField b 45 1) 1, leField b 46 2, slice b 64 16, beField b 80 2, leField b 84 2,
    leField b 82 2, signedOf 32 (leField b 192 4), signedOf 32 (leField b 196 4), stampNs (stampOfBytes (slice b 200 10)) % 2 ^ 32,
    leField b 128 8, leField b 136 8, stampNs (stampOfBytes (slice b 144 10)) / 1000 % 2 ^ 32,
    if link = noSlot then none else (Store.get? s.flow.tun.slots link).map (fun x => x.key),
    leField b 86 2, leField b 92 2, leField b 88 4, slice b 96 16, stampOfBytes (slice b 48 10), false, false, false, false⟩

/-- The record of a key: its firkin copy, else what tun holds of it with its queued write-through. -/
def recordOf (s : State) (key : List Byte) : Option Firkin :=
  match firkinOf s key with
  | some (_, f) => some f
  | none => (tunOf s key).map (fun e =>
    let b := padTo 512 e.2.data
    copyOfRecord s e.1 (match s.flow.wt.find? (fun w => w.key == key) with | none => b | some w => patch b 0 w.head))

/-! ### Mirror messages (R359 to R361) -/

/-- KEY_ID (R360): ha and the bucket b1 of the tun placement. -/
def keyId (s : State) (key : List Byte) : List Byte :=
  leBytes 8 (flowHash s key) ++ leBytes 4 (flowPlace s (tunBuckets s) key).b1

/-- Bytes of class-3 messages that wait (R361). -/
def class3Bytes (s : State) : Nat := ((s.pair.out.filter (fun m => m.1 == 3)).map (fun m => m.2.length)).sum

/-- The CT data of a record and of its linked one. -/
def bothCt (s : State) (f : Firkin) : List Byte :=
  let other := match f.link.bind (firkinOf s) with | none => zeros 16 | some (_, o) => padTo 16 o.ct
  padTo 16 f.ct ++ other

/-- A STATE message for a record (Table 14.7). strict: a STRICT CHOICE change. -/
def mirrorState (key : List Byte) (strict : Bool) (s : State) : State :=
  match firkinOf s key with
  | none => s
  | some (_, f) =>
    sendMirror (if strict then 2 else 3) 0x11 [] (keyId s key ++ leBytes 1 f.state ++ leBytes 2 f.verdict ++ leBytes 4 f.idleS ++
      leBytes 2 f.choice ++ bothCt s f ++ zeros 3) s

/-- A PDATA message. -/
def mirrorPdata (key pdata : List Byte) (s : State) : State :=
  sendMirror 3 0x12 [] (keyId s key ++ padTo 128 pdata ++ zeros 4) s

/-- A DELETE message. -/
def mirrorDelete (key : List Byte) (s : State) : State := sendMirror 3 0x13 [] (keyId s key ++ zeros 4) s

/-! ### Write-through (R167) -/

/-- The write-through queue has room for a record. -/
def wtRoom (s : State) (key : List Byte) : Bool :=
  s.flow.wt.any (fun w => w.key == key) || s.flow.wt.length < 16384

/-- What tun holds of a record once its queued write-through has landed. -/
def tunBytes (s : State) (key : List Byte) : List Byte :=
  let base := match tunOf s key with | none => zeros 512 | some (_, x) => padTo 512 x.data
  match s.flow.wt.find? (fun w => w.key == key) with
  | none => base
  | some w => (match w.pdata with | none => patch base 0 w.head | some p => patch (patch base 0 w.head) 384 p)

/-- A queued write-through can land: its record has a tun slot that no routine has marked (R162). -/
def landable (s : State) (w : WriteThrough) : Bool := (tunOf s w.key).isSome && !tunMarked s w.key

/-- The oldest write-through that can land reaches tun, and HELD clears (R167). -/
def landWriteThrough (s : State) : State :=
  match s.flow.wt.find? (landable s) with
  | none => s
  | some w =>
    let s := onTun w.key (fun b =>
      let b := patch (padTo 512 b) 0 w.head
      match w.pdata with | none => b | some p => patch b 384 p) s
    onFirkin w.key (fun x => { x with held := x.ackWait }) { s with flow := { s.flow with wt := s.flow.wt.filter (fun y => y.key != w.key) } }

/-- The channels that hold a bucket of the tun region (R322). -/
def bucketChans (s : State) (b : Nat) : List Nat :=
  if s.on FLW_TIER_CFG_MIRROR then [2 * (b % 4), 2 * (b % 4) + 1] else [b % 8]

/-- A request is queued for the channels of a bucket: one that rests wakes (R455). -/
def askBucket (b : Nat) (s : State) : State := (bucketChans s b).foldl (fun s k => wakeUnit (9 + k) s) s

/-- A record is written through (R167): its bytes 0 to 127, and PDATA where a task wrote it, are queued for tun with one entry per
slot, and HELD is set. The entry of an unhomed record lands once the record is placed. With a full queue the oldest entry lands first. -/
def writeThrough (key : List Byte) (pdata : Option (List Byte)) (s : State) : State :=
  match firkinOf s key with
  | none => s
  | some (_, f) =>
    let s := if wtRoom s key then s else landWriteThrough s
    let old := s.flow.wt.find? (fun w => w.key == key)
    let keep := match old with | none => none | some w => w.pdata
    let e : WriteThrough := ⟨key, recordHead s f (tunBytes s key), match pdata with | some p => some p | none => keep⟩
    let wt := if old.isSome then s.flow.wt.map (fun w => if w.key == key then e else w) else s.flow.wt ++ [e]
    let s := onFirkin key (fun x => { x with held := true }) { s with flow := { s.flow with wt := wt } }
    match slotOf s key with | none => s | some i => askBucket (i / 8) s

/-- A state change of a connection: written through for both records and mirrored (R167, R179). -/
def changedBoth (key : List Byte) (strict : Bool) (s : State) : State :=
  match firkinOf s key with
  | none => s
  | some (_, f) =>
    let s := writeThrough key none s
    let s := match f.link with | none => s | some k => writeThrough k none s
    mirrorState key strict s

/-! ### Sketches (R202, R203) -/

/-- The empty sketch area (Table 8.8); the minimums start at their largest value. -/
def noSketch : List Byte := zeros 64 ++ leBytes 4 0xFFFFFFFF ++ zeros 4 ++ leBytes 4 0xFFFFFFFF ++ zeros 52

/-- A sketch entry is taken for a record that enters gill (R202): its set of 4 ways by SLOT modulo 8192, or it is counted. -/
def takeSketch (f : Firkin) (s : State) : State :=
  match f.slot with
  | none => report (srcTask 6) (s.bump FLW_SKETCH_MISS_CNT)
  | some i =>
    if (Store.get? s.flow.sketch i).isSome then s
    else if 4 ≤ (s.flow.sketch.filter (fun e => e.1 % 8192 == i % 8192)).length then
      report (srcTask 6) (s.bump FLW_SKETCH_MISS_CNT)
    else
      let t := slice (tunBytes s f.key) 352 12
      { s with flow := { s.flow with sketch := Store.set s.flow.sketch i (patch (patch noSketch 96 t) 92 (slice (tunBytes s f.key) 348 4)) } }

/-- 16 saturating bins added. -/
def addBins (a b : List Byte) : List Byte :=
  (List.range 16).flatMap (fun i => leBytes 2 (min 65535 (leField a (2 * i) 2 + leField b (2 * i) 2)))

/-- A sketch entry merged into a telemetry area (R202): bins, sum and count add, minimum and maximum combine, the times and the
jitter are copied. An area that has taken no sample has minimum 0. -/
def mergeSketch (area e : List Byte) : List Byte :=
  let minOf := fun (o n : Nat) =>
    let a := leField area o 4
    if leField e o 4 = 0xFFFFFFFF then a else if n = 0 then leField e o 4 else min a (leField e o 4)
  let lats := leField area 88 4
  let iats := ((List.range 16).map (fun i => leField area (32 + 2 * i) 2)).sum
  addBins (slice area 0 32) (slice e 0 32) ++ addBins (slice area 32 32) (slice e 32 32) ++
    leBytes 4 (minOf 64 lats) ++ leBytes 4 (max (leField area 68 4) (leField e 68 4)) ++
    leBytes 4 (minOf 72 iats) ++ leBytes 4 (max (leField area 76 4) (leField e 76 4)) ++
    leBytes 8 (leField area 80 8 + leField e 80 8) ++ leBytes 4 (min 0xFFFFFFFF (lats + leField e 88 4)) ++
    slice e 92 4 ++ slice e 96 12 ++ slice area 108 20

/-- The sketch entry of a record is merged into tun bytes 256 to 383 and cleared (R202); gone: the entry is given up. -/
def flushSketch (f : Firkin) (gone : Bool) (s : State) : State :=
  match f.slot with
  | none => s
  | some i =>
    match Store.get? s.flow.sketch i with
    | none => s
    | some e =>
      let s := onTun f.key (fun b => patch (padTo 512 b) 256 (mergeSketch (slice b 256 128) e)) s
      let m := if gone then Store.erase s.flow.sketch i else Store.set s.flow.sketch i (patch noSketch 92 (slice e 92 16))
      { s with flow := { s.flow with sketch := m } }

/-- The bin of a time difference under bin base n (R203). -/
def sketchBin (n x : Nat) : Nat := if x < 2 ^ n then 0 else min 15 (Nat.log2 x - n + 1)

/-- One added to a saturating 16-bit bin. -/
def addBin (e : List Byte) (o b : Nat) : List Byte := patch e (o + 2 * b) (leBytes 2 (min 65535 (leField e (o + 2 * b) 2 + 1)))

/-- Minimum and maximum at offset o take a sample, saturating. -/
def addMinMax (e : List Byte) (o x : Nat) : List Byte :=
  let x := min x 0xFFFFFFFF
  patch e o (leBytes 4 (min (leField e o 4) x) ++ leBytes 4 (max (leField e (o + 4) 4) x))

/-- The update of a sketch entry by a released frame at time t, with the LAST_NS of the linked record's entry (R203). -/
def sketchFrame (n t : Nat) (other : Option Nat) (e : List Byte) : List Byte :=
  let last := leField e 96 8
  let e1 :=
    if last = 0 then e
    else
      let iat := (t + 2 ^ 64 - last) % 2 ^ 64
      let e := addMinMax (addBin e 32 (sketchBin n iat)) 72 iat
      let prev := leField e 104 4
      let jit := leField e 92 4
      let diff := (((iat : Int) - (prev : Int)).natAbs : Int) - (jit : Int)
      let e := if prev = 0 then e else patch e 92 (leBytes 4 (signedCode 32 ((jit : Int) + diff.tdiv 16)))
      patch e 104 (leBytes 4 iat)
  let e2 := match other with
    | none => e1
    | some o =>
      if o ≤ last then e1
      else
        let lat := (t + 2 ^ 64 - o) % 2 ^ 64
        let e := addMinMax (addBin e1 0 (sketchBin n lat)) 64 lat
        patch (patch e 80 (leBytes 8 (leField e 80 8 + lat))) 88 (leBytes 4 (leField e 88 4 + 1))
  patch e2 96 (leBytes 8 t)

/-! ### Replacement (R163 to R165) -/

/-- A copy that replacement never takes: HELD, PINNED, IN_PROG, or with a pending entry of its own or of its linked record (R163). -/
def copyBusy (s : State) (key : List Byte) : Bool :=
  match firkinOf s key with
  | none => false
  | some (_, f) =>
    let keys := key :: f.link.toList
    f.held || f.ackWait || f.pinned || f.slot.isNone || keys.any (tunMarked s) || s.flow.pend.any (fun e => keys.contains e.2.key) ||
      (f.link.bind (firkinOf s)).any (fun e => e.2.held || e.2.ackWait || e.2.pinned)

/-- A gill copy leaves gill (R164): DELTA and meter state join its firkin copy, its sketch is merged. -/
def leaveGill (key : List Byte) (s : State) : State :=
  match gillOf s key, firkinOf s key with
  | some (i, g), some (_, f) =>
    let s := flushSketch f true s
    let s := onFirkin key (fun x => { x with
      pkts := (x.pkts + g.frames) % 2 ^ 64, bytes := (x.bytes + g.bytes) % 2 ^ 64,
      tokC := g.tokC, tokE := g.tokE, meterT := g.meterT, lastT := g.lastT }) s
    { s with flow := { s.flow with gill := Store.erase s.flow.gill i } }
  | some (i, _), none => { s with flow := { s.flow with gill := Store.erase s.flow.gill i } }
  | none, _ => s

/-- The eviction of a gill copy, counted (R164). -/
def evictGillOne (key : List Byte) (s : State) : State :=
  if (gillOf s key).isSome then (leaveGill key s).bump FLW_EVICT_GILL_CNT else s

/-- The key of the linked record. -/
def linkOf (s : State) (key : List Byte) : Option (List Byte) := (firkinOf s key).bind (fun e => e.2.link)

/-- A record and its linked record leave gill together (R150, R164). -/
def evictGill (key : List Byte) (s : State) : State :=
  let l := linkOf s key
  let s := evictGillOne key s
  match l with | none => s | some k => evictGillOne k s

/-- A firkin copy leaves firkin: record bytes 0 to 255 go to tun (R164). -/
def evictFirkinOne (key : List Byte) (s : State) : State :=
  match firkinOf s key with
  | none => s
  | some (i, f) =>
    let s := onTun key (fun b => recordBytes s f b) s
    ({ s with flow := { s.flow with
      firkin := Store.erase s.flow.firkin i, dirty := s.flow.dirty.filter (fun d => d.1 != key) } } : State).bump FLW_EVICT_FIRKIN_CNT

/-- A record and its linked record leave firkin together, after their gill copies (R150, R164). -/
def evictFirkin (key : List Byte) (s : State) : State :=
  let l := linkOf s key
  let s := evictGill key s
  let s := evictFirkinOne key s
  match l with | none => s | some k => evictFirkinOne k s

/-- The gill copy that occupies slot i. -/
def gillAt (s : State) (i : Nat) : Option Gill :=
  match Store.get? s.flow.gill i with
  | some g => some g
  | none => if i % 2 = 1 then (Store.get? s.flow.gill (i - 1)).bind (fun g => if g.double then some g else none) else none

/-- Slot positions of a bucket for a copy of w slots. -/
def gillPositions (c w : Nat) : List Nat := (List.range (8 / w)).map (fun j => 8 * c + w * j)

/-- The copies at a position. -/
def gillCopies (s : State) (i w : Nat) : List Gill := (List.range w).filterMap (fun j => gillAt s (i + j))

/-- The clock scan of a gill bucket from its pointer (R163): the first position whose copies may go and have REF 0 is taken, and REF is
cleared on each copy passed. -/
def scanGill (w : Nat) : List Nat → State → State × Option Nat
  | [], s => (s, none)
  | i :: rest, s =>
    let l := gillCopies s i w
    if l.all (fun g => !g.ref && !copyBusy s g.key) then (s, some i)
    else scanGill w rest (l.foldl (fun s g => onGill g.key (fun x => { x with ref := false }) s) s)

/-- A list turned so that its element at position n comes first. -/
def rotate {α : Type} (n : Nat) (l : List α) : List α := l.drop (n % max 1 l.length) ++ l.take (n % max 1 l.length)

/-- A place in gill for a copy of w slots (R163): a free one in b0, then b1; else a victim of the scan, which is evicted; none
where no slot qualifies. -/
def gillPlace (key : List Byte) (w : Nat) (s : State) : State × Option Nat :=
  let p := flowPlace s gillBuckets key
  let free := fun (c : Nat) => (gillPositions c w).find? (fun i => (gillCopies s i w).isEmpty)
  match free p.b0, free p.b1 with
  | some i, _ => (s, some i)
  | none, some i => (s, some i)
  | none, none =>
    let order := fun (c : Nat) => rotate (Store.getD s.flow.gillPtr c 0 / w) (gillPositions c w)
    let take := fun (s : State) (i : Nat) =>
      let victims := gillCopies s i w
      let s := victims.foldl (fun s g => evictGill g.key s) s
      ({ s with flow := { s.flow with gillPtr := Store.put s.flow.gillPtr (i / 8) 0 ((i + w) % 8) } }, some i)
    let r0 := scanGill w (order p.b0) s
    match r0.2 with
    | some i => take r0.1 i
    | none =>
      let r1 := scanGill w (order p.b1) r0.1
      match r1.2 with
      | some i => take r1.1 i
      | none =>
        match (order p.b0).find? (fun i => !(gillCopies r1.1 i w).any (fun g => copyBusy r1.1 g.key)) with
        | some i => take r1.1 i
        | none => (r1.1, none)

/-- A record enters gill from firkin (R163): its DELTA is empty. skipped: no slot qualified. -/
def enterGillOne (key : List Byte) (s : State) : State × Bool :=
  match gillOf s key, firkinOf s key with
  | some _, _ => (s, true)
  | none, none => (s, false)
  | none, some (_, f) =>
    let double := leField key 0 1 % 16 = 2
    let r := gillPlace key (if double then 2 else 1) s
    match r.2 with
    | none => (r.1, false)
    | some i =>
      let s := { r.1 with flow := { r.1.flow with
        gill := Store.set r.1.flow.gill i ⟨key, double, 0, 0, f.tokC, f.tokE, f.meterT, f.lastT, true⟩ } }
      (s, true)

/-- A record and its linked record enter gill together or not at all (R150, R163); counted where they cannot. sketched: the
record's profile has SKETCH set. -/
def enterGill (key : List Byte) (sketched : State → Firkin → Bool) (s : State) : State :=
  let l := linkOf s key
  let r := enterGillOne key s
  let r2 := match l with | none => r | some k => if r.2 then enterGillOne k r.1 else r
  if !r2.2 || (key :: l.toList).any (fun k => (gillOf r2.1 k).isNone) then
    ((key :: l.toList).foldl (fun s k => leaveGill k s) r2.1).bump FLW_GILL_SKIP_CNT
  else
    (key :: l.toList).foldl (fun s k => match firkinOf s k with
      | none => s
      | some (_, f) => if sketched s f then takeSketch f s else s) r2.1

/-- The clock scan of a firkin bucket from its pointer (R163), as in gill. -/
def scanFirkin : List Nat → State → State × Option Nat
  | [], s => (s, none)
  | i :: rest, s =>
    match Store.get? s.flow.firkin i with
    | none => (s, some i)
    | some f =>
      if !f.ref && !copyBusy s f.key then (s, some i)
      else scanFirkin rest { s with flow := { s.flow with firkin := Store.set s.flow.firkin i { f with ref := false } } }

/-- The slots of a firkin bucket. -/
def firkinSlots (c : Nat) : List Nat := (List.range 8).map (fun j => 8 * c + j)

/-- The lowest free firkin slot of a key's buckets, b0 first. -/
def firkinFree (s : State) (key : List Byte) : Option Nat :=
  let p := flowPlace s (firkinBuckets s) key
  (firkinSlots p.b0 ++ firkinSlots p.b1).find? (fun i => (Store.get? s.flow.firkin i).isNone)

/-- A place in firkin for a copy (R163): a free slot in b0, then b1; else a victim of the scan, which is evicted; none where no slot
qualifies. -/
def firkinPlace (key : List Byte) (s : State) : State × Option Nat :=
  let p := flowPlace s (firkinBuckets s) key
  match firkinFree s key with
  | some i => (s, some i)
  | none =>
    let order := fun (c : Nat) => rotate (Store.getD s.flow.firkinPtr c 0) (firkinSlots c)
    let r0 := scanFirkin (order p.b0) s
    let r1 := match r0.2 with | some _ => r0 | none => scanFirkin (order p.b1) r0.1
    let may := fun (i : Nat) => match Store.get? r1.1.flow.firkin i with | none => false | some f => !copyBusy r1.1 f.key
    match (match r1.2 with | some i => some i | none => (order p.b0).find? may) with
    | none => (r1.1, none)
    | some i =>
      let s := match Store.get? r1.1.flow.firkin i with | none => r1.1 | some f => evictFirkin f.key r1.1
      ({ s with flow := { s.flow with firkinPtr := Store.put s.flow.firkinPtr (i / 8) 0 ((i % 8 + 1) % 8) } }, some i)

/-- A copy enters firkin. -/
def enterFirkin (f : Firkin) (s : State) : State × Bool :=
  if (firkinOf s f.key).isSome then (s, true)
  else
    let r := firkinPlace f.key s
    match r.2 with
    | none => (r.1, false)
    | some i => ({ r.1 with flow := { r.1.flow with firkin := Store.set r.1.flow.firkin i f } }, true)

/-- A firkin copy that cannot stay without its linked record is given up, its contents written down. -/
def dropFirkin (key : List Byte) (s : State) : State :=
  match firkinOf s key with
  | none => s
  | some (i, f) =>
    let s := onTun key (fun b => recordBytes s f b) s
    { s with flow := { s.flow with firkin := Store.erase s.flow.firkin i } }

/-- A tun record and its linked record are copied into firkin, both or neither (R150, R156, R163). -/
def promoteTun (key : List Byte) (s : State) : State :=
  match tunOf s key with
  | none => s
  | some (i, x) =>
    let f := copyOfRecord s i (tunBytes s x.key)
    let a := enterFirkin { f with ref := true } s
    if !a.2 then a.1
    else
      match f.link.bind (tunOf a.1) with
      | none => a.1
      | some (j, y) =>
        let b := enterFirkin { copyOfRecord a.1 j (tunBytes a.1 y.key) with ref := true } a.1
        if b.2 && (firkinOf b.1 key).isSome then b.1 else dropFirkin y.key (dropFirkin key b.1)

/-- A change of bytes 0 to 127 of a record made where it stands: in its firkin copy, else in tun. -/
def onRecord (key : List Byte) (f : Firkin → Firkin) (s : State) : State :=
  if (firkinOf s key).isSome then onFirkin key f s
  else match recordOf s key with
    | none => s
    | some r => onTun key (fun b => patch (padTo 512 b) 0 (recordHead s (f r) b)) s

/-! ### Counts, write-back, demotion (R154, R165, R168, R169) -/

/-- A record joins the dirty list where it is not on it (R168). -/
def markDirty (key : List Byte) (s : State) : State :=
  if s.flow.dirty.any (fun d => d.1 == key) then s
  else { s with flow := { s.flow with dirty := s.flow.dirty ++ [(key, s.clock)] } }

/-- CKPT entries for a delta (R363): each holds at most 262,143 frames and 2^30 − 1 bytes. -/
def ckptEntries (id : List Byte) : Nat → Nat → Nat → List (List Byte)
  | 0, _, _ => []
  | n + 1, frames, bytes =>
    if frames = 0 && bytes = 0 then []
    else
      let f := min 262143 frames
      let b := min (2 ^ 30 - 1) bytes
      (id ++ leBytes 6 (f + b * 2 ^ 18)) :: ckptEntries id n (frames - f) (bytes - b)

/-- The CKPT message that takes a further entry (Table 14.7): the last of class 3 that waits, with fewer than 26. -/
def openCkpt (s : State) : Option (List Byte) :=
  ((s.pair.out.filter (fun m => m.1 == 3)).getLast?.map (fun m => m.2)).bind
    (fun m => if leField m 0 1 == 0x14 && m.length < 8 + 18 * 26 then some m else none)

/-- A CKPT entry whose first count came at a tick joins the messages that wait (R168, R363), where messages are generated. -/
def addCkpt (since : Nat) (e : List Byte) (s : State) : State :=
  if !mirrors s then s
  else
    let t := { s with pair := { s.pair with ckptSince := s.pair.ckptSince ++ [since] } }
    match openCkpt s with
    | none => sendMirror 3 0x14 [] e t
    | some m =>
      let i := t.pair.out.length - 1 - (t.pair.out.reverse.findIdx (fun x => x.1 == 3))
      { t with pair := { t.pair with out := t.pair.out.set i (3, mirrorMessage 0x14 [] (m.drop 8 ++ e)) } }

/-- One record written back (R168): its DELTA joins the firkin totals, tun bytes 128 to 191 are written, it is no longer dirty, its
sketch is merged, and the partner gets a checkpoint. -/
def writeBack (key : List Byte) (s : State) : State :=
  match firkinOf s key with
  | none => { s with flow := { s.flow with dirty := s.flow.dirty.filter (fun d => d.1 != key) } }
  | some (_, f) =>
    let d := match gillOf s key with | none => (0, 0) | some (_, g) => (g.frames, g.bytes)
    let since := match s.flow.dirty.find? (fun e => e.1 == key) with | none => s.clock | some e => e.2
    let s := onTun key (fun b => patch (padTo 512 b) 128 (recordCounts s f (stampBytes s.now))) s
    let s := match gillOf s key with
      | none => s
      | some (_, g) =>
        onGill key (fun x => { x with frames := 0, bytes := 0 }) (onFirkin key (fun x => { x with
          pkts := (x.pkts + g.frames) % 2 ^ 64, bytes := (x.bytes + g.bytes) % 2 ^ 64,
          tokC := g.tokC, tokE := g.tokE, meterT := g.meterT, lastT := g.lastT }) s)
    let s := flushSketch f false s
    let s := { s with flow := { s.flow with dirty := s.flow.dirty.filter (fun e => e.1 != key) } }
    (ckptEntries (keyId s key) (d.1 / 262143 + d.2 / (2 ^ 30 - 1) + 2) d.1 d.2).foldl (fun s e => addCkpt since e s) s

/-- The write-back period in ns (Table 7.8); in a pair, above 900 µs it acts as 900 (R363). -/
def wbPeriod (s : State) : Nat :=
  let p := clamp 100 1000 (s.get FLW_WB_CTRL_PERIOD_US)
  (if pairState s != 0 then min p 900 else p) * 1000

/-- The record dirty for longest is written back; late where its period has passed (R168, R169). One that a routine moves is held
(R162). -/
def writeBackNext (s : State) : State :=
  match s.flow.dirty.find? (fun d => !tunMarked s d.1) with
  | none => s
  | some (key, t) =>
    let late := wbPeriod s < s.clock - t
    let s := if late then s.bump FLW_WB_LATE_CNT else s
    let s := if late && (s.flow.lateAt = 0 || nsPerSec ≤ s.clock - s.flow.lateAt) then
        report (srcFlow 4) { s with flow := { s.flow with lateAt := s.clock } }
      else s
    tierStat (writeBack key s)

/-- A frame of n bytes with ingress timestamp t counted on a record (R178, R169, R304): in the gill copy, else in the firkin copy. A DELTA
that would overflow forces a write-back first. -/
def countFlow (key : List Byte) (n : Nat) (t : Stamp) (s : State) : State :=
  match gillOf s key with
  | some (_, g) =>
    let extra := 2 ^ 24 ≤ g.frames + 1 || 2 ^ 40 ≤ g.bytes + n
    let s := if extra then (writeBack key s).bump FLW_WB_FORCED_CNT else s
    markDirty key (onGill key (fun x => { x with frames := x.frames + 1, bytes := x.bytes + n, lastT := stampNs t / 1000 % 2 ^ 32, ref := true }) s)
  | none =>
    markDirty key (onFirkin key (fun x => { x with
      pkts := (x.pkts + 1) % 2 ^ 64, bytes := (x.bytes + n) % 2 ^ 64, lastT := stampNs t / 1000 % 2 ^ 32, ref := true }) s)

/-- The later bytes of a frame already counted (R169, R200): a DELTA that would overflow forces a write-back first. -/
def countRest (key : List Byte) (n : Nat) (s : State) : State :=
  match gillOf s key, firkinOf s key with
  | some (_, g), _ =>
    let s := if 2 ^ 40 ≤ g.bytes + n then (writeBack key s).bump FLW_WB_FORCED_CNT else s
    markDirty key (onGill key (fun x => { x with bytes := x.bytes + n }) s)
  | none, some _ => markDirty key (onFirkin key (fun x => { x with bytes := (x.bytes + n) % 2 ^ 64 }) s)
  | none, none => onTun key (fun b => patch (padTo 512 b) 136 (leBytes 8 (leField b 136 8 + n))) s

/-- A copy is idle for longer than n seconds. -/
def idleFor (s : State) (t n : Nat) : Bool := n * 1000000 < ageUs s t

/-- The write-back engine demotes the record of a key (R165): an idle gill copy leaves gill, an idle firkin copy leaves firkin, each
with its linked record (R164). -/
def demote (key : List Byte) (s : State) : State :=
  if copyBusy s key then s
  else
    let s := if (gillOf s key).any (fun g => idleFor s g.2.lastT (clamp 1 600 (s.get FLW_DEMOTE_CTRL_GILL_IDLE_S))) then evictGill key s else s
    tierStat (if (gillOf s key).isNone && (firkinOf s key).any (fun e => idleFor s e.2.lastT (clamp 60 2000 (s.get FLW_DEMOTE_CTRL_FIRKIN_IDLE_S)))
      then evictFirkin key s else s)

/-! ### Homing (R161, R162) -/

/-- Slots of tun: 8 × nb. -/
def tunSlots (s : State) : Nat := 8 * tunBuckets s

/-- SLOT of a record after an insertion: the slot where its key stands. -/
def homeAll (s : State) : State :=
  { s with flow := { s.flow with firkin := s.flow.firkin.map (fun (e : Nat × Firkin) =>
    (e.1, { e.2 with slot := match slotOf s e.2.key with | some i => some i | none => e.2.slot })) } }

/-- LINK of every tun record whose linked record moved (R162): that of the records just moved. -/
def relink (s : State) : State :=
  { s with flow := { s.flow with tun := { s.flow.tun with slots := s.flow.tun.slots.map (fun (e : Nat × Slot) =>
    match firkinOf s e.2.key with
    | none => e
    | some (_, f) => match f.link.bind (slotOf s) with
      | none => e
      | some i => (e.1, { e.2 with data := patch e.2.data 40 (leBytes 4 i) })) } } }

/-- The tun records moved by an insertion, their linked records included: LINK follows the slots of before and after. -/
def relinkMoved (before after : Store Slot) : Store Slot :=
  after.map (fun e =>
    let l := leField e.2.data 40 4
    match Store.get? before l with
    | none => e
    | some x => match after.find? (fun y => y.2.key == x.key) with
      | none => e
      | some (i, _) => if i = l then e else (e.1, { e.2 with data := patch e.2.data 40 (leBytes 4 i) }))

/-- LINK of the queued write-throughs whose linked record moved (R162, R167). -/
def relinkQueue (before : Store Slot) (s : State) : State :=
  let slot := fun (w : WriteThrough) => match (firkinOf s w.key).bind (fun e => e.2.link) with
    | some k => slotOf s k
    | none => (Store.get? before (leField w.head 40 4)).bind (fun x => slotOf s x.key)
  { s with flow := { s.flow with wt := s.flow.wt.map (fun w =>
    match slot w with | none => w | some i => { w with head := patch w.head 40 (leBytes 4 i) }) } }

/-- The sketch entries of records that moved (R202): each follows its record to the new slot, or is merged into tun where the set of that
slot is full. DESIGN CHOICE (log entry 129). -/
def moveSketches (before : Store Slot) (s : State) : State :=
  let moved := s.flow.sketch.filterMap (fun e => (Store.get? before e.1).bind (fun x =>
    (slotOf s x.key).bind (fun j => if j = e.1 then none else some (x.key, e.1, j, e.2))))
  let s := { s with flow := { s.flow with sketch := s.flow.sketch.filter (fun e => !moved.any (fun m => m.2.1 == e.1)) } }
  moved.foldl (fun s m =>
    if 4 ≤ (s.flow.sketch.filter (fun e => e.1 % 8192 == m.2.2.1 % 8192)).length then
      onTun m.1 (fun b => patch (padTo 512 b) 256 (mergeSketch (slice b 256 128) m.2.2.2)) s
    else { s with flow := { s.flow with sketch := Store.set s.flow.sketch m.2.2.1 m.2.2.2 } }) s

/-- Records that a move has taken to a place under the new keys are no longer left to a FLOW_REKEY (R173). -/
def rekeyed (before : Store Slot) (s : State) : State :=
  match s.flow.rekey with
  | none => s
  | some r =>
    let stays := fun (k : List Byte) => (before.find? (fun e => e.2.key == k)).map (fun e => e.1) == slotOf s k
    { s with flow := { s.flow with rekey := some { r with left := r.left.filter stays } } }

/-- The tun table after an insertion (R162): SLOT and LINK of the moved records are rewritten in their copies, in tun and in the
write-through queue. -/
def setTun (t : CTable) (s : State) : State :=
  let before := s.flow.tun.slots
  let s := (t.slots.filter (fun e => Store.get? before e.1 != some e.2)).foldl (fun s e => tunWritten s e.1) s
  let s := { s with flow := { s.flow with tun := { t with slots := relinkMoved before t.slots } } }
  rekeyed before (moveSketches before (relinkQueue before (relink (homeAll s))))

/-- A record is placed in tun under R127; false where no slot can be made free. -/
def placeTun (f : Firkin) (s : State) : State × Bool :=
  let place := flowPlace s (tunBuckets s)
  match insertBy place s.flow.tun f.key (firstRecord s f) with
  | none => (s, false)
  | some t => (setTun t s, true)

/-- The tun insertion engine places the next record (R161): SLOT is written into its copies. A failure is counted, leaves the
record unhomed and PINNED, and posts a rehash request. -/
def tunInsertion (s : State) : State :=
  match s.flow.homing with
  | [] => s
  | key :: rest =>
    let s := { s with flow := { s.flow with homing := rest } }
    match firkinOf s key with
    | none => s
    | some (_, f) =>
      let r := placeTun f s
      if r.2 then tierStat (onFirkin key (fun x => { x with pinned := false }) r.1)
      else
        let s := onFirkin key (fun x => { x with pinned := true }) (r.1.bump FLW_CUCKOO_FAIL_CNT)
        let s := if s.on FLW_KEY_STAT_REHASH_REQ then s
          else report (srcFlow 6) (postEvent 0x0004 8 (zeros 4 ++ leBytes 4 s.flow.tun.slots.length) (s.put FLW_KEY_STAT_REHASH_REQ 1))
        tierStat s

/-! ### Memory channels of the tun region (R322, R335) -/

/-- Channel k, which is not fenced, rests or wakes: its requests wait (R455). -/
def chanAsleep (s : State) (k : Nat) : Bool := !fenced s (9 + k) && (resting s (9 + k) || waking s (9 + k))

/-- The buckets that a fetch of a key reads (R156). -/
def bucketsOf (s : State) (key : List Byte) : List Nat :=
  match slotOf s key with
  | some i => [i / 8]
  | none => let p := flowPlace s (tunBuckets s) key; [p.b0, p.b1]

/-- Reads of a bucket are held: no channel that serves it is awake, or without mirroring its channel runs a training pass (R322, R335, R455). -/
def bucketHeld (s : State) (b : Nat) : Bool :=
  (!s.on FLW_TIER_CFG_MIRROR && s.on MEM_DDR_STAT_TRAINING (b % 8)) ||
    ((bucketChans s b).any (chanAsleep s) && (bucketChans s b).all (fun k => fenced s (9 + k) || chanAsleep s k))

/-- A fetch for a key is held: a bucket it has to read is. -/
def fetchHeld (s : State) (key : List Byte) : Bool := (bucketsOf s key).any (bucketHeld s)

/-- A fetch for a key is queued for the channels it reads (R455). -/
def askFetch (key : List Byte) (s : State) : State := (bucketsOf s key).foldl (fun s b => askBucket b s) s

/-- The write-through that lands next is held: it goes to every channel of its bucket (R335, R455). -/
def landingHeld (s : State) : Bool :=
  match s.flow.wt.find? (landable s) with
  | none => false
  | some w => match slotOf s w.key with
    | some i => bucketHeld s (i / 8) || (bucketChans s (i / 8)).any (chanAsleep s)
    | none => false

/-- A write-through is queued for channel k (R456). -/
def writesQueued (s : State) (k : Nat) : Bool :=
  s.flow.wt.any (fun w => match slotOf s w.key with | none => false | some i => (bucketChans s (i / 8)).contains k)

end Sys2Proof.Machine
end

