-- ==== Sys2Proof/Machine/Link.lean ====
section
/-! DEFINITION. The link of a decided frame: to a port queue, a multicast group, or a PKT_RX queue (R16, R239, R243 to R247,
R519, R521). -/

namespace Sys2Proof.Machine

/-- The frame of a descriptor as it leaves (R77): its edited header and what follows. -/
def descOut (d : Desc) (x : Frame) : List Byte := d.header ++ x.bytes.drop d.rest

/-- The conditions of R247 for a frame to leave queue q by cut-through. -/
def mayCutThrough (s : State) (x : Frame) (q : Nat) : Bool :=
  !x.ended && ctEnabled s x.port && (queueCopies (queueOf s q)).isEmpty && !(queueOf s q).spilling && !(queueOf s q).parked &&
    portRate s (q / 8) ≤ portRate s x.port

/-- The copy of frame f for queue q. -/
def copyFor (s : State) (f : Nat) (x : Frame) (q : Nat) (out : List Byte) (reason rule : Nat) : Copy :=
  ⟨f, out, cellCount x.bytes.length, none, s.nowNs, false, x.lossless, q < 768 && mayCutThrough s x q, reason, rule⟩

/-- The PKT_RX ring of a REASON (R519). -/
def puntRing (s : State) (reason : Nat) : Nat :=
  if reason = 0x00 then s.get HST_PUNT_MAP_VERDICT
  else if reason ≤ 0x12 then s.get HST_PUNT_MAP_PARSE
  else if reason = 0x20 then s.get HST_PUNT_MAP_TTL
  else if reason = 0x21 then s.get HST_PUNT_MAP_TASK
  else if reason = 0x22 then s.get HST_PUNT_MAP_OT
  else if reason = 0x23 then s.get HST_PUNT_MAP_NAT_ICMP
  else s.get HST_PUNT_MAP_NO_ROUTE

/-- A frame linked into one queue, or refused (R243). -/
def linkOne (q : Nat) (c : Copy) (tx : Option (Nat × Nat)) (s : State) : State :=
  match linkCopy q c s with
  | some s => settleBuffer (txOutcome tx 3 s.now s)
  | none => refuseFrame BUF_ADM_REFUSE c.frame s

/-- A frame sent to the host, as received (R519). -/
def linkHost (f : Nat) (x : Frame) (reason rule : Nat) (s : State) : State :=
  let q := 768 + puntRing s reason
  linkOne q (copyFor s f x q x.bytes reason rule) x.tx s

/-- A frame longer than MAX_LEN of its egress port after its edits (R78, R521). -/
def tooLong (s : State) (p : Nat) (out : List Byte) : Bool := maxLen s p < wireLen s p out

/-! ### Multicast (R245, R246) -/

/-- Multicast group g; a group never written has no copy. -/
def groupOf (s : State) (g : Nat) : McGroup := Store.getD s.buf.mcGroups g ⟨0, false, false, false, 0, [], 0⟩

/-- A hash group with a member entry that names a port. -/
def groupNames (s : State) (h p : Nat) : Bool :=
  (List.range (2 ^ min 12 (hashGroupOf s h).size)).any (fun i =>
    memberKind (memberOf s h i) == 0 && memberTarget (memberOf s h i) == p)

/-- The member port of each hash group of a multicast group, by the header as its last pass parsed it (R82): none where its member is no
port. -/
def groupMembers (s : State) (g : McGroup) (d : Desc) : List (Option Nat) :=
  let hgs := g.hashGroups.filterMap id
  let hgs := if g.pruneIn then hgs.filter (fun h => !groupNames s h d.port) else hgs
  hgs.map (fun h =>
    let e := memberOf s h (hashIndex (hashGroupOf s h) d.port d.parse d.plain)
    if memberKind e = 0 && memberTarget e < 96 then some (memberTarget e) else none)

/-- The ports a multicast group names of itself. -/
def groupPorts (g : McGroup) (ingress : Nat) : List Nat :=
  (List.range 96).filter (fun n => bitOf g.ports n && !(g.pruneIn && n == ingress))

/-- One copy of a multicast frame (R246): refused copies count for themselves; counts answers how many are linked. -/
def linkGroupCopy (d : Desc) (out : List Byte) (t : Nat) (r : State × Nat) (p : Nat) : State × Nat :=
  match frameOf r.1 d.frame with
  | none => r
  | some x =>
    if tooLong r.1 p out then (r.1.bump QTR_EDIT_OVERSIZE_CNT d.quarter, r.2)
    else
      let q := 8 * p + t
      match linkCopy q (copyFor r.1 d.frame x q out 0 0xFFFF) r.1 with
      | some s => (s, r.2 + 1)
      | none => (r.1.bump BUF_ADM_REFUSE d.port, r.2)

/-- A multicast frame (R245, R246): one copy to each port named, to the member of each hash group and to the host. DESIGN CHOICE (log
entry 117): a frame whose group asks for no copy at all is a refusal that no counter names (R18); it counts in BUF_ADM_REFUSE_n. -/
def linkGroup (d : Desc) (x : Frame) (n : Nat) (s : State) : State :=
  let g := groupOf s n
  if 131072 ≤ mcDescriptorsUsed s then refuseFrame BUF_ADM_REFUSE d.frame s
  else
    let out := descOut d x
    let t := if g.queueValid then g.queue else d.queue.getD x.prio
    let members := groupMembers s g d
    let s := s.bumpBy (members.filter (fun m => m.isNone)).length BUF_MC_NOCOPY_CNT
    let s := onFrame d.frame (fun y => { y with multicast := true }) s
    let r := (groupPorts g d.port ++ members.filterMap id).foldl (linkGroupCopy d out t) (s, 0)
    let r := if !g.host then r
      else
        let q := 768 + g.ring % 16
        match linkCopy q (copyFor r.1 d.frame x q x.bytes 0x24 d.act.rule) r.1 with
        | some s => (s, r.2 + 1)
        | none => (r.1.bump BUF_ADM_REFUSE d.port, r.2)
    if r.2 = 0 then
      let none_ := members.isEmpty && (groupPorts g d.port).isEmpty && !g.host
      freeFrame d.frame (txOutcome x.tx 4 s.now (if none_ then r.1.bump BUF_ADM_REFUSE d.port else r.1))
    else settleBuffer (txOutcome x.tx 3 s.now r.1)

/-- A decided frame is linked (R16): to its port queue, group or PKT_RX ring. A frame whose end was found bad before its link is
refused in BUF_FCS_REFUSE_n (R23). -/
def linkDesc (d : Desc) (s : State) : State :=
  match frameOf s d.frame with
  | none => s
  | some x =>
    if x.bad then refuseFrame BUF_FCS_REFUSE d.frame s
    else
      match d.dest with
      | .host r => linkHost d.frame x r d.act.rule s
      | .group g => linkGroup d x g s
      | .port p =>
        if 96 ≤ p then refuseAt QTR_NO_ROUTE_CNT d.quarter 0 d.frame s
        else
          let out := descOut d x
          if tooLong s p out then refuseAt QTR_EDIT_OVERSIZE_CNT d.quarter 0 d.frame s
          else
            let q := 8 * p + d.queue.getD x.prio % 8
            linkOne q (copyFor s d.frame x q out 0 d.act.rule) x.tx s

end Sys2Proof.Machine
end

