-- ==== Sys2Proof/Machine/Tasks.lean ====
section
/-! DEFINITION. Felric tasks: their raise, their ready lists and spill sub-rings, cancellation, ends and the timer wheel (R211 to
R220, R235). -/

namespace Sys2Proof.Machine

/-! ### Flow profiles as tasks and frames see them (R175, R176) -/

/-- A policy copy. -/
def policyOf (s : State) (copy : Bool) : PolicyCopy := if copy then s.flow.policy1 else s.flow.policy0

/-- The copy bit in force. -/
def activeCopy (s : State) : Bool := s.on FLW_PROF_STAT_COPY

/-- The state with a policy copy changed. -/
def onPolicy (copy : Bool) (f : PolicyCopy → PolicyCopy) (s : State) : State :=
  if copy then { s with flow := { s.flow with policy1 := f s.flow.policy1 } }
  else { s with flow := { s.flow with policy0 := f s.flow.policy0 } }

/-- Profile n of a copy as a 256-bit number; a profile never written is not valid. -/
def profileOf (s : State) (copy : Bool) (n : Nat) : Nat := Store.getD (policyOf s copy).profiles n 0

/-- Profile n of the active copy. -/
def activeProfile (s : State) (n : Nat) : Nat := profileOf s (activeCopy s) n

/-- The event bit of a profile: 0 state transition, 1 timer, 2 idle, 3 verdict. -/
def raisesEvent (p i : Nat) : Bool := bitOf p (54 + i)

/-- PROG of a profile. -/
def profProg (p : Nat) : Nat := bitsOf p 53 46

/-! ### Queues of tasks -/

/-- FLOW_TAG of a connection (R211): bits [47:16] of ha of its LEAD record's key. -/
def flowTag (s : State) (lead : List Byte) : Nat := bitsOf (flowHash s lead) 47 16

/-- The cluster that serves a tag (R211). -/
def clusterOf (s : State) (tag : Nat) : Nat :=
  let i := tag % 64
  if i < 32 then bitsOf (s.num FLW_CLUSTER_MAP_0) (2 * i + 1) (2 * i)
  else bitsOf (s.num FLW_CLUSTER_MAP_1) (2 * i - 63) (2 * i - 64)

/-- The level of a kind (FLW_TASK_PRIO). -/
def taskLevel (s : State) (kind : Nat) : Nat := bitsOf (s.num FLW_TASK_PRIO) (3 * kind - 1) (3 * kind - 3)

/-- The on-die list of a cluster and level. -/
def readyList (s : State) (c l : Nat) : List Task := Store.getD s.fel.ready (8 * c + l) []
/-- The spill sub-ring of a cluster and level. -/
def spillList (s : State) (c l : Nat) : List Task := Store.getD s.fel.spill (8 * c + l) []

/-- The tasks of a cluster that are queued, on die and spilled. -/
def queuedTasks (s : State) (c : Nat) : List Task :=
  (List.range 8).flatMap (fun l => readyList s c l ++ spillList s c l)

/-- The tasks of a cluster that are running. -/
def runningTasks (s : State) (c : Nat) : List Task :=
  (s.fel.running.filter (fun e => e.1 / 16 == c)).map (fun e => e.2.task)

/-- Every task queued, spilled or running. -/
def allTasks (s : State) : List Task := (List.range 4).flatMap (fun c => queuedTasks s c ++ runningTasks s c)

/-- OLD_REFS of PROFILE_COMMIT: the tasks that carry the copy bit no longer in force (R175). -/
def profileRefs (s : State) : State :=
  s.put FLW_PROF_STAT_OLD_REFS ((allTasks s).filter (fun t => t.pcopy != activeCopy s)).length

/-- The lists of a cluster and level replaced, with FLW_RDY_c_l. -/
def setLists (c l : Nat) (ready spill : List Task) (s : State) : State :=
  let s := { s with fel := { s.fel with
    ready := Store.put s.fel.ready (8 * c + l) [] ready, spill := Store.put s.fel.spill (8 * c + l) [] spill } }
  profileRefs ((s.put FLW_RDY_ON_DIE ready.length c l).put FLW_RDY_SPILLED spill.length c l)

/-- Descriptors that a spill sub-ring holds (R217). -/
def spillRoom (s : State) : Nat := s.get FLW_SPILL_CFG_CAPACITY / 32

/-- A task joins the list of its cluster and level (R217), and wakes the cluster (R212); none where its sub-ring is full. -/
def queueTask (t : Task) (s : State) : Option State :=
  let c := t.cluster
  let l := t.prio
  let r := readyList s c l
  let p := spillList s c l
  let s := wakeUnit (5 + c) s
  if r.length < 4096 && p.isEmpty then some (setLists c l (r ++ [t]) p s)
  else if p.length < spillRoom s then some (setLists c l r (p ++ [{ t with spilled := true }]) s)
  else none

/-- A task descriptor (Table 9.3) for an event of kind k. -/
def newTask (s : State) (k prog edata : Nat) (lead key : List Byte) (holds : Bool) (pend : Nat) : Task :=
  let tag := flowTag s lead
  let c := clusterOf s tag
  ⟨k, taskLevel s k, activeCopy s, prog, c, holds, false, s.fel.nextTask % 2 ^ 24, s.fel.nextTask, slotOf s lead, pend, tag, s.nowNs % 2 ^ 32, edata, lead,
    key, s.pair.received⟩

/-- The next task in the order of raise, and so the next TASK_ID (R215, R216). -/
def takeTaskId (s : State) : State := { s with fel := { s.fel with nextTask := s.fel.nextTask + 1 } }

/-- A full sub-ring is reported for the cluster (R218). -/
def spillFullFault (c : Nat) (s : State) : State := report (srcCluster c 5) s

/-- A task of a kind that may be dropped is raised (R213, R218): queued, or discarded and counted. -/
def raiseTask (k prog edata : Nat) (lead key : List Byte) (s : State) : State :=
  let t := newTask s k prog edata lead key false 0
  match queueTask t (takeTaskId s) with
  | some s => countEvent 8 0x07 k 1 s
  | none => report (srcTask 1) (spillFullFault t.cluster ((takeTaskId s).bump FLW_TASK_DROP_CNT))

/-- An IDLE task for the deletion that holds pending entry i (R171, R215, R218): none where it cannot be queued, and then the deletion is
abandoned. -/
def raiseIdle (prog edata : Nat) (lead key : List Byte) (i : Nat) (s : State) : Option State :=
  (queueTask (newTask s 4 prog edata lead key true i) (takeTaskId s)).map (countEvent 8 0x07 4 1)

/-- The key of the LEAD record of a record's connection (R211), wherever the record stands. -/
def leadOf (s : State) (key : List Byte) : List Byte :=
  match recordOf s key with
  | none => key
  | some f => if f.lead then key else f.link.getD key

/-! ### Ends of tasks (R219, R220) -/

/-- A task-end event (Table 16.9). -/
def taskEndEvent (core status fault : Nat) (t : Task) (s : State) : State :=
  postEvent 0x0020 core (leBytes 3 t.ident ++ leBytes 1 status ++ leBytes 1 fault ++ leBytes 1 t.kind ++ leBytes 1 t.prog) s

/-- A task ends with a status (R220): the event is posted for POSTED tasks, for every fault, and where NOTIFY_END asks for it. -/
def taskEnd (core status fault : Nat) (t : Task) (s : State) : State :=
  if t.kind = 7 || status = 2 || s.on FLW_TASK_CTRL_NOTIFY_END then taskEndEvent core status fault t s else s

/-- Queued tasks that a test accepts are cancelled (R219): they leave their lists, are counted, and end with status 1. -/
def cancelTasks (p : Task → Bool) (s : State) : State :=
  (List.range 4).foldl (fun s c => (List.range 8).foldl (fun s l =>
    let r := readyList s c l
    let q := spillList s c l
    let gone := (r ++ q).filter p
    if gone.isEmpty then s
    else
      let s := setLists c l (r.filter (fun t => !p t)) (q.filter (fun t => !p t)) s
      gone.foldl (fun s t => taskEnd (16 * c) 1 0 t (s.bump FLW_TASK_CANCEL_CNT)) s) s) s

/-! ### Timers (R235) -/

/-- FLW_TIMER_STAT follows the wheel. -/
def timerStat (s : State) : State := s.put FLW_TIMER_STAT_ARMED s.fel.timers.length

/-- The timer of a record is disarmed. -/
def disarmTimer (key : List Byte) (s : State) : State :=
  timerStat { s with fel := { s.fel with timers := s.fel.timers.filter (fun t => t.2 != key) } }

/-- The TIMER field of a record in tun (Table 7.4). -/
def setTimerField (key : List Byte) (deadline : Nat) (s : State) : State :=
  onTun key (fun b => patch (padTo 512 b) 210 (if deadline = 0 then zeros 10 else stampBytes (nsStamp deadline))) s

/-- The timer action of a commit (R227, R235): 0 disarms, else TIMER is the commit time and n ns; with a full wheel it has no effect
and TIMER reads zero. -/
def armTimer (key : List Byte) (n : Nat) (s : State) : State :=
  let s := disarmTimer key s
  if n = 0 then setTimerField key 0 s
  else if 4194304 ≤ s.fel.timers.length then
    report (srcTask 3) ((setTimerField key 0 s).bump FLW_TIMER_FULL_CNT)
  else
    let d := s.nowNs + n
    timerStat (setTimerField key d { s with fel := { s.fel with timers := s.fel.timers ++ [(d, key)] } })

/-- The wheel reaches the oldest due deadline of slot i (R235): no earlier than the deadline, a TIMER task is raised for the record
where its profile asks for one, and the timer is spent. -/
def timerFire (i : Nat) (s : State) : State :=
  match s.fel.timers[i]? with
  | none => s
  | some (d, key) =>
    if s.nowNs < d then s
    else
      let s := timerStat { s with fel := { s.fel with timers := s.fel.timers.eraseIdx i } }
      let n := match firkinOf s key with
        | some (_, f) => f.profile
        | none => match tunOf s key with | none => 0 | some (_, x) => leField x.data 46 2
      let p := activeProfile s n
      if raisesEvent p 1 then raiseTask 3 (profProg p) d key key s else s

end Sys2Proof.Machine
end

