-- ==== Sys2Proof/Machine/Actions.lean ====
section
/-! DEFINITION. The work of the flow update unit on one frame: connection tracking, OT map, meter, load balancing, address
translation, counts and sketch (R177, R178, R181 to R203, R207, R214). -/

namespace Sys2Proof.Machine

/-! ### Profile fields (Table 8.1) -/

/-- A flow profile, as the fields of its 256 bits. -/
abbrev Profile := Nat
/-- VALID. -/
def Profile.valid (p : Profile) : Bool := bitOf p 0
/-- CT_EN. -/
def Profile.ct (p : Profile) : Bool := bitOf p 1
/-- LOOSE. -/
def Profile.loose (p : Profile) : Bool := bitOf p 2
/-- HS_CHECK. -/
def Profile.hsCheck (p : Profile) : Bool := bitOf p 3
/-- NAT_KIND. -/
def Profile.natKind (p : Profile) : Nat := bitsOf p 5 4
/-- STRICT. -/
def Profile.strict (p : Profile) : Bool := bitOf p 6
/-- FULL_ACT. -/
def Profile.fullAct (p : Profile) : Bool := bitOf p 7
/-- STICKY. -/
def Profile.sticky (p : Profile) : Bool := bitOf p 8
/-- LB_DOWN_ACT. -/
def Profile.lbDownAct (p : Profile) : Bool := bitOf p 9
/-- LB_EN. -/
def Profile.lb (p : Profile) : Bool := bitOf p 10
/-- METER_EN. -/
def Profile.meter (p : Profile) : Bool := bitOf p 11
/-- SKETCH. -/
def Profile.sketch (p : Profile) : Bool := bitOf p 12
/-- EXPORT_EN. -/
def Profile.exports (p : Profile) : Bool := bitOf p 13
/-- OT_EN. -/
def Profile.ot (p : Profile) : Bool := bitOf p 14
/-- PRESERVE. -/
def Profile.preserve (p : Profile) : Bool := bitOf p 15
/-- NAT_POOL. -/
def Profile.natPool (p : Profile) : Nat := bitsOf p 25 16
/-- LB_SERVICE. -/
def Profile.lbService (p : Profile) : Nat := bitsOf p 35 26
/-- TMO_SET. -/
def Profile.tmoSet (p : Profile) : Nat := bitsOf p 39 36
/-- OT_MAP. -/
def Profile.otMap (p : Profile) : Nat := bitsOf p 45 40

/-! ### Connection tracking (R181 to R187) -/

/-- The timeout slot of a state (Table 8.2). -/
def timeoutSlot (st : Nat) : Nat :=
  if st ≤ 7 then st else if st = 0x10 then 8 else if st = 0x11 then 9 else if st = 0x18 then 10 else if st = 0x19 then 11
  else if st = 0x20 then 12 else if st = 0x21 then 13 else if 0x30 ≤ st then 14 else 15

/-- Whether a state code is listed in Table 8.2. -/
def stateListed (st : Nat) : Bool :=
  st ≤ 7 || [0x10, 0x11, 0x18, 0x19, 0x20, 0x21].contains st || (0x30 ≤ st && st ≤ 0x3F)

/-- IDLE_S of a state under a profile (R187). -/
def idleOf (s : State) (p : Profile) (st : Nat) : Nat := bitsOf (s.num FLW_CT_TMO p.tmoSet (timeoutSlot st)) 31 0

/-- The state code of a STATE byte. -/
def stateCode (b : Nat) : Nat := b % 64

/-- CTF bit i of CT data (Table 8.3): 0 ISN_VALID, 1 FIN_SEEN, 2 FIN_ACKED, 3 RST_SEEN. -/
def ctFlag (c : List Byte) (i : Nat) : Bool := bitOf (leField c 8 1) i

/-- CT data with a CTF bit set. -/
def ctSet (c : List Byte) (i : Nat) : List Byte := patch (padTo 16 c) 8 (leBytes 1 (withBit (leField c 8 1) i true))

/-- TCP options from offset i of a layer-4 header: MSS and window scale of a SYN. -/
def tcpOptions (h : List Byte) : Nat → Nat → Nat × Nat → Nat × Nat
  | 0, _, r => r
  | n + 1, i, r =>
    let k := leField h i 1
    let l := leField h (i + 1) 1
    if h.length ≤ i || k = 0 then r
    else if k = 1 then tcpOptions h n (i + 1) r
    else if l < 2 then r
    else
      let r := if k = 2 && l = 4 then (beField h (i + 2) 2, r.2) else if k = 3 && l = 3 then (r.1, leField h (i + 2) 1) else r
      tcpOptions h n (i + l) r

/-- The CT data that a SYN gives its direction (Table 8.3). -/
def synCt (h : List Byte) : List Byte :=
  let o := tcpOptions h 40 20 (0, 0xFF)
  leBytes 4 (beField h 4 4) ++ zeros 4 ++ leBytes 1 1 ++ leBytes 1 o.2 ++ leBytes 2 o.1 ++ zeros 4

/-- What a tracking step gives: the next state, CT data of the frame's direction and of the other, and whether the connection was
reopened (Table 8.4). -/
structure CtStep where
  state : Nat
  mine : List Byte
  other : List Byte
  reopened : Bool
deriving DecidableEq, Repr

/-- A frame with FIN recorded for its sender: FIN_SEEN, and the sequence number after its FIN. -/
def finSeen (h : List Byte) (len : Nat) (c : List Byte) : List Byte :=
  patch (ctSet c 1) 4 (leBytes 4 (beField h 4 4 + len + 1))

/-- FIN_ACKED of the other side where the acknowledgement reaches its FIN_SEQ. -/
def finAcked (ack : Nat) (on : Bool) (c : List Byte) : List Byte :=
  if on && ctFlag c 1 && 0 ≤ signedOf 32 (ack + 2 ^ 32 - leField c 4 4) then ctSet c 2 else c

/-- The step of a TCP frame (Table 8.4, R183, R185): none where it is invalid. orig: the frame's direction is the original one; hs:
HS_CHECK; st: the state; h: the layer-4 header; len: payload bytes; mine, other: CT data. -/
def tcpStep (orig hs : Bool) (st : Nat) (h : List Byte) (len : Nat) (mine other : List Byte) : Option CtStep :=
  let fl := leField h 13 1
  let fin := bitOf fl 0
  let syn := bitOf fl 1
  let rst := bitOf fl 2
  let ackf := bitOf fl 4
  let seq := beField h 4 4
  let ack := beField h 8 4
  let origCt := if orig then mine else other
  let replyCt := if orig then other else mine
  let after := fun (c : List Byte) (n : Nat) => n == (leField c 0 4 + 1) % 2 ^ 32
  let go := fun (n : Nat) (m o : List Byte) => some (⟨n, m, o, false⟩ : CtStep)
  if rst then
    if st = 7 || (hs && st = 1 && !(ackf && after origCt ack)) || (hs && st = 2 && !after origCt seq) then none
    else go 7 (ctSet mine 3) other
  else if (st = 6 || st = 7) && orig && syn && !ackf then some ⟨1, synCt h, zeros 16, true⟩
  else if st = 1 then
    if !syn || (hs && ackf && !after origCt ack) then none
    else go (if orig then 1 else 2) (synCt h) other
  else if st = 2 then
    if !orig && syn && ackf then (if hs && !after origCt ack then none else go 2 (synCt h) other)
    else if orig && ackf && !syn then (if hs && !after replyCt ack then none else go 3 mine other)
    else none
  else if st = 3 then
    if fin then go 4 (finSeen h len mine) other
    else if syn then none else go 3 mine other
  else if st = 4 then
    if fin && !ctFlag mine 1 then go 5 (finSeen h len mine) (finAcked ack ackf other)
    else if ackf || 0 < len then go 4 mine (finAcked ack ackf other)
    else none
  else if st = 5 then
    if !ackf then none
    else
      let o := finAcked ack true other
      go (if ctFlag mine 2 && ctFlag o 2 then 6 else 5) mine o
  else if st = 6 then (if ackf || fin then go 6 mine other else none)
  else none

/-- A frame's step reads or writes CT data (R185): handshake frames, FIN and RST, and ACKs in TCP_SYN_RECV, TCP_FIN_WAIT and
TCP_CLOSING. -/
def needsCt (st : Nat) (h : List Byte) : Bool :=
  let fl := leField h 13 1
  fl % 8 != 0 || (bitOf fl 4 && (st == 2 || st == 4 || st == 5))

/-- A key of a TCP connection that is no fragment. -/
def tcpKey (key : List Byte) : Bool := (leField key 0 1 == 1 || leField key 0 1 == 2) && leField key 1 1 == 6

/-! ### The record of a frame -/

/-- The meter of a record as its uppermost copy holds it, with LAST_T. -/
def meterOf (s : State) (key : List Byte) : Int × Int × Nat × Nat :=
  match gillOf s key, firkinOf s key with
  | some (_, g), _ => (g.tokC, g.tokE, g.meterT, g.lastT)
  | none, some (_, f) => (f.tokC, f.tokE, f.meterT, f.lastT)
  | none, none => (0, 0, 0, 0)

/-- The meter of a record's uppermost copy set. -/
def setMeter (key : List Byte) (c e : Int) (t : Nat) (s : State) : State :=
  match gillOf s key with
  | some _ => onGill key (fun g => { g with tokC := c, tokE := e, meterT := t }) s
  | none => onFirkin key (fun f => { f with tokC := c, tokE := e, meterT := t }) s

/-- A meter after its refill, and the colour of a frame of l bytes with ingress timestamp t in ns (R166, R200, R304): 0 green, 1 yellow,
2 red. -/
def meterStep (s : State) (p : Profile) (key : List Byte) (t l : Nat) : Int × Int × Nat :=
  let m := meterOf s key
  let dt := max 0 (signedOf 32 (t % 2 ^ 32 + 2 ^ 32 - m.2.2.1))
  let full := 2000000 < signedOf 32 (t / 1000 % 2 ^ 32 + 2 ^ 32 - m.2.2.2)
  let cbs : Int := bitsOf p 183 160
  let ebs : Int := bitsOf p 207 184
  let c := if full then cbs else min cbs (m.1 + (dt * (bitsOf p 127 96 : Int)) / 8000000)
  let e := if full then ebs else min ebs (m.2.1 + (dt * (bitsOf p 159 128 : Int)) / 8000000)
  if (l : Int) ≤ c then (c - l, e, 0) else if (l : Int) ≤ e then (c, e - l, 1) else (c, e, 2)

/-! ### Load balancing (R196 to R199) -/

/-- Member n; a member never written is invalid. -/
def lbMember (s : State) (n : Nat) : Nat := Store.getD s.flow.members n (3 * 2 ^ 11)

/-- MSTATE of a member entry. -/
def memberState (m : Nat) : Nat := bitsOf m 12 11

/-- Service n of a copy. -/
def lbServiceOf (c : PolicyCopy) (n : Nat) : LbService := Store.getD c.services n ⟨0, 0⟩

/-- The member that the indirection table of a service gives a key under a policy copy (R197). -/
def lbLookup (s : State) (copy : Bool) (n : Nat) (key : List Byte) : Option Nat :=
  let c := policyOf s copy
  let sv := lbServiceOf c n
  let h := crc32c (key.take (keyLen key)) sv.seed
  let size := 2 ^ min 12 sv.size
  let i := Nat.xor (bitsOf h 31 20) (bitsOf h 11 0) % size
  ((List.range 9).map (fun j => Store.getD c.indir (key2 n ((i + j) % size)) 0xFFFF)).find?
    (fun x => x != 0xFFFF && memberState (lbMember s x) == 0)

/-- The outcome of the member's choice: none to take, a refusal with the counter to raise, or a member with whether it is newly held
and whether it was chosen again. -/
inductive LbChoice where
  | off
  | refused (noMember again : Bool)
  | member (n : Nat) (again : Bool)
deriving DecidableEq, Repr

/-- The member of a frame of a record (R197, R199). -/
def lbChoose (s : State) (p : Profile) (f : Firkin) : LbChoice :=
  let look := fun (again : Bool) => match lbLookup s (activeCopy s) p.lbService f.key with
    | some x => .member x again
    | none => .refused true again
  if !f.lead then .off
  else if f.choice != 0xFFFF then
    if memberState (lbMember s f.choice) ≤ 1 then .member f.choice false
    else if p.lbDownAct then .refused false false
    else look true
  else if p.lb then look false
  else .off

/-- Router address i: none where it is not valid. -/
def routerMac (s : State) (i : Nat) : Option Nat := Store.get? s.cls.macs i

/-- The choice of a member is held in CHOICE (R176, R197, R199): the flow was created under STICKY, or holds one already. -/
def holdsChoice (s : State) (f : Firkin) : Bool := s.flow.sticky.contains f.key || f.choice != 0xFFFF

/-- The outermost layer-3 header of a frame as it leaves the quarter: its offset and whether it is IPv6; none for a frame forwarded as
layer 2 only. -/
def outerIp (d : Desc) : Option (Nat × Bool) :=
  if d.ipTail = 0 || d.header.length < d.ipTail then none
  else some (d.header.length - d.ipTail, leField d.header (d.header.length - d.ipTail) 1 / 16 == 6)

/-- The member's DEC_TTL meets a TTL or hop limit of 0 or 1 (R80). -/
def memberExpires (m : Nat) (d : Desc) : Bool :=
  match d.dest, outerIp d with
  | .host _, _ => false
  | _, none => false
  | _, some (o, six) => bitOf m 13 && !d.ttlDone && decide (ttlOf o six d.header ≤ 1)

/-- The rewrites of a member replace the destination that the quarter chose (R197); answered with the edits skipped (R81, R135). -/
def lbApply (s : State) (m : Nat) (d : Desc) : Desc × Nat :=
  match d.dest with
  | .host _ => (d, 0)
  | _ =>
    let dec := bitOf m 13 && !d.ttlDone
    let h := match outerIp d with | some (o, six) => (if dec then decTtl o six d.header else d.header) | none => d.header
    let h := patch h 0 (beBytes 6 (bitsOf m 63 16))
    let sa := if bitOf m 14 then routerMac s (bitsOf m 71 64) else none
    let h := match sa with | some a => patch h 6 (beBytes 6 a) | none => h
    let q := if bitOf m 10 then some (bitsOf m 9 7) else d.queue
    ({ d with header := h, dest := .port (bitsOf m 6 0), queue := q, ttlDone := d.ttlDone || dec },
      ofBool (bitOf m 14 && sa.isNone) + ofBool (dec && (outerIp d).isNone))

/-! ### Address translation (R188, R192) -/

/-- Source address of a key block of KKIND 1 or 2. -/
def keySrc (k : List Byte) : List Byte := if leField k 0 1 % 16 = 2 then slice k 8 16 else slice k 8 4
/-- Destination address of a key block. -/
def keyDst (k : List Byte) : List Byte := if leField k 0 1 % 16 = 2 then slice k 24 16 else slice k 12 4
/-- Source port field of a key block. -/
def keySrcPort (k : List Byte) : Nat := beField k 4 2
/-- Destination port field of a key block. -/
def keyDstPort (k : List Byte) : Nat := beField k 6 2

/-- Bytes at o replaced by new ones of the same even length, with the checksums at given offsets updated (R79). -/
def rewriteAt (o : Nat) (new : List Byte) (sums : List Nat) (h : List Byte) : List Byte :=
  patch (sums.foldl (fun h c => checksumPatch h c (slice h o new.length) new) h) o new

/-- The layer-4 checksum that covers addresses and ports, as the frame arrives: its offset. A UDP checksum of zero over IPv4 is none, and
stays zero through every rewrite (R79). -/
def l4Sum (proto l4 : Nat) (six : Bool) (h : List Byte) : List Nat :=
  if proto = 6 then [l4 + 16]
  else if proto = 17 then (if !six && beField h (l4 + 6) 2 = 0 then [] else [l4 + 6])
  else if proto = 58 then [l4 + 2] else []

/-- The header of a frame of a translated record rewritten so that it runs against the linked key: source and destination become
that key's destination and source (Table 8.5), with checksums under R79. -/
def translate (key link : List Byte) (d : Desc) : List Byte :=
  let h := d.header
  if d.l3Tail = 0 || h.length < d.l3Tail then h
  else
    let o := h.length - d.l3Tail
    let six := leField key 0 1 % 16 = 2
    let frag := bitOf (leField key 0 1) 4
    let proto := leField key 1 1
    let l4 := h.length - d.l4Tail
    let has4 := d.l4Tail != 0 && d.l4Tail ≤ h.length
    let sums := if has4 then l4Sum proto l4 six h else []
    let sums3 := if six then sums else (o + 10) :: sums
    let h := rewriteAt (o + if six then 8 else 12) (keyDst link) sums3 h
    let h := rewriteAt (o + if six then 24 else 16) (keySrc link) sums3 h
    if !has4 || frag then h
    else if proto = 6 || proto = 17 || proto = 132 then
      let h := rewriteAt l4 (beBytes 2 (keyDstPort link)) sums h
      rewriteAt (l4 + 2) (beBytes 2 (keySrcPort link)) sums h
    else if (proto = 1 || proto = 58) && keySrcPort key != keySrcPort link then
      rewriteAt (l4 + 4) (beBytes 2 (keySrcPort link)) [l4 + 2] h
    else h

/-- A frame's header after translation: only a record with a binding and a linked record translates. -/
def natHeader (f : Firkin) (d : Desc) : List Byte :=
  match d.dest, f.link with
  | .host _, _ => d.header
  | _, some k => if bitOf f.state 7 then translate f.key k d else d.header
  | _, none => d.header

/-- An ICMP or ICMPv6 error message (R193). -/
def icmpError (d : Desc) : Bool :=
  let kk := leField d.key 0 1 % 16
  let t := leField d.l4 0 1
  let proto := leField d.key 1 1
  kk != 3 && !d.l4.isEmpty && !d.parse.l2only &&
    ((proto == 1 && [3, 4, 5, 11, 12].contains t) || (proto == 58 && 1 ≤ t && t ≤ 4))

/-! ### OT filtering (R207) -/

/-- OT map m of a copy: 16 rules and the defaults word, which starts with ON_ERR 1. -/
def otMapOf (c : PolicyCopy) (m : Nat) : List Nat := Store.getD c.otMaps m (List.replicate 16 0 ++ [8])

/-- The action of a verdict (Table 8.10). -/
def otAction (m : List Nat) (v : Nat) : Nat :=
  let dw := m.getD 16 8
  if v = 0 then bitsOf dw 2 0
  else if v = 0xFFFE then bitsOf dw 5 3
  else if v = 0xFFFF then bitsOf dw 8 6
  else match (m.take 16).find? (fun r => bitOf r 35 && bitsOf r 15 0 ≤ v && v ≤ bitsOf r 31 16) with
    | some r => bitsOf r 34 32
    | none => bitsOf dw 2 0

/-! ### One frame (R178) -/

/-- A frame refused by the flow update unit, counted for the quarter that released it (R157, R201). -/
def flowRefuse (r : Reg) (d : Desc) (s : State) : State := refuseAt r d.quarter 0 d.frame s

/-- What the work on a frame comes to: it is done with (released, refused or sent to the host), or it waits in its flow's pending
entry. -/
inductive FlowStep where
  | done (s : State)
  | wait (w : Wait) (s : State)

/-- The record bytes that a frame counts: those received so far, with the FCS once its end is known. -/
def frameLen (x : Frame) : Nat := x.bytes.length + (if x.ended then 4 else 0)

/-- A state transition of a connection (R179, R186, R187): STATE and IDLE_S of both records, written through and mirrored, and the
event where the profile asks for it. Without a change of state only CT data is kept. -/
def applyCt (key : List Byte) (p : Profile) (x : CtStep) (s : State) : State :=
  match firkinOf s key with
  | none => s
  | some (_, f) =>
    let s := onFirkin key (fun y => { y with ct := x.mine }) s
    let s := match f.link with | none => s | some k => onFirkin k (fun y => { y with ct := x.other }) s
    let s := if x.reopened then s.bump FLW_CT_REOPEN_CNT else s
    let old := stateCode f.state
    if x.state = old then s
    else
      let idle := idleOf s p x.state
      let s := onBoth key (fun y => { y with state := y.state - stateCode y.state + x.state, idleS := idle }) s
      let s := changedBoth key false s
      if raisesEvent p 0 then raiseTask 2 (profProg p) (old + 256 * x.state) (leadOf s key) key s else s

/-- Deny and close (Table 8.10, action 2): TCP records go to TCP_CLOSED, others keep their state, both take IDLE_S of slot 7 and the
verdict. -/
def otClose (key : List Byte) (p : Profile) (v : Nat) (s : State) : State :=
  match firkinOf s key with
  | none => s
  | some (_, f) =>
    let old := stateCode f.state
    let st := if tcpKey key then 7 else old
    let idle := idleOf s p 7
    let s := onBoth key (fun y => { y with state := y.state - stateCode y.state + st, idleS := idle, verdict := v }) s
    let s := changedBoth key false (s.bump FLW_OT_CLOSE_CNT)
    if st != old && raisesEvent p 0 then raiseTask 2 (profProg p) (old + 256 * st) (leadOf s key) key s else s

/-- VERDICT of both records written (Table 8.10, actions 4 and 5) and the verdict event raised where EVENTS asks for it. -/
def otEvent (key : List Byte) (p : Profile) (v act : Nat) (s : State) : State :=
  let s := changedBoth key false (onBoth key (fun y => { y with verdict := v }) s)
  if raisesEvent p 3 then raiseTask 5 (profProg p) (v + act * 2 ^ 16) (leadOf s key) key s else s

/-- The linked sketch entry's LAST_NS (R203). -/
def linkedLast (s : State) (f : Firkin) : Option Nat :=
  (f.link.bind (slotOf s)).bind (fun i => (Store.get? s.flow.sketch i).map (fun e => leField e 96 8))

/-- The sketch step of a released frame with ingress timestamp t (R203, R304). -/
def sketchStep (p : Profile) (f : Firkin) (t : Stamp) (s : State) : State :=
  match f.slot with
  | none => s
  | some i =>
    match Store.get? s.flow.sketch i with
    | none => s
    | some e =>
      if !p.sketch then s
      else
        let e := sketchFrame (bitsOf p 75 71) (stampNs t % 2 ^ 64) (linkedLast s f) e
        { s with flow := { s.flow with sketch := Store.set s.flow.sketch i e } }

/-- A frame of a record released (steps 4 to 6 of R178): translated, or to the host as an ICMP error (R193), counted, and linked. bucket: the meter bucket that its later
bytes are charged to. -/
def releaseFrame (p : Profile) (f : Firkin) (d : Desc) (x : Frame) (bucket : Nat) (s : State) : State :=
  let d := { d with header := natHeader f d }
  let s := if d.dest = .host 0x23 then s.bump FLW_NAT_ICMP_ERR_CNT else s
  let s := sketchStep p f x.stamp (countFlow f.key (frameLen x) x.stamp s)
  let s := if x.ended then s else onFrame d.frame (fun y => { y with flow := some (f.key, x.bytes.length, bucket) }) s
  linkDesc d s

/-- A member choice is held in CHOICE (R197, R199): it is written, written through and mirrored. A STRICT change waits for the partner
(R195); answered is whether the frame has to wait. -/
def holdChoice (f : Firkin) (n : Nat) (s : State) : State × Bool :=
  let strict := bitOf f.state 6
  let s := onFirkin f.key (fun y => { y with choice := n }) s
  let s := writeThrough f.key none s
  let s := mirrorState f.key strict s
  if !strict then (s, false)
  else if mirrorActive s then (onFirkin f.key (fun y => { y with ackWait := true, held := true }) s, true)
  else (report (srcTask 5) (s.bump FLW_STRICT_UNMIRRORED_CNT), false)

/-- A choice made again is counted (R197). -/
def rechose (c : LbChoice) (s : State) : State :=
  match c with
  | .refused _ true => s.bump FLW_LB_RECHOOSE_CNT
  | .member _ true => s.bump FLW_LB_RECHOOSE_CNT
  | _ => s

/-- A frame that a member's DEC_TTL finds expired is dropped, and not sent to the host (R80). -/
def ttlDrops (s : State) (d : Desc) : Bool := s.get QTR_PARSE_ACT_TTL_ACT d.quarter != 2

/-- The load-balancing step and what follows it (R178), for the member choice c made before any change. A frame dropped for its TTL is a
policy deny under R17, and counted in QTR_TTL_CNT under R80 (log entry 128). -/
def afterMeter (p : Profile) (f : Firkin) (d : Desc) (x : Frame) (bucket : Nat) (c : LbChoice) (s : State) : FlowStep :=
  let s := rechose c s
  match c with
  | .off => .done (releaseFrame p f d x bucket s)
  | .refused noMember _ =>
    .done (flowRefuse FLW_REFUSE_DENY d (if noMember then report (srcFlow 15) (s.bump FLW_LB_NO_MEMBER_CNT) else s))
  | .member n _ =>
    let expires := memberExpires (lbMember s n) d
    if expires && ttlDrops s d then .done (flowRefuse FLW_REFUSE_DENY d (s.bump QTR_TTL_CNT d.quarter))
    else
      let r := if n != f.choice && holdsChoice s f then holdChoice f n s else (s, false)
      if r.2 then .wait .partner r.1
      else if expires then .done (releaseFrame p f { d with dest := .host 0x20 } x bucket (r.1.bump QTR_TTL_CNT d.quarter))
      else
        let a := lbApply r.1 (lbMember r.1 n) d
        .done (releaseFrame p f a.1 x bucket (r.1.bumpBy a.2 QTR_EDIT_SKIP_CNT d.quarter))

/-- The load-balancing step lets the frame pass. -/
def lbPasses (s : State) (d : Desc) (c : LbChoice) : Bool :=
  match c with
  | .off => true
  | .refused _ _ => false
  | .member n _ => !(memberExpires (lbMember s n) d && ttlDrops s d)

/-- The DSCP of a yellow frame written (R201); on a frame forwarded as layer 2 only it is skipped and counted (R81). -/
def yellowDscp (p : Profile) (d : Desc) : Desc × Nat :=
  match outerIp d with
  | none => (d, 1)
  | some (o, six) => ({ d with header := setTrafficClass (fun t => bitsOf p 84 79 * 4 + t % 4) o six d.header }, 0)

/-- The meter refuses a frame of a colour (R201). -/
def meterDenies (p : Profile) (colour : Nat) : Bool := p.meter && ((colour == 1 && bitsOf p 77 76 == 3) || (colour == 2 && !bitOf p 78))

/-- The meter step and what follows it (R200, R201), for the meter m and the member choice c found before any change. Tokens are taken only
when the frame is released: passes says so. -/
def afterOt (p : Profile) (f : Firkin) (d : Desc) (x : Frame) (m : Int × Int × Nat) (c : LbChoice) (passes : Bool) (s : State) : FlowStep :=
  if !p.meter then afterMeter p f d x 0 c s
  else
    let s := if passes then setMeter f.key m.1 m.2.1 (stampNs x.stamp % 2 ^ 32) s else s
    if m.2.2 = 0 then afterMeter p f d x 1 c s
    else if m.2.2 = 1 then
      let s := s.bump FLW_METER_YELLOW_CNT
      let act := bitsOf p 77 76
      if act = 3 then .done (flowRefuse FLW_REFUSE_DENY d s)
      else if act = 1 then
        let y := yellowDscp p d
        afterMeter p f y.1 x 2 c (s.bumpBy y.2 QTR_EDIT_SKIP_CNT d.quarter)
      else afterMeter p f (if act = 2 then { d with queue := some (bitsOf p 87 85) } else d) x 2 c s
    else if bitOf p 78 then afterMeter p f d x 0 c (s.bump FLW_METER_RED_PASS_CNT)
    else .done (flowRefuse FLW_REFUSE_METER d s)

/-- The member of a STRICT change of CHOICE that has to wait for the partner (R195). -/
def strictChange (s : State) (f : Firkin) (c : LbChoice) : Option Nat :=
  match c with
  | .member n _ => if n != f.choice && holdsChoice s f && bitOf f.state 6 && mirrorActive s then some n else none
  | _ => none

/-- The OT step and what follows it (R207). Every step is decided before any takes effect, so that a refused frame changes nothing in its
records (R178). counts: the counters that the frame raises once it does not wait. -/
def afterCt (p : Profile) (f : Firkin) (d : Desc) (x : Frame) (ct : Option CtStep) (counts : State → State) (s : State) : FlowStep :=
  let commit := fun (s : State) => match ct with | none => s | some c => applyCt f.key p c s
  let act := if p.ot && d.act.inspect then otAction (otMapOf (policyOf s (activeCopy s)) p.otMap) d.verdict else 0
  if act = 2 then .done (flowRefuse FLW_REFUSE_DENY d (otClose f.key p d.verdict (counts s)))
  else if act = 1 || 5 ≤ act then
    let s := (counts s).bump FLW_OT_DENY_CNT
    .done (flowRefuse FLW_REFUSE_DENY d (if act = 5 then otEvent f.key p d.verdict 5 s else s))
  else
    let d := if act = 3 && d.dest != .host 0x23 then { d with dest := .host 0x22 } else d
    let m := meterStep s p f.key (stampNs x.stamp) (frameLen x + bitsOf p 95 88)
    let c := lbChoose s p f
    let passes := !meterDenies p m.2.2 && lbPasses s d c
    match (if passes then strictChange s f c else none) with
    | some n => .wait .partner (holdChoice f n (rechose c s)).1
    | none =>
    let s := counts s
    let s := if passes then commit s else s
    let s := if passes && act = 4 then otEvent f.key p d.verdict 4 s else s
    match firkinOf s f.key with
    | none => .done s
    | some (_, f) => afterOt p f d x m c passes s

/-- The tracking step's outcome for a frame. -/
inductive CtOut where
  | none_
  | needs
  | invalid
  | step (x : CtStep)
deriving DecidableEq, Repr

/-- The tracking step of a frame of a record (R181 to R186, R214). ready: CT data has been fetched. -/
def ctOut (s : State) (p : Profile) (f : Firkin) (d : Desc) (ready : Bool) : CtOut :=
  let st := stateCode f.state
  let other := match f.link.bind (firkinOf s) with | none => zeros 16 | some (_, o) => padTo 16 o.ct
  if !p.ct || st = 0 || 0x30 ≤ st then .none_
  else if st = 0x10 || st = 0x18 || st = 0x20 then
    (if f.lead then .none_ else .step ⟨st + 1, padTo 16 f.ct, other, false⟩)
  else if st ≤ 7 && tcpKey f.key then
    if needsCt st d.l4 && !ready then .needs
    else match tcpStep f.lead p.hsCheck st d.l4 d.l4Len (padTo 16 f.ct) other with
      | none => .invalid
      | some x => .step x
  else .none_

/-- The work of the flow update unit on a frame whose record is resident (R177, R178). stepped: the creation was the frame's tracking
step; ready: CT data has been fetched, or the task that the frame waited for has released it. -/
def processFrame (stepped ready : Bool) (d : Desc) (s : State) : FlowStep :=
  match frameOf s d.frame, firkinOf s d.key with
  | none, _ => .done s
  | some _, none => .done s
  | some x, some (_, f) =>
    if x.bad then .done (linkDesc d s)
    else
      let p : Profile := activeProfile s f.profile
      let st := stateCode f.state
      let d := if Profile.natKind p != 0 && icmpError d then { d with dest := .host 0x23 } else d
      let diff := fun (s : State) => if d.act.profile != f.profile then s.bump FLW_PROFILE_DIFF_CNT else s
      if !p.valid then
        .done (flowRefuse FLW_REFUSE_DENY d (report (srcTask 0) ((diff s).bump FLW_PROFILE_INVALID_CNT)))
      else if 0x38 ≤ st && !ready then .wait (.task false) s
      else
        let ct := if stepped then .none_ else ctOut s p f d ready
        let changes := match ct with | .step c => c.state != st | _ => false
        let verdict := p.ot && d.act.inspect &&
          [2, 4, 5].contains (otAction (otMapOf (policyOf s (activeCopy s)) p.otMap) d.verdict)
        let choice := match lbChoose s p f with
          | .member n _ => n != f.choice && holdsChoice s f
          | _ => false
        let room := wtRoom s f.key && (match f.link with | none => true | some k => wtRoom s k)
        if ct = .needs then .wait .ctData s
        else if (changes || verdict || choice) && !room then
          .wait .writeThrough (report (srcFlow 3) (s.bump FLW_WT_STALL_CNT))
        else
          match ct with
          | .invalid =>
            let counts := fun (s : State) => report (srcFlow 14) ((diff s).bump FLW_CT_INVALID_CNT)
            if p.loose then afterCt p f d x none counts s else .done (flowRefuse FLW_REFUSE_DENY d (counts s))
          | .step c => afterCt p f d x (some c) diff s
          | _ => afterCt p f d x none diff s

end Sys2Proof.Machine
end

