-- ==== Sys2Proof/Machine/Export.lean ====
section
/-! DEFINITION. IPFIX export: data records, messages, template sets and telemetry epochs (R204 to R206, R399 to R401, R421). -/

namespace Sys2Proof.Machine

/-! ### Records wherever they stand -/

/-- The bytes of a record as FLOW_READ gives them (R172): the tun record, with the counts and the time of its copies. A record that has no
tun slot yet is given as it will be stored. -/
def fullRecord (s : State) (key : List Byte) : List Byte :=
  match firkinOf s key, tunOf s key with
  | some (_, f), some (_, x) => patch (padTo 512 x.data) 128 ((recordCounts s f []).take 26)
  | some (_, f), none => recordBytes s f (tunBytes s key)
  | none, some (_, x) => padTo 512 x.data
  | none, none => zeros 512

/-- The bytes of a record with every copy merged (R224): state and meter of the copies, and the content of the write-through queue. -/
def mergedRecord (s : State) (key : List Byte) : List Byte :=
  match firkinOf s key with
  | some (_, f) => patch (recordBytes s f (tunBytes s key)) 210 (timerBytes s key)
  | none => tunBytes s key

/-! ### Data records (R204, R205) -/

/-- A timestamp in ms less the UTC offset (R205), modulo 2^64. -/
def exportMs (s : State) (t : Stamp) : Nat :=
  ((stampNs t / 1000000 : Int) - 1000 * (s.get FLW_TLM_UTC_UTC_OFFSET : Int)).toNat % 2 ^ 64

/-- The template of a record (R205). -/
def exportTemplate (s : State) (p : Profile) (f : Firkin) : Nat :=
  255 + leField f.key 0 1 % 16 + (if s.get FLW_TLM_DOMAIN_PEN != 0 && p.sketch then 3 else 0)

/-- Addresses and ports of a record as its frames leave: those of the linked key reversed where it translates (Table 8.9); the
identifier of an echo stands in the source port of either key (R147). -/
def postNat (f : Firkin) : List Byte × List Byte × Nat × Nat :=
  match f.link with
  | some k =>
    let echo := leField f.key 1 1 = 1 || leField f.key 1 1 = 58
    if bitOf f.state 7 then (keyDst k, keySrc k, if echo then keySrcPort k else keyDstPort k, if echo then 0 else keySrcPort k)
    else (keySrc f.key, keyDst f.key, keySrcPort f.key, keyDstPort f.key)
  | none => (keySrc f.key, keyDst f.key, keySrcPort f.key, keyDstPort f.key)

/-- The telemetry area of a record with its sketch entry merged. -/
def telemetryArea (s : State) (f : Firkin) : List Byte :=
  let area := slice (tunBytes s f.key) 256 128
  match f.slot.bind (Store.get? s.flow.sketch) with
  | none => area
  | some e => mergeSketch area e

/-- The bytes of an IPFIX data record (Table 8.9). -/
def exportBytes (s : State) (p : Profile) (f : Firkin) (reason : Nat) : List Byte :=
  let c := mergedCounts s f
  let times := beBytes 8 (exportMs s f.created) ++ beBytes 8 (exportMs s (stampOfUs s c.2.2)) ++ beBytes 1 reason
  let counts := beBytes 8 c.1 ++ beBytes 8 c.2.1
  let n := postNat f
  let body :=
    if leField f.key 0 1 % 16 = 3 then
      beBytes 4 (beField f.key 2 2) ++ slice f.key 8 6 ++ slice f.key 14 6 ++ slice f.key 4 2 ++ slice f.key 6 2 ++ counts ++ times
    else
      keySrc f.key ++ keyDst f.key ++ slice f.key 4 2 ++ slice f.key 6 2 ++ slice f.key 1 1 ++ beBytes 4 (beField f.key 2 2) ++
        counts ++ times ++ n.1 ++ n.2.1 ++ beBytes 2 n.2.2.1 ++ beBytes 2 n.2.2.2
  if 258 < exportTemplate s p f then body ++ telemetryArea s f else body

/-- The export queue has room for n records (R206). -/
def exportRoom (s : State) (n : Nat) : Bool := s.flow.exports.length + n ≤ 65536

/-- A record is exported with a reason (R204) where its profile asks for it; the sketch fields are cleared after it. -/
def exportRecord (f : Firkin) (reason : Nat) (s : State) : State :=
  let p := activeProfile s f.profile
  if !Profile.exports p || !exportRoom s 1 then s
  else
    let r : ExportRec := ⟨exportTemplate s p f, exportBytes s p f reason⟩
    let start := if s.flow.exports.isEmpty then s.clock else s.flow.batchStart
    let s := { s with flow := { s.flow with exports := s.flow.exports ++ [r], batchStart := start } }
    let s := s.bump FLW_TLM_RECORD_CNT
    let s := onTun f.key (fun b => patch (padTo 512 b) 256 (zeros 128)) s
    match f.slot with
    | none => s
    | some i =>
      match Store.get? s.flow.sketch i with
      | none => s
      | some e => { s with flow := { s.flow with sketch := Store.set s.flow.sketch i (patch noSketch 92 (slice e 92 16)) } }

/-! ### Messages (R206, R401) -/

/-- A sealed envelope around a message (R399): its header, then ciphertext and tag, whose values are open. -/
def envelope (s : State) (kind : Nat) (body : List Byte) : List Byte :=
  let cipher := (List.range ((body.length + 23) / 8)).flatMap (fun i => leBytes 8 (Config.freeWord (s.free + i)).toNat)
  leBytes 2 1 ++ leBytes 1 kind ++ zeros 1 ++ beBytes 8 (s.num ASC_ID_FP) ++ leBytes 4 s.ascor.tlmEpoch ++
    leBytes 8 s.ascor.tlmCounter ++ leBytes 4 body.length ++ zeros 4 ++ cipher.take (body.length + 16)

/-- An epoch record (R400): its header, whose plaintext body holds an ephemeral key, the epoch's start and a signature; the values
of key and signature are open. -/
def epochRecord (s : State) : List Byte :=
  let open_ := fun (n from_ : Nat) => ((List.range (n / 8)).flatMap (fun i => leBytes 8 (Config.freeWord (s.free + from_ + i)).toNat))
  leBytes 2 1 ++ leBytes 1 1 ++ zeros 1 ++ beBytes 8 (s.num ASC_ID_FP) ++ leBytes 4 s.ascor.tlmEpoch ++ leBytes 8 0 ++
    leBytes 4 202 ++ zeros 4 ++ open_ 96 0 ++ stampBytes s.now ++ open_ 96 12

/-- A message goes to the TLM ring and out of the export port, as TO_RING and TO_PORT say (R206). On the port it is the UDP payload
behind encapsulation template ENCAP; a template never written gives no frame. -/
def sendTelemetry (sealed : Bool) (bs : List Byte) (s : State) : State :=
  let s := if s.on FLW_TLM_CTRL_TO_RING then
      { s with host := { s.host with tlm := s.host.tlm ++ [(⟨sealed, bs⟩ : TlmMsg)] } }
    else s
  if !s.on FLW_TLM_CTRL_TO_PORT then s
  else
    match Store.get? s.cls.templates (s.get FLW_TLM_CTRL_ENCAP) with
    | none => s
    | some t =>
      let out := encapsulate t bs.length 0 ++ bs
      let p := s.get FLW_TLM_CTRL_PORT
      if 96 ≤ p then s
      else
        let f := s.buf.nextFrame
        let x : Frame := { freshFrame 96 0 false out s.now none with ended := true, dispatched := true }
        let s := newFrame x s
        linkOne (8 * p) (copyFor s f x (8 * p) out 0 0xFFFF) none s

/-- A telemetry epoch begins (R400, R401). -/
def beginEpoch (s : State) : State :=
  let s := { s with ascor := { s.ascor with
    tlmEpoch := (s.ascor.tlmEpoch + 1) % 2 ^ 32, tlmCounter := 0, tlmKey := s.free, tlmAt := some s.clock } }
  let e := epochRecord s
  sendTelemetry true e ({ s with free := s.free + 24 } : State)

/-- A new telemetry epoch is due (R401): sealing has been enabled, 24 h have passed, or 2^32 envelopes have gone out. -/
def epochDue (s : State) : Bool :=
  s.on FLW_TLM_CTRL_SEAL && (match s.ascor.tlmAt with
    | none => true
    | some t => decide (t + 86400 * nsPerSec ≤ s.clock) || decide (2 ^ 32 ≤ s.ascor.tlmCounter))

/-- Telemetry sealing starts a new epoch where one is due (R401). -/
def telemetryEpoch (s : State) : State := if epochDue s then beginEpoch s else s

/-- One message or envelope: sealed where SEAL is 1. A new epoch begins at enable, every 24 h and after 2^32 envelopes, and its
record goes first (R401). -/
def sendMessage (bs : List Byte) (s : State) : State :=
  if !s.on FLW_TLM_CTRL_SEAL then sendTelemetry false bs s
  else
    let s := telemetryEpoch s
    let e := envelope s 2 bs
    let s := { s with free := s.free + (bs.length + 23) / 8 }
    let s := { s with ascor := { s.ascor with tlmCounter := s.ascor.tlmCounter + 1 } }
    sendTelemetry true e (s.bump ASC_SEAL_CNT)

/-- The IPFIX message header (RFC 7011): version 10, length, export time in s of UTC, sequence number and domain. -/
def ipfixHeader (s : State) (len seq : Nat) : List Byte :=
  beBytes 2 10 ++ beBytes 2 (16 + len) ++ beBytes 4 ((s.now.sec - s.get FLW_TLM_UTC_UTC_OFFSET) % 2 ^ 32) ++ beBytes 4 (seq % 2 ^ 32) ++
    beBytes 4 (s.get FLW_TLM_DOMAIN_OBS_DOMAIN)

/-- The sets of a message (RFC 7011): one set for each run of records of one template, at most n sets. -/
def ipfixSets : Nat → List ExportRec → List Byte
  | 0, _ => []
  | _ + 1, [] => []
  | n + 1, r :: rs =>
    let run := r :: rs.takeWhile (fun x => x.template == r.template)
    let body := run.flatMap (fun x => x.bytes)
    beBytes 2 r.template ++ beBytes 2 (4 + body.length) ++ body ++ ipfixSets n (rs.dropWhile (fun x => x.template == r.template))

/-- The records that fit a message of at most n bytes, sets counted singly. -/
def batchFits (n : Nat) : List ExportRec → Nat → Nat
  | [], k => k
  | r :: rs, k => if n < r.bytes.length + 4 then k else batchFits (n - (r.bytes.length + 4)) rs (k + 1)

/-- An export message is closed and sent (R206): with the records of BATCH_US, or as many as MSG_MAX takes. -/
def exportMessage (s : State) : State :=
  let max_ := clamp 512 8192 (s.get FLW_TLM_CTRL_MSG_MAX)
  let n := batchFits (max_ - 16) s.flow.exports 0
  let full := n < s.flow.exports.length
  let due := clamp 1 1000 (s.get FLW_TLM_CTRL_BATCH_US) * 1000 ≤ s.clock - s.flow.batchStart
  if s.flow.exports.isEmpty || !(full || due) then s
  else
    let l := s.flow.exports.take (max 1 n)
    let sets := ipfixSets l.length l
    let m := ipfixHeader s sets.length s.flow.ipfixSeq ++ sets
    let s := { s with flow := { s.flow with exports := s.flow.exports.drop (max 1 n), ipfixSeq := (s.flow.ipfixSeq + l.length) % 2 ^ 32, batchStart := s.clock } }
    sendMessage m s

/-- The fields of a template: element, length and, for the enterprise element, PEN (R205, Table 8.9). -/
def templateFields (s : State) (t : Nat) : List Byte :=
  let base := (t - 256) % 3
  let el := fun (l : List (Nat × Nat)) => l.flatMap (fun e => beBytes 2 e.1 ++ beBytes 2 e.2)
  let common := [(86, 8), (85, 8), (152, 8), (153, 8), (136, 1)]
  let ip := fun (a : List Nat) (n : Nat) => el ([(a.getD 0 0, n), (a.getD 1 0, n), (7, 2), (11, 2), (4, 1), (234, 4)] ++ common ++
    [(a.getD 2 0, n), (a.getD 3 0, n), (227, 2), (228, 2)])
  let b := if base = 0 then ip [8, 12, 225, 226] 4 else if base = 1 then ip [27, 28, 281, 282] 16
    else el ([(10, 4), (56, 6), (80, 6), (58, 2), (245, 2)] ++ common)
  if t < 259 then b else b ++ beBytes 2 (2 ^ 15 + 1) ++ beBytes 2 128 ++ beBytes 4 (s.get FLW_TLM_DOMAIN_PEN)

/-- Fields of a template. -/
def templateCount (t : Nat) : Nat := (if (t - 256) % 3 = 2 then 10 else 15) + (if t < 259 then 0 else 1)

/-- The template sets are sent (R206): once exporting is enabled or its destination has changed, and then every TEMPLATE_S. -/
def sendTemplates (s : State) : State :=
  let due := match s.flow.templatesAt with
    | none => true
    | some t => decide (t + clamp 1 3600 (s.get FLW_TLM_CTRL_TEMPLATE_S) * nsPerSec ≤ s.clock)
  if !due || !(s.on FLW_TLM_CTRL_TO_RING || s.on FLW_TLM_CTRL_TO_PORT) then s
  else templateMessage { s with flow := { s.flow with templatesAt := some s.clock } }
where
  /-- One message with the template sets. -/
  templateMessage (s : State) : State :=
  let ts := if s.get FLW_TLM_DOMAIN_PEN = 0 then [256, 257, 258] else [256, 257, 258, 259, 260, 261]
  let body := ts.flatMap (fun t => beBytes 2 t ++ beBytes 2 (templateCount t) ++ templateFields s t)
  let set := beBytes 2 2 ++ beBytes 2 (4 + body.length) ++ body
  sendMessage (ipfixHeader s set.length s.flow.ipfixSeq ++ set) s

end Sys2Proof.Machine
end

