-- ==== Sys2Proof/Machine/Flow.lean ====
section
/-! DEFINITION. Flows: lookup and the pending table, creation, address allocation, deletion, ageing, and the acknowledgements that
release waiting frames (R145, R155 to R161, R170 to R173, R179, R180, R188 to R195, R364). -/

namespace Sys2Proof.Machine

/-! ### The pending table (R155, R157) -/

/-- The pending entry of a key. -/
def pendOf (s : State) (key : List Byte) : Option (Nat × Pend) := s.flow.pend.find? (fun e => e.2.key == key)

/-- Pending entry i replaced; an entry whose queue is empty and that waits for nothing is freed by dropPend. -/
def setPend (i : Nat) (p : Pend) (s : State) : State :=
  tierStat { s with flow := { s.flow with pend := Store.set s.flow.pend i p } }

/-- Pending entry i freed. -/
def dropPend (i : Nat) (s : State) : State := tierStat { s with flow := { s.flow with pend := Store.erase s.flow.pend i } }

/-- Descriptors in the miss store. -/
def missStore (s : State) : Nat := (s.flow.pend.map (fun e => e.2.queue.length)).sum

/-- The lowest free pending entry. -/
def freePend (s : State) : Option Nat :=
  if 65536 ≤ s.flow.pend.length then none
  else leastBelow (fun i => (Store.get? s.flow.pend i).isNone) (s.flow.pend.length + 1)

/-- A descriptor refused as pending-table overflow. -/
def refuseOverflow (d : Desc) (s : State) : State := report (srcFlow 1) (flowRefuse FLW_REFUSE_OVF d s)

/-- A holding task for pending entry i (R213): queued, or owed to the entry (R218). -/
def raiseHolding (kind prog edata : Nat) (lead key : List Byte) (i : Nat) (s : State) : State × Bool :=
  let t := newTask s kind prog edata lead key true i
  match queueTask t s with
  | some s => (countEvent 8 0x07 kind 1 (takeTaskId s), true)
  | none => (spillFullFault t.cluster s, false)

/-- The time of a frame: its ingress timestamp (R304). -/
def frameTime (s : State) (d : Desc) : Stamp := match frameOf s d.frame with | none => s.now | some x => x.stamp

/-- The frame at the head of a pending entry as the cause of a task. -/
def headCause (s : State) (p : Pend) : Option Cause := p.queue.head?.map (fun d => ⟨d.frame, d.act.profile, frameTime s d⟩)

/-- Pending entry i waits for a holding task that the frame at its head raised. -/
def awaitTask (kind prog edata : Nat) (lead key : List Byte) (i : Nat) (s : State) : State :=
  let r := raiseHolding kind prog edata lead key i s
  match Store.get? r.1.flow.pend i with
  | none => r.1
  | some p => setPend i { p with waits := .task (!r.2), ctReady := false, cause := headCause s p } r.1

/-- Pending entry i waits for w with its head unprocessed; an EXCEPTION wait raises its task (R214). -/
def waitFor (i : Nat) (w : Wait) (s : State) : State :=
  match Store.get? s.flow.pend i with
  | none => s
  | some p =>
    match w with
    | .task _ =>
      (match firkinOf s p.key with
      | none => s
      | some (_, f) =>
        awaitTask 6 (profProg (activeProfile s f.profile)) (stateCode f.state) (leadOf s p.key) p.key i s)
    | w => setPend i { p with waits := w, ctReady := false } s

/-- A descriptor appended to pending entry i, or refused (R155). -/
def appendPend (i : Nat) (p : Pend) (d : Desc) (s : State) : State :=
  if clamp 1 1023 (s.get FLW_MISS_CTRL_PER_FLOW) ≤ p.queue.length || 262144 ≤ missStore s then refuseOverflow d s
  else setPend i { p with queue := p.queue ++ [d], since := if p.queue.isEmpty then s.clock else p.since } s

/-- A new pending entry for a descriptor; answers its index, none where none is free. -/
def openPend (d : Desc) (w : Wait) (s : State) : State × Option Nat :=
  if 262144 ≤ missStore s then (refuseOverflow d s, none)
  else
    match freePend s with
    | none => (refuseOverflow d s, none)
    | some i =>
      let t := setPend i ⟨d.key, [d], s.clock, w, false, false, none⟩ s
      (if w = .fetch then askFetch d.key t else t, some i)

/-! ### Flows that cannot be created (R160, R177) -/

/-- A frame refused under an invalid profile (R177). -/
def invalidProfile (d : Desc) (s : State) : State :=
  flowRefuse FLW_REFUSE_DENY d (report (srcTask 0) (s.bump FLW_PROFILE_INVALID_CNT))

/-- The full action of a profile (R160): deny, or forward without a record; a translating profile denies. limit: at the fill limit,
the unhomed limit or before MEM_INIT has completed. -/
def fullAction (limit : Bool) (d : Desc) (p : Profile) (s : State) : State :=
  if p.fullAct && p.natKind = 0 then linkDesc d s
  else flowRefuse FLW_REFUSE_DENY d (if limit then s.bump FLW_TUN_FULL_CNT else s)

/-- Tun is at its fill limit (R160). -/
def tunAtLimit (s : State) : Bool :=
  clamp 50 98 (s.get FLW_TUN_CTRL_FILL_LIMIT) * tunSlots s ≤ 100 * s.flow.tun.slots.length

/-- Unhomed records are at their limit (R160). -/
def unhomedAtLimit (s : State) : Bool := 4096 ≤ s.get FLW_KEY_STAT_UNHOMED

/-- More than 3 MiB of class-3 messages wait (R361). -/
def mirrorFull (s : State) : Bool := mirrors s && 3145728 < class3Bytes s

/-! ### Address allocation (R188 to R191) -/

/-- A pool entry (Table 8.6). -/
abbrev Pool := Nat
/-- Pool n; a pool never written is not valid. -/
def poolOf (s : State) (n : Nat) : Pool := Store.getD s.flow.pools n 0
/-- ADDR_COUNT. -/
def Pool.count (p : Pool) : Nat := clamp 1 256 (bitsOf p 12 4)
/-- PORT_LOW. -/
def Pool.low (p : Pool) : Nat := bitsOf p 31 16
/-- PORT_HIGH. -/
def Pool.high (p : Pool) : Nat := bitsOf p 47 32
/-- SEED. -/
def Pool.seed (p : Pool) : Nat := bitsOf p 79 48
/-- Outside address i, 16 bytes. -/
def Pool.addr (p : Pool) (i : Nat) : List Byte := beBytes 16 (bitsOf p 255 128 + i)

/-- An address of 16 bytes as NAT_ADDR holds it: an IPv4 address in its first four bytes. -/
def natAddrOf (six : Bool) (a : List Byte) : List Byte := if six then padTo 16 a else padTo 16 (a.drop 12)

/-- The port bitmap of address i of pool n has port x free. -/
def portFree (s : State) (n i x : Nat) : Bool := (Store.get? s.flow.ports (key3 n i x)).isNone

/-- A port that PAIR_HALF allows (R190). -/
def portAllowed (s : State) (x : Nat) : Bool :=
  let h := s.get FLW_NAT_CTRL_PAIR_HALF
  h = 0 || (h = 1 && x % 2 = 0) || (h = 2 && x % 2 = 1) || h = 3

/-- A frame whose key carries a port to translate: TCP, UDP, SCTP or ICMP echo, and no fragment. -/
def hasPort (d : Desc) : Bool :=
  let proto := leField d.key 1 1
  let t := leField d.l4 0 1
  !bitOf (leField d.key 0 1) 4 && (proto == 6 || proto == 17 || proto == 132 || (proto == 1 && !d.l4.isEmpty && (t == 0 || t == 8)) ||
    (proto == 58 && !d.l4.isEmpty && (t == 128 || t == 129)))

/-- ICMP echo, whose identifier stands in the source port field. -/
def isEcho (d : Desc) : Bool := hasPort d && (leField d.key 1 1 == 1 || leField d.key 1 1 == 58)

/-- The port that the allocator takes (R190); key: the key block of 40 bytes. -/
def allocPort (s : State) (n : Nat) (p : Pool) (preserve : Bool) (ai sp : Nat) (key : List Byte) : Option Nat :=
  if p.high < p.low then none
  else
    let k := p.high - p.low + 1
    let ok := fun (x : Nat) => portAllowed s x && portFree s n ai x
    if preserve && p.low ≤ sp && sp ≤ p.high && ok sp then some sp
    else
      let w := crc32c key p.seed % k / 64
      (List.range 64).findSome? (fun i =>
        ((List.range 64).map (fun j => p.low + 64 * ((w + i) % ceilDiv k 64) + j)).find? (fun x => x ≤ p.high && ok x))

/-- A binding: the translated address (16 bytes), the translated port (0: none), the bitmap bit it takes, and the member it was
taken from. -/
structure Binding where
  addr : List Byte
  port : Nat
  bit : Option Nat
  member : Option Nat
deriving DecidableEq, Repr

/-- A key with its source and destination replaced. -/
def keyWith (k src dst : List Byte) (sp dp : Nat) : List Byte :=
  let ports := beBytes 2 sp ++ beBytes 2 dp
  padTo 40 (k.take 4 ++ ports ++ src ++ dst)

/-- The reply key of an IP flow (R180, Table 8.5). vrf: the VRF of the reply key where the profile names one. -/
def replyKey (p : Profile) (kind : Nat) (b : Binding) (echo : Bool) (key : List Byte) : List Byte :=
  let six := leField key 0 1 % 16 = 2
  let addr := b.addr.take (if six then 16 else 4)
  let src := if kind = 2 then addr else keyDst key
  let dst := if kind = 1 || kind = 3 then addr else keySrc key
  let out := if kind != 0 && b.port != 0 then some b.port else none
  let sp := if echo then (if kind = 1 then out.getD (keySrcPort key) else keySrcPort key)
    else if kind = 2 then out.getD (keyDstPort key) else keyDstPort key
  let dp := if echo then 0 else if kind = 1 then out.getD (keySrcPort key) else keySrcPort key
  let k := keyWith key src dst sp dp
  if bitOf p 70 then patch k 2 (beBytes 2 (bitsOf p 69 58)) else k

/-- Tags of header bytes: their VIDs. -/
def headerVids (h : List Byte) : List Nat := (frameTags h).1.map (fun t => t % 4096)

/-- The egress port that the first frame of a flow takes under profile p of a policy copy (R180): that of its load-balancing member, else the
one its quarter chose; none where it leaves on several ports or to the host, or is refused for want of a member. -/
def firstEgress (s : State) (copy : Bool) (p : Profile) (d : Desc) : Option Nat :=
  let toHost := p.ot && d.act.inspect && otAction (otMapOf (policyOf s (activeCopy s)) p.otMap) d.verdict == 3
  match d.dest with
  | .host _ => none
  | dest =>
    if toHost then none
    else if p.lb then (lbLookup s copy p.lbService d.key).map (fun m => bitsOf (lbMember s m) 6 0)
    else match dest with
      | .port n => some n
      | .group g =>
        let g := groupOf s g
        (match groupPorts g d.port ++ (groupMembers s g d).filterMap id with
        | [n] => if g.host then none else some n
        | _ => none)
      | .host _ => none

/-- The reply key of a KKIND 3 flow (R180): none where its first frame leaves on several ports or to the host. -/
def replyKey3 (s : State) (copy : Bool) (p : Profile) (d : Desc) : Option (List Byte) :=
  match firstEgress s copy p d with
  | some n =>
    let vids := headerVids d.header
    let outer := vids.head?.getD (s.get PRT_DEFAULT_DEF_VID n)
    some (padTo 40 (d.key.take 2 ++ beBytes 2 n ++ beBytes 2 outer ++ beBytes 2 (vids.getD 1 0) ++ slice d.key 14 6 ++ slice d.key 8 6))
  | none => none

/-- A key that some tier holds. -/
def keyHeld (s : State) (key : List Byte) : Bool := (firkinOf s key).isSome || (tunOf s key).isSome

/-- The binding of a new flow (R188, R190) under profile p of a policy copy: none where the allocation fails. -/
def allocate (s : State) (copy : Bool) (p : Profile) (d : Desc) : Option Binding :=
  let six := leField d.key 0 1 % 16 = 2
  let n := p.natPool
  let pool := poolOf s n
  let usable := bitOf pool 0 && bitOf pool 2 && (bitOf pool 1 == six)
  if p.natKind = 2 then
    if p.lb then
      (match lbLookup s copy p.lbService d.key with
      | none => none
      | some m =>
        let e := lbMember s m
        some ⟨natAddrOf six (beBytes 16 (bitsOf e 255 128)), if hasPort d && !isEcho d then bitsOf e 95 80 else 0, none, some m⟩)
    else if usable then
      some ⟨natAddrOf six (pool.addr 0), if hasPort d && !isEcho d then pool.low else 0, none, none⟩
    else none
  else if !usable then none
  else
    let src := if six then keySrc d.key else mapped4 (keySrc d.key)
    let ai := crc32c src pool.seed % pool.count
    let addr := natAddrOf six (pool.addr ai)
    if p.natKind = 3 || !hasPort d || (pool.low = 0 && pool.high = 0) then
      let b : Binding := ⟨addr, 0, none, none⟩
      if keyHeld s (replyKey p p.natKind b (isEcho d) d.key) then none else some b
    else
      match allocPort s n pool p.preserve ai (keySrcPort d.key) (padTo 40 d.key) with
      | none => none
      | some x => some ⟨addr, x, some (key3 n ai x), none⟩

/-! ### Creation (R161, R179, R187, R195) -/

/-- The state in which a flow is created (Table 8.4, R181, R184), and whether its first frame is invalid and excused (R186); none where it
is invalid and not excused. -/
def firstState (p : Profile) (d : Desc) : Option (Nat × Bool) :=
  let kk := leField d.key 0 1 % 16
  let proto := leField d.key 1 1
  if !p.ct || kk = 3 then some (0, false)
  else if tcpKey d.key then
    if bitOf (leField d.l4 13 1) 1 && !bitOf (leField d.l4 13 1) 4 then some (1, false)
    else if p.loose then some (3, true) else none
  else if proto = 17 then some (0x10, false)
  else if isEcho d then some (0x18, false)
  else some (0x20, false)

/-- What a program wrote into its view, laid over a record's bytes. -/
abbrev Over := List Byte → List Byte

/-- A copy with the writable fields of record bytes b (R225): STATE bits [5:0], VERDICT, IDLE_S, CT, TOK_C and TOK_E. -/
def takeWritable (f : Firkin) (b : List Byte) : Firkin :=
  let st := f.state - stateCode f.state + stateCode (leField b 44 1)
  { f with state := st, verdict := leField b 86 2, idleS := leField b 88 4, ct := slice b 96 16, tokC := signedOf 32 (leField b 192 4), tokE := signedOf 32 (leField b 196 4) }

/-- A record takes a tun slot where one of its buckets has a free one (R161); else the insertion engine owes it. -/
def homeRecord (key : List Byte) (s : State) : State :=
  match firkinOf s key with
  | none => s
  | some (_, f) =>
    let p := flowPlace s (tunBuckets s) key
    let free := match freeIn s.flow.tun p.b0 with | some i => some i | none => freeIn s.flow.tun p.b1
    match (if tunBuckets s = 0 then none else free) with
    | none => { s with flow := { s.flow with homing := s.flow.homing ++ [key] } }
    | some i =>
      let x : Slot := ⟨p.fp, key, firstRecord s f, false⟩
      let s := { s with flow := { s.flow with tun := { s.flow.tun with slots := Store.set s.flow.tun.slots i x } } }
      onFirkin key (fun y => { y with slot := some i }) s

/-- A new record's copy, before the program's writes. t: the time of its first frame. -/
def freshCopy (s : State) (p : Profile) (key : List Byte) (lead : Bool) (st prof : Nat) (b : Option Binding) (ver : Nat) (t : Stamp) : Firkin :=
  let strict := p.strict || (b.isSome && s.on FLW_NAT_CTRL_STRICT_NAT)
  let byte := st + 64 * ofBool strict + 128 * ofBool b.isSome
  let addr := (b.map (fun x => x.addr)).getD (zeros 16)
  let port := (b.map (fun x => x.port)).getD 0
  let pool := if b.isSome then p.natPool else 0
  let choice := if lead then ((b.bind (fun x => x.member)).getD 0xFFFF) else 0xFFFF
  ⟨key, none, byte, lead, prof, addr, port, pool, choice, bitsOf p 183 160, bitsOf p 207 184, stampNs t % 2 ^ 32, 0, 0, stampNs t / 1000 % 2 ^ 32, none,
    0, ver, idleOf s p st, zeros 16, t, true, false, false, false⟩

/-- The bytes that a CREATE message carries of a record (Table 14.7). -/
def createBody (f : Firkin) : List Byte :=
  padTo 40 f.key ++ leBytes 1 f.state ++ leBytes 1 (recordFlags f (zeros 512)) ++ leBytes 2 f.profile ++ stampBytes f.created ++
    padTo 16 f.natAddr ++ beBytes 2 f.natPort ++ leBytes 2 f.choice ++ leBytes 2 f.natPool ++ leBytes 4 f.idleS

/-- The five type-specific bytes of a CREATE message: whether there is a reply record, and what its key has that the original's does
not: the reply VRF, or the port and VIDs of a KKIND 3 reply. -/
def createSpec (key : List Byte) (reply : Option (List Byte)) : List Byte :=
  match reply with
  | none => zeros 5
  | some k =>
    if leField key 0 1 % 16 = 3 then
      leBytes 5 (1 + beField k 2 2 % 128 * 2 ^ 8 + beField k 4 2 % 4096 * 2 ^ 15 + beField k 6 2 % 4096 * 2 ^ 27)
    else leBytes 5 (1 + beField k 2 2 * 2 ^ 8)

/-- A binding is counted, and its port marked in use (R191). -/
def takeBinding (n : Nat) (b : Binding) (s : State) : State :=
  let s := { s with flow := { s.flow with bindings := Store.upd s.flow.bindings n 0 (· + 1) } }
  match b.bit with
  | none => s
  | some k => { s with flow := { s.flow with ports := Store.set s.flow.ports k 1 } }

/-- What the creation of a flow comes to. -/
inductive Created where
  /-- Created: the head of the pending entry waits for the partner where the flag says so. -/
  | yes (s : State) (waits : Bool)
  /-- The first frame is invalid (R186). -/
  | invalid
  /-- The flow cannot be created: no address, no member, or no place. -/
  | full (noAddr : Bool)

/-- The records of a new connection entered in firkin, or nothing changed. -/
def enterRecords (l : List Firkin) (s : State) : Option State :=
  let r := l.foldl (fun (r : State × Bool) f => if r.2 then enterFirkin f r.1 else r) (s, true)
  if r.2 then some r.1 else none

/-- The original record of a new flow in state st, with a program's writes laid over it (R187, R225): IDLE_S is that of the state it is
created in, unless the program wrote it. -/
def leadCopy (s : State) (p : Profile) (d : Desc) (st n : Nat) (b : Option Binding) (ver : Nat) (reply : Option (List Byte)) (extra : Over) : Firkin :=
  let copy := fun (st : Nat) =>
    let f := freshCopy s p d.key true st n b ver (frameTime s d)
    takeWritable { f with link := reply, ct := if st = 1 then synCt d.l4 else zeros 16 } (extra (recordBytes s { f with link := reply } (zeros 512)))
  let f := copy st
  if stateCode f.state = st then f else { copy (stateCode f.state) with ct := f.ct }

/-- A flow created as its profile states for its first frame d, under profile number n of the policy copy its task carries, with a program's
writes laid over it (R175, R179, R225, R227). -/
def createFlow (copy : Bool) (n : Nat) (d : Desc) (extra : Over) (pdata : Option (List Byte)) (ver : Nat) (s : State) : Created :=
  let p : Profile := profileOf s copy n
  let kk := leField d.key 0 1 % 16
  let kind := if kk = 3 then 0 else Profile.natKind p
  match firstState p d with
  | none => .invalid
  | some (st, excused) =>
    let b := if kind = 0 then none else allocate s copy p d
    if kind != 0 && b.isNone then .full true
    else
      let two := Profile.ct p || kind != 0
      let blank : Binding := ⟨[], 0, none, none⟩
      let reply := if !two then none
        else if kk = 3 then replyKey3 s copy p d
        else some (replyKey p kind (b.getD blank) (isEcho d) d.key)
      if (match reply with | some k => keyHeld s k || k == d.key | none => false) then .full false
      else
        let f := leadCopy s p d st n b ver reply extra
        let replies := match reply with
          | none => []
          | some k => [{ freshCopy s p k false (stateCode f.state) n b ver (frameTime s d) with state := f.state, link := some d.key }]
        match enterRecords (f :: replies) s with
        | none => .full false
        | some s =>
          let s := if excused then report (srcFlow 14) (s.bump FLW_CT_INVALID_CNT) else s
          let s := if p.sticky then { s with flow := { s.flow with sticky := s.flow.sticky ++ [d.key] } } else s
          let s := match b with | some x => takeBinding p.natPool x s | none => s
          let s := (f :: replies).foldl (fun s x => homeRecord x.key s) s
          let s := writeThrough d.key pdata s
          let s := match reply with | some k => writeThrough k none s | none => s
          let s := enterGill d.key (fun s x => Profile.sketch (activeProfile s x.profile)) s
          let strict := bitOf f.state 6
          let s := sendMirror (if strict then 2 else 3) 0x10 (createSpec d.key reply) (createBody f) s
          let s := tierStat (s.bump FLW_CREATE_CNT)
          if !strict then .yes s false
          else if mirrorActive s then .yes (onFirkin d.key (fun x => { x with ackWait := true, held := true }) s) true
          else .yes (report (srcTask 5) (s.bump FLW_STRICT_UNMIRRORED_CNT)) false

/-! ### Misses and drains (R155, R156) -/

/-- The head of pending entry i taken off its queue. -/
def popPend (i : Nat) (s : State) : State :=
  match Store.get? s.flow.pend i with
  | none => s
  | some p => setPend i { p with queue := p.queue.drop 1, ctReady := false, created := false, cause := none } s

/-- An ICMP error message under a profile that translates (R193): to the host, counted. -/
def icmpToHost (d : Desc) (s : State) : State := linkDesc { d with dest := .host 0x23 } (s.bump FLW_NAT_ICMP_ERR_CNT)

/-- A miss in every tier (R156, R160): frames that can create no flow are handled one by one; the first that can raises the FIRST
task. At most n frames are looked at. -/
def missPend : Nat → Nat → State → State
  | 0, _, s => s
  | n + 1, i, s =>
    match Store.get? s.flow.pend i with
    | none => s
    | some e =>
      match e.queue with
      | [] => dropPend i s
      | d :: _ =>
        let p := activeProfile s d.act.profile
        if (frameOf s d.frame).isNone then missPend n i (popPend i s)
        else if d.act.profile = 0 then missPend n i (linkDesc d (popPend i s))
        else if !Profile.valid p then missPend n i (invalidProfile d (popPend i s))
        else if Profile.natKind p != 0 && icmpError d then missPend n i (icmpToHost d (popPend i s))
        else if tunAtLimit s then missPend n i (fullAction true d p (report (srcFlow 5) (popPend i s)))
        else if unhomedAtLimit s then missPend n i (fullAction true d p (report (srcFlow 7) (popPend i s)))
        else if mirrorFull s then
          (if e.waits = .mirror then s else setPend i { e with waits := .mirror } (s.bump VAR_CREATE_WAIT_CNT))
        else awaitTask 1 (profProg p) 0 d.key d.key i s

/-- The queue of pending entry i is processed against the record (R156): each frame is released or refused, until one has to wait or
none is left. ready and stepped concern the head. -/
def drainPend : Nat → Nat → Bool → Bool → State → State
  | 0, _, _, _, s => s
  | n + 1, i, stepped, ready, s =>
    match Store.get? s.flow.pend i with
    | none => s
    | some e =>
      match e.queue with
      | [] => dropPend i s
      | d :: _ =>
        if (frameOf s d.frame).isNone then drainPend n i false false (popPend i s)
        else if (firkinOf s d.key).isNone then missPend (n + 1) i s
        else
          match processFrame stepped ready d s with
          | .done s => drainPend n i false false (popPend i s)
          | .wait w s => waitFor i w s

/-- Pending entry i drained with room for every frame in it. -/
def drain (i : Nat) (stepped ready : Bool) (s : State) : State :=
  match Store.get? s.flow.pend i with
  | none => s
  | some e => drainPend (e.queue.length + 1) i stepped ready s

/-- Pending entry i handled as a miss. -/
def missed (i : Nat) (s : State) : State :=
  match Store.get? s.flow.pend i with
  | none => s
  | some e => missPend (e.queue.length + 1) i s

/-- A fetch of pending entry i completes (R156): a firkin or tun record is promoted with its linked record and the queue drained; CT
data has come with it. A key that no tier holds is a miss.
A key whose record was lost with its channel is refused (R28), and a fetch from a channel in training waits (R335). -/
def fetchComplete (i : Nat) (s : State) : State :=
  match Store.get? s.flow.pend i with
  | none => s
  | some e =>
    let promote := fun (s : State) => enterGill e.key (fun s x => Profile.sketch (activeProfile s x.profile)) s
    match e.waits with
    | .ctData => tierStat (drain i e.created true s)
    | .fetch =>
      if (firkinOf s e.key).isNone && s.mem.lost.any (fun x => x.2 == e.key) then
        tierStat (dropPend i (e.queue.foldl (fun s d => flowRefuse FLW_REFUSE_TMO d s) s))
      else if (firkinOf s e.key).isNone && fetchHeld s e.key then s
      else if (firkinOf s e.key).isSome then tierStat (drain i false true (promote s))
      else if (tunOf s e.key).isSome then
        let s := promoteTun e.key s
        if (firkinOf s e.key).isSome then tierStat (drain i false true (promote s)) else s
      else tierStat (missed i s)
    | _ => s

/-- The lookup of a released descriptor (R155). -/
def flowLookup (d : Desc) (s : State) : State :=
  let p := activeProfile s d.act.profile
  if d.act.profile = 0 then linkDesc d s
  else if (frameOf s d.frame).isNone then s
  else if !s.on MEM_INIT_CFG_DONE then
    (if Profile.valid p then fullAction true d p s else invalidProfile d s)
  else
    match pendOf s d.key with
    | some (i, e) => appendPend i e d s
    | none =>
      if (gillOf s d.key).isSome then
        match processFrame false false d (countEvent 8 0x01 0xFFF 1 s) with
        | .done s => tierStat (onGill d.key (fun g => { g with ref := true }) s)
        | .wait w s =>
          let r := openPend d w s
          (match r.2 with | none => r.1 | some i => waitFor i w r.1)
      else (openPend d .fetch (countEvent 8 0x02 0xFFF 1 s)).1

/-- The oldest descriptor released to the flow update unit is looked up (R155). -/
def flowLookupNext (s : State) : State :=
  match s.flow.input with
  | [] => s
  | d :: rest => flowLookup d { s with flow := { s.flow with input := rest } }

/-- The timer of pending entry i reaches TIMEOUT_US (R157): its descriptors are refused and the entry stays. -/
def missTimeout (i : Nat) (s : State) : State :=
  match Store.get? s.flow.pend i with
  | none => s
  | some e =>
    if e.queue.isEmpty || s.clock - e.since < clamp 20 10000 (s.get FLW_MISS_CTRL_TIMEOUT_US) * 1000 then s
    else
      let s := setPend i { e with queue := [], ctReady := false, created := false, cause := none } s
      report (srcFlow 2) (e.queue.foldl (fun s d => flowRefuse FLW_REFUSE_TMO d s) s)

/-- Every pending entry that waits for what a test accepts is taken up again by f. -/
def resume (p : Pend → Bool) (f : Nat → State → State) (s : State) : State :=
  ((s.flow.pend.filter (fun e => p e.2)).map (fun e => e.1)).foldl (fun s i => f i s) s

/-- A write-through reaches tun (R167), and descriptors held for want of room go on (R155). -/
def writeThroughLand (s : State) : State :=
  if landingHeld s then s
  else tierStat (resume (fun e => e.waits = .writeThrough) (fun i s => drain i false false s) (landWriteThrough s))

/-- The class-3 queue has room again: new flows go on (R361). -/
def mirrorRoom (s : State) : State :=
  if mirrorFull s then s else resume (fun e => e.waits = .mirror) missed s

/-- HELD of a record whose partner acknowledgement has come stays while a write-through is outstanding (R167). -/
def ackArrived (key : List Byte) (s : State) : State :=
  onFirkin key (fun x => { x with ackWait := false, held := s.flow.wt.any (fun w => w.key == key) }) s

/-- The partner acknowledges the STRICT change that pending entry i waits for (R195): its frames go on. -/
def strictAck (i : Nat) (s : State) : State :=
  match Store.get? s.flow.pend i with
  | none => s
  | some e =>
    if e.waits = .partner then tierStat (drain i e.created true (ackArrived e.key (s.bump FLW_STRICT_WAIT_CNT))) else s

/-- Mirroring stops: frames that wait for the partner are released and counted as unmirrored (R195). -/
def releasePartnerWaits (s : State) : State :=
  let s := resume (fun e => e.waits = .partner) (fun i s =>
    match Store.get? s.flow.pend i with
    | none => s
    | some e => drain i e.created true (report (srcTask 5) (ackArrived e.key (s.bump FLW_STRICT_UNMIRRORED_CNT)))) s
  { s with flow := { s.flow with firkin := s.flow.firkin.map (fun (e : Nat × Firkin) =>
    if e.2.ackWait then (e.1, { e.2 with ackWait := false, held := s.flow.wt.any (fun w => w.key == e.2.key) }) else e) } }

/-! ### Results of holding tasks (R214, Table 9.2) -/

/-- Every frame of pending entry i refused, sent to the host, or forwarded, by f; the entry is freed. -/
def disposePend (i : Nat) (f : Desc → State → State) (s : State) : State :=
  match Store.get? s.flow.pend i with
  | none => s
  | some e => e.queue.foldl (fun s d => f d s) (dropPend i s)

/-- A frame denied by a task. -/
def taskDeny (d : Desc) (s : State) : State := flowRefuse FLW_REFUSE_DENY d s
/-- A frame sent to the host by a task (REASON 0x21). -/
def taskHost (d : Desc) (s : State) : State := linkDesc { d with dest := .host 0x21 } s

/-- The result of a FIRST task for pending entry i: 0 creates the flow as the profile states in the policy copy that the task carries. -/
def firstResult (copy : Bool) (i result : Nat) (extra : Over) (pdata : Option (List Byte)) (ver : Nat) (s : State) : State :=
  match Store.get? s.flow.pend i with
  | none => s
  | some e =>
    if result = 1 then disposePend i taskDeny s
    else if result = 2 then disposePend i taskHost s
    else if result = 3 then disposePend i linkDesc s
    else
      match e.queue with
      | [] => dropPend i s
      | d :: _ =>
        let n := d.act.profile
        match createFlow copy n d extra pdata ver s with
        | .yes s waits =>
          if waits then
            (match Store.get? s.flow.pend i with
            | none => s
            | some e => tierStat (setPend i { e with waits := .partner, created := true } s))
          else tierStat (drain i true true s)
        | .invalid => missed i (report (srcFlow 14) (flowRefuse FLW_REFUSE_DENY d ((popPend i s).bump FLW_CT_INVALID_CNT)))
        | .full noAddr =>
          let s := popPend i s
          let s := if noAddr then report (srcFlow 12) (s.bump FLW_NAT_ALLOC_FAIL_CNT) else s
          missed i (fullAction false d (profileOf s copy n) s)

/-- The result of an EXCEPTION task for pending entry i (R214): the frame that raised it is released, denied or sent to the host. Where the
miss timeout has refused that frame, the next one raises a task of its own. -/
def exceptionResult (i result : Nat) (s : State) : State :=
  match Store.get? s.flow.pend i with
  | none => s
  | some e =>
    match e.queue with
    | [] => dropPend i s
    | d :: _ =>
      if e.cause.map (fun c => c.frame) != some d.frame then drain i false false s
      else if result = 1 then drain i false false (taskDeny d (popPend i s))
      else if result = 2 then drain i false false (taskHost d (popPend i s))
      else drain i false true s

/-! ### Deletion (R171, R191, R204) -/

/-- A binding given up (R191): its port is held for REUSE_S, or freed at once where the list is full. -/
def dropBinding (f : Firkin) (s : State) : State :=
  if !bitOf f.state 7 || !f.lead then s
  else
    let n := f.natPool
    let s := { s with flow := { s.flow with bindings := Store.put s.flow.bindings n 0 (Store.getD s.flow.bindings n 0 - 1) } }
    match portBit s f with
    | none => s
    | some k =>
      let until_ := s.clock + clamp 0 3600 (s.get FLW_NAT_CTRL_REUSE_S) * nsPerSec
      if 1048576 ≤ s.flow.heldPorts.length then
        report (srcFlow 13) (({ s with flow := { s.flow with ports := Store.erase s.flow.ports k } } : State).bump FLW_NAT_REUSE_OVF_CNT)
      else
        let h : HeldPort := ⟨n, k / 2 ^ 32 % 2 ^ 24, k % 2 ^ 32, until_⟩
        { s with flow := { s.flow with ports := Store.set s.flow.ports k 2, heldPorts := s.flow.heldPorts ++ [h] } }
where
  /-- The bitmap bit of a record's binding: its pool's address that equals NAT_ADDR, and NAT_PORT; a destination binding takes none. -/
  portBit (s : State) (f : Firkin) : Option Nat :=
    let six := leField f.key 0 1 % 16 = 2
    let p := poolOf s f.natPool
    match (List.range p.count).find? (fun i => natAddrOf six (p.addr i) == padTo 16 f.natAddr) with
    | none => none
    | some i => if (Store.get? s.flow.ports (key3 f.natPool i f.natPort)) = some 1 then some (key3 f.natPool i f.natPort) else none

/-- Held port i of the list is freed once its time has come (R191). -/
def freeHeldPort (i : Nat) (s : State) : State :=
  match s.flow.heldPorts[i]? with
  | none => s
  | some h =>
    if s.clock < h.until_ then s
    else { s with flow := { s.flow with ports := Store.erase s.flow.ports (key3 h.pool h.addr h.port), heldPorts := s.flow.heldPorts.eraseIdx i } }

/-- One record leaves every tier. -/
def clearRecord (f : Firkin) (s : State) : State :=
  let s := match gillOf s f.key with
    | none => s
    | some (i, _) => { s with flow := { s.flow with gill := Store.erase s.flow.gill i } }
  let s := match firkinOf s f.key with
    | none => s
    | some (i, _) => { s with flow := { s.flow with firkin := Store.erase s.flow.firkin i } }
  let s := match f.slot with
    | none => s
    | some i => { s with flow := { s.flow with sketch := Store.erase s.flow.sketch i } }
  let s := match tunOf s f.key with
    | none => s
    | some (i, _) => { s with flow := { s.flow with tun := { s.flow.tun with slots := Store.erase s.flow.tun.slots i } } }
  let wt := s.flow.wt.filter (fun w => w.key != f.key)
  let dirty := s.flow.dirty.filter (fun d => d.1 != f.key)
  let others := fun (l : List (List Byte)) => l.filter (fun k => k != f.key)
  disarmTimer f.key { s with flow := { s.flow with
    wt := wt, dirty := dirty, homing := others s.flow.homing, due := others s.flow.due, skipped := others s.flow.skipped,
    sticky := others s.flow.sticky, rekey := s.flow.rekey.map (fun r => { r with left := others r.left }) } }

/-- The two records of a connection, or the one. -/
def connection (s : State) (key : List Byte) : List Firkin :=
  match recordOf s key with
  | none => []
  | some f => f :: (f.link.bind (recordOf s)).toList

/-- A flow goes (R171): its final counts are exported where reason names one, both records are cleared in every tier, the binding's port is
held, and queued tasks of the connection that R219 names are cancelled. -/
def removeFlow (key : List Byte) (reason : Option (State → Firkin → Nat)) (s : State) : State :=
  let l := connection s key
  match l with
  | [] => s
  | f :: _ =>
    let lead := if f.lead then f.key else f.link.getD f.key
    let s := match reason with
      | none => s
      | some r => l.foldl (fun s f => exportRecord f (r s f) s) s
    let s := l.foldl (fun s f => clearRecord f (dropBinding f s)) s
    tierStat (cancelTasks (fun t => t.lead == lead && [2, 3, 5, 7].contains t.kind) s)

/-- A flow is deleted (R171), and the partner is told. -/
def deleteFlow (key : List Byte) (reason : Option (State → Firkin → Nat)) (s : State) : State :=
  if (connection s key).isEmpty then s else removeFlow key reason (mirrorDelete key s)

/-- flowEndReason of an idle deletion (R204). -/
def idleReason (_ : State) (f : Firkin) : Nat := if stateCode f.state = 6 || stateCode f.state = 7 then 0x03 else 0x01

/-- The export queue has room for the end records of a connection (R206). -/
def deletionRoom (s : State) (key : List Byte) : Bool :=
  (connection s key).all (fun f => !Profile.exports (activeProfile s f.profile)) || exportRoom s (connection s key).length

/-- The age in whole seconds of the LAST_SEEN that tun holds. -/
def seenAge (s : State) (b : List Byte) : Nat := (s.nowNs - stampNs (stampOfBytes (slice b 144 10))) / nsPerSec

/-- A tun record is due (R170). -/
def isDue (s : State) (x : Slot) : Bool :=
  let b := padTo 512 x.data
  !bitOf (leField b 45 1) 3 && !x.inProgress && leField b 88 4 != 0 && leField b 88 4 ≤ seenAge s b

/-- A frame was counted on a record after the LAST_SEEN that tun holds (R171). -/
def countedSince (s : State) (key : List Byte) : Bool :=
  match firkinOf s key with
  | none => false
  | some (_, f) =>
    let seen := stampNs (stampOfBytes (slice (tunBytes s key) 144 10)) / 1000 % 2 ^ 32
    let last := (mergedCounts s f).2.2
    0 < signedOf 32 (last + 2 ^ 32 - seen) && s.flow.dirty.any (fun d => d.1 == key)

/-- In a pair, only the device with PAIR_HALF 1 ages and exports (R364). -/
def agesHere (s : State) : Bool := !(pairState s == 3 && s.get VAR_STAT_PAIR_HALF == 2)

/-- Pending entry i, whose flow is to be deleted, goes on without it: frames that wait go on. -/
def afterDeletion (i : Nat) (s : State) : State :=
  match Store.get? s.flow.pend i with
  | none => s
  | some e =>
    if e.queue.isEmpty then dropPend i s
    else if (firkinOf s e.key).isSome then drain i false true s
    else fetchComplete i (setPend i { e with waits := .fetch } s)

/-- The decided deletion that pending entry i holds (R171): it waits while its end records find no room in the export queue (R206). -/
def finishDeletion (i : Nat) (s : State) : State :=
  match Store.get? s.flow.pend i with
  | none => s
  | some e =>
    if deletionRoom s e.key then afterDeletion i (deleteFlow e.key (some idleReason) (s.bump FLW_AGE_CNT))
    else setPend i { e with waits := .exportRoom } s

/-- The deletion of a due record (R171): its pending entry is opened, a frame counted since cancels it, an idle event goes to the
profile's program where it asks for one, and else the flow is deleted. -/
def idleDeletion (key : List Byte) (s : State) : State :=
  match tunOf s key with
  | none => s
  | some (_, x) =>
    if !agesHere s || !isDue s x || countedSince s key || (pendOf s key).isSome then s
    else
      match freePend s, recordOf s key with
      | some i, some f =>
        let p := activeProfile s f.profile
        let entry : Pend := ⟨key, [], s.clock, .deletion, false, false, none⟩
        if raisesEvent p 2 then
          match raiseIdle (profProg p) f.idleS (if f.lead then key else f.link.getD key) key i s with
          | none => s
          | some s => setPend i entry s
        else finishDeletion i (setPend i entry s)
      | _, _ => s

/-- The result of an IDLE task for a key (Table 9.2): 0 deletes the flow, else it is kept. Frames that wait go on. -/
def idleResult (key : List Byte) (result : Nat) (s : State) : State :=
  match pendOf s key with
  | none => s
  | some (i, e) =>
    if e.waits != .deletion then s
    else if result = 0 then finishDeletion i s
    else afterDeletion i s

/-- The export queue has room again: decided deletions go on (R206). -/
def exportRoomCame (s : State) : State :=
  resume (fun e => e.waits = .exportRoom) finishDeletion s

/-- Whole multiples of n seconds in a time of ns nanoseconds since a time c. -/
def multiplesOf (n ns c : Nat) : Nat := (ns - c) / (n * nsPerSec)

/-- An active export is due (R204): a whole multiple of ACTIVE_S since CREATED has passed since the last sweep. -/
def activeDue (s : State) (f : Firkin) : Bool :=
  let p := activeProfile s f.profile
  let a := bitsOf p 223 208
  let c := stampNs f.created
  Profile.exports p && a != 0 && multiplesOf a s.nowNs c != multiplesOf a s.flow.sweptAt c

/-- The active export of a record that a sweep found due (R204, R206): while 49,152 records or more are queued it is skipped, counted, and
tried again at the next sweep. -/
def activeExport (key : List Byte) (s : State) : State :=
  if !s.flow.due.contains key then s
  else
    let s := { s with flow := { s.flow with due := s.flow.due.filter (fun k => k != key) } }
    match recordOf s key with
    | none => s
    | some f =>
      if 49152 ≤ s.flow.exports.length then
        report (srcFlow 11) (({ s with flow := { s.flow with skipped := s.flow.skipped ++ [key] } } : State).bump FLW_TLM_SKIP_CNT)
      else exportRecord f 0x02 s

/-- One sweep of the tun region (R170): the active exports that are due, those skipped before among them, and the deletion of every due
record. -/
def tunSweep (s : State) : State :=
  if !s.on FLW_AGE_CTRL_AGE_EN || s.clock < s.flow.sweepAt + clamp 15 65535 (s.get FLW_AGE_CTRL_SWEEP_S) * nsPerSec then s
  else
    let keys := s.flow.tun.slots.map (fun e => e.2.key)
    let due := keys.filter (fun k => agesHere s && (s.flow.skipped.contains k || (recordOf s k).any (activeDue s)))
    let s := { s with flow := { s.flow with due := s.flow.due.filter (fun k => !due.contains k) ++ due, skipped := [] } }
    let s := keys.foldl (fun s k => idleDeletion k s) s
    { s with flow := { s.flow with sweptAt := s.nowNs, sweepAt := s.clock } }

/-! ### Sweeps of commands (R173, R208) -/

/-- The keys of every record, in tun and unhomed. -/
def allKeys (s : State) : List (List Byte) :=
  let t := s.flow.tun.slots.map (fun e => e.2.key)
  t ++ ((s.flow.firkin.map (fun e => e.2.key)).filter (fun k => !t.contains k))

/-- PROFILE of every record with number n rewritten and written through (FLOW_REPROFILE); answers the flows affected. -/
def reprofile (n m : Nat) (s : State) : State × Nat :=
  (allKeys s).foldl (fun (r : State × Nat) k =>
    match recordOf r.1 k with
    | none => r
    | some f =>
      if f.profile != n then r
      else
        let s := if (firkinOf r.1 k).isSome then writeThrough k none (onFirkin k (fun x => { x with profile := m }) r.1)
          else onTun k (fun b => patch (padTo 512 b) 46 (leBytes 2 m)) r.1
        (s, r.2 + ofBool f.lead)) (s, 0)

/-! ### FLOW_REKEY (R173) -/

/-- The firkin copy of a key in a place under the present keys: where it stands, at a free slot, or, if it must stay, at one made free; else
it goes down with its linked record (R163, R164, R173). -/
def rehomeFirkin (key : List Byte) (s : State) : State :=
  match firkinOf s key with
  | none => s
  | some (i, f) =>
    let p := flowPlace s (firkinBuckets s) key
    let gone := fun (s : State) => ({ s with flow := { s.flow with firkin := Store.erase s.flow.firkin i } } : State)
    let put := fun (j : Nat) (s : State) => ({ s with flow := { s.flow with firkin := Store.set s.flow.firkin j f } } : State)
    if i / 8 = p.b0 || i / 8 = p.b1 then s
    else match firkinFree s key with
      | some j => put j (gone s)
      | none =>
        if !copyBusy s key then evictFirkin key s
        else match (firkinPlace key s).2 with
          | some j => put j (gone (firkinPlace key s).1)
          | none => s

/-- FLOW_REKEY begins (R173): the next key set a, b is installed and REKEY is set. -/
def rekeyStart (a b : Nat) (s : State) : State :=
  let slots := s.flow.tun.slots
  let r : Rekey := ⟨s.ascor.flowKeyA, s.ascor.flowKeyB, slots.map (fun e => e.2.key), slots.map (fun e => (e.1, e.2.key))⟩
  ({ s with ascor := { s.ascor with flowKeyA := a, flowKeyB := b }, flow := { s.flow with rekey := some r } } : State).put FLW_KEY_STAT_REKEY 1

/-- A record is no longer under the old keys. -/
def rekeyLeft (key : List Byte) (s : State) : State :=
  { s with flow := { s.flow with rekey := s.flow.rekey.map (fun r => { r with left := r.left.filter (fun k => k != key) }) } }

/-- The next record under the old keys is marked IN_PROG (R162, R173). -/
def rekeyMark (s : State) : State :=
  match s.flow.rekey.bind (fun r => r.left.head?) with
  | none => s
  | some key =>
    match tunOf s key with
    | none => s
    | some (i, x) => { s with flow := { s.flow with tun := { s.flow.tun with slots := Store.set s.flow.tun.slots i { x with inProgress := true } } } }

/-- The record of a key is inserted under the new keys by R127 and cleared from its old slot; its copies move or go down (R173). False where
it cannot be placed. -/
def rekeyRecord (key : List Byte) (s : State) : State × Bool :=
  match tunOf s key with
  | none => (rekeyLeft key s, true)
  | some (i, x) =>
    let place := flowPlace s (tunBuckets s)
    let p := place key
    let t := s.flow.tun
    let copies := fun (s : State) => rehomeFirkin key (evictGill key (rekeyLeft key s))
    if i / 8 = p.b0 || i / 8 = p.b1 then
      (copies { s with flow := { s.flow with tun := { t with slots := Store.set t.slots i { x with fp := p.fp, inProgress := false } } } }, true)
    else
      match insertBy place { t with slots := Store.set t.slots i { x with inProgress := true } } key x.data with
      | none => (s, false)
      | some t => (copies (setTun { t with slots := Store.erase t.slots i } s), true)

/-- An unhomed copy of a record that found no tun slot (R161). -/
def unhome (x : Slot) (s : State) : State :=
  let out := fun (f : Firkin) => { f with slot := none, pinned := true }
  if (firkinOf s x.key).isSome then onFirkin x.key out s
  else (enterFirkin (out (copyOfRecord s 0 x.data)) s).1

/-- The move back of a failed FLOW_REKEY (R173): the old keys are restored, every record returns to the slot it had, and those created since
are placed under the old keys, or stay unhomed. -/
def rekeyUndo (s : State) : State :=
  match s.flow.rekey with
  | none => s
  | some r =>
    let recs := s.flow.tun.slots
    let s := { s with ascor := { s.ascor with flowKeyA := r.keyA, flowKeyB := r.keyB } }
    let place := flowPlace s (tunBuckets s)
    let plain := fun (x : Slot) => { x with fp := (place x.key).fp, inProgress := false }
    let back : Store Slot := r.home.filterMap (fun e => (recs.find? (fun x => x.2.key == e.2)).map (fun x => (e.1, plain x.2)))
    let since := recs.filter (fun x => !r.home.any (fun e => e.2 == x.2.key))
    let t := since.foldl (fun (t : CTable × List Slot) x => match insertBy place t.1 x.2.key x.2.data with
      | some u => (u, t.2)
      | none => (t.1, t.2 ++ [x.2])) (⟨back, 0, 0⟩, [])
    let s := t.2.foldl (fun s x => unhome x s) (setTun { t.1 with flip := 0, victim := 0 } s)
    let s := (s.flow.gill.map (fun e => e.2.key)).foldl (fun s k => evictGill k s) s
    let s := (s.flow.firkin.map (fun e => e.2.key)).foldl (fun s k => rehomeFirkin k s) s
    tierStat (({ s with flow := { s.flow with rekey := none } } : State).put FLW_KEY_STAT_REKEY 0)

/-- Every unhomed record placed under the new keys; false where one cannot be. -/
def placeUnhomed (s : State) : State × Bool :=
  let lost := (s.flow.firkin.filter (fun e => e.2.slot.isNone)).map (fun e => e.2)
  lost.foldl (fun (r : State × Bool) f =>
    if !r.2 then r
    else
      let t := placeTun f r.1
      if t.2 then (onFirkin f.key (fun x => { x with pinned := false }) t.1, true) else (r.1, false)) (s, true)

/-- The end of FLOW_REKEY (R173): the records still under the old keys are moved, unhomed records placed, the old keys discarded, KEY_GEN
incremented and REKEY cleared; flip and victim are 0 (R127). False where a record cannot be placed: everything moves back. -/
def rekeyFinish (s : State) : State × Bool :=
  match s.flow.rekey with
  | none => (s, true)
  | some k =>
    let r := k.left.foldl (fun (r : State × Bool) k => if r.2 then rekeyRecord k r.1 else r) (s, true)
    let r := if r.2 then placeUnhomed r.1 else r
    if !r.2 then ((rekeyUndo r.1).put FLW_KEY_STAT_REHASH_REQ 0, false)
    else
      let s := { r.1 with flow := { r.1.flow with homing := [], rekey := none, tun := { r.1.flow.tun with flip := 0, victim := 0 } } }
      (tierStat (((s.inc FLW_KEY_STAT_KEY_GEN).put FLW_KEY_STAT_REKEY 0).put FLW_KEY_STAT_REHASH_REQ 0), true)

end Sys2Proof.Machine
end

