-- ==== Sys2Proof/Machine/Felric.lean ====
section
/-! DEFINITION. Felric tasks on their cores: dispatch, the views, the instructions, commit, faults, and the loss of a cluster (R210 to
R236). -/

namespace Sys2Proof.Machine

/-! ### Cores (R210, R216) -/

/-- The task that runs on core n. -/
def runningOn (s : State) (n : Nat) : Option Running := Store.get? s.fel.running n

/-- The task on core n replaced. -/
def setRunning (n : Nat) (r : Running) (s : State) : State :=
  { s with fel := { s.fel with running := Store.set s.fel.running n r } }

/-- A task raised before another (R216). -/
def raisedBefore (a b : Task) : Bool := a.seq < b.seq

/-- A task is eligible (R216): no task of its tag raised earlier is queued, spilled or running in its cluster; a FIRST task also
waits for the partner's messages received before it was raised (R365). -/
def eligibleTask (s : State) (t : Task) : Bool :=
  !((queuedTasks s t.cluster ++ runningTasks s t.cluster).any (fun x => x.tag == t.tag && raisedBefore x t)) &&
    (t.kind != 1 || t.rx ≤ s.pair.applied)

/-- The eligible task of a list raised first. -/
def firstEligible (s : State) : List Task → Option Task
  | [] => none
  | t :: ts =>
    match firstEligible s ts with
    | none => if eligibleTask s t then some t else none
    | some u => if eligibleTask s t && raisedBefore t u then some t else some u

/-- The task that a free core of cluster c takes (R216): from the highest level that holds an eligible one. -/
def nextTaskOf (s : State) (c : Nat) : Option Task :=
  [7, 6, 5, 4, 3, 2, 1, 0].findSome? (fun l => firstEligible s (readyList s c l))

/-- The program that a slot holds; slot 0 and a slot without a program give the base program. -/
def programOf (s : State) (slot : Nat) : Prog :=
  if slot = 0 then ⟨0, 0, 0, baseProgram⟩ else Store.getD s.fel.progs slot ⟨0, 0, 0, baseProgram⟩

/-! ### Views (R224) -/

/-- The 32 bytes of a task descriptor (Table 9.3). -/
def taskBytes (t : Task) : List Byte :=
  leBytes 4 (t.kind % 16 + t.prio % 8 * 2 ^ 4 + ofBool t.pcopy * 2 ^ 7 + t.prog % 256 * 2 ^ 8 + t.cluster % 4 * 2 ^ 16 +
    ofBool t.holds * 2 ^ 18 + ofBool t.spilled * 2 ^ 19) ++
  leBytes 4 (t.ident % 2 ^ 24) ++ leBytes 4 (t.slot.getD noSlot) ++ leBytes 4 (t.pend % 2 ^ 16) ++ leBytes 4 t.tag ++
  leBytes 4 t.raiseT ++ leBytes 8 t.edata

/-- The descriptor at the head of a pending entry. -/
def headOf (s : State) (i : Nat) : Option Desc := (Store.get? s.flow.pend i).bind (fun e => e.queue.head?)

/-- The frame that raised the task of a pending entry. -/
def causeOf (s : State) (i : Nat) : Option Cause := (Store.get? s.flow.pend i).bind (fun e => e.cause)

/-- The record view of a FIRST task (R224): KEY, PROFILE, CREATED and the profile's defaults, which are STATE, IDLE_S and the full meter
buckets; every other byte is 0. DEDUCED (log entry 131). -/
def firstView (s : State) (t : Task) : List Byte :=
  match causeOf s t.pend with
  | none => padTo 512 (padTo 40 t.key)
  | some c =>
    let p : Profile := profileOf s t.pcopy c.profile
    let st := match (headOf s t.pend).bind (firstState p) with | some x => x.1 | none => 0
    let f := freshCopy s p t.key true st c.profile none 0 c.time
    let b := patch (zeros 512) 0 (padTo 40 t.key ++ zeros 4 ++ leBytes 1 f.state ++ zeros 1 ++ leBytes 2 f.profile ++ stampBytes c.time)
    patch (patch b 88 (leBytes 4 f.idleS)) 192 (leBytes 4 (signedCode 32 f.tokC) ++ leBytes 4 (signedCode 32 f.tokE))

/-- The REC view (R224): the LEAD record with PDATA and the TLM area where the program asks for them, and the linked record. -/
def recView (s : State) (t : Task) (p : Prog) : List Byte :=
  if t.kind = 1 then padTo 768 (firstView s t)
  else
    let b := mergedRecord s t.lead
    let tlm := if bitOf p.flags 1 then slice b 256 128 else zeros 128
    let pdata := if bitOf p.flags 0 then slice b 384 128 else zeros 128
    let link := match (recordOf s t.lead).bind (fun f => f.link) with | none => zeros 256 | some k => slice (mergedRecord s k) 0 256
    slice b 0 256 ++ tlm ++ pdata ++ link

/-- The EVT view (Table 9.5). -/
def evtView (s : State) (t : Task) : List Byte :=
  let held := if t.kind = 1 || t.kind = 6 then (headOf s t.pend).bind (fun d => (frameOf s d.frame).map (fun x => (d, x))) else none
  match held with
  | none => padTo 256 (taskBytes t)
  | some (d, x) => padTo 256 (taskBytes t ++ leBytes 2 (frameLen x) ++ leBytes 1 d.port ++ zeros 29 ++ slice x.bytes 0 192)

/-! ### Dispatch (R212, R216, R223) -/

/-- FLW_CORE_NOW_n of a running task. -/
def coreNow (n : Nat) (t : Task) (s : State) : State :=
  ((s.put FLW_CORE_NOW_KIND t.kind n).put FLW_CORE_NOW_PROG t.prog n).put FLW_CORE_NOW_TASK_ID t.ident n

/-- A free core takes the next task of its cluster (R216): it is bound to the version current in its slot, and its views are
loaded. -/
def dispatchTask (n : Nat) (s : State) : State :=
  let c := n / 16
  if !serves s (5 + c) || (runningOn s n).isSome then s
  else
    match nextTaskOf s c with
    | none => s
    | some t =>
      let l := t.prio
      let s := setLists c l ((readyList s c l).filter (fun x => x != t)) (spillList s c l) s
      let p := programOf s t.prog
      let v := recView s t p
      let r : Running := ⟨t, p, 0, List.replicate 16 0, v, evtView s t, [], none, [], 0, leField v 44 1, none⟩
      let wait := (s.nowNs + 2 ^ 32 - t.raiseT) % 2 ^ 32
      let s := (s.bump FLW_DISP c l).bumpBy wait FLW_WAIT_SUM c l
      let s := if s.num FLW_WAIT_MAX c l < wait then s.setReg FLW_WAIT_MAX (BitVec.ofNat 64 wait) c l else s
      profileRefs (coreNow n t (setRunning n r s))

/-- The on-die list of a cluster and level refilled in order from its sub-ring (R217). -/
def refillSpill (c l : Nat) (s : State) : State :=
  let r := readyList s c l
  let p := spillList s c l
  let k := 4096 - r.length
  setLists c l (r ++ p.take k) (p.drop k) s

/-- The task owed to pending entry i is queued where there is space (R218). -/
def queueOwed (i : Nat) (s : State) : State :=
  match Store.get? s.flow.pend i with
  | none => s
  | some e =>
    match e.waits, e.queue with
    | .task true, d :: _ =>
      (match firkinOf s e.key with
      | none => awaitTask 1 (profProg (activeProfile s d.act.profile)) 0 e.key e.key i s
      | some (_, f) => awaitTask 6 (profProg (activeProfile s f.profile)) (stateCode f.state) (leadOf s e.key) e.key i s)
    | .task true, [] => dropPend i s
    | _, _ => s

/-! ### Ends (R220, R223, R227, R231) -/

/-- OLD_REFS of PROG_LOAD: running tasks of the slot last loaded that run another version than it holds (R223). -/
def programRefs (s : State) : State :=
  let slot := s.get FLW_PROG_STAT_SLOT
  s.put FLW_PROG_STAT_OLD_REFS ((s.fel.running.filter (fun e => e.2.task.prog == slot && slot != 0 &&
    e.2.prog.version != (programOf s slot).version)).length)

/-- PROFILE_COMMIT ends when no task carries the old copy bit (R175): the active copy is copied into the inactive one and the command
completes. -/
def profileSettle (s : State) : State :=
  if !s.on FLW_PROF_STAT_DRAINING || s.get FLW_PROF_STAT_OLD_REFS != 0 then s
  else
    let s := s.put FLW_PROF_STAT_DRAINING 0
    let s := onPolicy (!activeCopy s) (fun _ => policyOf s (activeCopy s)) s
    finishWaiting (fun w => w.opcode == 0x0406) (fun _ => resOk) s

/-- The old program version is freed once no running task uses it, and PROG_LOAD completes (R223). -/
def programSettle (s : State) : State :=
  let s := programRefs s
  if !s.on FLW_PROG_STAT_DRAINING || s.get FLW_PROG_STAT_OLD_REFS != 0 then s
  else finishWaiting (fun w => w.opcode == 0x0500) (fun _ => resOk) (s.put FLW_PROG_STAT_DRAINING 0)

/-- Core n is free again. -/
def freeCore (n : Nat) (s : State) : State :=
  let s := { s with fel := { s.fel with running := Store.erase s.fel.running n } }
  let s := s.setReg FLW_CORE_NOW 0 n
  profileSettle (profileRefs (programRefs s))

/-- A task ends by a fault (R227, R231): it commits nothing, the fault is counted and raised, and its held frames follow FAULT_ACT.
Codes are those of Table 16.9. -/
def taskFault (n code : Nat) (s : State) : State :=
  match runningOn s n with
  | none => s
  | some r =>
    let t := r.task
    let s := freeCore n s
    let s := ((s.bump FLW_TASK_FAULT_CNT).bump FLW_CORE_FAULT n).bump FLW_CORE_TASKS n
    let s := report (srcCluster (n / 16) 3) s
    let s := taskEnd n 2 code t s
    let act := if s.get FLW_TASK_CTRL_FAULT_ACT = 2 then 2 else 1
    if t.kind = 1 then firstResult t.pcopy t.pend act id none 0 s
    else if t.kind = 6 then exceptionResult t.pend act s
    else if t.kind = 4 then idleResult t.key 1 s
    else s

/-- The bytes that a task wrote laid over record bytes. -/
def overlay (written : List Nat) (view cur : List Byte) : List Byte :=
  written.foldl (fun b i => patch b i (slice view i 1)) cur

/-- A written byte of a range. -/
def wroteIn (written : List Nat) (lo hi : Nat) : Bool := written.any (fun i => lo ≤ i && i ≤ hi)

/-- TOK_C and TOK_E of a record replaced wherever it stands (R227). -/
def setTokens (key : List Byte) (c e : Int) (s : State) : State :=
  if (firkinOf s key).isSome then setMeter key c e (meterOf s key).2.2.1 s
  else onTun key (fun b => patch (padTo 512 b) 192 (leBytes 4 (signedCode 32 c) ++ leBytes 4 (signedCode 32 e))) s

/-- PDATA and bytes 0 to 127 of a record of state class written through (R167, R227): a record that stands only in tun is written there. -/
def throughRecord (key : List Byte) (pdata : Option (List Byte)) (s : State) : State :=
  if (firkinOf s key).isSome then writeThrough key pdata s
  else match pdata with | none => s | some p => onTun key (fun b => patch (padTo 512 b) 384 p) s

/-- The commit of what a task wrote into the record of its connection (R227, R228): STATE to both records unless it changed
meanwhile, the other fields to the LEAD record, PROG_VER, written through and mirrored. -/
def commitRecord (r : Running) (s : State) : State :=
  let key := r.task.lead
  let s := if (firkinOf s key).isNone then promoteTun key s else s
  match recordOf s key with
  | none => s
  | some f =>
    let p := profileOf s r.task.pcopy f.profile
    let old := stateCode f.state
    let new := stateCode (leField r.rec_ 44 1)
    let wroteState := r.written.contains 44
    let stale := wroteState && stateCode r.state0 != old
    let s := if stale then s.bump FLW_TASK_STALE_CNT else s
    let written := if stale then r.written.filter (fun i => i != 44) else r.written
    let cur := overlay written r.rec_ (padTo 768 (mergedRecord s key))
    let ver := r.prog.version
    let pdata := if wroteIn written 384 511 then some (slice cur 384 128) else none
    let f' := takeWritable f cur
    let moved := wroteState && !stale && new != old
    let idle := idleOf s p new
    let leadIdle := if moved && !wroteIn written 88 91 then idle else f'.idleS
    let s := onRecord key (fun x => { x with state := f'.state, verdict := f'.verdict, idleS := leadIdle, ct := f'.ct, progVer := ver }) s
    let s := if wroteIn written 192 199 then setTokens key f'.tokC f'.tokE s else s
    let s := match f.link with
      | none => s
      | some k => onRecord k (fun x => { x with state := x.state - stateCode x.state + stateCode f'.state, idleS := if moved then idle else x.idleS }) s
    let stateClass := wroteIn written 44 44 || wroteIn written 86 111 || pdata.isSome
    let s := if !stateClass then s
      else
        let s := throughRecord key pdata s
        let s := if moved then (match f.link with | none => s | some k => throughRecord k none s) else s
        let s := mirrorState key false s
        match pdata with | none => s | some b => mirrorPdata key b s
    if moved && raisesEvent p 0 then raiseTask 2 (profProg p) (old + 256 * new) key key s else s

/-- The notices of a commit (Table 16.9). -/
def postNotes (n : Nat) (t : Task) (notes : List Word64) (s : State) : State :=
  notes.foldl (fun s v => postEvent 0x0021 n (leBytes 8 v.toNat ++ leBytes 4 ((slotOf s t.lead).getD noSlot)) s) s

/-- END (R214, R227): a result above 3 or a STATE not listed in Table 8.2 is a fault; else the commit applies in order: bytes,
timer, notices, result. The bytes of a FIRST task lie in the record that its result creates; a timer for a record that the result does
not create is disarmed. The commit waits while the write-through queue has no room for its records. -/
def taskCommit (n result : Nat) (r : Running) (s : State) : State :=
  let t := r.task
  if 3 < result then taskFault n 6 (s.bump FLW_CORE_BUSY n)
  else if r.written.contains 44 && !stateListed (stateCode (leField r.rec_ 44 1)) then taskFault n 7 (s.bump FLW_CORE_BUSY n)
  else if !wtRoom s t.lead || 16382 < s.flow.wt.length then s
  else
    let first := t.kind = 1
    let s := freeCore n s
    let s := if first then s else commitRecord r s
    let pdata := if wroteIn r.written 384 511 then some (slice (overlay r.written r.rec_ (zeros 768)) 384 128) else none
    let extra : Over := overlay r.written r.rec_
    let s := match r.tarm with | none => s | some v => if first || keyHeld s t.lead then armTimer t.lead v.toNat s else s
    let s := postNotes n t r.notes s
    let s := if first then
        let s := firstResult t.pcopy t.pend result extra pdata r.prog.version s
        if keyHeld s t.lead then s else disarmTimer t.lead s
      else if t.kind = 6 then exceptionResult t.pend result s
      else if t.kind = 4 then idleResult t.key (if result = 0 then 0 else 1) s
      else s
    taskEnd n 0 0 t ((s.bump FLW_CORE_BUSY n).bump FLW_CORE_TASKS n)

/-! ### Instructions (R226, R229 to R233) -/

/-- Register g of a core; g0 reads as 0 (R210). -/
def gpr (r : Running) (g : Nat) : Word64 := if g = 0 then 0 else r.regs.getD g 0

/-- Register g written; a write to g0 is ignored (R210). -/
def setGpr (g : Nat) (v : Word64) (r : Running) : Running := if g = 0 then r else { r with regs := r.regs.set g v }

/-- The task goes on at the next word after an instruction of k cycles. -/
def nextWord (k : Nat) (r : Running) : Running := { r with pc := r.pc + 1, cycles := r.cycles + k }

/-- An immediate of 18 bits, sign-extended. -/
def imm64 (i : Nat) : Word64 := BitVec.ofInt 64 (signedOf 18 i)

/-- The result of an operation on two values (Table 9.7): codes 0x01 to 0x0E and CRCW. -/
def aluOp (op : Nat) (a b : Word64) : Word64 :=
  let n := b.toNat % 64
  if op = 0x01 then a + b
  else if op = 0x02 then a - b
  else if op = 0x03 then a &&& b
  else if op = 0x04 then a ||| b
  else if op = 0x05 then a ^^^ b
  else if op = 0x06 then a <<< n
  else if op = 0x07 then a >>> n
  else if op = 0x08 then a.sshiftRight n
  else if op = 0x09 then a.rotateLeft n
  else if op = 0x0A then a * b
  else if op = 0x0B then (if b.toNat < a.toNat then b else a)
  else if op = 0x0C then (if a.toNat < b.toNat then b else a)
  else if op = 0x0D then BitVec.ofNat 64 (ofBool (a.toNat < b.toNat))
  else if op = 0x0E then BitVec.ofNat 64 (ofBool (a.toInt < b.toInt))
  else BitVec.ofNat 64 (crc32c (leBytes 8 b.toNat) (a.toNat % 2 ^ 32))

/-- ROTB (R230): mode IMM[4:3], lanes IMM[2:0]. -/
def rotb (a : Word64) (i : Nat) : Word64 :=
  let bs := leBytes 8 a.toNat
  let m := i / 8 % 4
  if m = 0 then a.rotateLeft (8 * (i % 8))
  else if m = 1 then BitVec.ofNat 64 (leNat (bs.take 2).reverse)
  else if m = 2 then BitVec.ofNat 64 (leNat (bs.take 4).reverse)
  else BitVec.ofNat 64 (leNat bs.reverse)

/-- The result of an operation on a register and an immediate (Table 9.7). -/
def immOp (op : Nat) (a : Word64) (i : Nat) : Word64 :=
  let z := BitVec.ofNat 64 i
  if op = 0x10 then a + imm64 i
  else if op = 0x11 then a &&& z
  else if op = 0x12 then a ||| z
  else if op = 0x13 then a ^^^ z
  else if op = 0x14 then aluOp 0x06 a z
  else if op = 0x15 then aluOp 0x07 a z
  else if op = 0x16 then aluOp 0x08 a z
  else if op = 0x17 then aluOp 0x09 a z
  else if op = 0x18 then imm64 i
  else if op = 0x19 then (a <<< 16) ||| BitVec.ofNat 64 (i % 65536)
  else rotb a i

/-- The conditions of BR (Table 9.7). -/
def brCond (c : Nat) (a b : Word64) : Bool :=
  if c = 0 then a == b
  else if c = 1 then a != b
  else if c = 2 then a.toInt < b.toInt
  else if c = 3 then b.toInt ≤ a.toInt
  else if c = 4 then a.toNat < b.toNat
  else if c = 5 then b.toNat ≤ a.toNat
  else if c = 6 then (a &&& b) != 0
  else true

/-- A byte of the scratchpad of core n; a byte not written since the cluster's last reset holds an open value (R232). -/
def scratchByte (s : State) (n a : Nat) : Byte :=
  Store.getD s.fel.scratch (65536 * n + a) (Config.scratchByte (Store.getD s.fel.resets (n / 16) 0) (65536 * n + a))

/-- A byte of the shared banks; one never written reads as 0. -/
def bankByte (s : State) (a : Nat) : Byte := Store.getD s.fel.banks a 0

/-- Core n may access bank b under the program's BANK_MASK (R233). -/
def bankOk (s : State) (n : Nat) (p : Prog) (b : Nat) : Bool := bitOf p.banks b && s.get FLW_BANK_OWN_OWNER b == n

/-- What a memory access comes to: a value to take, or a fault. -/
inductive Access where
  | value (v : Nat)
  | fault (code : Nat)
deriving DecidableEq, Repr

/-- A load of k bytes (R224, R226, R233): little-endian, zero-extended. -/
def loadFrom (s : State) (n : Nat) (r : Running) (space addr k : Nat) : Access :=
  if space = 0 then (if addr + k ≤ 768 then .value (leField r.rec_ addr k) else .fault 2)
  else if space = 1 then (if addr + k ≤ 256 then .value (leField r.evt addr k) else .fault 2)
  else if space = 2 then
    (if addr + k ≤ 65536 then .value (leNat ((List.range k).map (fun i => scratchByte s n (addr + i)))) else .fault 2)
  else if 8388608 < addr + k then .fault 2
  else if !bankOk s n r.prog (addr / 2 ^ 18) || !bankOk s n r.prog ((addr + k - 1) / 2 ^ 18) then .fault 3
  else .value (leNat ((List.range k).map (fun i => bankByte s (addr + i))))

/-- A byte stored into the REC view: bits 6 and 7 of STATE keep their value (R225). -/
def recByte (v : List Byte) (i : Nat) (x : Byte) : List Byte :=
  if i = 44 then patch v 44 (leBytes 1 (leField v 44 1 / 64 * 64 + x.toNat % 64)) else patch v i [x]

/-- A store of bytes by core n: the state and the task after it, or a fault (R225 to R227, R233). -/
def storeTo (n : Nat) (r : Running) (space addr : Nat) (bs : List Byte) (s : State) : Sum (State × Running) Nat :=
  let k := bs.length
  if space = 0 then
    if addr + k ≤ 512 && (List.range k).all (fun i => recWritable (addr + i)) then
      let v := bs.zipIdx.foldl (fun v e => recByte v (addr + e.2) e.1) r.rec_
      let w := (List.range k).map (fun i => addr + i)
      .inl (s, { r with rec_ := v, written := r.written ++ w.filter (fun i => !r.written.contains i) })
    else .inr 2
  else if space = 1 then .inr 2
  else if space = 2 then
    if addr + k ≤ 65536 then
      let m := bs.zipIdx.foldl (fun m e => Store.set m (65536 * n + addr + e.2) e.1) s.fel.scratch
      .inl ({ s with fel := { s.fel with scratch := m } }, r)
    else .inr 2
  else if 8388608 < addr + k then .inr 2
  else if !bankOk s n r.prog (addr / 2 ^ 18) || !bankOk s n r.prog ((addr + k - 1) / 2 ^ 18) then .inr 3
  else
    let m := bs.zipIdx.foldl (fun m e => Store.put m (addr + e.2) 0 e.1) s.fel.banks
    .inl ({ s with fel := { s.fel with banks := m } }, r)

/-- A CSR as a task reads it (Table 9.7). -/
def readCsr (s : State) (n : Nat) (r : Running) (c : Nat) : Word64 :=
  if c = 0 then BitVec.ofNat 64 s.nowNs
  else if c = 1 then BitVec.ofNat 64 n
  else if c = 2 then BitVec.ofNat 64 r.task.ident
  else if c = 3 then BitVec.ofNat 64 r.prog.version
  else if c = 4 then BitVec.ofNat 64 r.task.kind
  else if 0x100 ≤ c && c < 0x120 then BitVec.ofNat 64 (s.get FLW_BANK_OWN_OWNER (c - 0x100))
  else 0

/-- The task of core n goes on as r, its busy cycles counted. -/
def proceed (n : Nat) (before r : Running) (s : State) : State :=
  (setRunning n r s).bumpBy (r.cycles - before.cycles) FLW_CORE_BUSY n

/-- A word of k cycles ends the task of core n by a fault. -/
def wordFault (n k code : Nat) (s : State) : State := taskFault n code (s.bumpBy k FLW_CORE_BUSY n)

/-- MAX_CYCLES (R231). -/
def cycleLimit (s : State) : Nat := clamp 512 8191 (s.get FLW_TASK_CTRL_MAX_CYCLES)

/-- Cycles of 1.8 GHz that the BWAIT at a task's next word has waited, at most 4096 (R210, Table 9.7). -/
def waited (s : State) (r : Running) : Nat :=
  match r.waitAt with | none => 0 | some t => min 4096 ((s.clock - t) * 9 / 5)

/-- BWAIT (Table 9.7): 1 once the core owns the bank, after the cycles it waited; 0 after 4096 cycles, at which timeout holds; else the task
waits, and reaches its cycle limit while it does (R231). -/
def execBwait (n d b : Nat) (timeout : Bool) (r : Running) (s : State) : State :=
  let go := fun (k v : Nat) => proceed n r { nextWord k (setGpr d (BitVec.ofNat 64 v) r) with waitAt := none } s
  let w := if timeout then 4096 else waited s r
  if cycleLimit s ≤ r.cycles + w then wordFault n w 1 s
  else if s.get FLW_BANK_OWN_OWNER b = n then go (max 1 (waited s r)) 1
  else if timeout then go 4096 0
  else if r.waitAt.isSome then s
  else setRunning n { r with waitAt := some s.clock } s

/-- An instruction of core n executes (Table 9.7). timeout: a BWAIT has waited its 4096 cycles. -/
def execFelric (n : Nat) (timeout : Bool) (x : FInstr) (r : Running) (s : State) : State :=
  match x with
  | .regs op d a b =>
    let k := if op = 0x0A then 3 else if op = 0x1B then 2 else 1
    proceed n r (nextWord k (setGpr d (aluOp op (gpr r a) (gpr r b)) r)) s
  | .imm op d a i => proceed n r (nextWord 1 (setGpr d (immOp op (gpr r a) i) r)) s
  | .mem st d a sp sz off =>
    let addr := ((gpr r a).toNat + off) % 2 ^ 64
    let k := if sp = 3 then 6 else 2
    if st then
      match storeTo n r sp addr (leBytes (sizeBytes sz) (gpr r d).toNat) s with
      | .inl (s, r') => proceed n r (nextWord k r') s
      | .inr c => wordFault n k c s
    else
      match loadFrom s n r sp addr (sizeBytes sz) with
      | .value v => proceed n r (nextWord k (setGpr d (BitVec.ofNat 64 v) r)) s
      | .fault c => wordFault n k c s
  | .br a b c dist =>
    let r' := nextWord 1 r
    proceed n r (if brCond c (gpr r a) (gpr r b) then { r' with pc := r.pc + dist } else r') s
  | .ctl op d a m =>
    if op = 0x30 then proceed n r (nextWord 1 (setGpr d (readCsr s n r m) r)) s
    else if op = 0x31 then
      if 0x100 ≤ m && m < 0x120 then
        (if s.get FLW_BANK_OWN_OWNER (m - 0x100) != n then wordFault n 1 3 s
        else proceed n r (nextWord 1 r) (s.put FLW_BANK_OWN_OWNER ((gpr r a).toNat % 128) (m - 0x100)))
      else proceed n r (nextWord 1 r) s
    else if op = 0x32 then execBwait n d (m % 32) timeout r s
    else if op = 0x34 then
      if 4 ≤ r.notes.length then wordFault n 1 5 s
      else proceed n r (nextWord 1 { r with notes := r.notes ++ [gpr r a] }) s
    else proceed n r (nextWord 1 { r with tarm := some (gpr r a) }) s
  | .fin result => taskCommit n result r s

/-- The next word of core n is the instruction x, and executes; a task at its cycle limit ends with fault TIME instead (R231). Where
the core runs no task, rests or is fenced, or its next word is another, nothing happens. -/
def felricStep (n : Nat) (timeout : Bool) (x : FInstr) (s : State) : State :=
  match runningOn s n with
  | none => s
  | some r =>
    if !serves s (5 + n / 16) || (r.prog.words[r.pc]?).bind decodeFelric != some x then s
    else if cycleLimit s ≤ r.cycles then taskFault n 1 s
    else execFelric n timeout x r s

/-- A task that has run MAX_CYCLES cycles, those of a BWAIT that still waits among them, ends with fault TIME (R231). -/
def taskTimeFault (n : Nat) (s : State) : State :=
  match runningOn s n with
  | none => s
  | some r => if cycleLimit s ≤ r.cycles + waited s r then wordFault n (waited s r) 1 s else s

/-! ### Loss of a cluster (R233, R236) -/

/-- A task placed in a list ordered by raise. -/
def insertTask (t : Task) : List Task → List Task
  | [] => [t]
  | u :: us => if raisedBefore t u then t :: u :: us else u :: insertTask t us

/-- Tasks in their order of raise. -/
def byRaise (l : List Task) : List Task := l.foldr insertTask []

/-- The map with every entry of cluster c renamed in ascending order to the clusters of a list in rotation (R236). -/
def rewriteMap (c : Nat) (goal : List Nat) (s : State) : State :=
  if goal.isEmpty then s
  else
    ((List.range 64).foldl (fun (r : State × Nat) i =>
      let reg := if i < 32 then FLW_CLUSTER_MAP_0 else FLW_CLUSTER_MAP_1
      let lo := 2 * (i % 32)
      if bitsOf (r.1.num reg) (lo + 1) lo != c then r
      else (r.1.setReg reg (BitVec.ofNat 64 (withBits (r.1.num reg) (lo + 1) lo (goal.getD (r.2 % goal.length) 0))), r.2 + 1)) (s, 0)).1

/-- The banks that the cores of a cluster own pass to no owner (R233). -/
def releaseBanks (c : Nat) (s : State) : State :=
  (List.range 32).foldl (fun s b =>
    let o := s.get FLW_BANK_OWN_OWNER b
    if o < 64 && o / 16 = c then s.put FLW_BANK_OWN_OWNER 0x7F b else s) s

/-- A task of a lost cluster is queued in the cluster that now serves its tag. -/
def moveTask (t : Task) (s : State) : State :=
  let t := { t with cluster := clusterOf s t.tag }
  match queueTask t s with
  | some s => s
  | none =>
    if t.kind = 1 || t.kind = 6 then
      match Store.get? s.flow.pend t.pend with
      | none => s
      | some e => setPend t.pend { e with waits := .task true } s
    else if t.kind = 4 then idleResult t.key 1 s
    else report (srcTask 1) (s.bump FLW_TASK_DROP_CNT)

/-- Cluster c is lost (R236): its map entries, queued tasks and running tasks move to the clusters that remain; a running task
restarts from its event. Its banks lose their owners and its scratchpads their contents. -/
def clusterLoss (c : Nat) (s : State) : State :=
  let rest := (List.range 4).filter (fun k => k != c && !fenced s (5 + k))
  if rest.isEmpty then s
  else
    let ran := runningTasks s c
    let tasks := byRaise (ran ++ queuedTasks s c)
    let s := rewriteMap c rest s
    let s := (List.range 8).foldl (fun s l => setLists c l [] [] s) s
    let s := (List.range 16).foldl (fun s k => s.setReg FLW_CORE_NOW 0 (16 * c + k)) s
    let s := { s with fel := { s.fel with running := s.fel.running.filter (fun e => e.1 / 16 != c) } }
    let s := { s with fel := { s.fel with scratch := s.fel.scratch.filter (fun e => e.1 / 65536 / 16 != c) } }
    let s := { s with fel := { s.fel with resets := Store.upd s.fel.resets c 0 (· + 1) } }
    let s := releaseBanks c s
    let s := ran.foldl (fun s _ => report (srcTask 2) (s.bump FLW_TASK_RESTART_CNT)) s
    profileRefs (programRefs (tasks.foldl (fun s t => moveTask t s) s))

end Sys2Proof.Machine
end

