-- ==== Sys2Proof/Machine/Pair.lean ====
section
/-! DEFINITION. The Varing pair (chapter 14): lanes and their framing, containers and their striping, liveness, takeover, and the
receipt of mirror messages. -/

namespace Sys2Proof.Machine

/-! ### Pair state (R339, R358, R367 to R372) -/

/-- The pair state set, with the event of Table 16.9 and the black-box entry of R446 where it changes. -/
def setPairState (n : Nat) (s : State) : State :=
  let old := pairState s
  if old = n then s else bbNote 5 8 4 (postEvent 0x0040 0 (leBytes 1 n ++ leBytes 1 old) (s.put VAR_STAT_STATE n))

/-- PAIR_HALF in both registers that show it (R340, Table 14.10). -/
def setPairHalf (h : Nat) (s : State) : State := (s.put VAR_STAT_PAIR_HALF h).put FLW_NAT_CTRL_PAIR_HALF h

/-- The container source is available (R358): paired, authenticated, the partner not fenced, no cessation. -/
def sourceReady (s : State) : Bool := 2 ≤ pairState s && pairState s ≤ 4 && !s.pair.ceased

/-- The joining device has the higher identity fingerprint, or alone holds no record (R340). -/
def joins (own partner : Nat) (ownHolds partnerHolds : Bool) : Bool :=
  if ownHolds then false else if partnerHolds then true else partner < own

/-- Pair set-up fails (R340): STATE 0, the fault, and the waiting VAR_PAIR_SETUP completes with a configuration error. -/
def setupFails (s : State) : State :=
  finishWaiting (fun w => w.opcode == 0x0A00) (fun _ => resFail 8) (report (srcPair 6) (setPairState 0 s))

/-- The pair as it stands without a partner, its lanes kept. -/
def noPartner (p : PairSide) : PairSide :=
  { PairSide.reset with ceased := p.ceased, lanes := p.lanes, kicks := p.kicks, received := p.received, applied := p.received }

/-- VAR_PAIR_DISSOLVE (R339, R370): STATE 0 and COVERED 0; a set-up that still runs fails. PAIR_HALF stays (R191). -/
def pairDissolve (s : State) : State :=
  let s := releasePartnerWaits s
  let s := if pairState s = 1 then setupFails s else setPairState 0 s
  let s := (((s.put VAR_STAT_COVERED 0).put VAR_STAT_JOINER 0).put VAR_STAT_SYNC_PCT 0)
  let s := ((s.put VAR_STAT_LINK_ALIVE 0).put VAR_STAT_WIT_ALIVE 0).setReg VAR_PARTNER_ID 0
  { s with pair := noPartner s.pair }

/-- VAR_SOLO, or SOLO_HOLD_MS passed (R372): the survivor takes the whole port range. -/
def goSolo (s : State) : State := if pairState s = 5 then setPairHalf 0 s else s

/-- SOLO_HOLD_MS has passed with nothing from the partner (R372). -/
def soloHold (s : State) : State :=
  let ms := clamp 0 60000 (s.get VAR_TIMING2_SOLO_HOLD_MS)
  if ms = 0 || s.clock < s.pair.heard + ms * 1000000 then s else goSolo s

/-- Fail-silent cessation (R368): heartbeats and witness frames stop, AIS goes out on every lane, every port is quieted. -/
def cease (s : State) : State :=
  if s.pair.ceased || pairState s < 2 || 4 < pairState s then s
  else (List.range 96).foldl (fun s p => quietPort p s) { s with pair := { s.pair with ceased := true } }

/-- Step 1 of a takeover (R371): STATE 5, the partner fenced, the event; frames that wait for it go on (R195). -/
def enterSolo (s : State) : State :=
  releasePartnerWaits (report (srcPair 5) ((setPairState 5 s).bump VAR_TAKEOVER_CNT))

/-- Both paths are silent (Table 14.9). -/
def bothSilent (s : State) : State :=
  let st := pairState s
  if st = 1 then setupFails s
  else if st = 3 || ((st = 2 || st = 4) && s.on VAR_STAT_COVERED) then enterSolo s
  else if st = 2 || st = 4 then releasePartnerWaits (setPairState 6 s)
  else s

/-- No heartbeat has been accepted within LINK_MISS_NS (R369): the link counts as silent. -/
def linkSilent (s : State) : State :=
  if s.clock < s.pair.hbHeard + clamp 1000 60000 (s.get VAR_TIMING_LINK_MISS_NS) then s
  else
    let s := s.put VAR_STAT_LINK_ALIVE 0
    if !s.on VAR_STAT_WIT_ALIVE then bothSilent s
    else if pairState s = 1 then setupFails s
    else if pairState s = 2 || pairState s = 3 then
      releasePartnerWaits (report (srcPair 0) ((setPairState 4 s).bump VAR_SUSPEND_CNT))
    else s

/-- No witness frame has been accepted within WIT_MISS_NS (R369): the witness counts as silent. -/
def witnessSilent (s : State) : State :=
  if s.clock < s.pair.witHeard + clamp 2000 60000 (s.get VAR_TIMING_WIT_MISS_NS) then s
  else
    let s := s.put VAR_STAT_WIT_ALIVE 0
    if !s.on VAR_STAT_LINK_ALIVE then bothSilent s
    else if 1 ≤ pairState s && pairState s ≤ 4 then report (srcPair 1) s
    else s

/-- The link returns in STATE 4 (R369): STATE 2, and every record is owed to the partner. -/
def linkBack (s : State) : State :=
  if pairState s = 4 && s.on VAR_STAT_LINK_ALIVE then
    let keys := allKeys s
    (setPairState 2 { s with pair := { s.pair with syncKeys := keys, syncTotal := keys.length } }).put VAR_STAT_SYNC_PCT 0
  else s

/-- Mutual authentication in SETUP (R340, R396). ok: every check of the partner passed and both devices have the same TUN_BUCKETS
and MIRROR; partner: its fingerprint; holds: it holds flow records. -/
def mutualAuth (ok : Bool) (partner : Nat) (holds : Bool) (s : State) : State :=
  if pairState s != 1 then s
  else
    let keys := allKeys s
    if !ok || s.num VAR_PARTNER_ID != partner || (holds && !keys.isEmpty) then setupFails s
    else
      let own := s.num ASC_ID_FP
      let join := joins own partner (!keys.isEmpty) holds
      let s := setPairHalf (if own < partner then 1 else 2) (s.flag VAR_STAT_JOINER join)
      let s := { s with pair := { s.pair with sendKey := s.free, recvKey := s.free + 1, witSendKey := s.free + 2, witRecvKey := s.free + 3, syncKeys := if join then [] else keys, syncTotal := if join then 0 else keys.length }, free := s.free + 4 }
      let s := if join then drawFlowKeys s else s.put VAR_STAT_COVERED 1
      finishWaiting (fun w => w.opcode == 0x0A00) (fun _ => resOk) (setPairState 2 s)

/-- A health kick of domain d restarts its count (R368). -/
def healthKick (d : Nat) (s : State) : State := { s with pair := { s.pair with kicks := Store.set s.pair.kicks d s.clock } }

/-- A kick of domain d is missing for KICK_NS (R368): the fault, and in STATE 2 to 4 the cessation. -/
def kickMissed (d : Nat) (s : State) : State :=
  if s.clock < Store.getD s.pair.kicks d 0 + clamp 500 10000 (s.get VAR_TIMING2_KICK_NS) then s
  else cease (report (srcHealthKick d) s)

/-! ### Lanes (R345 to R351, R355 to R357) -/

/-- A lane after reset: hunting, without signal. -/
def freshLane : Lane :=
  ⟨0, 0, 0, false, 0, 0, none, none, 0, 0, 0, 0, 0, [1, 2, 3], 0, 0, [], 0, none, 0, 0, false, ⟨0, 0, 0, 0, 63, 0x3FF, [], [], [], []⟩⟩

/-- The lane k. -/
def varLane (s : State) (k : Nat) : Lane := Store.getD s.pair.lanes k freshLane

/-- The state with lane k changed. -/
def onLane (k : Nat) (f : Lane → Lane) (s : State) : State :=
  { s with pair := { s.pair with lanes := Store.upd s.pair.lanes k freshLane f } }

/-- One byte of a CRC-16 with polynomial 0x1021, not reflected (R344). -/
def crc16Byte (c : Nat) (b : Byte) : Nat :=
  (List.range 8).foldl (fun c _ => (if 2 ^ 15 ≤ c then 2 * c % 2 ^ 16 ^^^ 0x1021 else 2 * c) % 2 ^ 16) (c ^^^ (b.toNat * 256))

/-- CRC-16 of R344: initial value 0xFFFF, no final inversion. -/
def crc16 (bs : List Byte) : Nat := bs.foldl crc16Byte 0xFFFF

/-- Whether a header's HCRC fits (R345). -/
def headerFits (h : List Byte) : Bool := crc16 (slice h 0 14) == beField h 14 2

/-- Lane k in striping or not (R355). -/
def setStripe (k : Nat) (b : Bool) (s : State) : State :=
  (s.flag VAR_LANE_STAT_IN_STRIPE b k).put VAR_STAT_LANES_IN (withBit (s.get VAR_STAT_LANES_IN) k b)

/-- Lane k carries containers of this device (R355). -/
def inStripe (s : State) (k : Nat) : Bool := s.on VAR_LANE_STAT_IN_STRIPE k

/-- Lane k leaves striping (R355): what it sent and the partner has not acknowledged is due again. -/
def leaveStripe (k : Nat) (s : State) : State :=
  if !inStripe s k then s
  else
    let l := s.pair.sent.map (fun (c : SentContainer) => if c.lane = k then { c with due := true } else c)
    onLane k (fun x => { x with tx := { x.tx with queue := [] } }) (setStripe k false { s with pair := { s.pair with sent := l } })

/-- The lane event of Table 16.9. -/
def laneEvent (k : Nat) (s : State) : State :=
  postEvent 0x0013 k (leBytes 1 (s.get VAR_LANE_STAT_DEFECT k) ++ leBytes 1 (s.get VAR_LANE_STAT_RDI_RX k)) s

/-- A defect of lane k declared or cleared (R355 to R357): the highest is reported, and is a fault as it comes to be reported; RDI goes out
for codes 1 to 5, and the lane leaves striping. -/
def setDefect (k code : Nat) (present : Bool) (s : State) : State :=
  let l := varLane s k
  if l.defects.contains code == present then s
  else
    let ds := if present then l.defects ++ [code] else l.defects.filter (fun c => c != code)
    let top := ((List.range 7).find? (fun c => 1 ≤ c && ds.contains c)).getD 0
    let was := s.get VAR_LANE_STAT_DEFECT k
    let s := onLane k (fun l => { l with defects := ds, freeSince := if ds.isEmpty then s.clock else l.freeSince }) s
    let s := (s.put VAR_LANE_STAT_DEFECT top k).flag VAR_LANE_STAT_RDI_TX (1 ≤ top && top ≤ 5) k
    let s := if ds.isEmpty then s else leaveStripe k s
    if top = was then s
    else
      let s := laneEvent k s
      if top = 6 then report (srcPair 11) (raiseAt (srcLane k 0) 6 s)
      else if top = 0 then s
      else raiseAt (srcLane k 0) top s

/-- RDI of the partner on lane k (R357): RDI_RX, its event and fault, and the lane leaves striping in the sending direction. -/
def rdiReceived (k : Nat) (on : Bool) (s : State) : State :=
  if s.on VAR_LANE_STAT_RDI_RX k == on then s
  else
    let s := laneEvent k (s.flag VAR_LANE_STAT_RDI_RX on k)
    if on then report (srcLane k 2) (leaveStripe k s) else s

/-- Lane k has been free of defects for 1 ms (R355). -/
def laneRejoin (k : Nat) (s : State) : State :=
  let l := varLane s k
  if l.defects.isEmpty && l.freeSince + 1000000 ≤ s.clock && bitOf (s.get VAR_LANE_CFG_LANE_EN) k && !s.on VAR_LANE_STAT_RDI_RX k &&
    s.get VAR_LANE_STAT_FRAMER k = 2 then setStripe k true s else s

/-- The count of a 1 ms window of lane k: HCRC failures and uncorrectable FEC codewords (Table 14.6, code 6). -/
def degWindow (k n : Nat) (s : State) : State :=
  if clamp 1 255 (s.get VAR_LANE_CFG_DEG_THRESH) ≤ n then
    setDefect k 6 true (onLane k (fun l => { l with degGood := 0 }) s)
  else
    let s := onLane k (fun l => { l with degGood := l.degGood + 1 }) s
    if 10 ≤ (varLane s k).degGood then setDefect k 6 false s else s

/-- Payload bytes of a frame by its JC (R348); JC 3 leaves the length open, taken as without justification. -/
def payloadLen (jc : Nat) : Nat := if jc = 1 then 4064 else if jc = 2 then 4080 else 4072

/-- The expected pointer of the next frame (R349). -/
def nextPointer (len p : Nat) : Nat := (512 - (len - 8 * p) % 512) % 512 / 8

/-- The pointer of a fitting header (R351). DEDUCED (log entry 135): the header whose pointer becomes the candidate is followed by three that
each carry the pointer that the one before implies; the third adopts it. -/
def pointerStep (k jc ptr : Nat) (s : State) : State :=
  let l := varLane s k
  let len := payloadLen jc
  if l.expect = some ptr then
    let s := s.put VAR_LANE_STAT_PTR ptr k
    onLane k (fun l => { l with expect := some (nextPointer len ptr), cand := none, ptrMiss := 0 }) s
  else
    let kept := l.expect.map (nextPointer len)
    let run := match l.cand with | some (e, n) => if e = ptr then n + 1 else 0 | none => 0
    if ptr ≤ 509 && 3 ≤ run then
      let s := (s.put VAR_LANE_STAT_PTR ptr k).bump VAR_PTR_ADOPT k
      let s := onLane k (fun l => { l with expect := some (nextPointer len ptr), cand := none, ptrMiss := 0 }) s
      setDefect k 5 false s
    else
      let s := match l.expect with | some p => s.put VAR_LANE_STAT_PTR p k | none => s
      let cand := if ptr ≤ 509 then some (nextPointer len ptr, run) else none
      let s := onLane k (fun l => { l with expect := kept, cand := cand, ptrMiss := l.ptrMiss + 1 }) s
      if 8 ≤ l.ptrMiss + 1 then setDefect k 5 true s else s

/-- The signed arrival skew of lane k (Table 14.11): its header of MFAS 0 against the earliest of the lanes in multiframe alignment whose
own came within half a multiframe of it. -/
def skewOf (s : State) (k : Nat) : Nat :=
  let at_ := fun (j : Nat) => (varLane s j).mfStart
  let near := (List.range 4).filter (fun j => j == k || ((varLane s j).aligned && ((at_ k : Int) - (at_ j : Int)).natAbs < 10486))
  signedCode 16 (clampInt (-(2 ^ 15 : Nat)) ((2 ^ 15 - 1 : Nat) : Int) ((at_ k : Int) - (near.foldl (fun n j => min n (at_ j)) (at_ k) : Int)))

/-- MFAS and overhead of a fitting header (R346). In alignment the MFAS expected runs on by one a frame, whatever the headers carry. -/
def mfasStep (k mfas oh : Nat) (s : State) : State :=
  let l := varLane s k
  let hit := mfas == l.mfNext
  let run := if hit && 0 < l.mfRun then l.mfRun + 1 else 1
  let miss := if hit then 0 else l.mfMiss + 1
  let aligned := if l.aligned then miss < 5 else 2 ≤ run
  let ohBytes := beBytes 2 oh
  let next := if !hit then [] else if mfas = 0 then ohBytes else if l.overhead.length = 2 * mfas then l.overhead ++ ohBytes else []
  let s := onLane k (fun l => { l with
    mfRun := run, mfMiss := if aligned then miss else 0, aligned := aligned, overhead := if aligned then next else [],
    mfNext := ((if aligned && !hit then l.mfNext else mfas) + 1) % 64,
    mfStart := if mfas = 0 then s.nowNs else l.mfStart }) (s.put VAR_LANE_STAT_MFAS mfas k)
  let s := if aligned && hit && mfas = 0 then s.put VAR_LANE_STAT_SKEW_NS (skewOf s k) k else s
  setDefect k 3 (!aligned) s

/-- Runs of AIS and RDI of a fitting header (R356, R357). -/
def indications (k : Nat) (ais rdi : Bool) (s : State) : State :=
  let run := fun (hit : Bool) (n : Nat) => if hit then min 3 (n + 1) else 0
  let s := onLane k (fun l => { l with ais1 := run ais l.ais1, ais0 := run (!ais) l.ais0, rdi1 := run rdi l.rdi1, rdi0 := run (!rdi) l.rdi0 }) s
  let l := varLane s k
  let s := if l.ais1 = 3 then setDefect k 4 true s else if l.ais0 = 3 then setDefect k 4 false s else s
  if l.rdi1 = 3 then rdiReceived k true s else if l.rdi0 = 3 then rdiReceived k false s else s

/-- A fitting header taken in SYNC (R346 to R357). The frame's payload is lost at JC 3, and there is none at PTR 0x3FF (R349, R351). -/
def takeHeader (k : Nat) (h : List Byte) (s : State) : State :=
  let w := beField h 2 2
  let jc := bitsOf w 15 14
  let s := if jc = 1 then s.bump VAR_JUST_POS k else if jc = 2 then s.bump VAR_JUST_NEG k else s
  let b1 := beField h 1 1
  let s := onLane k (fun l => { l with sender := bitsOf (beField h 0 1) 5 4, taken := jc != 3 && bitsOf w 9 0 != 0x3FF }) s
  let s := { s with pair := { s.pair with heard := s.clock } }
  let s := mfasStep k (bitsOf b1 7 2) (beField h 4 2) s
  let s := indications k (bitOf b1 0) (bitOf b1 1) s
  pointerStep k jc (bitsOf w 9 0) s

/-- The framer of lane k enters state n; LOF holds outside SYNC, and LOM with it until alignment is found (R345, R356). -/
def setFramer (k n : Nat) (s : State) : State :=
  let s := s.put VAR_LANE_STAT_FRAMER n k
  if n = 2 then setDefect k 2 false s
  else
    let s := onLane k (fun l => { l with aligned := false, mfRun := 0, mfMiss := 0, overhead := [], expect := none, cand := none, ptrMiss := 0, taken := false }) s
    setDefect k 3 true (setDefect k 2 true s)

/-- The header found at block boundary b of lane k (R345): hunting takes a fitting one as candidate; PRESYNC wants three more at
spacings of 4096 bytes; SYNC is lost after seven that do not fit. -/
def laneHeader (k b : Nat) (h : List Byte) (s : State) : State :=
  let l := varLane s k
  let fits := headerFits h
  let st := s.get VAR_LANE_STAT_FRAMER k
  if st = 0 then
    if b % 8 = 0 && l.pos ≤ b && fits then setFramer k 1 (onLane k (fun l => { l with pos := b, good := 1 }) s) else s
  else if b != l.pos + 4096 then s
  else if st = 1 then
    if !fits then setFramer k 0 (onLane k (fun l => { l with pos := l.pos - 4096 * (l.good - 1) + 8 }) s)
    else
      let s := onLane k (fun l => { l with pos := b, good := l.good + 1, bad := 0 }) s
      if l.good + 1 = 4 then setFramer k 2 s else s
  else
    let s := onLane k (fun l => { l with pos := b, bad := if fits then 0 else l.bad + 1 }) s
    if fits then takeHeader k h s
    else
      let s := onLane k (fun l => { l with taken := false, mfNext := if l.aligned then (l.mfNext + 1) % 64 else l.mfNext }) (s.bump VAR_HDR_ERR k)
      if l.bad + 1 = 7 then setFramer k 0 s else s

/-- The lowest-numbered lane in SYNC (R347). -/
def syncLane (s : State) : Option Nat := leastBelow (fun k => s.get VAR_LANE_STAT_FRAMER k == 2) 4

/-- A 32-bit signed value, saturating (TIM_PAIR). -/
def sat32 (i : Int) : Nat := signedCode 32 (clampInt (-(2 ^ 31 : Nat)) ((2 ^ 31 - 1 : Nat) : Int) i)

/-- A complete multiframe of lane k (R346, R347): its overhead is taken where OCRC fits, LANE_CHK is held against the header's LANE, and on
the lowest lane in SYNC the partner offset is computed; an offset beyond OFS_MAX_NS is a fault (R313). DESIGN CHOICE (log entry 121): half a nanosecond is rounded down. -/
def multiframe (k : Nat) (s : State) : State :=
  let l := varLane s k
  let oh := l.overhead
  if oh.length != 128 then s
  else
    let s := onLane k (fun l => { l with overhead := [] }) s
    if crc16 (oh.take 126) != beField oh 126 2 then s
    else
      let stamp := fun (i : Nat) => stampNs (stampOfBytes (slice oh i 10))
      let ofs := (((stamp 30 : Int) - (stamp 20 : Int)) + ((stamp 10 : Int) - (l.mfStart : Int))) / 2
      let s := { s with pair := { s.pair with partnerState := leField oh 9 1, heard := s.clock } }
      let s := if leField oh 8 1 = l.sender then s else report (srcLane k 1) s
      let s := if syncLane s = some k then
          let s := s.put TIM_PAIR_OFS_NS (sat32 ofs)
          if s.get TIM_PAIR_OFS_MAX_NS < ofs.natAbs then report (srcTime 2) s else s
        else s
      onLane k (fun x => { x with echo := some (stamp 10, l.mfStart) }) s

/-! ### Containers (R352 to R356, R366, R397) -/

/-- Whole messages from the content of a container (R352, R359), by fuel. -/
def splitMessages : Nat → List Byte → List (List Byte)
  | 0, _ => []
  | n + 1, bs =>
    let len := leField bs 1 2
    if bs.length < 8 || len < 8 || bs.length < len then [] else bs.take len :: splitMessages n (bs.drop len)

/-- Containers the apply queue holds at most (R353). -/
def applyRoom : Nat := 256

/-- A container enters the apply queue in SEQ order; one that came early follows it (R353). -/
def acceptContainers : Nat → State → State
  | 0, s => s
  | n + 1, s =>
    match Store.get? s.pair.early s.pair.rxNext with
    | none => s
    | some m =>
      if applyRoom ≤ s.pair.applyQueue.length then s
      else
        let p := s.pair
        acceptContainers n { s with pair := { p with applyQueue := p.applyQueue ++ [m], received := p.received + 1, early := Store.erase p.early p.rxNext, rxNext := (p.rxNext + 1) % 2 ^ 32 } }

/-- a − b as a signed distance of 32-bit sequence numbers. -/
def seqDiff (a b : Nat) : Int := signedOf 32 (a + 2 ^ 32 - b % 2 ^ 32)

/-- ACK and CREDIT of an authentic container (R353, R354): what is acknowledged leaves the replay store; those of one that another has
overtaken are old. -/
def takeAck (ack credit : Nat) (s : State) : State :=
  if seqDiff ack s.pair.acked < 0 then s
  else
    let l := s.pair.sent.filter (fun c => 0 < seqDiff c.seq ack)
    { s with pair := { s.pair with sent := l, acked := ack, credit := credit } }

/-- Payload is taken from the frame under way on lane k (R345, R351). -/
def laneTakes (s : State) (k : Nat) : Bool := s.get VAR_LANE_STAT_FRAMER k == 2 && (varLane s k).taken

/-- A container received on lane k (R345, R351 to R353, R370, R397): its plain 512 bytes, and whether its ICV verifies. -/
def containerReceive (k : Nat) (bs : List Byte) (icvOk : Bool) (s : State) : State :=
  let heard := { s with pair := { s.pair with heard := s.clock } }
  let takes := laneTakes s k
  let s := if takes then heard else s
  let st := pairState s
  if !takes then s
  else if st = 5 || st = 6 then report (srcPair 8) (s.bump VAR_FENCE_VIOL_CNT)
  else if st = 0 then s
  else if !icvOk then
    let fails := s.pair.icvFails.filter (fun t => s.clock < t + 1000000) ++ [s.clock]
    let s := ({ s with pair := { s.pair with icvFails := fails.drop (fails.length - 65) } } : State).bump VAR_ICV_FAIL_CNT
    if 64 < fails.length then report (srcPair 2) s else s
  else
    let seq := beField bs 0 4
    let flags := beField bs 12 1
    let s := takeAck (beField bs 4 4) (beField bs 8 2) s
    let fresh := !bitOf flags 1 && (bitOf flags 2 != (s.pair.recvEpoch % 2 == 1))
    let s := if fresh then { s with pair := { s.pair with recvEpoch := s.pair.recvEpoch + 1, recvKey := s.free }, free := s.free + 1 } else s
    if bitOf flags 0 then s
    else if seqDiff seq s.pair.rxNext < 0 || (Store.get? s.pair.early seq).isSome then s.bump VAR_DUP_CNT
    else if seqDiff seq s.pair.rxNext < ((applyRoom - s.pair.applyQueue.length : Nat) : Int) then
      let m := splitMessages 60 (slice bs 16 (min 480 (beField bs 10 2)))
      acceptContainers 256 { s with pair := { s.pair with early := Store.set s.pair.early seq m } }
    else s

/-- Messages for one container: by class, then in the order generated, whole, within the bytes left. -/
def packMessages : Nat → List (Nat × List Byte) → List (Nat × List Byte)
  | _, [] => []
  | n, m :: rest => if m.2.length ≤ n then m :: packMessages (n - m.2.length) rest else []

/-- Waiting messages in the order in which they leave (R359). -/
def outOrder (s : State) : List (Nat × List Byte) :=
  (List.range 4).flatMap (fun c => s.pair.out.filter (fun m => m.1 == c))

/-- Containers of the replay store (R354). -/
def replayStore : Nat := 16384

/-- The lane whose turn it is (R353): the first in striping from the turn on. -/
def turnLane (s : State) : Option Nat :=
  ((List.range 4).map (fun i => (s.pair.turn + i) % 4)).find? (fun k => inStripe s k)

/-- Lanes in striping. -/
def stripeCount (s : State) : Nat := ((List.range 4).filter (fun k => inStripe s k)).length

/-- The overhead of a multiframe whose header of MFAS 0 leaves now on lane k (Table 14.4). -/
def laneOverhead (s : State) (k : Nat) : List Byte :=
  let echo := (varLane s k).echo.getD (0, 0)
  let bs := beBytes 8 (s.num ASC_ID_FP) ++ leBytes 1 k ++ leBytes 1 (pairState s) ++ stampBytes s.now ++ stampBytes (nsStamp echo.1) ++
    stampBytes (nsStamp echo.2) ++ zeros 86
  bs ++ beBytes 2 (crc16 bs)

/-- A Varing frame header (Table 14.3). -/
def frameHeader (k mfas : Nat) (rdi ais : Bool) (jc ptr : Nat) (oh : List Byte) : List Byte :=
  let bs := beBytes 1 (2 ^ 6 + k * 2 ^ 4) ++ beBytes 1 (mfas * 4 + ofBool rdi * 2 + ofBool ais) ++ beBytes 2 (jc * 2 ^ 14 + ptr) ++
    padTo 2 (slice oh (2 * mfas) 2) ++ zeros 8
  bs ++ beBytes 2 (crc16 bs)

/-- JC of the frame that starts on a lane (R350): by the fill of its FIFO, and none after a justified frame. -/
def nextJc (x : LaneTx) : Nat := if x.jc != 0 then 0 else if x.fifo < 16 then 1 else if 48 < x.fifo then 2 else 0

/-- A Varing frame starts on lane k (R343, R348 to R350, R358): without a container source AIS and PTR 0x3FF, and the stream begins anew. -/
def startLaneFrame (k : Nat) (s : State) : State :=
  let x := (varLane s k).tx
  let x := if sourceReady s then x else { x with fifo := 0, phase := 0 }
  let jc := if sourceReady s then nextJc x else 0
  let ptr := if sourceReady s then (512 - x.phase) % 512 / 8 else 0x3FF
  let mfas := (x.mfas + 1) % 64
  let oh := if mfas = 0 then laneOverhead s k else x.overhead
  let h := frameHeader k mfas (s.on VAR_LANE_STAT_RDI_TX k) (!sourceReady s) jc ptr oh
  onLane k (fun l => { l with tx := { x with room := payloadLen jc, jc := jc, mfas := mfas, ptr := ptr, header := h, overhead := oh } }) s

/-- Lane k takes one 8-byte block of payload from its FIFO, where a frame starts first if none is under way (R350). An empty FIFO holds the
stream back, but for AIS, which carries none. -/
def laneBlock (k : Nat) (s : State) : State :=
  if sourceReady s && (varLane s k).tx.fifo < 8 then s
  else
    let s := if (varLane s k).tx.room = 0 then startLaneFrame k s else s
    let used := if (varLane s k).tx.ptr = 0x3FF then 0 else 8
    onLane k (fun l => { l with tx := { l.tx with
      room := l.tx.room - 8, fifo := l.tx.fifo - used, phase := (l.tx.phase + used) % 512 } }) s

/-- Lane k takes n blocks. -/
def laneBlocks (k : Nat) : Nat → State → State
  | 0, s => s
  | n + 1, s => laneBlocks k n (laneBlock k s)

/-- The plain bytes of a container as it leaves, without its ICV (Table 14.5): ACK and CREDIT are those of this moment. -/
def containerBytes (s : State) (seq flags : Nat) (messages : List (List Byte)) : List Byte :=
  let content := messages.flatten
  beBytes 4 seq ++ beBytes 4 ((s.pair.rxNext + 2 ^ 32 - 1) % 2 ^ 32) ++ beBytes 2 (applyRoom - s.pair.applyQueue.length) ++
    beBytes 2 content.length ++ beBytes 1 flags ++ zeros 3 ++ padTo 480 content

/-- Lane k is given a container: its FIFO fills by 512 bytes (R350). -/
def giveLane (k : Nat) (bs : List Byte) (s : State) : State :=
  onLane k (fun l => { l with tx := { l.tx with fifo := l.tx.fifo + 512, line := bs } }) s

/-- FLAGS of a container (Table 14.5). -/
def containerFlags (c : SentContainer) : Nat := ofBool c.again * 2 + c.epoch % 2 * 4 + ofBool c.dup * 8

/-- The lane that takes the second copy of a container of lane k (R366): the next in striping. -/
def secondLane (s : State) (k : Nat) : Option Nat :=
  ((List.range 3).map (fun i => (k + 1 + i) % 4)).find? (fun j => inStripe s j)

/-- A container queued on lane k (R354, R366). -/
def queueOn (k seq : Nat) (s : State) : State := onLane k (fun l => { l with tx := { l.tx with queue := l.tx.queue ++ [seq] } }) s

/-- CKPT entries of messages that leave now (R363): each sent more than 1 ms after its first count is counted, and a fault. -/
def ckptLeave (messages : List (List Byte)) (s : State) : State :=
  let n := ((messages.filter (fun m => leField m 0 1 == 0x14)).map (fun m => (m.length - 8) / 18)).sum
  let late := ((s.pair.ckptSince.take n).filter (fun t => t + 1000000 < s.clock)).length
  let s := { s with pair := { s.pair with ckptSince := s.pair.ckptSince.drop n } }
  if late = 0 then s else report (srcPair 4) (s.bumpBy late VAR_CKPT_LATE_CNT)

/-- A container of waiting messages leaves on lane k (R352, R353, R366): sent on two lanes where it carries messages of class 1 or 2. -/
def sendContainer (k : Nat) (s : State) : State :=
  let order := outOrder s
  let m := packMessages 480 order
  let other := if m.any (fun e => e.1 == 1 || e.1 == 2) then secondLane s k else none
  let c : SentContainer := ⟨s.pair.nextSeq, m.map (fun e => e.2), k, s.clock, other.isSome, s.pair.sendEpoch, false, false⟩
  let s := ckptLeave c.messages (giveLane k (containerBytes s c.seq (containerFlags c) c.messages) s)
  let s := match other with | none => s | some j => queueOn j c.seq s
  mirrorRoom { s with pair := { s.pair with out := order.drop m.length, sent := s.pair.sent ++ [c], turn := (k + 1) % 4, nextSeq := (s.pair.nextSeq + 1) % 2 ^ 32 } }

/-- A fill container leaves on lane k (R353). -/
def sendFill (k : Nat) (s : State) : State :=
  giveLane k (containerBytes s s.pair.fillSeq (1 + s.pair.sendEpoch % 2 * 4) [])
    { s with pair := { s.pair with fillSeq := (s.pair.fillSeq + 1) % 2 ^ 32 } }

/-- The place for a container comes on lane k, which has taken n blocks since the last (R350, R353, R354, R358, R366): a container queued on
the lane and still unacknowledged; else one of waiting messages where it is the lane's turn and the partner's credit and the replay store
admit it; else a fill container. Without a container source the lane sends AIS. -/
def containerSend (k n : Nat) (s : State) : State :=
  if !bitOf (s.get VAR_LANE_CFG_LANE_EN) k then s
  else
    let s := laneBlocks k n s
    if !sourceReady s then s
    else
      let s := countEvent 10 0x01 k 1 s
      match (varLane s k).tx.queue.filter (fun q => s.pair.sent.any (fun c => c.seq == q)) with
      | q :: rest =>
        let s := onLane k (fun l => { l with tx := { l.tx with queue := rest } }) s
        match s.pair.sent.find? (fun c => c.seq == q) with
        | some c => giveLane k (containerBytes s q (containerFlags c) c.messages) s
        | none => sendFill k s
      | [] =>
        let s := onLane k (fun l => { l with tx := { l.tx with queue := [] } }) s
        if (outOrder s).isEmpty || turnLane s != some k then sendFill k s
        else if replayStore ≤ s.pair.sent.length then sendFill k (report (srcPair 7) s)
        else if (s.pair.credit : Int) < seqDiff s.pair.nextSeq s.pair.acked then sendFill k s
        else sendContainer k s

/-- The lane in striping with the fewest queued containers (R354). -/
def lightLane (s : State) : Option Nat :=
  let load := fun (k : Nat) => (varLane s k).tx.queue.length
  let lanes := (List.range 4).filter (fun k => inStripe s k)
  lanes.find? (fun k => lanes.all (fun j => load k ≤ load j))

/-- The container with this SEQ is sent again (R354): RETX_NS after it was sent, or when its lane was lost (R355). It joins the lane's
queue. -/
def retransmit (seq : Nat) (s : State) : State :=
  match lightLane s, s.pair.sent.find? (fun c => c.seq == seq) with
  | some k, some c =>
    if !sourceReady s || !(c.due || c.sentAt + clamp 1000 65535 (s.get VAR_TIMING2_RETX_NS) ≤ s.clock) then s
    else
      let again := fun (x : SentContainer) => if x.seq = seq then { x with lane := k, sentAt := s.clock, due := false, again := true } else x
      queueOn k seq (countEvent 10 0x02 k 1 (({ s with pair := { s.pair with sent := s.pair.sent.map again } } : State).bump VAR_RETX_CNT))
  | _, _ => s

/-- The sender derives its next container key (R397). -/
def containerKeyRoll (s : State) : State :=
  report (srcPair 10) { s with pair := { s.pair with sendKey := s.free, sendEpoch := s.pair.sendEpoch + 1 }, free := s.free + 1 }

/-- WSEQ has reached 0xFFFF_FFFF (R398): the sender derives its next witness key, and WSEQ starts again at 1. -/
def witnessKeyRoll (s : State) : State :=
  if s.pair.witSendSeq != 2 ^ 32 - 1 then s else report (srcPair 10) { s with pair := { s.pair with witSendKey := s.free, witSendSeq := 0 }, free := s.free + 1 }

/-! ### Heartbeats and witness frames (R367) -/

/-- The health word of the monitor: one bit for each domain whose kick is not missing. -/
def healthWord (s : State) : Nat :=
  let limit := clamp 500 10000 (s.get VAR_TIMING2_KICK_NS)
  ((List.range 3).map (fun d => if s.clock < Store.getD s.pair.kicks d 0 + limit then 2 ^ d else 0)).sum

/-- A heartbeat joins the messages of class 0 every HB_NS in STATE 1 to 4 (R359, R367). -/
def sendHeartbeat (s : State) : State :=
  let due := s.pair.hbSeq = 0 || s.pair.hbSent + clamp 250 10000 (s.get VAR_TIMING_HB_NS) ≤ s.clock
  if !due || pairState s = 0 || 4 < pairState s || s.pair.ceased then s
  else
    let body := leBytes 8 (s.pair.hbSeq + 1) ++ leBytes 4 (healthWord s) ++ leBytes 1 (pairState s) ++ zeros 11
    let m := mirrorMessage 0x01 [] body
    { s with pair := { s.pair with out := s.pair.out ++ [(0, m)], hbSeq := s.pair.hbSeq + 1, hbSent := s.clock } }

/-- A heartbeat of the partner is accepted: the link is alive. -/
def takeHeartbeat (m : List Byte) (s : State) : State :=
  ({ s with pair := { s.pair with hbHeard := s.clock, heard := s.clock, partnerState := leField m 20 1 } } : State).put VAR_STAT_LINK_ALIVE 1

/-- A witness frame is sent every WIT_NS (R367), in STATE 1 to 4 before a cessation. -/
def sendWitness (s : State) : State :=
  let due := s.pair.witSendSeq = 0 || s.pair.witSent + clamp 500 10000 (s.get VAR_TIMING_WIT_NS) ≤ s.clock
  if !due || !s.on VAR_WITNESS_EN || pairState s = 0 || 4 < pairState s || s.pair.ceased || s.pair.witSendSeq = 2 ^ 32 - 1 then s
  else { s with pair := { s.pair with witSendSeq := s.pair.witSendSeq + 1, witSent := s.clock } }

/-- A witness frame arrives at the witness port (R367, R370, R398): the 48 bytes of Table 14.8, whose fields are in network order (R4) but
for TIME, and the key its TAG verifies under: 0
none, 1 the current one, 2 the next. -/
def takeWitness (bs : List Byte) (tag : Nat) (s : State) : State :=
  if !s.on VAR_WITNESS_EN || pairState s = 0 then s
  else
    let s := { s with pair := { s.pair with heard := s.clock } }
    let seq := beField bs 12 4
    if 5 ≤ pairState s then report (srcPair 8) (s.bump VAR_FENCE_VIOL_CNT)
    else if !((tag = 1 && s.pair.witRecvSeq < seq) || (tag = 2 && 0 < seq)) then s
    else
      let s := if tag = 2 then { s with pair := { s.pair with witRecvKey := s.free }, free := s.free + 1 } else s
      ({ s with pair := { s.pair with witRecvSeq := seq, witHeard := s.clock, partnerState := leField bs 20 1 } } : State).put VAR_STAT_WIT_ALIVE 1

/-! ### Receipt of mirror messages (R360 to R362) -/

/-- The key of a record by its KEY_ID (R360). -/
def keyById (s : State) (id : List Byte) : Option (List Byte) := (allKeys s).find? (fun k => keyId s k == id)

/-- A record changed as the partner did, with no message, export or event (R362). -/
def mirrorChange (key : List Byte) (f : Firkin → Firkin) (s : State) : State :=
  if (firkinOf s key).isSome then writeThrough key none (onFirkin key f s)
  else
    match recordOf s key with
    | none => s
    | some r => onTun key (fun b => patch (padTo 512 b) 0 (recordHead s (f r) b)) s

/-- A message that cannot be placed (R362). -/
def mirrorLost (s : State) : State := report (srcPair 3) (s.bump VAR_MIRROR_LOST_CNT)

/-- The copy that a CREATE body describes, the reply record with the key k. -/
def createdCopy (s : State) (body key : List Byte) (lead : Bool) (link : Option (List Byte)) : Firkin :=
  let p := activeProfile s (leField body 42 2)
  let choice := if lead then leField body 72 2 else 0xFFFF
  ⟨key, none, leField body 40 1, lead, leField body 42 2, slice body 54 16, beField body 70 2, leField body 74 2, choice,
    bitsOf p 183 160, bitsOf p 207 184, s.nowNs % 2 ^ 32, 0, 0, nowUs s, link, 0, 0, leField body 76 4, zeros 16,
    stampOfBytes (slice body 44 10), true, false, false, false⟩

/-- The reply key of an IP record that its profile and binding imply (R180), with the VRF of the original. -/
def impliedReply (s : State) (f : Firkin) : List Byte :=
  let p : Profile := activeProfile s f.profile
  let proto := leField f.key 1 1
  replyKey p (if bitOf f.state 7 then p.natKind else 0) ⟨f.natAddr, f.natPort, none, none⟩ (proto == 1 || proto == 58) f.key

/-- A record can be the reply record of a lead (R180), the parts of its key that the egress decides aside. -/
def repliesTo (s : State) (lead reply : Firkin) : Bool :=
  if leField lead.key 0 1 % 16 = 3 then
    reply.key.take 2 == lead.key.take 2 && slice reply.key 8 6 == slice lead.key 14 6 && slice reply.key 14 6 == slice lead.key 8 6
  else patch reply.key 2 (zeros 2) == patch (impliedReply s lead) 2 (zeros 2)

/-- The reply key that a CREATE message implies (R180): from its binding, its profile and its type-specific bytes. -/
def createdReply (s : State) (spec body : List Byte) : Option (List Byte) :=
  let key := body.take 40
  let v := leNat (padTo 5 spec)
  if !bitOf v 0 then none
  else if leField key 0 1 % 16 = 3 then
    some (padTo 40 (key.take 2 ++ beBytes 2 (bitsOf v 14 8) ++ beBytes 2 (bitsOf v 26 15) ++ beBytes 2 (bitsOf v 38 27) ++
      slice key 14 6 ++ slice key 8 6))
  else some (patch (impliedReply s (createdCopy s body key true none)) 2 (beBytes 2 (bitsOf v 23 8)))

/-- The binding of a mirrored connection marked in the device's own bitmap (R191, R362). -/
def markBinding (f : Firkin) (s : State) : State :=
  if !bitOf f.state 7 || !f.lead then s
  else
    let six := leField f.key 0 1 % 16 = 2
    let p := poolOf s f.natPool
    let bit := ((List.range p.count).find? (fun i => natAddrOf six (p.addr i) == padTo 16 f.natAddr)).bind
      (fun i => if f.natPort != 0 && !(p.low = 0 && p.high = 0) then some (key3 f.natPool i f.natPort) else none)
    takeBinding f.natPool ⟨f.natAddr, f.natPort, bit, none⟩ s

/-- The records of a partner's connection enter the tiers (R362): one that cannot be placed is counted as lost. -/
def placeMirrored (l : List Firkin) (s : State) : State :=
  match enterRecords l s with
  | none => mirrorLost s
  | some s =>
    let s := l.foldl (fun s f => markBinding f s) s
    let sticky := (l.filter (fun f => f.lead && Profile.sticky (activeProfile s f.profile))).map (fun f => f.key)
    let s := { s with flow := { s.flow with sticky := s.flow.sticky ++ sticky } }
    let s := l.foldl (fun s f => homeRecord f.key s) s
    tierStat (l.foldl (fun s f => writeThrough f.key none s) s)

/-- Frames of a key that wait for the partner go on with the winner's binding (R366). -/
def releaseKey (key : List Byte) (s : State) : State :=
  resume (fun e => e.waits = .partner && e.key == key) (fun i s =>
    match Store.get? s.flow.pend i with
    | none => s
    | some e => drain i e.created true (ackArrived e.key s)) s

/-- A record of the winner in place of this device's own (R366): the counts, the meter and the times of its own stay. -/
def keepCounts (s : State) (own : Option Firkin) (f : Firkin) : Firkin :=
  match own with
  | none => f
  | some x =>
    let c := mergedCounts s x
    let m := recordMeter s x
    { f with pkts := c.1, bytes := c.2.1, lastT := c.2.2, tokC := m.1, tokE := m.2.1, meterT := m.2.2 }

/-- A CREATE message (R362, R366): both records as the creator placed them; where both devices created the key, the one of
PAIR_HALF 1 wins. -/
def applyCreate (spec body : List Byte) (s : State) : State :=
  let key := body.take 40
  let reply := createdReply s spec body
  let lead := createdCopy s body key true reply
  let l := lead :: (match reply with | none => [] | some k => [createdCopy s body k false (some key)])
  if !keyHeld s key then placeMirrored l s
  else
    let s := s.bump VAR_CREATE_CONFLICT_CNT
    if s.get VAR_STAT_PAIR_HALF = 1 then s
    else
      let old := connection s key
      let l := l.map (fun f => keepCounts s (old.find? (fun x => x.lead == f.lead)) f)
      let s := old.foldl (fun s f => clearRecord f (dropBinding f s)) s
      releaseKey key (placeMirrored l s)

/-- A STATE message (Table 14.7): STATE and IDLE_S of both records, VERDICT and CHOICE, and the CT of each. -/
def applyState (body : List Byte) (s : State) : State :=
  match keyById s (body.take 12) with
  | none => s
  | some key =>
    let st := leField body 12 1
    let idle := leField body 15 4
    let link := (recordOf s key).bind (fun f => f.link)
    let s := mirrorChange key (fun f => { f with state := st, verdict := leField body 13 2, idleS := idle, choice := leField body 19 2, ct := slice body 21 16 }) s
    match link with
    | none => s
    | some k => mirrorChange k (fun f => { f with state := st, idleS := idle, ct := slice body 37 16 }) s

/-- A PDATA message: record bytes 384 to 511. -/
def applyPdata (body : List Byte) (s : State) : State :=
  match keyById s (body.take 12) with
  | none => s
  | some key =>
    if (firkinOf s key).isSome then writeThrough key (some (slice body 12 128)) s
    else onTun key (fun b => patch (padTo 512 b) 384 (slice body 12 128)) s

/-- A DELETE message: the flow goes, without export or event. -/
def applyDelete (body : List Byte) (s : State) : State :=
  match keyById s (body.take 12) with
  | none => s
  | some key => removeFlow key none s

/-- The counts of a record raised by a delta of the partner; LAST_SEEN rises to the present time. -/
def addCounts (key : List Byte) (frames bytes : Nat) (s : State) : State :=
  let later := fun (t : Nat) => if 0 < signedOf 32 (nowUs s + 2 ^ 32 - t) then nowUs s else t
  let s := onFirkin key (fun f => { f with pkts := (f.pkts + frames) % 2 ^ 64, bytes := (f.bytes + bytes) % 2 ^ 64, lastT := later f.lastT }) s
  let s := onGill key (fun g => { g with lastT := later g.lastT }) s
  onTun key (fun b =>
    let b := padTo 512 b
    let seen := max (stampNs (stampOfBytes (slice b 144 10))) s.nowNs
    patch b 128 (leBytes 8 ((leField b 128 8 + frames) % 2 ^ 64) ++ leBytes 8 ((leField b 136 8 + bytes) % 2 ^ 64) ++ stampBytes (nsStamp seen))) s

/-- The entries of a CKPT message (R362, R363), by fuel. -/
def applyCkpt : Nat → List Byte → State → State
  | 0, _, s => s
  | n + 1, body, s =>
    if body.length < 18 then s
    else
      let d := leField body 12 6
      let s := match keyById s (body.take 12) with | none => s | some key => addCounts key (bitsOf d 17 0) (bitsOf d 47 18) s
      applyCkpt n (body.drop 18) s

/-- Two records are each other's linked record, LINK in tun included. -/
def linkTwo (a b : List Byte) (s : State) : State :=
  let one := fun (a b : List Byte) (s : State) =>
    onTun a (fun x => patch (padTo 512 x) 40 (leBytes 4 ((slotOf s b).getD noSlot))) (onFirkin a (fun f => { f with link := some b }) s)
  one a b (one b a s)

/-- A synchronised record finds its linked one (R341): LINK of the message is a slot of the partner, so the record is known by its key. -/
def linkSynced (key : List Byte) (s : State) : State :=
  match recordOf s key with
  | none => s
  | some f =>
    let fits := fun (g : Firkin) => g.lead != f.lead && g.link.isNone && (if f.lead then repliesTo s f g else repliesTo s g f)
    match (allKeys s).find? (fun k => k != key && (recordOf s k).any fits) with
    | none => s
    | some k => linkTwo key k s

/-- The partner's binding, CHOICE and state in place of this device's own (R369): its own port is freed and its own reply record goes. -/
def takePartner (old new : Firkin) (s : State) : State :=
  let other := old.natAddr != new.natAddr || old.natPort != new.natPort || old.natPool != new.natPool
  let s := if other then (connection s old.key).foldl (fun s f => if f.key == old.key then dropBinding f s else clearRecord f s) s else s
  let s := mirrorChange old.key (fun f => { f with
    natAddr := new.natAddr, natPort := new.natPort, natPool := new.natPool, choice := new.choice, state := new.state,
    link := if other then none else f.link }) s
  if other then linkSynced old.key (markBinding new s) else s

/-- A SYNCREC message (R341, R362, R369): a record is inserted; one already held keeps the larger totals, and takes the partner's
binding where this device has PAIR_HALF 2. -/
def applySyncrec (b : List Byte) (s : State) : State :=
  let key := b.take 40
  let linked := leField b 40 4 != noSlot
  let new := { copyOfRecord s 0 (padTo 512 b) with slot := none, link := none, held := true, ref := false }
  match recordOf s key with
  | none =>
    let s := placeMirrored [new] s
    if linked then linkSynced key s else s
  | some old =>
    let c := mergedCounts s old
    let s := if s.get VAR_STAT_PAIR_HALF = 2 then takePartner old new s else s
    addCounts key (new.pkts - c.1) (new.bytes - c.2.1) s

/-- A RECFETCH message (R331): the record is sent back where this device holds it. -/
def applyRecfetch (body : List Byte) (s : State) : State :=
  let key := body.take 40
  if keyHeld s key then sendMirror 1 0x16 [] ((fullRecord s key).take 256) s else s

/-- A RECORD message (R331): the unreadable tun record is repaired. -/
def applyRecord (body : List Byte) (s : State) : State := onTun (body.take 40) (fun b => patch (padTo 512 b) 0 (padTo 256 body)) s

/-- The partner journal without the oldest entry that a test accepts. -/
def dropEntry (p : PartnerEntry → Bool) : List PartnerEntry → List PartnerEntry
  | [] => []
  | e :: es => if p e then es else e :: dropEntry p es

/-- A JOURNAL message: its entry joins the partner journal of 4096 entries (R362). Byte 0 of its type-specific bytes holds the ring in
bits [4:0] and the verdict in bits [7:5], bytes 1 to 4 the consumer index. DESIGN CHOICE (log entry 136): in a full journal it takes the place of
the oldest PKT_TX entry, which is never replayed and which no JDONE removes. -/
def applyJournal (spec body : List Byte) (s : State) : State :=
  let e : PartnerEntry := ⟨leField spec 0 1 % 32, leField spec 1 4, leField body 0 8, leField spec 0 1 / 32, slice body 8 64⟩
  let l := if s.pair.journal.length < 4096 then s.pair.journal else dropEntry (fun e => 8 ≤ e.ring) s.pair.journal
  if 4096 ≤ l.length then mirrorLost s else { s with pair := { s.pair with journal := l ++ [e] } }

/-- A JDONE message: the partner's command is done, and its entry goes (R362). DEDUCED (log entry 136): its ring is in byte 0 of the
type-specific bytes, and of several entries of one ring with this command sequence number the oldest is meant. -/
def applyJdone (spec body : List Byte) (s : State) : State :=
  { s with pair := { s.pair with journal := dropEntry (fun e => e.ring == leField spec 0 1 && e.cseq == leField body 0 8) s.pair.journal } }

/-- One received message takes effect (R362, R367). -/
def applyMessage (m : List Byte) (s : State) : State :=
  let spec := slice m 3 5
  let body := m.drop 8
  match leField m 0 1 with
  | 0x01 => takeHeartbeat m s
  | 0x02 => applyJournal spec body s
  | 0x03 => applyJdone spec body s
  | 0x10 => applyCreate spec body s
  | 0x11 => applyState body s
  | 0x12 => applyPdata body s
  | 0x13 => applyDelete body s
  | 0x14 => applyCkpt 26 body s
  | 0x15 => applySyncrec body s
  | 0x16 => if m.length ≤ 48 then applyRecfetch body s else applyRecord body s
  | _ => s

/-- The oldest message of the apply queue, with the containers emptied before it dropped. -/
def frontMessage : List (List (List Byte)) → Option (List Byte)
  | [] => none
  | (m :: _) :: _ => some m
  | [] :: rest => frontMessage rest

/-- The apply queue without its oldest message; answers also how many containers have been wholly applied by it. -/
def dropFront : List (List (List Byte)) → List (List (List Byte)) × Nat
  | [] => ([], 0)
  | (_ :: m :: ms) :: rest => ((m :: ms) :: rest, 0)
  | [_] :: rest => (rest, 1)
  | [] :: rest => let r := dropFront rest; (r.1, r.2 + 1)

/-- The oldest message of the apply queue applied where a test accepts it (R362: messages apply in SEQ order). -/
def applyFront (p : List Byte → Bool) (s : State) : State :=
  match frontMessage s.pair.applyQueue with
  | none => s
  | some m =>
    if !p m then s
    else
      let r := dropFront s.pair.applyQueue
      let s := applyMessage m s
      { s with pair := { s.pair with applyQueue := r.1, applied := s.pair.applied + r.2 } }

/-- The oldest message applied where it has this TYPE. -/
def applyType (t : Nat) (s : State) : State := applyFront (fun m => leField m 0 1 == t) s

/-- RECFETCH and RECORD share a TYPE and differ by length (Table 14.7). -/
def applyFetchType (reply : Bool) (s : State) : State :=
  applyFront (fun m => leField m 0 1 == 0x16 && (reply == (48 < m.length : Bool))) s

/-- Every message of the apply queue applied (R371), by fuel. -/
def applyAll : Nat → State → State
  | 0, s => s
  | n + 1, s => if (frontMessage s.pair.applyQueue).isNone then s else applyAll n (applyFront (fun _ => true) s)

/-- Messages of the apply queue. -/
def applyCount (s : State) : Nat := (s.pair.applyQueue.map List.length).sum

/-- A partner-journal entry becomes a command to execute here, as a replay (R371). -/
def replayEntry (e : PartnerEntry) : JEntry :=
  ⟨e.ring, e.index, false, false, e.cseq, leField e.entry 0 2, bitOf (leField e.entry 2 1) 0, 4, e.verdict, none, true, true, false, false, true, e.entry, false, false, none⟩

/-- Steps 2 to 4 of a takeover (R371): the apply queue is applied, and the partner's commands without JDONE are to be executed, in
ring order; PKT_TX entries are not replayed. -/
def pairTakeover (s : State) : State :=
  if pairState s != 5 then s
  else
    let s := applyAll (applyCount s + 1) s
    let s := { s with pair := { s.pair with applyQueue := [], applied := s.pair.received } }
    let l := (List.range 4).flatMap (fun r => s.pair.journal.filter (fun e => e.ring == r))
    let s := { s with pair := { s.pair with journal := [] }, host := { s.host with journal := s.host.journal ++ l.map replayEntry } }
    s.bumpBy l.length VAR_REPLAY_CNT

/-- Whether a message is a SYNCREC. -/
def isSyncrec (m : List Byte) : Bool := leField m 0 1 == 0x15

/-- No SYNCREC waits or is unacknowledged. -/
def syncAcked (s : State) : Bool :=
  !s.pair.out.any (fun m => isSyncrec m.2) && !s.pair.sent.any (fun c => c.messages.any isSyncrec)

/-- Bulk synchronisation (R339, R341): the next record goes as a SYNCREC; once the last is acknowledged, STATE 3. The joiner, which
sends none, enters STATE 3 with COVERED when the partner has. -/
def bulkSync (s : State) : State :=
  if pairState s != 2 then s
  else
    match s.pair.syncKeys with
    | key :: rest =>
      let s := { s with pair := { s.pair with syncKeys := rest } }
      let pct := if s.pair.syncTotal = 0 then 100 else (s.pair.syncTotal - rest.length) * 100 / s.pair.syncTotal
      let s := s.put VAR_STAT_SYNC_PCT pct
      if keyHeld s key then sendMirror 3 0x15 [] ((fullRecord s key).take 256) s else s
    | [] =>
      if !syncAcked s then s
      else if s.on VAR_STAT_JOINER && !s.on VAR_STAT_COVERED then
        if s.pair.partnerState = 3 && applyCount s = 0 then setPairState 3 ((s.put VAR_STAT_COVERED 1).put VAR_STAT_SYNC_PCT 100) else s
      else setPairState 3 (s.put VAR_STAT_SYNC_PCT 100)

/-- LANE_EN of lane k (Table 14.10). -/
def laneEnabled (s : State) (k : Nat) : Bool := bitOf (s.get VAR_LANE_CFG_LANE_EN) k

/-- A change of LANE_EN (Table 14.10): a lane no longer enabled leaves striping. -/
def laneConfig (s : State) : State := (List.range 4).foldl (fun s k => if laneEnabled s k then s else leaveStripe k s) s

end Sys2Proof.Machine
end

