-- ==== Sys2Proof/Machine/Memory.lean ====
section
/-! DEFINITION. The HBM and DDR5 controllers (chapter 13): initialisation, training, errors and repair, requests, refresh, mirroring and
bin changes. -/

namespace Sys2Proof.Machine

/-! ### Channels -/

/-- A channel at rest. -/
def freshChannel : Channel := ⟨0, 0, [], [], [], [], none, []⟩

/-- Channel Dk. -/
def chanOf (s : State) (k : Nat) : Channel := Store.getD s.mem.channels k freshChannel

/-- The state with channel Dk changed. -/
def onChan (k : Nat) (f : Channel → Channel) (s : State) : State :=
  { s with mem := { s.mem with channels := Store.upd s.mem.channels k freshChannel f } }

/-- Channel-mirror mode (R323). -/
def mirrored (s : State) : Bool := s.on MEM_INIT_CFG_MIRROR

/-- The other channel of a pair (R322). -/
def pairMate (k : Nat) : Nat := if k % 2 = 0 then k + 1 else k - 1

/-- A fatal fault for which Table 21.3 names no fatal source: the nearest source occurs and the fatal reaction is owed. -/
def reportFatal (src : Nat) (s : State) : State :=
  let s := report src s
  { s with faults := { s.faults with due := s.faults.due ++ [(src, 3)] } }

/-! ### Population and partition (R317, R318, R321) -/

/-- A supported population (Table 13.2). -/
def dimmsOk (d : Dimms) : Bool :=
  d.supported && (d.count == 1 || d.count == 2) &&
    ((d.gib == 32 && d.ranks == 1 && !d.dense) || (d.gib == 64 && d.ranks == 2 && !d.dense) || (d.gib == 64 && d.ranks == 1 && d.dense) ||
      (d.gib == 128 && d.ranks == 2 && d.dense))

/-- The channels that break R321: an unsupported population, or one unlike that of D0. -/
def popErrors (l : List Dimms) : List Nat :=
  (List.range 8).filter (fun k => match l[k]?, l[0]? with | some d, some e => !dimmsOk d || d != e | _, _ => true)

/-- DDR5 present in bytes. -/
def ddrBytes (l : List Dimms) : Nat := ((l.take 8).map (fun d => d.count * d.gib * 2 ^ 30)).sum

/-- The sizes keep R317 and Table 13.1: the raw areas sum to at most 47.5 GiB, in 56ths of a byte. -/
def partitionOk (spill park firkin task : Nat) : Bool :=
  spill ≤ 32 && park ≤ 4 && 1 ≤ firkin && firkin ≤ 16 && 15 ≤ task && task ≤ 24 &&
    (spill + park) * 2 ^ 30 * 56 + firkin * 2 ^ 30 * 65 + (2 ^ task * 32 + 67108864) * 64 ≤ 95 * 2 ^ 29 * 56

/-- Buckets of the tun region (Table 7.2): C / 4096 × 63 / 64, C being half in channel-mirror mode. -/
def regionBuckets (bytes : Nat) (mirror : Bool) : Nat := (if mirror then bytes / 2 else bytes) / 4096 * 63 / 64

/-! ### Training (R318, R333 to R337) -/

/-- A training pass starts on channel k for a reason and a bin; in service a mirrored channel's partner serves alone (R335). -/
def startPass (k reason bin : Nat) (s : State) : State :=
  let s := if mirrored s && (reason == 2 || reason == 3) then s.put MEM_DDR_STAT_ALONE 1 (pairMate k) else s
  (onChan k (fun x => { x with pass := reason, bin := bin }) s).put MEM_DDR_STAT_TRAINING 1 k

/-- MEM_INIT latches its fields and starts training every channel and both stacks (R318, R333). -/
def memInit (spill park firkin task : Nat) (mirror : Bool) (l : List Dimms) (s : State) : State :=
  let s := (((s.put MEM_INIT_CFG_SPILL_GIB spill).put MEM_INIT_CFG_PARK_GIB park).put MEM_INIT_CFG_FIRKIN_GIB firkin).put MEM_INIT_CFG_TASK_LOG2 task
  let s := { s.flag MEM_INIT_CFG_MIRROR mirror with mem := { s.mem with latched := true } }
  (List.range 8).foldl (fun s k =>
    let d := l[k]?.getD ⟨0, 0, 0, false, false, false⟩
    let s := ((s.put MEM_DDR_STAT_DIMMS d.count k).put MEM_DDR_STAT_RANKS d.ranks k).flag MEM_DDR_STAT_DENSITY d.dense k
    startPass k 1 0 ((s.flag MEM_DDR_STAT_DRFM d.drfm k).put MEM_DDR_STAT_POP_ERR 0 k)) s

/-- The body of MEM_INIT (R318, R321, R323). -/
def memInitBody (spill park firkin task : Nat) (mirror : Bool) (l : List Dimms) (s : State) : Answer :=
  let bad := popErrors l
  if s.mem.latched then failed 3 s
  else if !partitionOk spill park firkin task then failed 2 s
  else if !bad.isEmpty then failed 9 (bad.foldl (fun s k => s.put MEM_DDR_STAT_POP_ERR 1 k) s)
  else if mirror && (List.range 4).any (fun m => s.get MEM_DDR_CFG_MAP_ORDER (2 * m) != s.get MEM_DDR_CFG_MAP_ORDER (2 * m + 1)) then failed 1 s
  else .wait 0 0 (ddrBytes l) (memInit spill park firkin task mirror l s)

/-- MEM_INIT is complete (R318): the memories are zeroed, and the tiers, the task spill rings and the spill area take their sizes. -/
def memInitDone (bytes : Nat) (s : State) : State :=
  let nb := regionBuckets bytes (mirrored s)
  let s := ((s.put FLW_TIER_CFG_FIRKIN_GIB (s.get MEM_INIT_CFG_FIRKIN_GIB)).flag FLW_TIER_CFG_MIRROR (mirrored s)).put FLW_TIER_CFG_TUN_BUCKETS nb
  let s := s.put FLW_SPILL_CFG_CAPACITY (2 ^ s.get MEM_INIT_CFG_TASK_LOG2)
  let s := s.put BUF_SEG_TOTAL_SEG_TOTAL (16384 * s.get MEM_INIT_CFG_SPILL_GIB)
  let s := { s with buf := { s.buf with parkSegs := 16384 * s.get MEM_INIT_CFG_PARK_GIB } }
  let s := ((s.put MEM_HBM_STAT_TRAINED 1 0).put MEM_HBM_STAT_TRAINED 1 1)
  settleBuffer ((s.put MEM_INIT_CFG_DONE 1).put PWR_READY_FULL_READY 1)

/-- Channel k is fenced: its bits, and its partner serves alone (R324); without mirroring and without a pair in STATE 3 its records are
lost and the fault is fatal (R28). -/
def fenceChannel (k : Nat) (s : State) : State :=
  if s.on MEM_DDR_STAT_FENCED k then s
  else
    let s := onChan k (fun x => { x with pass := 0, stepping := [] }) ((s.put MEM_DDR_STAT_FENCED 1 k).put MEM_DDR_STAT_TRAINING 0 k)
    let m := pairMate k
    if mirrored s then
      let gone := s.on MEM_DDR_STAT_FENCED m || s.on MEM_DDR_STAT_RESILVER m
      let s := report (srcChannel m 5) (s.put MEM_DDR_STAT_ALONE 1 m)
      if gone then loseRecords (fun b => b % 4 == k / 2) s else s
    else if mirrorActive s || !s.on MEM_INIT_CFG_DONE then s
    else loseRecords (fun b => b % 8 == k) s
where
  /-- The records of the buckets named are lost: counted, and later frames of their flows that miss gill and firkin are refused. -/
  loseRecords (p : Nat → Bool) (s : State) : State :=
    let gone := s.flow.tun.slots.filter (fun e => p (e.1 / 8))
    let keys := gone.map (fun e => e.2.key)
    let s := { s with flow := { s.flow with tun := { s.flow.tun with slots := s.flow.tun.slots.filter (fun e => !p (e.1 / 8)) } }, mem := { s.mem with lost := s.mem.lost ++ keys.map (fun x => (k, x)) } }
    tierStat (reportFatal (srcTunLost k) (s.bumpBy keys.length MEM_DDR_TUN_LOST_CNT k))

/-- The waiting command of channel k with this opcode completes. -/
def finishChan (op k st : Nat) (s : State) : State := finishWaiting (fun w => w.opcode == op && w.key == k) (fun _ => resFail st) s

/-- Channel k comes back into service after a pass (R335, R336): a mirrored one first catches up under RESILVER. -/
def rejoinChan (k : Nat) (s : State) : State :=
  if mirrored s then (s.put MEM_DDR_STAT_RESILVER 1 k).put MEM_DDR_STAT_ALONE 1 (pairMate k)
  else finishChan 0x0902 k 0 s

/-- A training pass on channel k ends (R333, R335 to R337). ok: it passed. -/
def passEnds (k : Nat) (ok : Bool) (s : State) : State :=
  let x := chanOf s k
  if x.pass = 0 then s
  else
    let s := (onChan k (fun x => { x with pass := 0 }) s).put MEM_DDR_STAT_TRAINING 0 k
    let s := if x.pass = 2 || x.pass = 3 then s.bump MEM_DDR_RETRAIN_CNT k else s
    let s := if ok then s else fenceChannel k (report (srcChannel k 0) s)
    if x.pass = 1 then
      if (List.range 8).any (fun j => (chanOf s j).pass == 1) then s
      else
        match waitingOf s (fun w => w.opcode == 0x0900) with
        | none => memInitDone (8 * s.get MEM_DDR_STAT_DIMMS 0 * (if s.on MEM_DDR_STAT_DENSITY 0 then 64 else 32) * s.get MEM_DDR_STAT_RANKS 0 * 2 ^ 30) s
        | some w => finishWaiting (fun w => w.opcode == 0x0900) (fun _ => resOk) (memInitDone w.key s)
    else if x.pass = 2 then
      let s := if ok && !s.on MEM_DDR_STAT_FREQ_PENDING k && mirrored s then rejoinChan k s else s
      finishChan 0x0901 k (if ok then 0 else 0x0D) s
    else if x.pass = 3 then
      let s := s.put MEM_DDR_STAT_BIN x.bin k
      if ok then rejoinChan k s else finishChan 0x0902 k 0x0D s
    else if ok then rejoinChan k s
    else s

/-- A pass or a step of R334 is gathering data on channel k. -/
def chanBusy (s : State) (k : Nat) : Bool := (chanOf s k).pass != 0 || !(chanOf s k).stepping.isEmpty

/-- A bin change is requested for channel k (R336, R337): started, or held pending while data is gathered. -/
def requestBin (k bin : Nat) (s : State) : State :=
  if chanBusy s k then (s.put MEM_DDR_STAT_FREQ_PENDING 1 k).put MEM_DDR_STAT_PEND_BIN bin k else startPass k 3 bin s

/-- The body of MEM_SPEED. -/
def memSpeedBody (k bin : Nat) (s : State) : Answer :=
  if 8 ≤ k || 2 < bin then failed 1 s
  else if s.on MEM_DDR_STAT_FREQ_PENDING k then failed 4 s
  else if s.on MEM_DDR_STAT_FENCED k then .back s
  else .wait 0 0 k (requestBin k bin s)

/-- The body of MEM_RETRAIN. -/
def memRetrainBody (k : Nat) (s : State) : Answer :=
  if 8 ≤ k then failed 1 s
  else if s.on MEM_DDR_STAT_FENCED k then .back s
  else if chanBusy s k then failed 3 s
  else .wait 0 0 k ((startPass k 2 (s.get MEM_DDR_STAT_BIN k) s).put PWR_AGE_CFG_NEED_RETRAIN (withBit (s.get PWR_AGE_CFG_NEED_RETRAIN) k false))

/-- A pending bin change applies once nothing gathers data on the channel (R337). -/
def binApplies (k : Nat) (s : State) : State :=
  if !s.on MEM_DDR_STAT_FREQ_PENDING k || chanBusy s k then s
  else startPass k 3 (s.get MEM_DDR_STAT_PEND_BIN k) (s.put MEM_DDR_STAT_FREQ_PENDING 0 k)

/-- A step of R334 on a rank begins or ends. -/
def chanStep (k rank : Nat) (begins : Bool) (s : State) : State :=
  if begins then (if chanBusy s k then s else onChan k (fun x => { x with stepping := x.stepping ++ [rank] }) s)
  else onChan k (fun x => { x with stepping := x.stepping.filter (fun r => r != rank) }) s

/-- The copy of a channel's pair is complete (R324, R335): it serves again. -/
def resilverDone (k : Nat) (s : State) : State :=
  if !s.on MEM_DDR_STAT_RESILVER k then s
  else
    let s := { s with mem := { s.mem with catchUp := s.mem.catchUp.filter (fun e => e.1 != k) } }
    finishChan 0x0902 k 0 ((s.put MEM_DDR_STAT_RESILVER 0 k).put MEM_DDR_STAT_ALONE 0 (pairMate k))

/-! ### HBM errors (R254, R319, R320) -/

/-- The parity group of a pseudo-channel of a stack (R315). -/
def groupOfPc (st pc : Nat) : Nat := 4 * st + pc % 4

/-- Frame f cannot be read (R254): counted, and every copy of it leaves its queue; one on a line ends in a stomp. -/
def loseFrame (f : Nat) (s : State) : State :=
  let out := fun (l : List Copy) => l.filter (fun c => c.frame != f)
  let outOf := fun (g : Segment) => { g with copies := out g.copies }
  let s := { s with buf := { s.buf with queues := s.buf.queues.filterMap (fun (e : Nat × Queue) =>
    let x := { e.2 with head := out e.2.head, asm := out e.2.asm, segs := e.2.segs.map outOf, reading := e.2.reading.map outOf }
    if x = noQueue then none else some (e.1, x)) } }
  let on := fun (o : Option Sending) => o.any (fun x => !x.express && x.copy.frame == f)
  let s := (s.egr.ports.filter (fun (e : Nat × PortSide) => on e.2.sending || on e.2.preempted)).foldl (fun s e =>
    stomp e.1 (onPort e.1 (fun y => { y with
      sending := if on y.sending then none else y.sending, preempted := if on y.preempted then none else y.preempted }) s)) s
  freeFrame f (s.bump BUF_SPILL_LOST_CNT)

/-- The segments that a test names can no longer be read (R254): the frames of those written are lost and counted; one whose write is not
yet acknowledged still has its cells on die. What is left of each stands on die in its place, and a queue left without a segment is NORMAL
again (R251). -/
def loseSegments (p : Segment → Bool) (s : State) : State :=
  let all := s.buf.queues.flatMap (fun e => e.2.segs ++ e.2.reading.toList)
  let gone := (all.filter (fun g => g.acked && p g)).flatMap (fun g => (carried s g).map (fun c => c.frame))
  let s := (all.filter (fun g => !g.acked && p g)).foldl (fun s g => returned g s) s
  let s := gone.eraseDups.foldl (fun s f => loseFrame f s) s
  let die := fun (g : Segment) => if p g then { g with area := .die, acked := true } else g
  s.buf.queues.foldl (fun s e =>
    let x := queueOf s e.1
    let hit := (x.segs ++ x.reading.toList).any p
    let x := { x with segs := (x.reading.filter p).toList.map die ++ x.segs.map die, reading := x.reading.filter (fun g => !p g) }
    setQueue e.1 (if hit then rejoin x else x) s) s

/-- Pseudo-channel pc of a stack is declared failed (R319): spill is degraded; a second one in its group is fatal and its segments are
lost; segments written without parity are lost with the first. -/
def pcFails (st pc : Nat) (s : State) : State :=
  if bitOf (s.get MEM_HBM_STAT_PC_FAILED st) pc then s
  else
    let g := groupOfPc st pc
    let s := s.put MEM_HBM_STAT_PC_FAILED (withBit (s.get MEM_HBM_STAT_PC_FAILED st) pc true) st
    let s := report (srcSpillGroup g) (report (srcBuffer 4) (report (srcStack st 0) (s.put BUF_SPILL_STAT_DEGRADED 1)))
    let s := settleBuffer (loseSegments (unreadable s) s)
    if failedIn s g < 2 then s
    else
      let s := settleBuffer { s with buf := { s.buf with spillClosed := true } }
      report (srcStack st 1) (report (srcBuffer 3) (report (srcBuffer 5) s))

/-- A pseudo-channel other than pc has failed in the group: blocks cannot be rebuilt. -/
def rebuildBlocked (s : State) (st pc : Nat) : Bool :=
  (List.range 32).any (fun j => j != pc && j % 4 == pc % 4 && bitOf (s.get MEM_HBM_STAT_PC_FAILED st) j)

/-- A read of pseudo-channel pc of a stack finds an error (R319): corrected, or a block rebuilt from its row; more than FAIL_THRESH
rebuilds within a second fail the pseudo-channel. -/
def hbmError (st pc : Nat) (ue : Bool) (s : State) : State :=
  if !ue then s.bump MEM_HBM_CE_CNT st
  else
    let s := report (srcStack st 2) (s.bump MEM_HBM_UE_CNT st)
    if rebuildBlocked s st pc then s.bump MEM_HBM_LOST_CNT st
    else
      let s := report (srcStack st 6) (s.bump MEM_HBM_REBUILD_CNT st)
      let l := (Store.getD s.mem.rebuilds (32 * st + pc) []).filter (fun t => s.clock < t + nsPerSec) ++ [s.clock]
      let s := { s with mem := { s.mem with rebuilds := Store.set s.mem.rebuilds (32 * st + pc) (l.drop (l.length - 256)) } }
      if clamp 1 255 (s.get MEM_HBM_CFG_FAIL_THRESH st) < l.length then pcFails st pc s else s

/-- The body of MEM_HBM_REINTEGRATE (R253, R320): each failed pseudo-channel of the stack that passes its test is rebuilt and serves; passed:
the mask of those that pass. Spill is open again once no group has two failed. -/
def hbmReintegrateBody (st passed : Nat) (s : State) : Answer :=
  if 2 ≤ st then failed 1 s
  else
    let failed_ := (List.range 32).filter (fun j => bitOf (s.get MEM_HBM_STAT_PC_FAILED st) j)
    let good := failed_.filter (fun j => bitOf passed j)
    let s := good.foldl (fun s j =>
      s.put MEM_HBM_STAT_PC_FAILED (withBit (s.get MEM_HBM_STAT_PC_FAILED st) j false) st) s
    let s := { s with buf := { s.buf with spillClosed := (List.range 8).any (fun g => 1 < failedIn s g) } }
    let clean := s.get MEM_HBM_STAT_PC_FAILED 0 = 0 && s.get MEM_HBM_STAT_PC_FAILED 1 = 0
    let s := if clean then s.put BUF_SPILL_STAT_DEGRADED 0 else s
    let s := settleBuffer s
    if good.length = failed_.length then ok_ s else failed 0x0D (report (srcStack st 5) s)

/-! ### DDR5 errors (R325, R330 to R332) -/

/-- A place in a channel (R325). -/
structure DdrPlace where
  sc : Nat
  bg : Nat
  ba : Nat
  rank : Nat
  row : Nat
  col : Nat
deriving DecidableEq, Repr

/-- Fields packed from bit 6 upward: value and width of each. -/
def packFields : List (Nat × Nat) → Nat
  | [] => 0
  | (v, w) :: rest => v % 2 ^ w + 2 ^ w * packFields rest

/-- Width of RK on a channel: 0 to 2 bits over both DIMMs. -/
def rankBits (s : State) (k : Nat) : Nat := Nat.log2 (max 1 (s.get MEM_DDR_STAT_DIMMS k * s.get MEM_DDR_STAT_RANKS k))

/-- The channel address of a place under MAP_ORDER (Table 13.3). -/
def chanAddress (s : State) (k : Nat) (p : DdrPlace) : Nat :=
  let rk := (p.rank, rankBits s k)
  let row := (p.row, if s.on MEM_DDR_STAT_DENSITY k then 17 else 16)
  let o := s.get MEM_DDR_CFG_MAP_ORDER k
  let f := if o = 0 then [(p.sc, 1), (p.bg, 3), (p.ba, 2), rk, (p.col, 7), row]
    else if o = 1 then [(p.sc, 1), (p.col, 7), (p.bg, 3), (p.ba, 2), rk, row]
    else if o = 2 then [(p.col, 7), (p.sc, 1), (p.bg, 3), (p.ba, 2), rk, row]
    else [(p.sc ^^^ bitsOf p.row 5 5, 1), (p.bg ^^^ bitsOf p.row 2 0, 3), (p.ba ^^^ bitsOf p.row 4 3, 2), rk, (p.col, 7), row]
  64 * packFields f

/-- What a place of channel k holds of the tun region (R322): a bucket line, a record slot, or nothing. -/
inductive TunPlace where
  /-- The line of a bucket. -/
  | line (bucket : Nat)
  /-- Bytes of a record. -/
  | record (slot : Nat)
  /-- Nothing of the region. -/
  | none_
deriving DecidableEq, Repr

/-- The tun address of channel address a (R322): records interleave at 4 KiB and lines at 64 B over the channels, or over the pairs. -/
def tunPlace (s : State) (k a : Nat) : TunPlace :=
  let w := if mirrored s then 4 else 8
  let i := if mirrored s then k / 2 else k
  let nb := tunBuckets s
  let rows := ceilDiv nb w
  if a < rows * 4096 then
    let b := a / 4096 * w + i
    if b < nb then .record (8 * b + a % 4096 / 512) else .none_
  else
    let b := (a - rows * 4096) / 64 * w + i
    if b < nb then .line b else .none_

/-- The record in slot i is unreadable and mirroring cannot serve it (R331). -/
def repairRecord (k i : Nat) (s : State) : State :=
  match Store.get? s.flow.tun.slots i with
  | none => s
  | some x =>
    let repaired := fun (s : State) => report (srcTunRepair k) (s.bump MEM_DDR_TUN_REPAIR_CNT k)
    match firkinOf s x.key with
    | some (_, f) =>
      let f := { f with created := s.now }
      repaired (onTun x.key (fun _ => padTo 512 (recordBytes s f (zeros 512))) (onFirkin x.key (fun g => { g with created := s.now }) s))
    | none =>
      if mirrorActive s then sendMirror 1 0x16 [] (padTo 40 x.key) s
      else report (srcTunLost k) (deleteFlow x.key none (s.bump MEM_DDR_TUN_LOST_CNT k))

/-- The other channel of the pair serves reads. -/
def mateServes (s : State) (k : Nat) : Bool :=
  mirrored s && !s.on MEM_DDR_STAT_FENCED (pairMate k) && !s.on MEM_DDR_STAT_RESILVER (pairMate k) && !s.on MEM_DDR_STAT_TRAINING (pairMate k)

/-- A DDR5 read of channel k finds an error (R330, R331): dev is the device it lies in, 31 where not located. -/
def ddrError (k : Nat) (ue : Bool) (dev : Nat) (p : DdrPlace) (s : State) : State :=
  let s := ((s.put MEM_DDR_ERR_LOG_VALID 1 k).flag MEM_DDR_ERR_LOG_UE ue k).put MEM_DDR_ERR_LOG_SC p.sc k
  let s := ((s.put MEM_DDR_ERR_LOG_BG p.bg k).put MEM_DDR_ERR_LOG_BA p.ba k).put MEM_DDR_ERR_LOG_RANK p.rank k
  let s := ((s.put MEM_DDR_ERR_LOG_ROW p.row k).put MEM_DDR_ERR_LOG_COL p.col k).put MEM_DDR_ERR_LOG_DEVICE dev k
  if ue then
    let s := report (srcChannel k 1) (s.bump MEM_DDR_UE_CNT k)
    if mateServes s k then s
    else
      match tunPlace s k (chanAddress s k p) with
      | .none_ => s
      | .line _ => report (srcTunRepair k) (s.bump MEM_DDR_TUN_REPAIR_CNT k)
      | .record i => repairRecord k i s
  else
    let s := s.bump MEM_DDR_CE_CNT k
    if 20 ≤ dev then s
    else
      let s := onChan k (fun x => { x with marks := Store.upd x.marks dev 0 (· + 1) }) s
      if Store.getD (chanOf s k).marks dev 0 < clamp 1 255 (s.get MEM_DDR_CFG_MARK_THRESH k) || s.on MEM_DDR_STAT_MARKED k then s
      else report (srcChannel k 2) ((s.put MEM_DDR_STAT_MARKED 1 k).put MEM_DDR_STAT_MARKED_DEV dev k)

/-- The patrol scrub of channel k (m below 8) or of a stack corrects n bursts (R332); at the end of its period the corrections by device
start afresh. -/
def patrolScrub (m n : Nat) (last : Bool) (s : State) : State :=
  if m < 8 then
    let s := s.bumpBy n MEM_DDR_SCRUB_FIX_CNT m
    if last then onChan m (fun x => { x with marks := [] }) s else s
  else s.bumpBy n MEM_HBM_CE_CNT (m - 8)

/-! ### Requests, refresh, temperature (R327 to R329) -/

/-- The urgency of a request of this age against its target (R327). -/
def urgency (age target : Nat) : Nat := if target ≤ age then 16 else 16 * age / target

/-- The latency target of a port of channel m, or of pseudo-channel m − 8 (Table 13.4). -/
def targetOf (s : State) (m port : Nat) : Nat :=
  clamp 20 1000000 (if m < 8 then s.get MEM_DDR_QOS_TARGET_NS m port else s.get MEM_HBM_QOS_TARGET_NS ((m - 8) / 32) port)

/-- The urgency of a request at the present tick. -/
def urgencyNow (s : State) (m : Nat) (r : MemReq) : Nat := urgency (s.clock - r.arrival) (targetOf s m r.port)

/-- Request a goes before request b (R327): by urgency, overdue requests by age alone, else row hit first, then the oldest. -/
def goesFirst (s : State) (m : Nat) (a b : MemReq) : Bool :=
  let u := urgencyNow s m a
  let v := urgencyNow s m b
  if u != v then decide (v < u)
  else if u = 16 then decide (a.arrival < b.arrival)
  else if a.hit != b.hit then a.hit
  else decide (a.arrival < b.arrival)

/-- The direction of the bus of channel m, or of pseudo-channel m − 8: that of the request issued last, none before the first. -/
def busWrites (s : State) (m : Nat) : Option Bool :=
  (if m < 8 then (chanOf s m).issued else Store.get? s.mem.issued (m - 8)).map (fun r => r.write)

/-- The candidates of a decision (R327): the queued requests whose bank timing allows issue now; those against the bus direction only where
the bus may turn, for want of another, with 48 writes queued, or for one of urgency 12. -/
def candidates (s : State) (m : Nat) (l : List MemReq) : List MemReq :=
  let cand := l.filter (fun r => r.ready)
  match busWrites s m with
  | none => cand
  | some w =>
    let same := cand.filter (fun r => r.write == w)
    if same.isEmpty || 48 ≤ (l.filter (fun r => r.write)).length || l.any (fun r => r.write != w && 12 ≤ urgencyNow s m r) then cand else same

/-- The request that issues next among those queued (R327): the first of the best candidates. -/
def chooseRequest (s : State) (m : Nat) (l : List MemReq) : Option MemReq :=
  (candidates s m l).foldl (fun (b : Option MemReq) r =>
    match b with
    | none => some r
    | some x => if goesFirst s m r x then some r else some x) none

/-- An activate on channel k draws its LFSR (R329): a neighbour refresh is queued and counted with probability 2^-NR_SHIFT. -/
def activate (k : Nat) (r : MemReq) (s : State) : State :=
  let x := s.freeWord.toNat
  let s := s.drew
  if x % 2 ^ clamp 4 15 (s.get MEM_DDR_CFG_NR_SHIFT k) != 0 then s
  else
    let one := fun (row : Nat) (drfm : Bool) => (⟨s.clock, r.rank, r.bank, row, drfm⟩ : Neighbour)
    let rows := if s.on MEM_DDR_STAT_DENSITY k then 131072 else 65536
    let far := if s.on MEM_DDR_CFG_NR_RADIUS k then [1, 2] else [1]
    let l := if s.on MEM_DDR_STAT_DRFM k then [one r.row true]
      else far.flatMap (fun d => (if d ≤ r.row then [one (r.row - d) false] else []) ++ (if r.row + d < rows then [one (r.row + d) false] else []))
    (onChan k (fun c => { c with neighbours := c.neighbours ++ l }) s).bump MEM_DDR_NR_CNT k

/-- Channel m, or pseudo-channel m − 8, issues its next column command among its queued requests (R327); a queued neighbour refresh runs
with urgency 16 (R329). -/
def issueRequest (m : Nat) (l : List MemReq) (s : State) : State :=
  let c := chooseRequest s m l
  let older := fun (n : Neighbour) => match c with
    | none => true
    | some r => urgencyNow s m r < 16 || n.arrival ≤ r.arrival
  match (if m < 8 then (chanOf s m).neighbours else []), c with
  | n :: rest, c =>
    if older n then onChan m (fun x => { x with neighbours := rest }) s
    else (match c with | none => s | some r => issue r s)
  | [], none => s
  | [], some r => issue r s
where
  /-- The request issues: recorded, counted where its target has passed, and drawn against the LFSR where it opens a row. -/
  issue (r : MemReq) (s : State) : State :=
    let late := targetOf s m r.port < s.clock - r.arrival
    let b := if m < 8 then 13 + m else 11 + (m - 8) / 32
    let urgent := urgencyNow s m r == 16
    let s := countEvent b (if r.write then 0x02 else 0x01) r.port 1 s
    let s := if r.hit then s else countEvent b 0x03 0xFFF 1 s
    let s := if urgent then countEvent b 0x05 r.port 1 s else s
    if m < 8 then
      let s := onChan m (fun x => { x with issued := some r }) s
      let s := if late then s.bump MEM_DDR_LAT_MISS m r.port else s
      if r.hit then s else activate m r s
    else
      let s := { s with mem := { s.mem with issued := Store.set s.mem.issued (m - 8) r } }
      if late then s.bump MEM_HBM_LAT_MISS ((m - 8) / 32) r.port else s

/-- tREFI of channel k in ns: halved above 85 °C (R328). -/
def refreshInterval (s : State) (k : Nat) : Nat := if 85 < s.get MEM_DDR_STAT_DIMM_TEMP_C k then 1950 else 3900

/-- A same-bank refresh of channel k falls due for a bank, a tREFI after the one before (R328): it waits while an overdue request is queued
for the bank, at most four behind; the fifth is forced, and without such a request the bank catches up. -/
def refreshDue (k bank : Nat) (overdue : Bool) (s : State) : State :=
  let n := Store.getD (chanOf s k).owed bank 0
  let due := Store.getD (chanOf s k).refreshed bank 0 + refreshInterval s k
  if s.clock < due then s
  else refresh n (onChan k (fun x => { x with refreshed := Store.set x.refreshed bank s.clock }) s)
where
  /-- What the refresh does with n owed. -/
  refresh (n : Nat) (s : State) : State :=
  if overdue && n < 4 then (onChan k (fun x => { x with owed := Store.put x.owed bank 0 (n + 1) }) s).bump MEM_DDR_REF_POSTPONE_CNT k
  else if overdue then countEvent (13 + k) 0x06 0xFFF 1 s
  else countEvent (13 + k) 0x06 0xFFF (n + 1) (onChan k (fun x => { x with owed := Store.erase x.owed bank }) s)

/-- The thermal sensors of channel k's DIMMs are read (R328): the hottest, in °C. -/
def dimmTemp (k t : Nat) (s : State) : State :=
  let s := s.put MEM_DDR_STAT_DIMM_TEMP_C t k
  if 95 < t then report (srcChannel k 3) s else s

end Sys2Proof.Machine
end

