-- ==== Sys2Proof/Machine/Time.lean ====
section
/-! DEFINITION. The time base (chapter 12): the clock counter, its servo sessions, steps, holdover, pins and timed wakes. -/

namespace Sys2Proof.Machine

/-! ### The clock counter (R293, R294) -/

/-- The fraction's range: 2^32. -/
def fracUnit : Nat := 4294967296

/-- The lowest and highest increment: 1 ns ± 500 ppm (R294). -/
def incrLow : Nat := 0xFFDF3B65
/-- The highest increment. -/
def incrHigh : Nat := 0x10020C49B

/-- The ticks, of which the first k add the temporary increment, until SEC has carried c times. -/
def carryTick (c k : Nat) (s : State) : Nat :=
  let need := c * nsPerSec * fracUnit - (s.time.ns * fracUnit + s.time.frac)
  if need ≤ k * s.time.tempIncr then ceilDiv need s.time.tempIncr
  else k + ceilDiv (need - k * s.time.tempIncr) (s.num TIM_INCR)

/-- n TIME ticks (R293): each adds the increment of its moment, the temporary one while ticks of it are left; a carry into SEC
starts a 1PPS pulse where PPS_OUT_EN is 1 (R307). -/
def timeTicks (n : Nat) (s : State) : State :=
  let left := s.get TIM_TEMP_TEMP_LEFT
  let k := min n left
  let acc := s.time.ns * fracUnit + s.time.frac + (k * s.time.tempIncr + (n - k) * s.num TIM_INCR)
  let ns := acc / fracUnit
  let pulse := decide (nsPerSec ≤ ns) && s.on TIM_CTRL_PPS_OUT_EN
  let t := { s.time with
    frac := acc % fracUnit, ns := ns % nsPerSec, sec := (s.time.sec + ns / nsPerSec) % 2 ^ 48, ticks := s.time.ticks + n,
    stepTick := s.time.stepTick && n == 0, ppsPulse := s.time.ppsPulse || pulse,
    ppsAt := if pulse then s.time.ticks + carryTick (ns / nsPerSec) k s else s.time.ppsAt }
  State.put { s with time := t } TIM_TEMP_TEMP_LEFT (left - n)

/-- The temporary rate has run out (R293): INCR applies again. -/
def tempEnd (s : State) : State := if s.get TIM_TEMP_TEMP_LEFT = 0 then s.put TIM_STAT_TEMP_ACTIVE 0 else s

/-- A 1PPS pulse has run PPS_WIDTH_US (R307). -/
def ppsEnd (s : State) : State :=
  if s.clock < s.time.ppsAt + clamp 1 999999 (s.get TIM_CTRL_PPS_WIDTH_US) * 1000 then s
  else { s with time := { s.time with ppsPulse := false } }

/-- An increment held within its range (R294); a clamp is shown, counted and reported. -/
def clampIncr (v : Nat) (s : State) : Nat × State :=
  if v < incrLow || incrHigh < v then (clamp incrLow incrHigh v, report (srcTime 1) ((s.put TIM_STAT_CLAMPED 1).bump TIM_CLAMP_CNT))
  else (v, s.put TIM_STAT_CLAMPED 0)

/-! ### Servo sessions (R296 to R301) -/

/-- The clock state set, with the black-box entry of R446 where it changes. -/
def setClockState (n : Nat) (s : State) : State :=
  if s.get TIM_STAT_STATE = n then s else bbNote 7 9 0 (s.put TIM_STAT_STATE n)

/-- A session runs: STATE 1 or 2. -/
def inSession (s : State) : Bool := s.get TIM_STAT_STATE == 1 || s.get TIM_STAT_STATE == 2

/-- The servo watchdog starts afresh (R300). -/
def restartWatch (s : State) : State := { s with time := { s.time with watch := s.time.ticks } }

/-- No temporary rate runs. -/
def cancelTemp (s : State) : State := ((s.put TIM_TEMP_TEMP_LEFT 0).put TIM_TEMP_TEMP_FRAC 0).put TIM_STAT_TEMP_ACTIVE 0

/-- TIME_SESSION_OPEN (Table 12.2): any session or holdover ends and a new session opens. -/
def openServo (s : State) : State :=
  let s := restartWatch ((setClockState 1 s).inc TIM_STAT_SESSION)
  { s with time := { s.time with history := [] } }.put TIM_STAT_HOLD_REASON 0

/-- The increment of holdover (R301). -/
def holdIncr (s : State) : Nat :=
  if s.on TIM_CTRL_HOLD_SRC && !s.time.history.isEmpty then s.time.history.sum / s.time.history.length else s.time.lastIncr

/-- Entry into HOLDOVER (R301) with its reason: 1 watchdog, 2 closed. -/
def enterHoldover (reason : Nat) (s : State) : State :=
  let s := (cancelTemp s).setReg TIM_INCR (BitVec.ofNat 64 (holdIncr s))
  let s := (setClockState 3 s).put TIM_STAT_HOLD_REASON reason
  let s := postEvent 0x0030 0 (leBytes 1 reason) (s.bump TIM_HOLD_CNT)
  if reason = 1 then report (srcTime 0) s else s

/-- The servo watchdog reaches WD_MS (R300). -/
def watchdogExpires (s : State) : State :=
  if inSession s && s.time.watch + clamp 100 60000 (s.get TIM_CTRL_WD_MS) * 1000000 ≤ s.clock then enterHoldover 1 s else s

/-- TIME_ADJ (Table 12.2): INCR, and with TEMP_TICKS a temporary rate before it; the watchdog restarts. -/
def adjustTime (incr temp ticks : Nat) (s : State) : State :=
  let r := clampIncr incr (cancelTemp s)
  let s := r.2.setReg TIM_INCR (BitVec.ofNat 64 r.1)
  let s := if ticks = 0 then s
    else
      let t := clampIncr temp s
      let both := s.on TIM_STAT_CLAMPED || t.2.on TIM_STAT_CLAMPED
      let s := { t.2 with time := { t.2.time with tempIncr := t.1 } }
      (((s.flag TIM_STAT_CLAMPED both).put TIM_TEMP_TEMP_LEFT ticks).put TIM_TEMP_TEMP_FRAC t.1).put TIM_STAT_TEMP_ACTIVE 1
  let s := restartWatch (s.bump TIM_ADJ_CNT)
  { s with time := { s.time with lastIncr := r.1, history := (r.1 :: s.time.history).take 16 } }

/-! ### Pins (R306 to R309) -/

/-- The pin k. -/
def pinOf (s : State) (k : Nat) : PinSide := Store.getD s.time.pins k ⟨none, false, none, 0⟩

/-- The state with pin k changed. -/
def onPin (k : Nat) (f : PinSide → PinSide) (s : State) : State :=
  { s with time := { s.time with pins := Store.upd s.time.pins k ⟨none, false, none, 0⟩ f } }

/-- A trigger fires late (R309 to R311). -/
def lateTrigger (s : State) : State := report (srcTime 3) (s.bump TIM_TRIG_LATE_CNT)

/-- A pin output pulse starts on pin k, and the next of a periodic pin is due a period later (R306). -/
def startPulse (k : Nat) (s : State) : State :=
  let period := clamp 100 nsPerSec (s.get TIM_PIN_PERIOD_PERIOD_NS k)
  let periodic := s.get TIM_PIN_CFG_MODE k = 3
  onPin k (fun x => { x with pulsing := true, startedAt := s.clock, next := if periodic then x.next.map (· + period) else none }) s

/-- The scheduled TIME of pin k is reached (R306, R309). -/
def pinPulse (k : Nat) (s : State) : State :=
  match (pinOf s k).next with
  | none => s
  | some t => if s.nowNs < t then s else startPulse k s

/-- The pulse of pin k has run WIDTH_NS. -/
def pulseEnd (k : Nat) (s : State) : State :=
  if s.clock < (pinOf s k).startedAt + s.get TIM_PIN_CFG_WIDTH_NS k then s else onPin k (fun x => { x with pulsing := false }) s

/-- TIME_PIN_SET (R306, R309): the registers of Table 12.7, and the first pulse that is due; a single pulse whose START has passed is
emitted at once and counted. -/
def setPin (k mode edge pol evt adj width ns sec period : Nat) (s : State) : State :=
  let s := (((((s.put TIM_PIN_CFG_MODE mode k).put TIM_PIN_CFG_EDGE edge k).put TIM_PIN_CFG_POLARITY pol k).put TIM_PIN_CFG_EVT_EN evt k).put
    TIM_PIN_CFG_ADJ_PS adj k).put TIM_PIN_CFG_WIDTH_NS width k
  let s := ((s.put TIM_PIN_START_NS_START_NS ns k).put TIM_PIN_START_S_START_S sec k).put TIM_PIN_PERIOD_PERIOD_NS period k
  let start := stampNs ⟨sec, ns⟩
  let due := if mode = 2 then some start else if mode = 3 then some (listStart start (max 1 period) s.nowNs).1 else none
  let s := onPin k (fun x => { x with pulsing := x.pulsing && decide (2 ≤ mode), next := due }) s
  if mode = 2 && start < s.nowNs then lateTrigger (startPulse k s) else s

/-- An edge on pin k (0 rising, 1 falling) (R306, R308, R311). -/
def pinCapture (k edge : Nat) (s : State) : State :=
  if s.get TIM_PIN_CFG_MODE k != 1 || s.get TIM_PIN_CFG_EDGE k != edge then s
  else
    let close := match (pinOf s k).lastEdge with | none => false | some t => s.clock < t + 100
    if close then report (srcTime 4) (s.bump TIM_CAP_MISS_CNT)
    else
      let t := adjusted s.now (signedOf 16 (s.get TIM_PIN_CFG_ADJ_PS k))
      let s := ((s.put TIM_CAP_LO_NS t.ns k).put TIM_CAP_LO_SEC_LO (t.sec % 2 ^ 32) k).put TIM_CAP_HI_SEC_HI (t.sec / 2 ^ 32) k
      let s := (s.flag TIM_CAP_HI_STEP s.time.stepTick k).inc TIM_CAP_HI_CAP_SEQ k
      let s := onPin k (fun x => { x with lastEdge := some s.clock }) s
      if s.on TIM_PIN_CFG_EVT_EN k then
        postEventAt 0x0031 k t (leBytes 4 (s.get TIM_CAP_HI_CAP_SEQ k) ++ leBytes 1 (s.get TIM_CAP_HI_STEP k)) s
      else s

/-! ### Timed wakes (R310) -/

/-- The time of the pending TIME_WAKE of quarter q. -/
def wakeAt (s : State) (q : Nat) : Nat :=
  stampNs ⟨s.get TIM_WAKE_LO_SEC_LO q + s.get TIM_WAKE_HI_SEC_HI q * 2 ^ 32, s.get TIM_WAKE_LO_NS q⟩

/-- Whether the wake request of time t is due: at t − 2.0 µs. -/
def wakeDue (s : State) (t : Nat) : Bool := t ≤ s.nowNs + 2000

/-- TIME_WAKE for quarter q (R310): pending, or sent at once and counted where its request time has passed. -/
def setWake (q sec ns : Nat) (s : State) : State :=
  let s := ((s.put TIM_WAKE_LO_NS ns q).put TIM_WAKE_LO_SEC_LO (sec % 2 ^ 32) q).put TIM_WAKE_HI_SEC_HI (sec / 2 ^ 32) q
  if stampNs ⟨sec, ns⟩ < s.nowNs + 2000 then lateTrigger (wakeUnit q (s.put TIM_WAKE_LO_PENDING 0 q))
  else s.put TIM_WAKE_LO_PENDING 1 q

/-- The request time of the pending TIME_WAKE of quarter q arrives (R310). -/
def wakeFires (q : Nat) (s : State) : State :=
  if s.on TIM_WAKE_LO_PENDING q && wakeDue s (wakeAt s q) then wakeUnit q (s.put TIM_WAKE_LO_PENDING 0 q) else s

/-! ### Steps (R297 to R299, R311) -/

/-- Port p's declaration of quiet ends and the wake request goes to its quarter (R290, R291). -/
def endQuiet (p : Nat) (s : State) : State :=
  if !(portOf s p).quiet then s
  else wakeUnit (s.get PRT_STATUS_QUARTER p) (onPort p (fun x => { x with quiet := false }) s)

/-- A pin after a step from a to b (R311): a single pulse skipped fires now and late; a periodic pulse goes on with the first after
b, or at or after it where TIME went back. -/
def stepPin (a b k : Nat) (s : State) : State :=
  match (pinOf s k).next with
  | none => s
  | some t =>
    let mode := s.get TIM_PIN_CFG_MODE k
    if mode = 2 then if a < t && t ≤ b then lateTrigger (startPulse k s) else s
    else
      let start := stampNs ⟨s.get TIM_PIN_START_S_START_S k, s.get TIM_PIN_START_NS_START_NS k⟩
      let period := clamp 100 nsPerSec (s.get TIM_PIN_PERIOD_PERIOD_NS k)
      let from_ := if a < b then b + 1 else b
      onPin k (fun x => { x with next := some (start + ceilDiv (from_ - start) period * period) }) s

/-- A pending TIME_WAKE skipped by a step from a to b fires now and late (R311). -/
def stepWake (a b q : Nat) (s : State) : State :=
  let t := wakeAt s q
  if s.on TIM_WAKE_LO_PENDING q && a < t && t ≤ b then lateTrigger (wakeUnit q (s.put TIM_WAKE_LO_PENDING 0 q)) else s

/-- TIME replaced by b nanoseconds (R286, R297 to R299, R311): gate lists go on where the new TIME puts them, a pending list whose start is
now past starts, quiet periods end, and pending triggers are met. -/
def stepTo (b : Nat) (s : State) : State :=
  let a := s.nowNs
  let t := nsStamp b
  let s := { s with time := { s.time with sec := t.sec, ns := t.ns, stepTick := true } }
  let s := (s.setReg TIM_STEP_LAST (BitVec.ofInt 64 ((b : Int) - (a : Int)))).bump TIM_STEP_CNT
  let s := (setClockState 2 (s.put TIM_STAT_VALID 1))
  let s := (List.range 96).foldl (fun s p =>
    let s := match Store.get? s.egr.gcl p with
      | some g => if g.enable then gatePosition p (s.put SCH_GCL_STAT_STEPPED 1 p) else s
      | none => s
    endQuiet p (gateListStarts p s)) s
  let s := (List.range 256).foldl (fun s i => streamListStarts i s) s
  let s := (List.range 4).foldl (fun s k => stepPin a b k s) s
  let s := (List.range 5).foldl (fun s q => stepWake a b q s) s
  report (srcTime 5) s

/-- What a TIME_STEP makes of TIME: MODE 0 adds a signed offset of nanoseconds, MODE 1 sets an absolute time; none where R297 refuses
it. -/
def stepTarget (s : State) (mode : Nat) (offset : Int) (t : Stamp) : Option Nat :=
  let limit : Nat := 2 ^ 48 * nsPerSec
  if mode = 0 then
    let v := (s.nowNs : Int) + offset
    if v < 0 || (limit : Int) ≤ v || 2 ^ 62 ≤ offset.natAbs then none else some v.toNat
  else if mode = 1 then
    if nsPerSec ≤ t.ns || limit ≤ stampNs t then none else some (stampNs t)
  else none

end Sys2Proof.Machine
end

