-- ==== Sys2Proof/Machine/Power.lean ====
section
/-! DEFINITION. Rest and wake, the ageing measurement and the margin re-plan, set points, clocks and power estimates (R39, R302,
R452 to R470, R505). -/

namespace Sys2Proof.Machine

/-! ### Rest and wake (R454 to R458) -/

/-- Ports that a quarter serves. -/
def portsOf (s : State) (q : Nat) : List Nat := (List.range 96).filter (fun p => servingQuarter s p == q)

/-- A fetch is queued for channel k (R456). -/
def fetchQueued (s : State) (k : Nat) : Bool :=
  s.flow.pend.any (fun e => e.2.waits = .fetch && (firkinOf s e.2.key).isNone && (bucketsOf s e.2.key).any (fun b => (bucketChans s b).contains k))

/-- Unit u is empty (R456). -/
def unitEmpty (s : State) (u : Nat) : Bool :=
  if u < 5 then
    let x := quarterOf s u
    x.wake.isEmpty && x.recirc.isEmpty && x.inspect.isEmpty && x.release.isEmpty && oldRefs s u == 0
  else if u < 9 then (queuedTasks s (u - 5)).isEmpty && (runningTasks s (u - 5)).isEmpty
  else
    let k := u - 9
    !chanBusy s k && !s.on MEM_DDR_STAT_RESILVER k && !s.on MEM_DDR_STAT_FREQ_PENDING k && (chanOf s k).owed.all (fun e => e.2 == 0) &&
      !s.mem.catchUp.any (fun e => e.1 == k) && !writesQueued s k && !fetchQueued s k

/-- A rest request for unit u: true where it rests; a unit that is not empty, or that is waking, stays awake and counts a deferral
(R456). -/
def restUnit (u : Nat) (s : State) : Bool × State :=
  if resting s u then (true, s)
  else if !waking s u && unitEmpty s u then (true, setSleep u true false s)
  else (false, s.bump PWR_REST_DEFER_CNT u)

/-- The reserve quarter rests while it serves no ports and RESERVE_REST is 1 (R458). -/
def reserveRests (s : State) (q : Nat) : Bool :=
  s.get FLT_QTR_STAT_RESERVE == q && s.on QTR_SLEEP_CTRL_RESERVE_REST q && (portsOf s q).isEmpty

/-- The wake planner asks for the rest of quarter q (R290, R456): every port it serves declares it quiet. -/
def plannerRests (s : State) (q : Nat) : Bool :=
  s.on QTR_SLEEP_CTRL_PLAN_EN q && !(portsOf s q).isEmpty && (portsOf s q).all (fun p => (portOf s p).quiet)

/-- Unit u, a cluster or a channel, asks for its own rest (R456). -/
def autoRests (s : State) (u : Nat) : Bool :=
  if u < 9 then bitOf (s.get PWR_REST_CFG_CL_AUTO) (u - 5) else bitOf (s.get PWR_REST_CFG_DDR_AUTO) (u - 9)

/-- The clusters and channels that are busy at the end of a step are empty no earlier than now (R456). -/
def markBusy (s : State) : State :=
  (List.range' 5 12).foldl (fun s u => if unitEmpty s u then s else busyNow u s) s

/-- Cluster or channel u may rest by itself and has been empty for IDLE_US without a break (R456). -/
def idleDue (s : State) (u : Nat) : Bool :=
  5 ≤ u && autoRests s u && unitEmpty s u &&
    Store.getD s.power.busyAt u 0 + clamp 1 65535 (s.get PWR_REST_CFG_IDLE_US) * 1000 ≤ s.clock

/-- A rest request of the wake planner, of the reserve's rule, or of a unit that rests by itself. -/
def restRequest (u : Nat) (s : State) : State :=
  let asked := if u < 5 then reserveRests s u || plannerRests s u else idleDue s u
  if fenced s u || !asked then s else (restUnit u s).2

/-- A cluster or channel has been empty for IDLE_US without a break (R456). -/
def idleRest (u : Nat) (s : State) : State :=
  if fenced s u || !idleDue s u then s else (restUnit u s).2

/-- QTR_SLEEP_CTRL of the reserve is written: it rests, or wakes where RESERVE_REST is cleared (R458). -/
def reserveRestWritten (q : Nat) (s : State) : State :=
  if s.get FLT_QTR_STAT_RESERVE != q || fenced s q || !(portsOf s q).isEmpty then s
  else if s.on QTR_SLEEP_CTRL_RESERVE_REST q then (restUnit q s).2
  else wakeUnit q s

/-- The wake of a quarter does not complete (R44, R436). -/
def wakeFails (q : Nat) (s : State) : State :=
  if waking s q then report (srcQuarter q 3) (setSleep q true false s) else s

/-- The body of UNIT_REST (R457). -/
def unitRestBody (u : Nat) (s : State) : Answer :=
  if 17 ≤ u then failed 1 s
  else if fenced s u then failed 3 s
  else okWith (if (restUnit u s).1 then 0 else 1) (restUnit u s).2

/-- The body of UNIT_WAKE (R457). -/
def unitWakeBody (u : Nat) (s : State) : Answer :=
  if 17 ≤ u then failed 1 s else if fenced s u then failed 3 s else ok_ (wakeUnit u s)

/-! ### Ageing (R463 to R468) -/

/-- The rail of monitor m (Table 18.5): 0 VDD_CORE, 1 VDD_XP, 2 VDD_AON. -/
def monRail (m : Nat) : Nat :=
  if m = 0 || m = 32 then 2 else if m = 1 || m = 2 || (16 ≤ m && m ≤ 19) || m = 33 || m = 34 then 1 else 0

/-- The kind of monitor m: 0 ring oscillator, 1 critical-path replica, 2 SRAM sensor. -/
def monKind (m : Nat) : Nat := if m < 16 then 0 else if m < 32 then 1 else 2

/-- A measurement of all monitors (R464): the reading and the drift in mV of each. -/
def measureAll (readings : List (Nat × Int)) (s : State) : State :=
  let s := (List.range 48).foldl (fun s m =>
    let r := readings[m]?.getD (0, 0)
    (s.put PWR_MON_READING r.1 m).put PWR_MON_DRIFT_MV (signedCode 16 r.2) m) s
  s.bump PWR_MEASURE_CNT

/-- The drift of monitor m. -/
def driftOf (s : State) (m : Nat) : Int := signedOf 16 (s.get PWR_MON_DRIFT_MV m)

/-- The largest drift on a rail with the lowest-numbered monitor that shows it. -/
def worstOf (s : State) (r : Nat) : Int × Nat :=
  let l := (List.range 48).filter (fun m => monRail m == r)
  let m0 := l.headD 0
  l.foldl (fun (b : Int × Nat) m => if b.1 < driftOf s m then (driftOf s m, m) else b) (driftOf s m0, m0)

/-- The set point that rail r is to step to. -/
def targetSet (s : State) (r : Nat) : Nat := Store.getD s.power.targets r (s.get PWR_AVS_SETPOINT_MV r)

/-- The plan of rail r (R465). start: the start-up plan. -/
def planRail (start : Bool) (r : Nat) (s : State) : State :=
  let d := (max 0 (worstOf s r).1).toNat
  let target := s.get PWR_AVS_NOMINAL_MV r + s.get PWR_AVS_G0_MV r + d
  let top := s.get PWR_AVS_MAX_MV r
  let set := if start then min target top else min (max target (targetSet s r)) top
  let s := (s.put PWR_AVS_DRIFT_MV (min 255 d) r).flag PWR_AVS_LOW (top < target) r
  let s := { s with power := { s.power with targets := Store.set s.power.targets r set } }
  if top < target then report (srcMarginLow r) s else s

/-- The base guard band of VDD_AON, held in fuses: no register shows it. -/
def aonG0 : Nat := Config.aonGuard

/-- The remaining life of a rail with drift d and allowance a after h hours (R467). -/
def remainingLife (h : Nat) (d a : Int) : Nat :=
  if h = 0 || d ≤ 0 then 0xFFFFFFFF
  else if a ≤ d then 0
  else min (h * a.toNat ^ 5 / d.toNat ^ 5 - h) 0xFFFFFFFE

/-- The allowance of an adaptive rail. -/
def allowance (s : State) (r : Nat) : Int := (s.get PWR_AVS_MAX_MV r : Int) - s.get PWR_AVS_NOMINAL_MV r - s.get PWR_AVS_G0_MV r

/-- PWR_LIFE after a plan (R467). -/
def planLife (s : State) : State :=
  let left := fun (r : Nat) => allowance s r - (worstOf s r).1
  let r := if left 1 < left 0 then 1 else 0
  (s.put PWR_LIFE_REMAIN_H (remainingLife (s.get PWR_HOURS_HOURS) (worstOf s r).1 (allowance s r))).put PWR_LIFE_LIMIT_MON (worstOf s r).2

/-- The 49 margin reports of a re-plan (R468). -/
def marginReports (s : State) : State :=
  let s := (List.range 48).foldl (fun s m =>
    postEvent 0x0050 m (leBytes 2 (s.get PWR_MON_READING m) ++ leBytes 2 (s.get PWR_MON_ZERO m) ++
      leBytes 2 (s.get PWR_MON_DRIFT_MV m) ++ leBytes 1 (monKind m) ++ leBytes 1 (monRail m)) s) s
  postEvent 0x0050 0xFFFF (leBytes 2 (targetSet s 0) ++ leBytes 2 (targetSet s 1) ++ leBytes 4 (s.get PWR_LIFE_REMAIN_H) ++
    leBytes 1 (s.get PWR_LIFE_LIMIT_MON) ++ leBytes 1 (s.get PWR_AGE_CFG_NEED_RETRAIN) ++
    leBytes 1 ((s.power.planBins.map (fun k => 2 ^ k)).sum)) s

/-- The loop of a re-plan has ended: life, reports, count, and the waiting MARGIN_REPLAN completes (R465). -/
def planEnds (s : State) : State :=
  if !s.power.planRunning || !s.power.plan.isEmpty then s
  else
    let s := (marginReports (planLife s)).bump PWR_REPLAN_CNT
    finishWaiting (fun w => w.opcode == 0x0E03) (fun _ => resOk) { s with power := { s.power with planRunning := false, planBins := [] } }

/-- A channel's eye lies below EYE_MIN_PS (R465). -/
def eyeLow (s : State) (k : Nat) : Bool :=
  match Store.get? s.power.eyePs k with
  | none => false
  | some e => e < clamp 4 100 (s.get PWR_AGE_CFG_EYE_MIN_PS)

/-- The re-plan of channel k (R465): a low eye is retrained where that is allowed and the channel is free, else NEED_RETRAIN is set. -/
def planChannel (s : State) (k : Nat) : State :=
  if s.on MEM_DDR_STAT_FENCED k || !eyeLow s k then s
  else if s.on PWR_AGE_CFG_AUTO_MEM && (mirrored s || mirrorActive s) && !chanBusy s k then
    startPass k 2 (s.get MEM_DDR_STAT_BIN k) { s with power := { s.power with plan := s.power.plan ++ [k] } }
  else s.put PWR_AGE_CFG_NEED_RETRAIN (withBit (s.get PWR_AGE_CFG_NEED_RETRAIN) k true)

/-- A channel retrained by the re-plan (R465): an eye still low asks for the next bin, or is reported in bin 2. -/
def planAfterPass (k : Nat) (s : State) : State :=
  if !s.power.plan.contains k || (chanOf s k).pass != 0 then s
  else
    let s := { s with power := { s.power with plan := s.power.plan.filter (fun j => j != k) } }
    let bin := s.get MEM_DDR_STAT_BIN k
    let s := if !eyeLow s k then s
      else if bin < 2 then
        let s := { s with power := { s.power with planBins := s.power.planBins ++ [k] } }
        if s.on MEM_DDR_STAT_FREQ_PENDING k || fenced s (9 + k) then s else requestBin k (bin + 1) s
      else report (srcChannel k 4) s
    planEnds s

/-- Lanes whose eye was read and, where low, read again after re-adaptation (R465): lanes 0 to 95 of the ports, 96 to 99 of Varing. -/
def planLane (s : State) (e : Nat × Nat × Nat) : State :=
  let low := clamp 5 100 (s.get PWR_AGE_CFG_SERDES_EYE_MIN_MV)
  if !s.on PWR_AGE_CFG_AUTO_SERDES || low ≤ e.2.1 || low ≤ e.2.2 then s
  else if e.1 < 96 then (if (portOf s e.1).enabled then raiseAt (srcPort e.1) 4 s else s)
  else if e.1 < 100 then report (srcLane (e.1 - 96) 3) s
  else s

/-- A measurement and the re-plan that follows it (R464, R465). -/
def replan (start : Bool) (readings : List (Nat × Int)) (lanes : List (Nat × Nat × Nat)) (s : State) : State :=
  let s := planRail start 1 (planRail start 0 (measureAll readings s))
  let s := if (aonG0 : Int) < (worstOf s 2).1 then report srcMarginAon s else s
  let s := { s with power := { s.power with planRunning := true, plan := [], planBins := [] } }
  let s := lanes.foldl planLane ((List.range 8).foldl planChannel s)
  planEnds s

/-- The body of AGE_MEASURE (R464). -/
def ageMeasureBody (readings : List (Nat × Int)) (s : State) : Answer :=
  if s.power.planRunning then failed 4 s else ok_ (measureAll readings s)

/-- The body of MARGIN_REPLAN (R465). -/
def replanBody (readings : List (Nat × Int)) (lanes : List (Nat × Nat × Nat)) (s : State) : Answer :=
  if s.power.planRunning then failed 4 s
  else
    let t := replan false readings lanes s
    if t.power.planRunning then .wait 0 0 0 t else ok_ t

/-- The measurement at start-up, once HKS runs and before EXPRESS_READY, or the one due PERIOD_H hours after the last of the two kinds, with
its re-plan (R460, R464). -/
def periodicMeasure (readings : List (Nat × Int)) (lanes : List (Nat × Nat × Nat)) (s : State) : State :=
  let due := match s.power.ageAt with
    | none => s.on PWR_READY_HOST_READY
    | some t => decide (t + clamp 1 168 (s.get PWR_AGE_CFG_PERIOD_H) * 3600 * nsPerSec ≤ s.clock)
  if s.power.planRunning || !due then s
  else replan s.power.ageAt.isNone readings lanes { s with power := { s.power with ageAt := some s.clock } }

/-- The set point of rail r moves one step of at most 5 mV towards its goal (R466). -/
def moveSetpoint (r : Nat) (s : State) : State :=
  let cur := s.get PWR_AVS_SETPOINT_MV r
  let goal := targetSet s r
  { s.put PWR_AVS_SETPOINT_MV (if cur < goal then min (cur + 5) goal else max (cur - 5) goal) r with
    power := { s.power with steppedAt := Store.set s.power.steppedAt r s.clock } }

/-- 20 µs have passed since the last step of rail r, so that it may step again (R466). -/
def stepFree (s : State) (r : Nat) : Bool :=
  match Store.get? s.power.steppedAt r with
  | none => true
  | some t => t + 20000 ≤ s.clock

/-- One 5 mV step of rail r towards its set point (R466, R505). ok: the AVSBus transaction went through; where it failed three times
the set point stays and AVS_LINK is raised. -/
def setpointStep (r : Nat) (ok : Bool) (s : State) : State :=
  if s.get PWR_AVS_SETPOINT_MV r = targetSet s r || s.power.avsFailed.contains r || s.power.railsOut.contains r || !stepFree s r then s
  else if ok then moveSetpoint r s
  else report srcAvsLink { s with power := { s.power with
    avsFailed := s.power.avsFailed ++ [r], avsAt := Store.set s.power.avsAt r s.clock } }

/-- The retry of a failed AVSBus transaction, every 1 ms (R505). -/
def avsRetry (r : Nat) (ok : Bool) (s : State) : State :=
  if !s.power.avsFailed.contains r || s.power.railsOut.contains r || s.clock < Store.getD s.power.avsAt r 0 + 1000000 then s
  else if ok then moveSetpoint r { s with power := { s.power with avsFailed := s.power.avsFailed.filter (fun j => j != r) } }
  else { s with power := { s.power with avsAt := Store.set s.power.avsAt r s.clock } }

/-- 3600 s of AON time have passed since PWR_HOURS was set or last counted (R467). -/
def hourPasses (s : State) : State :=
  if s.clock < s.power.hourAt + 3600 * nsPerSec then s
  else { s.inc PWR_HOURS_HOURS with power := { s.power with hourAt := s.power.hourAt + 3600 * nsPerSec } }

/-- The power estimates of the three rails in units of 0.1 W (R459). -/
def powerEstimate (w0 w1 w2 : Nat) (s : State) : State :=
  ((s.put PWR_ISLAND_W_WATTS w0 0).put PWR_ISLAND_W_WATTS w1 1).put PWR_ISLAND_W_WATTS w2 2

/-! ### The reference (R39, R302, R506) -/

/-- The reference fails: REF_LOST, the fault, and AON on the on-die oscillator. -/
def refLost (s : State) : State :=
  if !s.power.refPresent then s
  else
    let s := { s with power := { s.power with refPresent := false, aonOscillator := true } }
    report srcRefLost (s.put TIM_STAT_REF_LOST 1)

/-- The reference has met Table 22.3 again for 1 ms (R39). -/
def refReturns (s : State) : State :=
  if s.power.refPresent then s
  else { s with power := { s.power with refPresent := true, aonOscillator := s.power.unlocked.contains 0 } }.put TIM_STAT_REF_LOST 0

end Sys2Proof.Machine
end

