-- ==== Sys2Proof/Machine/Fence.lean ====
section
/-! DEFINITION. Fencing of units, the quarter takeover, unit resets and reintegration (R27, R40, R434 to R443, R458, R487, R492,
R496). -/

namespace Sys2Proof.Machine

/-! ### Fencing (R434, R435) -/

/-- A command that waits for unit u: REINTEGRATE of it completes with STATE when the unit is fenced again (R435). -/
def fenceWins (u : Nat) (s : State) : State := finishWaiting (fun w => w.opcode == 0x0B04 && w.key == u) (fun _ => resFail 3) s

/-- The rule counts of quarter q join the accumulator (R487). -/
def accumulateRules (q : Nat) (s : State) : State :=
  let own := fun (e : Nat × Nat) => e.1 / 2 ^ 32 == q
  let add := fun (acc : Store Nat) (l : Store Nat) => l.foldl (fun a e => Store.upd a (e.1 % 2 ^ 32) 0 (fun n => (n + e.2) % 2 ^ 64)) acc
  let c := s.counters
  { s with counters := { c with
      accFrames := add c.accFrames (c.ruleFrames.filter own), accBytes := add c.accBytes (c.ruleBytes.filter own),
      ruleFrames := c.ruleFrames.filter (fun e => !own e), ruleBytes := c.ruleBytes.filter (fun e => !own e) } }

/-- The frames in the pipeline of quarter q are refused as unaccepted at fence (R19), and its TCAM steps dropped (R106); its wake FIFO lies in island C and stays. -/
def refusePipeline (q : Nat) (s : State) : State :=
  let x := quarterOf s q
  let frames := x.release.map (fun d => d.frame)
  let s := epochStat q (onQuarter q (fun y => { y with recirc := [], inspect := [], engines := [], release := [], steps := [] }) (s.put QTR_TCAM_UPD_BUSY 0 q))
  frames.foldl (fun s f => refuseAt FLT_UNACC_FENCE q 0 f s) s

/-- Header descriptors waiting at quarter a that belong to ports which quarter b now serves wait at b, in their order (R43). -/
def moveWaiting (a b : Nat) (s : State) : State :=
  if a = b then s
  else
    let mine := fun (f : Nat) => match frameOf s f with | none => false | some x => servingQuarter s x.port == b
    let go := (quarterOf s a).wake.filter mine
    let s := onQuarter a (fun y => { y with wake := y.wake.filter (fun f => !mine f) }) s
    onQuarter b (fun y => { y with wake := y.wake ++ go }) s

/-- PRT_STATUS.QUARTER of every port follows the multiplexer (R48, Table 3.8). -/
def quarterStat (s : State) : State := (List.range 96).foldl (fun s p => s.put PRT_STATUS_QUARTER (servingQuarter s p) p) s

/-- The takeover of a failed quarter's ports begins (R437, Table 17.5): the multiplexer, the arrivals and the wake. -/
def startTakeover (p : Nat) (s : State) : State :=
  let r := s.get FLT_QTR_STAT_RESERVE
  if r = p then s.put FLT_QTR_STAT_RESERVE 7
  else if 5 ≤ r then raiseAt srcDevNoSpare p s
  else
    let s := (s.put FLT_QTR_STAT_RESERVE 7).put FLT_QTR_STAT_TAKEOVER 1
    let s := quarterStat (if p = 4 then s.put PRT_QMUX_MOVED 7 else (s.put PRT_QMUX_MOVED p).put PRT_QMUX_BUSY 1)
    let s := { s with faults := { s.faults with incoming := (if r = 4 then [4] else if p = 4 then [r] else [r, 4]) } }
    let s := if r = 4 then s else moveWaiting 4 r s
    let s := if p = 4 then s else moveWaiting p 4 s
    wakeUnit r s

/-- Unit u is fenced (R434): its gates close, its work is dealt with and its replacement starts. flags: bit 3 from SMBus. -/
def fenceUnit (u flags : Nat) (s : State) : State :=
  if fenced s u then fenceWins u s
  else
    let c := unitClass u
    let s := s.put FLT_FENCE_STAT_FENCED (withBit (s.get FLT_FENCE_STAT_FENCED) u true)
    let s := bbEntry 2 0 flags c.1 c.2 (s.freeWord.toNat % 2 ^ 16) (s.drew.freeWord.toNat % 2 ^ 48) s.drew.drew
    if u < 5 then
      let s := if waking s u then setSleep u true false s else s
      startTakeover u (accumulateRules u (refusePipeline u s))
    else if u < 9 then clusterStat (releaseBanks (u - 5) s)
    else if u < 17 then fenceChannel (u - 9) s
    else s

/-- The gates of unit u are closed (R37): it is fenced, in reset, resting or without supply; the replicas lie in island X. -/
def gatesClosed (s : State) (u : Nat) : Bool :=
  fenced s u || (u < 17 && (s.power.inReset.contains u || resting s u || !s.power.coreUp))

/-- Output of a unit behind its closed gates is discarded and counted (R37, R435). -/
def fenceViolation (u : Nat) (s : State) : State :=
  if gatesClosed s u then report srcFenceViol (s.bump FLT_FENCE_VIOL u) else s

/-- A quarter that a takeover brings in is awake and its test has ended (R439). ok: it passed; else it is fenced and no spare is left. -/
def takeoverEnds (q : Nat) (ok : Bool) (s : State) : State :=
  if !s.faults.incoming.contains q || resting s q || waking s q then s
  else
    let s := { s with faults := { s.faults with incoming := s.faults.incoming.filter (fun j => j != q) } }
    let s := if q = 4 then s.put PRT_QMUX_BUSY 0 else s
    if !ok then fenceUnit q 0 (if s.faults.incoming.isEmpty then s.put FLT_QTR_STAT_TAKEOVER 0 else s)
    else if s.faults.incoming.isEmpty then bbNote 4 2 q ((s.put FLT_QTR_STAT_TAKEOVER 0).bump FLT_TAKEOVER_CNT)
    else s

/-- The loss of a fenced cluster is dealt with (R236, R440): its map entries are owed back to it. -/
def loseCluster (c : Nat) (s : State) : State :=
  if !fenced s (5 + c) then s
  else
    let mine := (List.range 64).filter (fun i =>
      bitsOf (s.num (if i < 32 then FLW_CLUSTER_MAP_0 else FLW_CLUSTER_MAP_1)) (2 * (i % 32) + 1) (2 * (i % 32)) == c)
    if (List.range 4).all (fun k => k == c || fenced s (5 + k)) then s
    else
      let s := { s with fel := { s.fel with handBack := s.fel.handBack ++ mine.map (fun i => (i, c)) } }
      bbNote 4 3 c (clusterLoss c s)

/-! ### Unit resets (R40, R449, R462, R492, R496) -/

/-- The registers without those of an address range: they return to their reset values. -/
def clearRegs (lo hi : Nat) (s : State) : State := { s with regs := s.regs.filter (fun e => !(lo ≤ e.1 && e.1 ≤ hi)) }

/-- What a reset of quarter q leaves of it (Table 2.3): its registers, counters and tables cleared; its learned table and TCAM come back with
its reintegration. Its ring stop goes on passing notices (R142). -/
def clearQuarter (q : Nat) (s : State) : State :=
  let s := clearRegs (0x600000 + 0x100 * q) (0x6000FF + 0x100 * q) (clearRegs (0x2000000 + 0x100000 * q) (0x20FFFFF + 0x100000 * q) s)
  onQuarter q (fun y => { y with tcam := [], shadow := [], steps := [], learned := ⟨[], 0, 0⟩, tokens := 0 }) s

/-- What a reset of cluster c leaves of it: its core registers cleared and its scratchpads undefined. -/
def clearCluster (c : Nat) (s : State) : State :=
  let s := clearRegs (0x3803A00 + 0x20 * 16 * c) (0x3803A00 + 0x20 * 16 * (c + 1) - 1) s
  { s with fel := { s.fel with
      scratch := s.fel.scratch.filter (fun e => e.1 / 65536 / 16 != c), resets := Store.upd s.fel.resets c 0 (· + 1) } }

/-- What a reset of channel k leaves of it: its registers and counters cleared, and it reads as fenced. -/
def clearChannel (k : Nat) (s : State) : State :=
  let s := clearRegs (0x600000 + 0x100 * (13 + k)) (0x6000FF + 0x100 * (13 + k)) (clearRegs (0x4080000 + 0x40000 * k) (0x40BFFFF + 0x40000 * k) s)
  (onChan k (fun _ => freshChannel) s).put MEM_DDR_STAT_FENCED 1 k

/-- A reset of a quarter, cluster or channel (R40): fenced and in reset. flags: bit 3 from SMBus. -/
def resetUnit (u flags : Nat) (s : State) : State :=
  let s := fenceUnit u flags s
  let c := unitClass u
  let s := bbEntry 6 0 flags c.1 c.2 (s.freeWord.toNat % 2 ^ 16) (s.drew.freeWord.toNat % 2 ^ 48) s.drew.drew
  let s := if u < 5 then clearQuarter u s else if u < 9 then clearCluster (u - 5) s else clearChannel (u - 9) s
  if s.power.inReset.contains u then s else { s with power := { s.power with inReset := s.power.inReset ++ [u] } }

/-- The reset of a unit ends (R462): out of reset, fenced and resting. -/
def resetUnitEnds (u : Nat) (s : State) : State :=
  if s.power.inReset.contains u then
    setSleep u true false { s with power := { s.power with inReset := s.power.inReset.filter (fun j => j != u) } }
  else s

/-! ### Reintegration (R443) -/

/-- The unit is fenced no longer. -/
def unfence (u : Nat) (s : State) : State :=
  let c := unitClass u
  let s := clusterStat (s.put FLT_FENCE_STAT_FENCED (withBit (s.get FLT_FENCE_STAT_FENCED) u false))
  bbNote 3 c.1 c.2 ((List.range 512).foldl (fun s i =>
    if s.on FLT_SRC_STAT_FENCED_BY i && fenceUnitOf i == some u then s.put FLT_SRC_STAT_FENCED_BY 0 i else s) s)

/-- A quarter in service whose tables can be copied. -/
def donorQuarter (s : State) (q : Nat) : Option Nat := (List.range 5).find? (fun j => j != q && !fenced s j)

/-- The reload of quarter q from the quarters in service (R443, R496): TCAM with its bank registers, the learned addresses with the seeds they
stand under (from Q4 where it is in service, R142), the epoch and graph banks, the free words of the automaton tables, the seeds of the
other tables, and the RW fields of its window. -/
def reloadQuarter (q : Nat) (s : State) : State :=
  match donorQuarter s q with
  | none => s
  | some d =>
    let l := if q != 4 && !fenced s 4 then 4 else d
    let s := onQuarter q (fun y => { y with
      tcam := (quarterOf s d).tcam, shadow := (quarterOf s d).shadow, steps := (quarterOf s d).steps, learned := (quarterOf s l).learned }) s
    let base := 0x2000000
    let copied := (regIndex.filter (fun r => base ≤ r.base && r.base < 0x2100000 && r.rw != 0)).flatMap (fun r =>
      (List.range r.n2).flatMap (fun j => (List.range r.n3).map (fun k => (r, j, k))))
    let s := copied.foldl (fun s e =>
      let mask := BitVec.ofNat 64 e.1.rw
      s.setReg e.1 ((s.reg e.1 q e.2.1 e.2.2 &&& ~~~mask) ||| (s.reg e.1 d e.2.1 e.2.2 &&& mask)) q e.2.1 e.2.2) s
    let s := (List.range 4).foldl (fun s t => tableCount q t (s.setReg QTR_HASH_SEED (s.reg QTR_HASH_SEED (if t = 0 then l else d) t) q t)) s
    let s := (List.range 24).foldl (fun s b => s.setReg QTR_TCAM_BANK (s.reg QTR_TCAM_BANK d b) q b) s
    let s := s.flag QTR_TCAM_UPD_BUSY (!(quarterOf s q).steps.isEmpty) q
    epochStat q ((s.setReg QTR_PAT_FREE_WORDS (s.reg QTR_PAT_FREE_WORDS d) q).setReg QTR_EPOCH (s.reg QTR_EPOCH d) q)

/-- A quarter returns as the reserve and rests (R437, R458). -/
def quarterReturns (q : Nat) (s : State) : State :=
  let s := unfence q (setSleep q true false (reloadQuarter q s))
  if 5 ≤ s.get FLT_QTR_STAT_RESERVE then s.put FLT_QTR_STAT_RESERVE q else s

/-- The map entries owed back to cluster c return, each once no task of its tag index is queued, spilled or running elsewhere
(R443). -/
def returnEntries (s : State) : State :=
  s.fel.handBack.foldl (fun s e =>
    let owner := s.host.waiting.any (fun w => w.opcode == 0x0B04 && w.key == 5 + e.2)
    if !owner || (allTasks s).any (fun t => t.tag % 64 == e.1 && t.cluster != e.2) then s
    else
      let reg := if e.1 < 32 then FLW_CLUSTER_MAP_0 else FLW_CLUSTER_MAP_1
      let lo := 2 * (e.1 % 32)
      let s := s.setReg reg (BitVec.ofNat 64 (withBits (s.num reg) (lo + 1) lo e.2))
      { s with fel := { s.fel with handBack := s.fel.handBack.filter (fun x => x != e) } }) s

/-- A REINTEGRATE of a cluster completes once every entry has returned. -/
def clusterReturns (s : State) : State :=
  (List.range 4).foldl (fun s c =>
    if s.fel.handBack.any (fun e => e.2 == c) || !s.host.waiting.any (fun w => w.opcode == 0x0B04 && w.key == 5 + c) then s
    else finishWaiting (fun w => w.opcode == 0x0B04 && w.key == 5 + c) (fun _ => resOk) (unfence (5 + c) (setSleep (5 + c) false false s))) s

/-- Work on reintegrations of clusters that still goes on. -/
def handBackStep (s : State) : State :=
  if s.host.waiting.any (fun w => w.opcode == 0x0B04) then clusterReturns (returnEntries s) else s

/-- A training or resilvering of a channel that REINTEGRATE waits for has ended (R324, R443): it failed (the unit stays fenced), or the
channel is in service; without mirroring it returns empty. -/
def channelReturns (k : Nat) (ok : Bool) (s : State) : State :=
  let waits := fun (w : Waiting) => w.opcode == 0x0B04 && w.key == 9 + k
  if !s.host.waiting.any waits || (chanOf s k).pass != 0 then s
  else if !ok then finishWaiting waits (fun _ => resFail 0x0D) s
  else if s.on MEM_DDR_STAT_RESILVER k then s
  else
    let s := (setSleep (9 + k) false false s).put MEM_DDR_STAT_FENCED 0 k
    let s := { s with mem := { s.mem with lost := s.mem.lost.filter (fun e => e.1 != k) } }
    finishWaiting waits (fun _ => resOk) (unfence (9 + k) s)

/-- HANDBACK (R443): the ports of q = MOVED return from Q4, and Q4 becomes the reserve. -/
def handBack (q : Nat) (s : State) : State :=
  moveWaiting 4 q (quarterStat ((s.put PRT_QMUX_MOVED 7).put FLT_QTR_STAT_RESERVE 4))

/-- The body of REINTEGRATE (R443). pass: the outcome of the built-in self-test. -/
def reintegrateBody (u : Nat) (back pass : Bool) (s : State) : Answer :=
  if 20 ≤ u then failed 1 s
  else if back then
    if 5 ≤ u || s.get PRT_QMUX_MOVED != u || fenced s u then failed 3 s else ok_ (handBack u s)
  else if !fenced s u || s.power.inReset.contains u then failed 3 s
  else if !pass then failed 0x0D s
  else if u < 5 then ok_ (quarterReturns u s)
  else if u < 9 then
    if (s.fel.handBack.any (fun e => e.2 == u - 5)) then .wait 0 0 u s
    else ok_ (unfence u (setSleep u false false s))
  else if u < 17 then
    if s.mem.latched then .wait 0 0 u (startPass (u - 9) 4 0 (setSleep u false false s))
    else ok_ ((unfence u (setSleep u false false s)).put MEM_DDR_STAT_FENCED 0 (u - 9))
  else ok_ (unfence u { s with faults := { s.faults with inverted := s.faults.inverted.filter (fun r => r != u - 17) } })

/-- A fence command (R434). -/
def fenceBody (u : Nat) (s : State) : Answer := if 20 ≤ u then failed 1 s else ok_ (fenceUnit u 0 s)

/-- A unit reset command (R40): quarters, clusters and channels. -/
def unitResetBody (u : Nat) (s : State) : Answer := if 17 ≤ u then failed 1 s else ok_ (resetUnit u 0 s)

end Sys2Proof.Machine
end

