-- ==== Sys2Proof/Machine/Classify.lean ====
section
/-! DEFINITION. The commands of classification: parse graphs, rule-set commits, TCAM entries of the quarters and of the express path,
action entries, automaton images, hash groups and their tables (R67, R82 to R90, R93 to R119). -/

namespace Sys2Proof.Machine

/-- Completion of a table command with the mask of the quarters that applied it (R105). -/
def okTable (s : State) : Answer := .done ⟨0, quarterMask s, 0, false⟩ s

/-- The quarter whose tables stand for all that are in service: the lowest not fenced. -/
def referenceQuarter (s : State) : Nat := (liveQuarters s).headD 0

/-- Quarter-wide effect on every quarter in service. -/
def onLive (f : Nat → State → State) (s : State) : State := (liveQuarters s).foldl (fun s q => f q s) s

/-! ### Parse graphs and rule sets (R67, R88, R89) -/

/-- n numbers of k bytes from byte i of a body. -/
def numbersOf (bs : List Byte) (i k n : Nat) : List Nat := (List.range n).map (fun j => leField bs (i + k * j) k)

/-- The body of a signed image: the bytes after its header up to BODY_LEN of its signature block (R379, Table 15.2). -/
def imageBody (bs : List Byte) : List Byte := (bs.take (leField bs (bs.length - 508) 4)).drop 64

/-- PARSER_LOAD (R67): into the inactive bank. states, rows: how many of each the body holds, in this order. -/
def parserLoad (obj states rows : Nat) (sigOk : Bool) (s : State) : Answer :=
  withImage obj 3 sigOk (fun bs s =>
    let body := imageBody bs
    if 64 < states || 1024 < rows || body.length != 16 * states + 12 * rows then failed 7 s
    else
      let g : Graph := ⟨numbersOf body 0 16 states, numbersOf body (16 * states) 12 rows, leField bs 2 2⟩
      let bank := s.on QTR_EPOCH_GRAPH_BANK (referenceQuarter s)
      let s := { s with cls := if bank then { s.cls with graphA := some g } else { s.cls with graphB := some g } }
      okTable ((List.range 5).foldl (fun s q => s.put QTR_EPOCH_GRAPH_PENDING 1 q) s)) s

/-- RULESET_COMMIT, INDIR_COMMIT, LB_INDIR_COMMIT and XPR_TCAM_COMMIT begin: they take effect at a tick that the device chooses (R85,
R89, R114, R198). -/
def commitLater (detail key : Nat) (s : State) : Answer := .wait 0 detail key s

/-- The commit tick of a rule set (R89): the epoch bit flips in every quarter, and a graph that waits becomes active under the new
bit; else the new bit takes the active bank. -/
def flipEpoch (s : State) : State :=
  let r := referenceQuarter s
  let pending := s.on QTR_EPOCH_GRAPH_PENDING r
  let bank := s.on QTR_EPOCH_GRAPH_BANK r != pending
  let new := !epochBit s r
  let s := { s with cls := if new then { s.cls with bank1 := bank } else { s.cls with bank0 := bank } }
  let ver := match (if bank then s.cls.graphB else s.cls.graphA) with | none => 0 | some g => g.version
  (List.range 5).foldl (fun s q =>
    let s := ((s.inc QTR_EPOCH_EPOCH q).flag QTR_EPOCH_GRAPH_BANK bank q).put QTR_EPOCH_GRAPH_PENDING 0 q
    epochStat q (s.put QTR_EPOCH_GRAPH_VER ver q)) s

/-- The swap is complete when no quarter counts a descriptor of the old epoch (R89): RULESET_COMMIT completes. -/
def swapComplete (s : State) : State :=
  let s := (List.range 5).foldl (fun s q => epochStat q s) s
  if (List.range 5).all (fun q => oldRefs s q == 0) then
    finishWaiting (fun w => w.opcode == 0x0201 && w.key == 1) (fun _ => ⟨0, quarterMask s, 0, false⟩) s
  else s

/-! ### TCAM entries (R96, R99 to R106, R113) -/

/-- Whether a handle names an express entry (R113). -/
def expressHandle (h : Nat) : Bool := 0x7000 ≤ h && h < 0x7800

/-- The group that holds the entry of a handle among the groups of a table. -/
def handleGroup (t : Store (Store TEntry)) (h : Nat) : Option (Nat × Nat × TEntry) :=
  t.findSome? (fun g => (findHandle g.2 h).map (fun e => (g.1, e)))

/-- The tables that hold the entry of a handle. -/
def tablesOf (s : State) (h : Nat) : Store (Store TEntry) := if expressHandle h then s.xpr.tcam else (quarterOf s (referenceQuarter s)).tcam

/-- A free handle: the lowest of those that no entry has (R101). -/
def freeHandle (t : Store (Store TEntry)) (lo hi : Nat) : Option Nat :=
  ((List.range (hi - lo)).map (fun i => lo + i)).find? (fun h => (handleGroup t h).isNone)

/-- Steps given to every quarter in service, or to the express path; the command waits until the last has run. Key 1 marks a command on express entries, whose three replicas all
apply it (R113). -/
def stepsFor (express : Bool) (f : Nat → List TStep) (result : Nat) (s : State) : Answer :=
  if express then .wait result 7 1 { s with xpr := { s.xpr with steps := s.xpr.steps ++ f 0 } }
  else
    let mask := quarterMask s
    .wait result mask 0 (onLive (fun q s => (onQuarter q (fun y => { y with steps := y.steps ++ f q }) s).put QTR_TCAM_UPD_BUSY 1 q) s)

/-- The entry of a buffer is well formed for a WIDTH code: its length and its WIDTH agree with it. -/
def bufferFits (w : Nat) (bs : List Byte) : Bool := bs.length == 8 + 40 * widthUnits w && bitsOf (leField bs 0 8) 2 1 == w

/-- TCAM_INSERT (R100, R101, R113). target: the TARGET byte. -/
def tcamInsert (c : Cmd) (obj target : Nat) (s : State) : Answer :=
  let express := 8 ≤ target
  let g := if express then target - 8 else target
  bulkTarget express s <| withObject obj (fun bs s =>
    let q := referenceQuarter s
    let w := if express then chainWidth (xprChain s) else groupWidth s q g
    if (express && chainGroups (xprChain s) ≤ g) || !bufferFits w bs || !bitOf (leField bs 0 8) 0 then failed 1 s
    else
      let tables := if express then s.xpr.tcam else (quarterOf s q).tcam
      match freeHandle tables (if express then 0x7000 else 0) (if express then 0x7800 else 0x6000),
        planInsert (Store.getD tables g []) (if express then 512 else groupSize s q g) (bitsOf (leField bs 0 8) 16 5) with
      | some h, some plan => stepsFor express (fun _ => planSteps g c.ring c.cseq plan (entryOfBytes (widthUnits w) h bs)) h s
      | _, _ => failed 5 s) s

/-- One step of a command on the entry of a handle in every table that holds it. -/
def handleSteps (c : Cmd) (h : Nat) (e : Option TEntry) (s : State) : Answer :=
  stepsFor (expressHandle h) (fun q =>
    match handleGroup (if expressHandle h then s.xpr.tcam else (quarterOf s q).tcam) h with
    | none => []
    | some (g, i, _) => [⟨g, none, i, e, c.ring, c.cseq⟩]) 0 s

/-- TCAM_DELETE (R101). -/
def tcamDelete (c : Cmd) (h : Nat) (s : State) : Answer :=
  bulkTarget (expressHandle h) s <| match handleGroup (tablesOf s h) h with
  | none => failed 1 s
  | some _ => handleSteps c h none s

/-- TCAM_UPDATE (R101): VALID of the buffer is ignored. -/
def tcamUpdate (c : Cmd) (obj h : Nat) (s : State) : Answer :=
  bulkTarget (expressHandle h) s <| withObject obj (fun bs s =>
    match handleGroup (tablesOf s h) h with
    | none => failed 1 s
    | some (_, _, e) =>
      if !bufferFits e.width bs || bitsOf (leField bs 0 8) 16 5 != e.prio then failed 1 s
      else
        let n := entryOfBytes (widthUnits e.width) h bs
        handleSteps c h (some { n with ctl := withBit n.ctl 0 true }) s) s

/-- TCAM_READ (R101): the buffer of R96 and the physical index, 4 bytes. -/
def tcamRead (c : Cmd) (h addr : Nat) (s : State) : Answer :=
  bulkTarget (expressHandle h) s <| match handleGroup (tablesOf s h) h with
  | none => failed 1 s
  | some (_, i, e) => giveResult c addr 0 (entryBytes e ++ leBytes 4 i) 0 s

/-- The next step of quarter q runs in a free or a stolen slot (R103). -/
def tcamStep (q : Nat) (stolen : Bool) (s : State) : State :=
  match (quarterOf s q).steps with
  | [] => s
  | x :: rest =>
    if fenced s q then s
    else
      let s := onQuarter q (fun y => { y with
        steps := rest, tcam := x.applyTo y.tcam, shadow := x.applyTo y.shadow }) s
      let s := (bankStat q x.group (s.bump QTR_TCAM_STEP_CNT q)).flag QTR_TCAM_UPD_BUSY (!rest.isEmpty) q
      if stolen then s.bump QTR_TCAM_STEAL_CNT q else s

/-- The next express step writes its entry in all three replicas (R112). -/
def expressStep (s : State) : State :=
  match s.xpr.steps with
  | [] => s
  | x :: rest =>
    { s with xpr := { s.xpr with
        steps := rest, tcam := x.applyTo s.xpr.tcam, damaged := s.xpr.damaged.filter (fun e => !(e.2.1 == x.group && e.2.2 == x.dst)) } }

/-- A bit error in row i of group g (R106, R114). In quarter q the row takes other content, and frames follow it until the scrubber comes
by; in the express path the parity of the row fails in replica r. DESIGN CHOICE (log entry 49): the table has no row for the error
itself, so the scrubber's command with `upset` stands for it. -/
def strikeRow (q r g i : Nat) (e : Nat × List (Nat × Nat)) (s : State) : State :=
  if q = 5 then
    if r < 3 && (Store.get? (Store.getD s.xpr.tcam g []) i).isSome && !s.xpr.damaged.contains (r, g, i) then
      { s with xpr := { s.xpr with damaged := s.xpr.damaged ++ [(r, g, i)] } }
    else s
  else
    let h := match Store.get? (Store.getD (quarterOf s q).shadow g []) i with | none => 0 | some x => x.handle
    onQuarter q (fun y => { y with tcam := Store.upd y.tcam g [] (fun t => Store.set t i ⟨e.1, e.2, h⟩) }) s

/-- The scrubber compares row i of group g with its shadow (R106, R114): in quarter q, a row that differs is rewritten from it in one step;
in the express path (q = 5), a row of replica r whose parity fails. -/
def scrubRow (q r g i : Nat) (s : State) : State :=
  if q = 5 then
    if !s.xpr.damaged.contains (r, g, i) then s
    else
      report (srcReplica r 2) ({ s with xpr := { s.xpr with
        damaged := s.xpr.damaged.filter (fun e => e != (r, g, i)) } }.bump XPR_TCAM_SCRUB_FIX_CNT)
  else
    let row := Store.get? (Store.getD (quarterOf s q).tcam g []) i
    let copy := Store.get? (Store.getD (quarterOf s q).shadow g []) i
    if fenced s q || row == copy then s
    else
      let s := onQuarter q (fun y => { y with tcam := Store.put y.tcam g [] (match copy with
        | none => Store.erase (Store.getD y.tcam g []) i | some e => Store.set (Store.getD y.tcam g []) i e) }) s
      report (srcQuarter q 4) ((s.bump QTR_TCAM_STEP_CNT q).bump QTR_TCAM_SCRUB_FIX_CNT q)

/-- TCAM_SCRUB: the scrubber reaches a row, or, with upset, the bit error that it is there to find strikes the row. -/
def tcamScrub (q r g i : Nat) (upset : Option (Nat × List (Nat × Nat))) (s : State) : State :=
  match upset with
  | some e => strikeRow q r g i e s
  | none => scrubRow q r g i s

/-- Whether a step of a command still waits anywhere. -/
def stepsLeft (s : State) (w : Waiting) : Bool :=
  let mine := fun (x : TStep) => x.ring == w.ring && x.cseq == w.cseq
  s.xpr.steps.any mine || s.cls.quarters.any (fun e => e.2.steps.any mine)

/-- A TCAM command that waits and whose last step has run (R105). -/
def stepsDone (s : State) (w : Waiting) : Bool := 0x0202 ≤ w.opcode && w.opcode ≤ 0x0204 && !stepsLeft s w

/-- TCAM commands whose last step has run complete with the quarters that applied them (R105, R113). -/
def tcamSettle (s : State) : State :=
  match waitingOf s (stepsDone s) with
  | none => s
  | some _ => finishWaiting (stepsDone s) (fun w => ⟨0, if w.key = 1 then 7 else w.detail &&& quarterMask s, w.result, false⟩) s

/-! ### Action entries and images (R107, R117 to R119) -/

/-- ACTION_WRITE (R107, R175): the entry of index i. -/
def actionWrite (obj i : Nat) (s : State) : Answer :=
  withObject obj (fun bs s =>
    let e := leNat bs
    if 65536 ≤ i || bs.length != 32 || 4095 < bitsOf e 88 73 || bitsOf e 255 89 != 0 then failed 1 s
    else okTable { s with cls := { s.cls with actions := Store.put s.cls.actions i 0 e } }) s

/-- The states that follow the state record at word a. -/
def stateNexts (words : List Nat) (a : Nat) : List Nat :=
  let h := words.getD a 0
  if bitsOf h 1 0 = 0 then (List.range 256).map (fun b => automatonNext words a (BitVec.ofNat 8 b))
  else
    let pairs := (List.range (bitsOf h 4 2)).map (fun k =>
      let w := words.getD (a + 1 + k / 2) 0
      if k % 2 = 0 then bitsOf w 26 8 else bitsOf w 58 40)
    bitsOf h 26 8 :: (if bitsOf h 1 0 = 1 then pairs else [])

/-- The state record at word a is well formed and lies within the image (R118, R119, Table 5.7). -/
def recordGood (words : List Nat) (a : Nat) : Bool :=
  let h := words.getD a 0
  let kind := bitsOf h 1 0
  let body := if kind = 0 then 128 else if kind = 1 then ceilDiv (bitsOf h 4 2) 2 else 0
  a < words.length && kind != 3 && bitsOf h 7 5 == 0 && bitsOf h 31 27 == 0 && bitsOf h 63 51 == 0 &&
  (kind != 1 || (1 ≤ bitsOf h 4 2 && bitsOf h 4 2 ≤ 6)) && bitsOf h 47 32 < 0xFFF0 && a + body < words.length

/-- Every record reached from the states of a list is well formed: at most n records are visited. -/
def recordsGood (words : List Nat) : Nat → List Nat → List Nat → Bool
  | 0, _, _ => true
  | _, _, [] => true
  | n + 1, seen, a :: todo =>
    if seen.contains a then recordsGood words n seen todo
    else recordGood words a && recordsGood words n (a :: seen) (stateNexts words a ++ todo)

/-- An image is well formed: every state that a start state reaches is. -/
def imageGood (x : Image) : Bool := x.starts.length == 16 && recordsGood x.words (257 * (x.words.length + 17)) [] x.starts

/-- The free words of every quarter in service follow a load or a free. -/
def freeWords (n : Int) (s : State) : State :=
  (liveQuarters s).foldl (fun s q => s.setReg QTR_PAT_FREE_WORDS (s.reg QTR_PAT_FREE_WORDS q + BitVec.ofInt 64 n) q) s

/-- PAT_LOAD (R119). starts: the start states its header gives to programs 0 to 15. -/
def patLoad (obj : Nat) (starts : List Nat) (sigOk : Bool) (s : State) : Answer :=
  withImage obj 4 sigOk (fun bs s =>
    let body := imageBody bs
    let x : Image := ⟨numbersOf body 0 8 (body.length / 8), starts⟩
    if body.length % 8 != 0 || !imageGood x then failed 7 s
    else if s.num QTR_PAT_FREE_WORDS (referenceQuarter s) < x.words.length then failed 2 s
    else
      match leastBelow (fun n => (Store.get? s.cls.images n).isNone) 64 with
      | none => failed 2 s
      | some n =>
        let s := freeWords (-(x.words.length : Int)) { s with cls := { s.cls with images := Store.set s.cls.images n x } }
        .done ⟨0, quarterMask s, n, false⟩ s) s

/-- An action entry that is valid names image n: it asks for inspection with it. -/
def imageNamed (s : State) (n : Nat) : Bool := s.cls.actions.any (fun e => bitOf e.2 53 && bitsOf e.2 59 54 == n)

/-- An engine or a queued descriptor uses image n. -/
def imageUsed (s : State) (n : Nat) : Bool :=
  s.cls.quarters.any (fun e => (e.2.engines ++ e.2.inspect).any (fun d => d.act.inspect && d.act.patImage == n))

/-- PAT_FREE (R119): it waits until nothing uses the image. -/
def patFree (n : Nat) (s : State) : Answer :=
  match Store.get? s.cls.images n with
  | none => failed 1 s
  | some _ => if imageNamed s n then failed 4 s else .wait 0 0 n s

/-- A PAT_FREE that waits completes once nothing uses its image. -/
def patSettle (s : State) : State :=
  match waitingOf s (fun w => w.opcode == 0x0208 && !imageUsed s w.key) with
  | none => s
  | some w =>
    let n := match Store.get? s.cls.images w.key with | none => 0 | some x => x.words.length
    let s := freeWords n { s with cls := { s.cls with images := Store.erase s.cls.images w.key } }
    finishWaiting (fun y => y.opcode == 0x0208 && y.key == w.key) (fun _ => ⟨0, quarterMask s, 0, false⟩) s

/-! ### Hash groups (R82, R83, R85) and byte classes (R110) -/

/-- HASH_GROUP_SET (R82). -/
def hashGroupSet (g fields seed size : Nat) (symmetric failover : Bool) (s : State) : Answer :=
  if 256 ≤ g || 2 ^ 16 ≤ fields || 2 ^ 32 ≤ seed || 12 < size then failed 1 s
  else okTable { s with cls := { s.cls with groups := Store.set s.cls.groups g ⟨fields, seed, size, symmetric, failover⟩ } }

/-- A member entry with nothing reserved in it (R83). -/
def memberGood (e : Nat) : Bool := bitsOf e 31 18 == 0

/-- Indexes first to first + n − 1 of group g take the given entries. -/
def writeRange (t : Store Nat) (g first d : Nat) (l : List Nat) : Store Nat :=
  l.zipIdx.foldl (fun t (e : Nat × Nat) => Store.put t (key2 g (first + e.2)) d e.1) t

/-- INDIR_WRITE (R85): 32-bit member entries from index first on, into the shadow copy. -/
def indirWrite (obj g first : Nat) (s : State) : Answer :=
  withObject obj (fun bs s =>
    let l := numbersOf bs 0 4 (bs.length / 4)
    if 256 ≤ g || bs.length % 4 != 0 || 4096 < first + l.length || !l.all memberGood then failed 1 s
    else okTable { s with cls := { s.cls with shadow := writeRange s.cls.shadow g first (3 * 2 ^ 16) l } }) s

/-- INDIR_COMMIT (R85): it takes effect at a commit tick. -/
def indirCommit (g : Nat) (s : State) : Answer := if 256 ≤ g then failed 1 s else commitLater (quarterMask s) g s

/-- The shadow copy of group g becomes active. DESIGN CHOICE (log entry 114): the shadow copy keeps its content, so that later writes change
the table just committed. -/
def flipIndir (g : Nat) (s : State) : State :=
  let own := fun (e : Nat × Nat) => e.1 / 2 ^ 32 == g
  let fresh := (s.cls.shadow.filter own).foldl (fun t e => Store.set t e.1 e.2) (s.cls.indir.filter (fun e => !own e))
  { s with cls := { s.cls with indir := fresh } }

/-- XPR_BYTECLASS_WRITE (R110): the class of a byte value at window offset k. -/
def byteClassWrite (k v cls : Nat) (s : State) : Answer :=
  if 32 ≤ k || 256 ≤ v || 2 ^ 20 ≤ cls then failed 1 s
  else .done ⟨0, 7, 0, false⟩ { s with xpr := { s.xpr with byteClass := Store.put s.xpr.byteClass (key2 k v) 0 cls } }

/-- The express epoch bit flips in all three replicas (R114). -/
def flipExpress (s : State) : State := s.flag XPR_TCAM_CFG_EPOCH (!s.on XPR_TCAM_CFG_EPOCH)

end Sys2Proof.Machine
end

