-- ==== Sys2Proof/Machine/Hks.lean ====
section
/-! DEFINITION. The housekeeping sequencer (chapter 19): control store and patch RAM, the microword, routines and their levels, the
micro-trap, abandonment and patches. -/

namespace Sys2Proof.Machine

/-! ### Routines (R474, Table 19.3) -/

/-- The level of a routine; none for a number that Table 19.3 does not list. -/
def routineLevel (r : Nat) : Option Nat :=
  if r = 0x20 || r = 0x21 || r = 0x22 then some 3
  else if r = 0x01 || r = 0x02 then some 2
  else if r = 0x03 || r = 0x04 || r = 0x05 || r = 0x10 || r = 0x13 || r = 0x23 || r = 0x30 || r = 0x31 || r = 0x32 then some 1
  else if r = 0x11 || r = 0x12 || r = 0x14 then some 0
  else none

/-- The DDR5 bytes found at MEM_INIT. -/
def ddrFound (s : State) : Nat :=
  8 * s.get MEM_DDR_STAT_DIMMS 0 * (if s.on MEM_DDR_STAT_DENSITY 0 then 64 else 32) * s.get MEM_DDR_STAT_RANKS 0 * 2 ^ 30

/-- The latest duration of a routine in ticks (Table 19.3): 30 s per 256 GiB for RESILVER, 2 s per failed pseudo-channel for HBM_REINT. None
where the table fixes no number: for a rehash of the exact-match and the IPv6 table, REINTEGRATE with its reload, a re-plan with what it has
started, the tun sweep and BULK_SYNC; what exceeds these is then left open (log entry 139). -/
def routineTicks (s : State) (r : Nat) : Option Nat :=
  let ms := 1000000
  if r = 0x20 then some 10200 else if r = 0x21 then some 4700 else if r = 0x22 then some 4000
  else if r = 0x01 then some (if s.host.waiting.any (fun w => w.opcode == 0x0900) then 400 * ms else 30 * ms)
  else if r = 0x02 then some (35 * ms)
  else if r = 0x03 then some (500 * ms + ceilDiv (ddrFound s) 350)
  else if r = 0x04 then some (ceilDiv (30000 * ms * (ddrFound s / 8)) (256 * 2 ^ 30))
  else if r = 0x05 then some (2000 * ms * ((List.range 2).map (fun st => ((List.range 32).filter (fun p => bitOf (s.get MEM_HBM_STAT_PC_FAILED st) p)).length)).sum)
  else if r = 0x10 then (match s.host.waiting.find? (fun w => w.opcode == 0x030D) with
    | none => none
    | some w => if w.key = 0 then some (50 * ms) else if w.key = 1 then some (100 * ms) else none)
  else if r = 0x13 then some (ceilDiv (1500000 * ms) (clamp 1 20 (s.get FLW_AGE_CTRL_SHARE)))
  else if r = 0x30 then some (20 * ms)
  else if r = 0x31 then (if s.power.plan.isEmpty && s.power.planBins.isEmpty then some (50 * ms) else none)
  else if r = 0x32 then some (5 * ms) else if r = 0x11 then some (20 * ms) else none

/-- The commands that a routine carries out (Table 19.3), by opcode. -/
def routineCommands (r : Nat) : List Nat :=
  if r = 0x01 then [0x0900, 0x0901, 0x0E03] else if r = 0x02 then [0x0902] else if r = 0x03 then [0x0900]
  else if r = 0x05 then [0x0903] else if r = 0x10 then [0x030D] else if r = 0x13 then [0x0404] else if r = 0x23 then [0x0B04]
  else if r = 0x30 then [0x0E02] else if r = 0x31 then [0x0E03] else if r = 0x12 then [0x0402, 0x0403] else []

/-- Marks that running, trapped and waiting routines hold (R475). -/
def marksHeld (s : State) : Nat :=
  ((s.hks.running.toList ++ s.hks.frames ++ s.hks.waiting).map (fun x => x.marks.length)).sum

/-- HKS_STAT and HKS_RUN follow the engine (Table 19.4). -/
def hksStat (s : State) : State :=
  let used := (s.hks.running.toList ++ s.hks.frames ++ s.hks.waiting).any (fun x => x.patched)
  let s := ((s.flag HKS_STAT_BUSY s.hks.running.isSome).put HKS_STAT_DEPTH s.hks.frames.length).flag HKS_STAT_PATCH_USED used
  let s := s.put HKS_STAT_MARKS (marksHeld s)
  match s.hks.running with
  | none => s.setReg HKS_RUN 0
  | some x => ((s.put HKS_RUN_PC x.pc).put HKS_RUN_ROUTINE x.routine).put HKS_RUN_LEVEL x.level

/-- The state with the engine changed. -/
def setHks (x : HksSide) (s : State) : State := hksStat { s with hks := x }

/-- Routine r at its first word. Where the ROM holds that word, and what its registers, flags and LC hold before it, are left open. -/
def freshRoutine (s : State) (r level : Nat) : HksRun :=
  let word := fun (i : Nat) => Config.freeWord (s.free + i)
  let x := (word 31).toNat
  ⟨r, level, x % 2 ^ 16, (List.range 31).map word, bitOf x 16, bitOf x 17, bitOf x 18, bitsOf x 63 32, [], [], [], false, false, false,
    false, false, 0, 0⟩

/-- The waiting routine that starts next: of the highest level; of level 3 in the order quarter, cluster, pair, else the first to
arrive (R474). -/
def nextWaiting (l : List HksRun) : Option HksRun :=
  l.foldl (fun (b : Option HksRun) x =>
    match b with
    | none => some x
    | some y => if y.level < x.level || (x.level = 3 && y.level = 3 && x.routine < y.routine) then some x else some y) none

/-- A list without the first element equal to x. -/
def dropRun (x : HksRun) : List HksRun → List HksRun
  | [] => []
  | y :: ys => if y = x then ys else y :: dropRun x ys

/-- With no routine running, the next waiting one starts where it goes before the most recent trap frame. -/
def startNext (s : State) : State :=
  match s.hks.running, nextWaiting s.hks.waiting with
  | none, some x =>
    if (match s.hks.frames with | [] => true | f :: _ => f.level < x.level) then
      setHks { s.hks with running := some x, waiting := dropRun x s.hks.waiting } s
    else hksStat s
  | _, _ => hksStat s

/-- A routine request arrives (R474). It waits; with the engine idle it starts. A word that ended before is no trap point for it (R476).
cancel: it sets the cancel flag of the routine instead. -/
def routineRequest (r : Nat) (cancel : Bool) (s : State) : State :=
  match routineLevel r with
  | none => s
  | some level =>
    if !s.power.coreUp then s
    else if cancel then
      let set := fun (x : HksRun) => if x.routine = r then { x with cancel := true } else x
      setHks { s.hks with running := s.hks.running.map set, frames := s.hks.frames.map set, waiting := s.hks.waiting.map set } s
    else
      let x := freshRoutine s r level
      let s := { s with free := s.free + 32 }
      let later := fun (y : HksRun) => if y.level < level then { y with trapPoint := false } else y
      startNext { s with hks := { s.hks with running := s.hks.running.map later, waiting := s.hks.waiting ++ [x] } }

/-- A micro-trap is due (R476): the running routine stands at a trap point, and a request of a higher level waits. -/
def trapDue (s : State) : Bool :=
  match s.hks.running, nextWaiting s.hks.waiting with
  | some x, some y => x.trapPoint && decide (x.level < y.level) && decide (s.hks.frames.length < 3)
  | _, _ => false

/-- The micro-trap (R476): at a trap point, with a request of a higher level waiting, the routine is saved and the request starts. -/
def microTrap (s : State) : State :=
  match s.hks.running, nextWaiting s.hks.waiting with
  | some x, some y =>
    if trapDue s then
      setHks { s.hks with running := some y, frames := x :: s.hks.frames, waiting := dropRun y s.hks.waiting } (s.bump HKS_TRAP_CNT)
    else s
  | _, _ => s

/-- The most recent frame is restored (R476), once no request of a higher level waits and no routine runs. -/
def restoreFrame (s : State) : State :=
  match s.hks.running, s.hks.frames with
  | none, f :: fs =>
    if s.hks.waiting.any (fun x => f.level < x.level) then startNext s
    else setHks { s.hks with running := some f, frames := fs } s
  | _, _ => s

/-- A routine of level 0 that has run 10 µs stands at a trap point, and another of its level waits (R474). -/
def turnOver (s : State) : Bool :=
  match s.hks.running with
  | none => false
  | some x => x.level == 0 && x.trapPoint && decide (10000 ≤ x.turn) && s.hks.waiting.any (fun y => y.level == 0)

/-- A routine of level 0 gives way after 10 µs of running, at a trap point, to another of its level (R474). -/
def roundRobin (s : State) : State :=
  match s.hks.running with
  | none => s
  | some x =>
    match s.hks.waiting.find? (fun y => y.level == 0) with
    | none => s
    | some y =>
      if turnOver s then
        setHks { s.hks with running := some y, waiting := dropRun y s.hks.waiting ++ [{ x with turn := 0, trapPoint := false }] } s
      else s

/-! ### Ends (R478) -/

/-- The marks of a routine are resolved: a logged move's source is cleared, and then the mark. -/
def resolveMarks (x : HksRun) (s : State) : State :=
  { s with hks := { s.hks with written := x.marks.foldl (fun m k => Store.set m (key2 k.port k.source) (zeros 64)) s.hks.written } }

/-- The running routine is abandoned (R478): its marks are resolved, its frame is dropped, HKS_ABANDON is raised with its number, the
command that started it completes with FAILED, and a takeover fences the unit it was bringing in. -/
def abandonRoutine (s : State) : State :=
  match s.hks.running with
  | none => s
  | some x =>
    let s := resolveMarks x s
    let s := { s with hks := { s.hks with running := none } }
    let s := if x.routine = 0x13 then rekeyUndo s else s
    let s := if x.routine = 0x31 then { s with power := { s.power with planRunning := false, plan := [], planBins := [] } } else s
    let s := raiseAt (srcHks 1) x.routine (s.bump HKS_ABANDON_CNT)
    let s := finishWaiting (fun w => (routineCommands x.routine).contains w.opcode) (fun _ => resFail 0x0D) s
    let s := if x.routine = 0x20 then s.faults.incoming.foldl (fun s q => fenceUnit q 0 s) s else s
    startNext s

/-- A routine has run 1 s beyond its duration of Table 19.3 (R478). -/
def routineLate (s : State) : State :=
  match s.hks.running with
  | none => s
  | some x => if x.ran < (routineTicks s x.routine).getD 0 + nsPerSec then s else abandonRoutine (report (srcHks 3) s)

/-- The end of FLOW_REKEY's routine (R173): what is left of it is done, and the command completes, with TABLE_FULL where everything moved
back. -/
def rekeyEnds (s : State) : State :=
  let r := rekeyFinish s
  finishWaiting (fun w => w.opcode == 0x0404) (fun _ => if r.2 then resOk else resFail 5) r.1

/-- What a word of FLOW_REKEY's routine does in the flow tiers beside its memory step (R173, R473): a write that sets a mark marks the next
record under the old keys, one that clears the source of a move moves it. DESIGN CHOICE (log entry 130): the ROM is not given. -/
def rekeyWord (w : Nat) (s : State) : State :=
  if bitsOf w 69 66 != 1 then s
  else if bitsOf w 65 63 = 3 then
    match s.flow.rekey.bind (fun r => r.left.head?) with
    | none => s
    | some key => (rekeyRecord key s).1
  else if bitsOf w 65 63 = 2 && bitsOf w 81 80 = 1 then rekeyMark s
  else s

/-- The routine ends (R474, R476). -/
def routineEnds (s : State) : State :=
  let s := match s.hks.running with | none => s | some x => if x.routine = 0x13 then rekeyEnds s else s
  startNext (({ s with hks := { s.hks with running := none } } : State).bump HKS_ROUTINE_CNT)

/-! ### The microword (R471 to R473) -/

/-- The enabled match register that holds a ROM address: the patch RAM address it names (R471). -/
def matchOf (s : State) (pc : Nat) : Option Nat :=
  ((List.range 32).find? (fun k => s.on HKS_MATCH_EN k && s.get HKS_MATCH_ROM_ADDR k == pc)).map (fun k => s.get HKS_MATCH_PATCH_ADDR k)

/-- The patch RAM address from which the word at pc is taken, if any. -/
def patchSource (s : State) (pc : Nat) : Option Nat := if pc < 0x10000 then matchOf s pc else some (pc - 0x10000)

/-- A word that has a reserved field or code (R473, R478, R480). -/
def wordReserved (w : Nat) : Bool :=
  bitsOf w 119 84 != 0 || 12 < bitsOf w 9 5 || 11 < bitsOf w 30 27 || 4 < bitsOf w 65 63 || 7 < bitsOf w 69 66 || bitsOf w 81 80 == 3

/-- Register u_i of a routine; u0 reads as 0. -/
def hksReg (x : HksRun) (i : Nat) : Nat := if i = 0 then 0 else (x.regs.getD (i - 1) 0).toNat

/-- A routine with register u_i set; u0 discards it. -/
def hksSet (x : HksRun) (i v : Nat) : HksRun := if i = 0 then x else { x with regs := x.regs.set (i - 1) (BitVec.ofNat 64 v) }

/-- The 64 bytes of the 8 registers from u_i on. -/
def hksBytes (x : HksRun) (i : Nat) : List Byte := (List.range 8).flatMap (fun j => leBytes 8 (hksReg x ((i + j) % 32)))

/-- The result and the carry of an ALU code; a result or carry that the manual leaves open is free. a, b: the operands; r, k: the free
result and carry. KH64 takes 64 bytes of two keys without a statement of which key the one result is of. -/
def aluResult (op a b r : Nat) (k : Bool) : Nat × Bool :=
  if op = 1 then ((a + b) % 2 ^ 64, decide (2 ^ 64 ≤ a + b))
  else if op = 2 || op = 9 then ((a + 2 ^ 64 - b) % 2 ^ 64, k)
  else if op = 3 then (a &&& b, k)
  else if op = 4 then (a ||| b, k)
  else if op = 5 then (a ^^^ b, k)
  else if op = 6 then (if b < 64 then a * 2 ^ b % 2 ^ 64 else r, k)
  else if op = 7 then (if b < 64 then a / 2 ^ b else r, k)
  else if op = 8 then (b, k)
  else if op = 10 then ((leBytes 8 b).foldl crcByte (a % 2 ^ 32), k)
  else (r, k)

/-- The ALU step of a word (R473): the result goes to RD (not for CMP), the flags follow it, and LCLOAD loads LC. -/
def aluStep (w r : Nat) (x : HksRun) : HksRun :=
  let op := bitsOf w 30 27
  let b := if bitOf w 46 then bitsOf w 62 47 else hksReg x (bitsOf w 40 36)
  let v := aluResult op (hksReg x (bitsOf w 35 31)) b r (bitOf r 63)
  let res := if op = 0 then r else v.1
  let y := if op = 0 || op = 9 then x else hksSet x (bitsOf w 45 41) v.1
  let y := if op = 0 then y else { y with z := v.1 == 0, c := v.2, n := bitOf v.1 63 }
  if bitOf w 83 then { y with lc := res % 2 ^ 32 } else y

/-- Whether a condition of Table 19.2 holds. -/
def condHolds (s : State) (x : HksRun) (c : Nat) : Bool :=
  if c = 0 then true
  else if c = 1 then x.z else if c = 2 then !x.z
  else if c = 3 then x.c else if c = 4 then !x.c
  else if c = 5 then x.n
  else if c = 6 then x.reads.isEmpty
  else if c = 7 then x.lc == 0
  else if c = 8 then x.inProgress
  else if c = 9 then x.inserted
  else if c = 10 then s.hks.waiting.any (fun y => x.level < y.level)
  else if c = 11 then x.cancel
  else decide (hksReg x 31 ≤ s.nowNs)

/-- A call stack with an address pushed; what a ninth address leaves in it is open. -/
def pushReturn (s : State) (x : HksRun) (a : Nat) : List Nat :=
  if x.stack.length < 8 then a :: x.stack else (List.range 8).map (fun i => (Config.freeWord (s.free + 2 + i)).toNat % 2 ^ 17)

/-- Where SEQ goes after a word (R473); none at the end of the routine. A return with an empty call stack goes to an open address. -/
def sequence (s : State) (w : Nat) (x : HksRun) : Option HksRun :=
  let q := bitsOf w 4 2
  let next := (x.pc + 1) % 2 ^ 17
  let target := bitsOf w 26 10
  let holds := condHolds s x (bitsOf w 9 5)
  if q = 0 then some { x with pc := next }
  else if q = 1 then some { x with pc := target }
  else if q = 2 then some { x with pc := if holds then target else next }
  else if q = 3 then some { x with pc := target, stack := pushReturn s x next }
  else if q = 4 then
    match x.stack with
    | [] => some { x with pc := (Config.freeWord (s.free + 1)).toNat % 2 ^ 17 }
    | a :: st => some { x with pc := a, stack := st }
  else if q = 5 then
    let n := (x.lc + 2 ^ 32 - 1) % 2 ^ 32
    some { x with lc := n, pc := if n = 0 then next else target }
  else if q = 6 then some { x with pc := if holds then next else x.pc }
  else none

/-- The 64 bytes that a move leaves in a quarter's table (R128): clearing the source ORs its HIT bit, which stands in bit 72 of a learned
entry and whose value in the source is free here, into the target (UNVERIFIED, log entry 138). -/
def withSourceHit (hit : Bool) (b : List Byte) : List Byte := b.set 9 ((b.getD 9 0) ||| BitVec.ofNat 8 (ofBool hit))

/-- The memory step of a word for the routine x as it stood before the word (R473, R475): a write of the 64 bytes, with its mark; the move's
source, which no field of the word names, is free. -/
def memStep (w : Nat) (x : HksRun) (s : State) : State × List HksMark :=
  let port := bitsOf w 69 66
  let addr := hksReg x (bitsOf w 74 70)
  let mem := bitsOf w 65 63
  if mem = 2 || mem = 3 then
    let at_ := fun (k : HksMark) => k.port == port && k.addr == addr
    let data := hksBytes x (bitsOf w 79 75)
    let moved := if mem = 3 && port = 0 then withSourceHit (bitOf (Config.freeWord (s.free + 11)).toNat 0) data else data
    let m := Store.set s.hks.written (key2 port addr) moved
    let src := (Config.freeWord (s.free + 10)).toNat
    let clears := if mem = 3 then (match x.marks.getLast? with | none => [src] | some k => [k.source]) else []
    let m := clears.foldl (fun m a => Store.set m (key2 port a) (zeros 64)) m
    let marks :=
      if bitsOf w 81 80 = 1 then (if x.marks.any at_ then x.marks else x.marks ++ [⟨port, addr, src⟩])
      else if bitsOf w 81 80 = 2 then x.marks.filter (fun k => !at_ k)
      else x.marks
    ({ s with hks := { s.hks with written := m } }, marks)
  else (s, x.marks)

/-- The word w runs to its end in routine x. A read finds at most 3 others outstanding and a wait for all responses none, else the word goes
on. -/
def runWord (w : Nat) (patched : Bool) (x : HksRun) (s : State) : State :=
  let mem := bitsOf w 65 63
  let ticks := bitsOf w 1 0 + 1
  let x := { x with patched := x.patched || patched, turn := x.turn + ticks, ran := x.ran + ticks }
  if (mem = 1 && 4 ≤ x.reads.length) || (mem = 4 && !x.reads.isEmpty) then
    setHks { s.hks with running := some { x with trapPoint := false } } s
  else
    let r := memStep w x s
    let y := aluStep w s.freeWord.toNat x
    let y := { y with marks := r.2, reads := if mem = 1 then y.reads ++ [bitsOf w 79 75] else y.reads, trapPoint := !bitOf w 82 }
    let t := sequence s w y
    if 256 < marksHeld s + r.2.length - x.marks.length then abandonRoutine s
    else
      let s := { r.1 with free := r.1.free + 12 }
      let s := if x.routine = 0x13 then rekeyWord w s else s
      match t with
      | none => routineEnds s
      | some y => setHks { s.hks with running := some y } s

/-- One microword (R471 to R473, R478). At a trap point that a higher request waits for, or at which a routine of level 0 has to give way, no
further word of the routine runs (R474, R476). w: the word that the ROM holds at the address of the running routine; err: 0 none, 1 a single-bit
error of the word fetched, 2 a double-bit error. -/
def microword (w err : Nat) (s : State) : State :=
  match s.hks.running with
  | none => s
  | some x =>
    if trapDue s then microTrap s
    else if turnOver s then roundRobin s
    else if 0x10400 ≤ x.pc then abandonRoutine s
    else
      let src := patchSource s x.pc
      let word := match src with
        | none => w % 2 ^ 128
        | some a => match Store.get? s.hks.patch a with | some v => v | none => s.free128
      let s := if (match src with | none => false | some a => (Store.get? s.hks.patch a).isNone) then s.drew.drew else s
      if err = 2 then abandonRoutine (report (srcHks 0) s)
      else
        let s := if err = 1 then s.bump HKS_ECC_FIX_CNT else s
        if wordReserved word then abandonRoutine s else runWord word src.isSome x s

/-- The response of a read arrives in its RW registers (R473, R476): for the routine that runs (k = 0), or one that is trapped or waits;
its i-th outstanding read. inserted: the outcome of an insertion attempt under R127 that the response reports. -/
def memResponse (k i : Nat) (data : List Byte) (inProgress : Bool) (inserted : Option Bool) (s : State) : State :=
  let f := fun (x : HksRun) =>
    match x.reads[i]? with
    | none => x
    | some rw =>
      let y := (List.range 8).foldl (fun y j => hksSet y ((rw + j) % 32) (leField data (8 * j) 8)) x
      { y with reads := y.reads.eraseIdx i, inProgress := inProgress, inserted := inserted.getD y.inserted }
  let nth := fun (l : List HksRun) (n : Nat) => l.zipIdx.map (fun e => if e.2 = n then f e.1 else e.1)
  if k = 0 then setHks { s.hks with running := s.hks.running.map f } s
  else if k ≤ s.hks.frames.length then setHks { s.hks with frames := nth s.hks.frames (k - 1) } s
  else setHks { s.hks with waiting := nth s.hks.waiting (k - 1 - s.hks.frames.length) } s

/-! ### Patches and status (R477, R479 to R481) -/

/-- The enabled entries of a match table with their places. -/
def enabledMatches (l : List Nat) : List (Nat × Nat) := l.zipIdx.filter (fun e => bitOf e.1 31)

/-- A word that names an address outside ROM and the first n patch addresses (R480). -/
def targetOut (n w : Nat) : Bool := 0x10000 + n ≤ bitsOf w 26 10

/-- A patch that R480 rejects: n WORDS, its match table and words. check: the SECDED code of every word fits. -/
def patchBad (s : State) (n romId : Nat) (m words : List Nat) (check : Bool) : Bool :=
  let on := (enabledMatches m).map (fun e => e.1)
  romId != s.get HKS_ROM_ID_ROM_ID || n == 0 || 1024 < n || !check || words.any (fun w => wordReserved w || targetOut n w) ||
    on.any (fun e => n ≤ bitsOf e 25 16) || (on.map (fun e => bitsOf e 15 0)).eraseDups.length != on.length

/-- A valid patch is applied between two fetches (R481): words and all match registers change together. -/
def applyPatch (ver n : Nat) (m words : List Nat) (s : State) : State :=
  let s := { s with hks := { s.hks with patch := words.zipIdx.foldl (fun (p : Store Nat) (e : Nat × Nat) => Store.set p e.2 e.1) s.hks.patch } }
  let s := (s.put HKS_PATCH_WORDS n).put HKS_PATCH_MATCHES (enabledMatches m).length
  let s := m.zipIdx.foldl (fun s e =>
    ((s.put HKS_MATCH_ROM_ADDR (bitsOf e.1 15 0) e.2).put HKS_MATCH_PATCH_ADDR (bitsOf e.1 25 16) e.2).put HKS_MATCH_EN (bitsOf e.1 31 31) e.2) s
  (s.put ASC_STAT_PATCH_VER ver).bump HKS_PATCH_LOAD_CNT

/-- HKS_PATCH_LOAD (R479 to R481). -/
def patchLoad (obj : Nat) (sigOk check : Bool) (s : State) : Answer :=
  withImage obj 1 sigOk (fun bs s =>
    let body := imageBody bs
    let n := leField bs 4 2
    let m := numbersOf body 0 4 32
    let words := numbersOf body 128 16 n
    if body.length != 128 + 16 * n || patchBad s n (leField bs 8 4) m words check then failed 7 (report (srcHks 2) s)
    else if s.on HKS_STAT_PATCH_USED then failed 4 s
    else ok_ (applyPatch (leField bs 2 2) n m words s)) s

/-- HKS_STATUS (R477): HKS_STAT and HKS_RUN, then the routine number and level of each trap frame, a byte each, newest first. -/
def hksStatus (c : Cmd) (addr : Nat) (s : State) : Answer :=
  giveResult c addr 0 (leBytes 8 (s.num HKS_STAT) ++ leBytes 8 (s.num HKS_RUN) ++
    padTo 6 (s.hks.frames.flatMap (fun x => leBytes 1 x.routine ++ leBytes 1 x.level))) 0 s

end Sys2Proof.Machine
end

