-- ==== Sys2Proof/Machine/FlowCommands.lean ====
section
/-! DEFINITION. The commands of the flow tables and the stateful actions (R171 to R175, R189, R196 to R208). -/

namespace Sys2Proof.Machine

/-! ### Flows (R172, R173, Table 8.11) -/

/-- FLOW_READ (R172): the record of 512 bytes with the counts of its copies, then IN_PROG in one byte; zero bytes where no tier holds
the key. -/
def flowRead (c : Cmd) (key : List Byte) (addr : Nat) (s : State) : Answer :=
  let k := padTo 40 key
  match recordOf s k with
  | none => giveResult c addr 0 (zeros 513) 0 s
  | some _ =>
    let inProg := match tunOf s k with | none => false | some (_, x) => x.inProgress
    giveResult c addr 0 (padTo 512 (fullRecord s k) ++ leBytes 1 (ofBool inProg)) 1 s

/-- The reason of a deletion by command (R204). -/
def commandReason (_ : State) (_ : Firkin) : Nat := 0x04

/-- FLOW_DELETE (R172): it waits while its end records find no room in the export queue (R206). -/
def flowDelete (key : List Byte) (s : State) : Answer :=
  let k := padTo 40 key
  match recordOf s k with
  | none => okWith 0 s
  | some _ => if deletionRoom s k then okWith 1 (deleteFlow k (some commandReason) s) else .wait 1 0 (leNat k) s

/-- The flows of profile n deleted as far as the export queue has room; answers how many, and whether some are left. -/
def flushSome (n : Nat) (s : State) : State × Nat × Bool :=
  (allKeys s).foldl (fun (r : State × Nat × Bool) k =>
    match recordOf r.1 k with
    | none => r
    | some f =>
      if f.profile != n then r
      else if deletionRoom r.1 k then (deleteFlow k (some commandReason) r.1, r.2.1 + 1, r.2.2) else (r.1, r.2.1, true)) (s, 0, false)

/-- FLOW_FLUSH (Table 8.11). -/
def flowFlush (n : Nat) (s : State) : Answer :=
  if 4096 ≤ n then failed 1 s
  else
    let r := flushSome n s
    if r.2.2 then .wait r.2.1 0 n r.1 else okWith r.2.1 r.1

/-- A deletion by command that waited for the export queue goes on (R206). -/
def deletionSettle (s : State) : State :=
  match waitingOf s (fun w => w.opcode == 0x0401 || w.opcode == 0x0402) with
  | none => s
  | some w =>
    if w.opcode = 0x0401 then
      let k := leBytes 40 w.key
      if deletionRoom s k then finishWaiting (fun y => y.opcode == 0x0401) (fun _ => resWith 1) (deleteFlow k (some commandReason) s) else s
    else
      let r := flushSome w.key s
      let count := w.result + r.2.1
      if !r.2.2 then finishWaiting (fun y => y.opcode == 0x0402) (fun _ => resWith count) r.1
      else { r.1 with host := { r.1.host with
          waiting := r.1.host.waiting.map (fun y => if y.opcode == 0x0402 then { y with result := count } else y) } }

/-- FLOW_REPROFILE (Table 8.11): RESULT is the number of flows affected. -/
def flowReprofile (old new : Nat) (s : State) : Answer :=
  if 4096 ≤ old || 4096 ≤ new then failed 1 s
  else
    let r := reprofile old new s
    okWith r.2 r.1

/-- FLOW_REKEY (R173), outside pair states 1 to 5 and while no other runs: the next keys are installed, and the command completes when the
routine that it starts ends (R477). -/
def flowRekey (s : State) : Answer :=
  if 1 ≤ pairState s && pairState s ≤ 5 then failed 3 s
  else if s.flow.rekey.isSome then failed 4 s
  else
    let a := s.free128
    let s := s.drew.drew
    .wait 0 0 0 (routineRequest 0x13 false (rekeyStart a s.free128 s.drew.drew))

/-! ### Policy copies (R175, R207) -/

/-- The inactive policy copy changed. -/
def onInactive (f : PolicyCopy → PolicyCopy) (s : State) : State := onPolicy (!activeCopy s) f s

/-- PROFILE_WRITE (R175, R176): the 256-bit entry of profile n. -/
def profileWrite (obj n : Nat) (s : State) : Answer :=
  withObject obj (fun bs s =>
    let p : Profile := leNat bs
    if 4096 ≤ n || bs.length != 32 || bitsOf p 255 224 != 0 || (p.lb && p.natKind == 2 && !p.sticky) then failed 1 s
    else ok_ (onInactive (fun c => { c with profiles := Store.put c.profiles n 0 p }) s)) s

/-- The commit tick of PROFILE_COMMIT (R175): the copy bit flips and the tasks that carry the old one are counted. -/
def flipProfile (s : State) : State :=
  profileRefs ((s.flag FLW_PROF_STAT_COPY (!activeCopy s)).put FLW_PROF_STAT_DRAINING 1)

/-- OT_MAP_WRITE (R207): 16 rules and the defaults word. -/
def otMapWrite (obj m : Nat) (s : State) : Answer :=
  withObject obj (fun bs s =>
    let l := numbersOf bs 0 8 17
    if 64 ≤ m || bs.length != 136 || (l.take 16).any (fun r => bitsOf r 63 36 != 0) || bitsOf (l.getD 16 0) 63 9 != 0 then failed 1 s
    else ok_ (onInactive (fun c => { c with otMaps := Store.set c.otMaps m l }) s)) s

/-! ### NAT pools (R189) -/

/-- Outside addresses that a pool entry takes of the 16,384. -/
def poolAddrs (p : Pool) : Nat := if bitOf p 0 then p.count else 0

/-- NAT_POOL_WRITE (R189). -/
def natPoolWrite (obj n : Nat) (s : State) : Answer :=
  withObject obj (fun bs s =>
    let p : Pool := leNat bs
    let old := poolOf s n
    let others := ((s.flow.pools.filter (fun e => e.1 != n)).map (fun e => poolAddrs e.2)).sum
    if 1024 ≤ n || bs.length != 32 || bitOf p 3 || bitsOf p 15 13 != 0 || bitsOf p 127 80 != 0 then failed 1 s
    else if bitOf old 0 && Store.getD s.flow.bindings n 0 != 0 && withBit p 2 false != withBit old 2 false then failed 4 s
    else if 16384 < others + poolAddrs p then failed 2 s
    else ok_ { s with flow := { s.flow with pools := Store.put s.flow.pools n 0 p } }) s

/-- NAT_POOL_READ (R189): the entry and the number of its bindings, 4 bytes. -/
def natPoolRead (c : Cmd) (n addr : Nat) (s : State) : Answer :=
  if 1024 ≤ n then failed 1 s else giveResult c addr 0 (leBytes 32 (poolOf s n) ++ leBytes 4 (Store.getD s.flow.bindings n 0)) 0 s

/-! ### Load balancing (R196, R198) -/

/-- LB_SERVICE_WRITE (R175, R196). -/
def lbServiceWrite (n seed size : Nat) (s : State) : Answer :=
  if 1024 ≤ n || 2 ^ 32 ≤ seed || 12 < size then failed 1 s
  else ok_ (onInactive (fun c => { c with services := Store.set c.services n ⟨seed, size⟩ }) s)

/-- LB_INDIR_WRITE (R175, R196): 16-bit member indexes from index first on. -/
def lbIndirWrite (obj n first : Nat) (s : State) : Answer :=
  withObject obj (fun bs s =>
    let l := numbersOf bs 0 2 (bs.length / 2)
    if 1024 ≤ n || bs.length % 2 != 0 || 4096 < first + l.length then failed 1 s
    else ok_ (onInactive (fun c => { c with indir := writeRange c.indir n first 0xFFFF l }) s)) s

/-- LB_INDIR_COMMIT (R198). -/
def lbIndirCommit (n : Nat) (s : State) : Answer := if 1024 ≤ n then failed 1 s else commitLater 0 n s

/-- The inactive indirection table of service n becomes active. -/
def flipLb (n : Nat) (s : State) : State :=
  let own := fun (e : Nat × Nat) => e.1 / 2 ^ 32 == n
  let fresh := (policyOf s (!activeCopy s)).indir.filter own
  onPolicy (activeCopy s) (fun c => { c with indir := fresh.foldl (fun t e => Store.set t e.1 e.2) (c.indir.filter (fun e => !own e)) }) s

/-- LB_MEMBER_WRITE (R196): at once and as a whole. -/
def lbMemberWrite (obj n : Nat) (s : State) : Answer :=
  withObject obj (fun bs s =>
    let m := leNat bs
    if 65536 ≤ n || bs.length != 32 || bitOf m 15 || bitsOf m 79 72 != 0 || bitsOf m 127 96 != 0 then failed 1 s
    else ok_ { s with flow := { s.flow with members := Store.set s.flow.members n m } }) s

/-- LB_MEMBER_READ (R196): the entry and the number of records whose CHOICE names the member, 4 bytes; 0xFFFF in CHOICE names none. -/
def lbMemberRead (c : Cmd) (n addr : Nat) (s : State) : Answer :=
  if 65536 ≤ n then failed 1 s
  else
    let held := if n = 0xFFFF then 0
      else ((allKeys s).filter (fun k => match recordOf s k with | none => false | some f => f.choice == n)).length
    giveResult c addr 0 (leBytes 32 (lbMember s n) ++ leBytes 4 held) 0 s

/-! ### Commit ticks (R85, R89, R114, R175, R198) -/

/-- A command that waits for its commit tick: opcode, and for RULESET_COMMIT and PROFILE_COMMIT whether the tick is still to come. -/
def awaitsTick (ring : Nat) (w : Waiting) : Bool :=
  w.ring == ring && ((w.opcode == 0x0201 && w.key == 0) || (w.opcode == 0x0406 && w.key == 0) ||
    w.opcode == 0x020B || w.opcode == 0x040C || w.opcode == 0x020D)

/-- The tick of the first such command of a ring has come for it: the waiting entry is marked. -/
def tickCame (w : Waiting) (s : State) : State :=
  { s with host := { s.host with waiting := s.host.waiting.map (fun y => if y == w then { y with key := 1 } else y) } }

/-- The commit tick of a CMD ring's command that waits for one: it takes effect at this instant. -/
def commitTick (ring : Nat) (s : State) : State :=
  match waitingOf s (awaitsTick ring) with
  | none => s
  | some w =>
    let done := fun (s : State) => finishWaiting (fun y => y == w) (fun _ => ⟨0, w.detail, 0, false⟩) s
    if w.opcode = 0x0201 then flipEpoch (tickCame w s)
    else if w.opcode = 0x0406 then flipProfile (tickCame w s)
    else if w.opcode = 0x020B then done (flipIndir w.key s)
    else if w.opcode = 0x040C then done (flipLb w.key s)
    else done (flipExpress s)

end Sys2Proof.Machine
end

