-- ==== Sys2Proof/Machine/Accept.lean ====
section
/-! DEFINITION. Sessions, and what the commands of Ascor do at their acceptance: the session table and the staging store change there
(R16, R384 to R387). -/

namespace Sys2Proof.Machine

/-! ### Sessions (R387, Table 15.6) -/

/-- The session number, 0 to 3, of an open session with this SESSION_ID. -/
def sessionOf (s : State) (ident : Nat) : Option Nat :=
  (List.range 4).find? (fun n => match Store.get? s.ascor.sessions n with | none => false | some x => x.opened && x.ident == ident)

/-- ASC_STAT.SESSIONS and ASC_SESSION_n follow the sessions (Table 15.6). -/
def sessionStat (s : State) : State :=
  (List.range 4).foldl (fun s n =>
    let x := Store.getD s.ascor.sessions n ⟨false, false, 0, 0, none, none, [], 0, 0⟩
    let s := s.put ASC_STAT_SESSIONS (withBit (s.get ASC_STAT_SESSIONS) n x.opened)
    let s := (s.flag ASC_SESSION_OPEN x.opened n).flag ASC_SESSION_DELEGATE (x.opened && x.delegate) n
    (s.put ASC_SESSION_PRIV (if x.opened then x.priv else 0) n).put ASC_SESSION_SESSION_ID (if x.opened then x.ident else 0) n) s

/-- A session ends (R387); its receipts stay readable until its number is used again. -/
def endSession (n : Nat) (s : State) : State :=
  match Store.get? s.ascor.sessions n with
  | none => s
  | some x => sessionStat { s with ascor := { s.ascor with sessions := Store.set s.ascor.sessions n { x with opened := false } } }

/-! ### Shared checks -/

/-- n free bytes. -/
def freeBytes (s : State) (n : Nat) : List Byte := (List.range n).map (fun i => BitVec.ofNat 8 (Config.freeWord (s.free + i)).toNat)

/-- The state after n free values have been drawn. -/
def State.drewMany (s : State) (n : Nat) : State := { s with free := s.free + n }

/-- The fingerprint of a public key of 96 bytes (R375): the first 8 bytes of the digest of its uncompressed form. -/
def fingerprint (key : List Byte) : Nat := Config.digest (4 :: key) / 2 ^ 320 % 2 ^ 64

/-- The fingerprint of the operator key in force, none while the device is unenrolled. -/
def operatorFp (s : State) : Option Nat := s.ascor.opKeys.getLast?.map (fun d => d / 2 ^ 320 % 2 ^ 64)

/-! ### Opening and closing (R385 to R387) -/

/-- The lowest session number not in use (R385). -/
def freeSession (s : State) : Option Nat :=
  leastBelow (fun n => match Store.get? s.ascor.sessions n with | none => true | some x => !x.opened) 4

/-- The response to a session opening (R385): device key and data, session number, SESSION_ID and signature. -/
def sessionResponse (n ident : Nat) (s : State) : List Byte :=
  freeBytes s.drew 128 ++ leBytes 1 n ++ leBytes 4 ident ++ freeBytes (s.drewMany 129) 96

/-- Session n opened as x, with its response in the object (R385). -/
def openSession (obj n : Nat) (x : Session) (s : State) : State :=
  let t := setStaged obj (sessionResponse n x.ident s) (s.drewMany 225)
  (sessionStat { t with ascor := { t.ascor with sessions := Store.set t.ascor.sessions n x } }).bump ASC_SESSION_OPEN_CNT

/-- The effect of ASC_SESSION_OPEN (R385, R386). sigOk: the signature over bytes 0 to 487 verifies; certOk: the operator's signature in the delegate
block does. -/
def openingOf (obj : Nat) (sigOk certOk : Bool) (s : State) : Answer :=
  if !s.on ASC_STAT_ENROLL then failed 3 s
  else withObject obj (fun bs s =>
    let fp := beField bs 128 8
    let operator := operatorFp s == some fp
    let mask := leField bs 336 4
    let delegate := certOk && fingerprint (slice bs 136 96) == fp && bitOf mask 8
    if !sigOk || !(operator || delegate) then
      .done ⟨6, 5, 0, false⟩ (report (srcAscor 0) (s.bump ASC_AUTH_FAIL_CNT))
    else
      match freeSession s with
      | none => failed 2 s
      | some n =>
        okWith n (openSession obj n
          ⟨true, !operator, if operator then 2 ^ 11 - 1 else mask % 2 ^ 11, s.freeWord.toNat % 2 ^ 32, none, none, [], s.free, s.clock⟩ s)) s

/-- The effect of ASC_SESSION_CLOSE (R387). ident: ARGS bytes 0 to 3. -/
def closingOf (c : Cmd) (ident : Nat) (s : State) : Answer :=
  match (if ident = 0 then some c.session else sessionOf s ident) with
  | none => failed 1 s
  | some n =>
    if (match Store.get? s.ascor.sessions n with | none => true | some x => !x.opened) then failed 1 s
    else if n != c.session && (match Store.get? s.ascor.sessions c.session with | none => false | some x => x.delegate) then .done ⟨6, 4, 0, false⟩ s
    else ok_ (endSession n s)

/-- The effect of ASC_STAGE_FREE (R384). -/
def freeStaged (c : Cmd) (obj : Nat) (s : State) : Answer :=
  withObject obj (fun _ s =>
    if lockedBy s c.ring c.cseq obj then failed 4 s
    else ok_ (stageStat { s with ascor := { s.ascor with staged := Store.erase s.ascor.staged obj } })) s

/-! ### Acceptance (R16, R384, R387) -/

/-- The journal entry of a command. -/
def journaled (s : State) (c : Cmd) : Option JEntry := s.host.journal.find? (fun e => !e.tx && e.ring == c.ring && e.cseq == c.cseq)

/-- The outcome that a command had at its acceptance: STATUS, DETAIL and RESULT. -/
def outcomeAt (s : State) (c : Cmd) : Option (Nat × Nat × Nat) := (journaled s c).bind (fun e => e.outcome)

/-- A command whose effect came at its acceptance completes with the outcome it had there; after a reset, which leaves none, it executes from
its start (R415). -/
def atAcceptance (c : Cmd) (body : State → Answer) (s : State) : Answer :=
  match outcomeAt s c with
  | some (status, detail, result) => .done ⟨status, detail, result, false⟩ s
  | none => body s

/-- ASC_SESSION_OPEN (R385 to R387). sigOk: the signature over bytes 0 to 487 verifies; certOk: the operator's signature in the delegate block
does. -/
def sessionOpen (c : Cmd) (obj : Nat) (sigOk certOk : Bool) (s : State) : Answer := atAcceptance c (openingOf obj sigOk certOk) s

/-- ASC_SESSION_CLOSE (R387). ident: ARGS bytes 0 to 3. -/
def sessionClose (c : Cmd) (ident : Nat) (s : State) : Answer := atAcceptance c (closingOf c ident) s

/-- ASC_STAGE_FREE (R384). -/
def stageFree (c : Cmd) (obj : Nat) (s : State) : Answer := atAcceptance c (freeStaged c obj) s

/-- A command of class U that names a staged object in ARGS bytes 0 to 3: ASC_ENROLL, ASC_SESSION_OPEN, ASC_STAGE_READ. -/
def namesObject (op : Nat) : Bool := op == 0x0101 || op == 0x0102 || op == 0x0105

/-- A journaled entry that will change the sessions has not been accepted yet. -/
def sessionChanges (s : State) : Bool :=
  s.host.journal.any (fun e => !e.tx && !e.passed && e.verdict == 0 && (e.opcode == 0x0102 || e.opcode == 0x0103))

/-- The command that a journal entry carries. -/
def cmdOf (e : JEntry) : Cmd := ⟨e.ring, e.cseq, e.sealed, e.session, e.verdict, headerReserved e.entry, e.replay, false⟩

/-- Entry e stands as accepted, with its outcome and its object. -/
def markAccepted (e : JEntry) (outcome : Option (Nat × Nat × Nat)) (object : Option Nat) (s : State) : State :=
  { s with host := { s.host with journal := s.host.journal.map (fun x =>
    if !x.tx && x.ring == e.ring && x.index == e.index && !x.passed then { x with passed := true, outcome := outcome, object := object } else x) } }

/-- Entry e is accepted (R16): an authentic session opening or close and ASC_STAGE_FREE take effect, and ASC_STAGE takes its object. -/
def acceptWork (e : JEntry) (s : State) : State :=
  let arg := leField e.entry 16 4
  let effect := fun (a : Answer) => match a with
    | .done r t => markAccepted e (some (r.status, r.detail, r.result)) e.object t
    | _ => markAccepted e none e.object s
  if e.verdict != 0 || headerReserved e.entry then markAccepted e none e.object s
  else if e.opcode = 0x0102 then effect (openingOf arg e.sigOk e.certOk s)
  else if e.opcode = 0x0103 then effect (closingOf (cmdOf e) arg s)
  else if e.opcode = 0x0106 then effect (freeStaged (cmdOf e) arg s)
  else if e.opcode = 0x0104 then
    match freeObject s 0 with
    | none => markAccepted e (some (2, 0, 0)) none s
    | some n => if lockedBy s e.ring e.cseq n then markAccepted e (some (4, 0, 0)) none s else markAccepted e none (some n) s
  else markAccepted e none e.object s

end Sys2Proof.Machine
end

