-- ==== Sys2Proof/Machine/Host.lean ====
section
/-! DEFINITION. The ring engine of the host interface: ring enable and doorbells, fetch, acceptance and execution of commands,
completions, packet injection, the device-written rings, interrupts and resets of the interface (R404 to R426, R519). -/

namespace Sys2Proof.Machine

/-! ### Rings (R407 to R410, R426) -/

/-- Rings filled by software. -/
def hostWritten (r : Nat) : Bool := r < 4 || (8 ≤ r && r < 24)

/-- Slot rings (R421). -/
def slotRing (r : Nat) : Bool := (40 ≤ r && r < 56) || r = 57 || r = 58

/-- The checks at enable (R407). -/
def ringCheck (s : State) (r : Nat) : Bool :=
  let lg := s.get HST_RING_CFG_SIZE_LOG2 r
  let low := if r = 56 then 8 else 6
  low ≤ lg && lg ≤ 16 &&
  (!(4 ≤ r && r < 8) || s.get HST_RING_CFG_SIZE_LOG2 (r - 4) ≤ lg) &&
  (!(24 ≤ r && r < 40) || s.get HST_RING_CFG_SIZE_LOG2 (r - 16) == lg) &&
  s.num HST_RING_BASE r % 4096 == 0 &&
  (!hostWritten r || s.num HST_RING_AUX r % 8 == 0) &&
  (!slotRing r || (s.num HST_RING_AUX r % 4096 == 0 && 8 ≤ s.get HST_RING_CFG_SLOT_LOG2 r && s.get HST_RING_CFG_SLOT_LOG2 r ≤ 14))

/-- The SIZE_LOG2, VECTOR and SLOT_LOG2 of a written value. -/
def ringFields (r cfg : Nat) (s : State) : State :=
  ((s.put HST_RING_CFG_SIZE_LOG2 cfg r).put HST_RING_CFG_VECTOR (bitsOf cfg 13 8) r).put HST_RING_CFG_SLOT_LOG2 (bitsOf cfg 17 14) r

/-- HST_RING_CFG is written with EN = 1 (R407, R408, R424, R426): an enabled ring keeps its fields, and another value of one sets
CFG_ERR; else the fields are taken and checked, and the ring starts with both indexes 0, armed. -/
def ringEnable (r cfg : Nat) (s : State) : State :=
  if ringOn s r then
    let same := bitsOf cfg 4 0 == s.get HST_RING_CFG_SIZE_LOG2 r && bitsOf cfg 13 8 == s.get HST_RING_CFG_VECTOR r &&
      bitsOf cfg 17 14 == s.get HST_RING_CFG_SLOT_LOG2 r
    if same then s else s.put HST_RING_CFG_CFG_ERR 1 r
  else
    let s := ringFields r cfg s
    if !ringCheck s r then s.put HST_RING_CFG_CFG_ERR 1 r
    else
      let s := ((s.put HST_RING_CFG_CFG_ERR 0 r).put HST_RING_CFG_EN 1 r).setReg HST_RING_IDX 0 r
      { s with host := { s.host with
          armed := s.host.armed.filter (fun x => x != r) ++ [r], since := Store.erase s.host.since r, sinceAt := Store.erase s.host.sinceAt r, cplRoom := Store.erase s.host.cplRoom r,
          tx := s.host.tx.filter (fun x => x.ring != r) } }

/-- EN is cleared (R416, R426): fetching stops, or the work for the ring waits; a CPL ring's space is counted as its size less the
completions held from then on. -/
def ringDisable (r : Nat) (s : State) : State :=
  if !ringOn s r then s
  else
    let s := s.put HST_RING_CFG_EN 0 r
    if 4 ≤ r && r < 8 then { s with host := { s.host with cplRoom := Store.set s.host.cplRoom r (ringSize s r) } } else s

/-- A doorbell (R409): the index ahead of the old one by at most the ring size, and on a device-written ring not past PI; it arms a
device-written ring again (R424). -/
def doorbellWrite (r v : Nat) (s : State) : State :=
  let old := if hostWritten r then s.get HST_RING_IDX_PI r else s.get HST_RING_IDX_CI r
  let d := (v + 2 ^ 32 - old) % 2 ^ 32
  let most := if hostWritten r then ringSize s r else ringUsed s r
  if 59 ≤ r || 2 ^ 32 ≤ v || !ringOn s r || most < d then s.bump HST_DB_ERR_CNT
  else if hostWritten r then s.put HST_RING_IDX_PI v r
  else
    let s := s.put HST_RING_IDX_CI v r
    { s with host := { s.host with armed := s.host.armed.filter (fun x => x != r) ++ [r] } }

/-- CI of a host-written ring is written to its HST_RING_AUX address (R410). -/
def ciWriteBack (r : Nat) (s : State) : State :=
  if ringOn s r && hostWritten r then { s with host := { s.host with ciWritten := Store.set s.host.ciWritten r (s.get HST_RING_IDX_CI r) } }
  else s

/-! ### Ascor's verdict (R389, R390, R518) -/

/-- The opcodes of class U (Tables 15.4 and 16.2). -/
def classU (op : Nat) : Bool :=
  [0x0100, 0x0101, 0x0102, 0x0104, 0x0105, 0x0106, 0x0107, 0x0205, 0x0303, 0x0400, 0x0409, 0x040E, 0x0601, 0x0B07, 0x0C01,
    0x0D00, 0x0D01, 0x0F00].contains op

/-- The last opcode of a family, or none for a family without opcodes (Table 16.2). -/
def familyEnd (fam : Nat) : Option Nat :=
  [none, none, some 0x0D, some 0x0F, some 0x0E, some 5, some 7, some 4, some 5, some 3, some 2, some 7, some 1, some 2, some 3, some 0].getD fam none

/-- An opcode of the catalogue (Table 16.2). -/
def opcodeDefined (op : Nat) : Bool :=
  let fam := op / 256
  let n := op % 256
  if fam = 1 then n ≤ 0x0A || (0x10 ≤ n && n ≤ 0x12)
  else match familyEnd fam with | none => false | some m => n ≤ m

/-- The privilege bit of an opcode sent sealed (Table 15.8): 11 for an operator session only, none for any session. -/
def privilegeOf (op : Nat) : Option Nat :=
  if op = 0x0C00 then some 0 else if op = 0x0500 || op = 0x0501 then some 1 else if op = 0x0200 then some 2
  else if op = 0x0207 || op = 0x0208 then some 3
  else if [0x0110, 0x0111, 0x0112, 0x0404, 0x0A00].contains op then some 9
  else if [0x0B03, 0x0B04, 0x0B05, 0x0B06, 0x0B02, 0x0B00, 0x0A01, 0x0A02].contains op then some 10
  else if op = 0x0108 || op = 0x0109 then some 11 else none

/-- Ascor's verdict on an entry (R389, R390): 0 authentic, 1 closed session or bad tag, 2 replay, 3 unsealed class S or undefined, 4
privilege. tagOk: the GCM tag verifies. -/
def verdictOf (s : State) (entry : List Byte) (tagOk : Bool) : Nat :=
  let op := leField entry 0 2
  let cseq := leField entry 8 8
  if !bitOf (leField entry 2 1) 0 then (if classU op then 0 else 3)
  else
    match sessionOf s (leField entry 4 4) with
    | none => 1
    | some n =>
      match Store.get? s.ascor.sessions n with
      | none => 1
      | some x =>
        if !tagOk then 1
        else if (match x.lastCseq with | none => false | some l => cseq ≤ l) then 2
        else
          match (if opcodeDefined op then privilegeOf op else none) with
          | none => 0
          | some b => if !x.delegate || (b < 11 && bitOf x.priv b) then 0 else 4

/-- The session of an authentic entry notes its CSEQ and the time (R387, R389). -/
def noteCseq (entry : List Byte) (s : State) : State :=
  match sessionOf s (leField entry 4 4) with
  | none => s
  | some n =>
    match Store.get? s.ascor.sessions n with
    | none => s
    | some x => { s with ascor := { s.ascor with sessions := Store.set s.ascor.sessions n { x with lastCseq := some (leField entry 8 8), used := s.clock } } }

/-! ### Acceptance (R20, R388 to R390, R414) -/

/-- Entries the command journal holds (R414). -/
def journalSize : Nat := 4096

/-- CI of a ring advances by one; HST_RING_CNT counts the entry accepted. -/
def acceptOne (r : Nat) (s : State) : State :=
  countEvent 9 0x01 r 1 ((s.put HST_RING_IDX_CI (s.get HST_RING_IDX_CI r + 1) r).bump HST_RING_CNT r)

/-- CI of CMD ring r passes the journaled entries that may be passed, in order: those the partner need not acknowledge or has (R20). -/
def passJournal (r : Nat) : List JEntry → State → State
  | [], s => s
  | e :: es, s =>
    if e.tx || e.ring != r || e.passed then passJournal r es s
    else if mirrorActive s && !e.acked then s
    else passJournal r es (acceptOne r (acceptWork e s))

/-- The next CMD entry of a ring is fetched (R414): verified, journaled with its verdict, sent to the partner while mirroring is
active (R362), and passed by CI. While a change of the sessions is journaled and not yet accepted, nothing is verified (R387). entry: its 64
bytes; tagOk: its tag verifies; sigOk, certOk: the checks of R386 where it opens a session. -/
def cmdFetch (r : Nat) (entry : List Byte) (tagOk sigOk certOk : Bool) (s : State) : State :=
  let held := s.host.journal.filter (fun e => !e.tx && e.ring == r && !e.passed)
  let index := (s.get HST_RING_IDX_CI r + held.length) % 2 ^ 32
  if 4 ≤ r || !ringOn s r || !s.on PWR_READY_HOST_READY || ringUsed s r ≤ held.length || journalSize ≤ s.host.journal.length || sessionChanges s then s
  else
    let entry := padTo 64 entry
    let v := verdictOf s entry tagOk
    let sealed := bitOf (leField entry 2 1) 0
    let s := countEvent 21 0x01 0xFFF 1 (if sealed && v = 0 then noteCseq entry s else s)
    let session := if sealed then (match sessionOf s (leField entry 4 4) with | none => 4 | some n => n) else 4
    let object := if bitOf (leField entry 2 1) 1 || namesObject (leField entry 0 2) then some (leField entry 16 4) else none
    let e : JEntry := ⟨r, index, false, false, leField entry 8 8, leField entry 0 2, sealed, session, v, object, false, false, false, false, false, entry, sigOk, certOk, none⟩
    let s := journalStat { s with host := { s.host with journal := s.host.journal ++ [e] } }
    let s := if mirrorActive s then sendMirror 1 0x02 (leBytes 1 (r + 32 * v) ++ leBytes 4 index) (leBytes 8 e.cseq ++ entry) s else s
    passJournal r s.host.journal s

/-- CI of a PKT_TX ring passes what it may: rejected, linked or handed over, and acknowledged by the partner where that is needed. DEDUCED (log
entry 125): the journal entry of a rejected descriptor is done once CI has passed it. -/
def passTx (r : Nat) : Nat → State → State
  | 0, s => s
  | n + 1, s =>
    let i := s.get HST_RING_IDX_CI r
    let waits := mirrorActive s && s.host.journal.any (fun e => e.tx && e.ring == r && e.index == i && !e.acked)
    let here := s.host.tx.find? (fun x => x.ring == r && x.index == i && x.handed)
    let done := match here.bind (fun x => x.outcome) with | none => false | some o => o.1 == 2
    if here.isSome && !waits && 0 < ringUsed s r then
      passTx r n (if done then txJournalDone r i (acceptOne r s) else acceptOne r s)
    else s

/-- The partner acknowledges the journal copy of index i of ring r (R20). -/
def partnerAcks (r i : Nat) (s : State) : State :=
  let s := { s with host := { s.host with journal := s.host.journal.map (fun e => if e.ring == r && e.index == i then { e with acked := true } else e) } }
  if r < 4 then passJournal r s.host.journal s else passTx r 65536 s

/-! ### Execution and completion (R415 to R417, R461) -/

/-- Completions held on die for a CMD ring. -/
def heldCpl (s : State) (ring : Nat) : Nat := (s.host.completions.filter (fun c => c.ring == ring)).length

/-- A CMD ring has completion space (R416). -/
def cplSpace (s : State) (ring : Nat) : Bool :=
  let c := 4 + ring
  if ringOn s c then ringUsed s c + heldCpl s ring < ringSize s c else heldCpl s ring < Store.getD s.host.cplRoom c (ringSize s c)

/-- The next accepted command of a CMD ring starts executing (R415, R416, R461): nothing earlier of its ring or family is open, its
completion has space; a replayed one waits for EXPRESS_READY, and a MEM_INIT for BULK_READY. -/
def startCommand (ring : Nat) (s : State) : State :=
  match findIdx? (fun (e : JEntry) => !e.tx && e.ring == ring) s.host.journal 0 with
  | none => s
  | some (k, e) =>
    let earlier := (s.host.journal.take k).any (fun x => !x.tx && x.passed && x.opcode / 256 == e.opcode / 256)
    let early := (e.replay && !s.on PWR_READY_EXPRESS_READY) || (e.opcode = 0x0900 && !s.on PWR_READY_BULK_READY)
    if !e.passed || e.running || earlier || !cplSpace s ring || early then s
    else { s with host := { s.host with journal := s.host.journal.set k { e with running := true } } }

/-- The oldest held completion of a CMD ring is written at the next position of its CPL ring (R416, R417, Table 16.3). -/
def writeCompletion (ring : Nat) (s : State) : State :=
  match findIdx? (fun (c : Completion) => c.ring == ring) s.host.completions 0 with
  | none => s
  | some (k, c) =>
    if !ringRoom s (4 + ring) 1 then s
    else
      let b14 := c.ring % 4 + ofBool c.replayed * 4 + ofBool c.resultObj * 8
      let entry := leBytes 8 c.cseq ++ leBytes 4 c.result ++ leBytes 1 c.status ++ leBytes 1 c.detail ++ leBytes 1 b14 ++ [0]
      ringWrite (4 + ring) entry [] { s with host := { s.host with completions := s.host.completions.eraseIdx k } }

/-! ### Packet injection (R418 to R420) -/

/-- The checks of R418 on a descriptor. -/
def txGood (s : State) (r : Nat) (d : List Byte) : Bool :=
  let f := leField d 10 1
  let direct := bitOf f 0
  let len := leField d 8 2
  let port := leField d 12 1
  f / 8 == 0 && leField d 11 1 / 8 == 0 && port < 96 && leField d 13 3 == 0 && (d.drop 26).all (fun b => b == 0) &&
  60 ≤ len && len + 4 ≤ maxLen s port &&
  (!bitOf f 2 || leField d 16 4 < nsPerSec) && (direct || (!bitOf f 1 && !bitOf f 2)) && (!direct || s.on HST_RING_CFG_DIRECT_EN r)

/-- The next PKT_TX descriptor of a ring is fetched (R418, R420): checked, journaled, and its frame read. d: its 64 bytes; frame:
the bytes at BUF. -/
def txFetch (r : Nat) (d frame : List Byte) (s : State) : State :=
  let open_ := s.host.tx.filter (fun x => x.ring == r && (x.index + 2 ^ 32 - s.get HST_RING_IDX_CI r) % 2 ^ 32 < 2 ^ 16)
  let index := (s.get HST_RING_IDX_CI r + open_.length) % 2 ^ 32
  if r < 8 || 24 ≤ r || !ringOn s r || !s.on PWR_READY_HOST_READY || ringUsed s r ≤ open_.length || journalSize ≤ s.host.journal.length then s
  else
    let d := padTo 64 d
    let s := countEvent 21 0x01 0xFFF 1 s
    let f := leField d 10 1
    let slot : TxSlot := ⟨r, index, bitOf f 0, bitOf f 1, if bitOf f 2 then some (stampOfBytes (slice d 16 10)) else none,
      leField d 12 1, leField d 11 1 % 8, padTo (leField d 8 2) frame, false, none⟩
    let slot := if txGood s r d then slot else { slot with handed := true, outcome := some (2, s.now) }
    let e : JEntry := ⟨r, index, true, slot.direct, 0, 0, false, 4, 0, none, false, false, false, false, false, d, false, false, none⟩
    let s := journalStat { s with host := { s.host with journal := s.host.journal ++ [e], tx := s.host.tx ++ [slot] } }
    let s := if mirrorActive s then sendMirror 1 0x02 (leBytes 1 r ++ leBytes 4 index) (zeros 8 ++ d) s else s
    if slot.handed then passTx r 65536 s else s

/-- The slot of a ring that CI has not passed and that is not handed over, with nothing open before it. -/
def nextTx (s : State) (r : Nat) : Option TxSlot := s.host.tx.find? (fun x => x.ring == r && !x.handed)

/-- A slot is handed over. -/
def handTx (x : TxSlot) (s : State) : State :=
  { s with host := { s.host with tx := s.host.tx.map (fun y => if y.ring == x.ring && y.index == x.index then { y with handed := true } else y) } }

/-- The next DIRECT frame of a ring is linked into queue 8 × PORT + QUEUE once admission allows, and CI passes it (R419). -/
def txLink (r : Nat) (s : State) : State :=
  match nextTx s r with
  | none => s
  | some x =>
    if !x.direct || !bulkReady s || !s.egr.accepting then s
    else
      let f := s.buf.nextFrame
      let fr := { freshFrame 96 0 false x.bytes s.now (some (r, x.index)) with ended := true, dispatched := true }
      let q := 8 * x.port + x.queue
      match linkCopy q { copyFor s f fr q x.bytes 0 0xFFFF with launch := x.launch, cutThrough := false } (newFrame fr s) with
      | none => s
      | some t => passTx r 65536 (handTx x (settleBuffer t))

/-- The next PIPELINE frame of a ring is handed to its quarter as an arrival on its port, at the CI advance (R419). -/
def txHand (r : Nat) (s : State) : State :=
  match nextTx s r with
  | none => s
  | some x =>
    let waits := mirrorActive s && s.host.journal.any (fun e => e.tx && e.ring == r && e.index == x.index && !e.acked)
    if x.direct || !bulkReady s || !s.egr.accepting || waits || s.get HST_RING_IDX_CI r != x.index then s
    else
      let f := s.buf.nextFrame
      let s := bulkArrive x.port x.bytes true true (some (r, x.index)) (passTx r 65536 (handTx x s))
      txJournalDone r x.index (onFrame f (fun y => { y with stamp := s.now }) s)

/-- The next TXC entry of a PKT_TX ring is written, in PKT_TX order (R419, Table 16.6). -/
def writeTxc (r : Nat) (s : State) : State :=
  match findIdx? (fun (x : TxSlot) => x.ring == r) s.host.tx 0 with
  | none => s
  | some (k, x) =>
    match x.outcome with
    | none => s
    | some (status, t) =>
      if !x.handed || !ringRoom s (r + 16) 1 then s
      else
        let entry := (if x.tsReq && status = 0 then stampBytes t else zeros 10) ++ leBytes 2 x.index ++ leBytes 1 status ++ zeros 3
        ringWrite (r + 16) entry [] { s with host := { s.host with tx := s.host.tx.eraseIdx k } }

/-- After a reset that keeps no frame, each PKT_TX entry still in the journal is taken out and counted, and its loss event is posted
once the EVT ring is enabled (R420). -/
def txLostReport (s : State) : State :=
  let gone := s.host.journal.filter (fun e => e.tx && e.replay)
  let s := { s with host := { s.host with
    journal := s.host.journal.filter (fun e => !(e.tx && e.replay)), lostTx := s.host.lostTx ++ gone.map (fun (e : JEntry) => (e.ring, e.index)) } }
  let s := journalStat (s.bumpBy gone.length HST_TX_LOST_CNT)
  if !ringOn s 56 then s
  else
    let l := s.host.lostTx
    l.foldl (fun s (e : Nat × Nat) => postEvent 0x0014 e.1 (leBytes 4 e.2) s) { s with host := { s.host with lostTx := [] } }

/-! ### Device-written slot rings (R421) -/

/-- The bytes of a slot of ring r. -/
def slotSize (s : State) (r : Nat) : Nat := 2 ^ s.get HST_RING_CFG_SLOT_LOG2 r

/-- Entries that L bytes take: ⌈L / slot size⌉. -/
def slotCount (s : State) (r len : Nat) : Nat := max 1 (ceilDiv len (slotSize s r))

/-- bs written over n entries of ring r (R421): rest gives the entry's bytes from byte 4 on, after FLAGS; flags: those beside SOP and EOP. -/
def writeSlots (r flags : Nat) (rest : List Byte) (bs : List Byte) (s : State) : State :=
  let size := slotSize s r
  let n := slotCount s r bs.length
  (List.range n).foldl (fun s i =>
    let part := (bs.drop (i * size)).take size
    let f := flags + ofBool (i == 0) + 2 * ofBool (i + 1 == n)
    ringWrite r (padTo 32 (leBytes 2 part.length ++ leBytes 2 bs.length ++ leBytes 1 f ++ rest)) part s) s

/-- The head of PKT_RX queue k is written to its ring (R421, Table 16.7), which delivers it; a multicast frame in HBM waits for its direct
read (R252). -/
def writeRx (k : Nat) (s : State) : State :=
  let q := 768 + k
  let x := queueOf s q
  match x.head with
  | [] => s
  | c :: rest =>
    match frameOf s c.frame with
    | none => setQueue q { x with head := rest } s
    | some f =>
      if !f.ended || (f.inHbm && !s.buf.direct.contains (c.frame, q)) || !ringRoom s (40 + k) (slotCount s (40 + k) f.bytes.length) then s
      else
        let info := leBytes 1 c.reason ++ leBytes 1 f.port ++ zeros 1 ++ stampBytes f.stamp ++ leBytes 2 c.rule
        let s := writeSlots (40 + k) (4 * ofBool f.bad) info f.bytes s
        let s := { s with buf := { s.buf with direct := s.buf.direct.filter (fun e => e != (c.frame, q)) } }
        dropCopy c.frame (setQueue q { x with head := rest } s)

/-- The oldest returned work is written to the EXC ring (R24, R421, Table 16.8). -/
def writeExc (s : State) : State :=
  match s.host.exc with
  | [] => s
  | w :: rest =>
    if !ringRoom s 57 (slotCount s 57 w.bytes.length) then s
    else
      let info := leBytes 1 w.reason ++ leBytes 1 w.port ++ leBytes 1 w.queue ++ stampBytes w.time ++ leBytes 8 w.cseq
      writeSlots 57 (4 * ofBool w.command) info w.bytes { s with host := { s.host with exc := rest } }

/-- The oldest telemetry message is written to the TLM ring (R421). -/
def writeTlm (s : State) : State :=
  match s.host.tlm with
  | [] => s
  | m :: rest =>
    if !ringRoom s 58 (slotCount s 58 m.bytes.length) then s
    else writeSlots 58 (4 * ofBool m.sealed) [] m.bytes { s with host := { s.host with tlm := rest } }

/-- The 32 bytes of an event (R422). -/
def eventBytes (e : Event) : List Byte :=
  leBytes 2 e.typ ++ leBytes 2 e.source ++ stampBytes e.time ++ padTo 16 e.data ++ zeros 2

/-- The next event is written (R423): the overflow event first where events were dropped, then the oldest waiting one. -/
def writeEvent (s : State) : State :=
  if !ringRoom s 56 1 then s
  else if s.host.evtDropped != 0 then
    let s := ringWrite 56 (eventBytes ⟨0x00F0, 0, s.now, leBytes 8 s.host.evtDropped⟩) [] s
    { s with host := { s.host with evtDropped := 0 } }
  else
    match s.host.evtFifo with
    | [] => s
    | e :: rest => ringWrite 56 (eventBytes e) [] { s with host := { s.host with evtFifo := rest } }

/-! ### Interrupts (R424) -/

/-- A vector is sent, or its pending bit is set while it is masked. -/
def sendVector (v : Nat) (s : State) : State :=
  if s.host.vectorMask.contains v then
    (if s.host.vectorPending.contains v then s else { s with host := { s.host with vectorPending := s.host.vectorPending ++ [v] } })
  else countEvent 9 0x04 v 1 { s with host := { s.host with messages := Store.upd s.host.messages v 0 (· + 1) } }

/-- An armed ring with unconsumed entries sends its vector and disarms. -/
def signalRing (r : Nat) (s : State) : State :=
  if s.host.armed.contains r && 0 < ringUsed s r && 0 < Store.getD s.host.since r 0 then
    sendVector (s.get HST_RING_CFG_VECTOR r) { s with host := { s.host with
      armed := s.host.armed.filter (fun x => x != r), since := Store.erase s.host.since r, sinceAt := Store.erase s.host.sinceAt r } }
  else s

/-- MOD_COUNT entries have been written since the last message; MOD_COUNT 0 or MOD_US 0 signals at every entry. -/
def countSignals (r : Nat) (s : State) : State :=
  let n := s.get HST_RING_MOD_MOD_COUNT r
  if n = 0 || s.get HST_RING_MOD_MOD_US r = 0 || n ≤ Store.getD s.host.since r 0 then signalRing r s else s

/-- MOD_US µs have passed since the first entry after the last message. -/
def timeSignals (r : Nat) (s : State) : State :=
  if s.clock < Store.getD s.host.sinceAt r 0 + s.get HST_RING_MOD_MOD_US r * 1000 then s else signalRing r s

/-- A vector with its pending bit set is unmasked. -/
def unmaskVector (v : Nat) (s : State) : State :=
  let held := s.host.vectorPending.contains v
  let s := { s with host := { s.host with
    vectorMask := s.host.vectorMask.filter (fun x => x != v), vectorPending := s.host.vectorPending.filter (fun x => x != v) } }
  if held then sendVector v s else s

/-! ### Resets of the interface and its link (R404, R406) -/

/-- A Function Level Reset, hot reset or loss of the PCIe link (R406). linkLost: the link is down after it. -/
def flrReset (linkLost : Bool) (s : State) : State :=
  let s := (List.range 59).foldl (fun s r => ringDisable r s) s
  let s := if linkLost then ((s.put HST_PCIE_STAT_LINK_UP 0).put HST_PCIE_STAT_SPEED 0).put HST_PCIE_STAT_WIDTH 0 else s
  { s.bump HST_FLR_CNT with host := { s.host with
      armed := [], since := [], sinceAt := [], vectorMask := List.range 64, vectorPending := [], latch := [] } }

/-- The PCIe link trains (R404): speed code 1 to 5, width 1, 2, 4 or 8. -/
def pcieTrains (speed width : Nat) (s : State) : State :=
  if 1 ≤ speed && speed ≤ 5 && [1, 2, 4, 8].contains width then
    ((s.put HST_PCIE_STAT_SPEED speed).put HST_PCIE_STAT_WIDTH width).put HST_PCIE_STAT_LINK_UP 1
  else s

end Sys2Proof.Machine
end

