-- ==== Sys2Proof/Machine/Reset.lean ====
section
/-! DEFINITION. The reactions that a step owes, core resets and full device resets, start-up, supply rails, PLLs and temperature
(R31, R40, R429 to R432, R444, R447, R453, R460 to R462, R502, R503, R514). -/

namespace Sys2Proof.Machine

/-! ### Core reset (R40, R462) -/

/-- Offsets whose registers a core reset leaves: islands A and X, with the counter blocks that lie there, and the fused registers of
Ascor (Table 2.3, R494). -/
def keptAtCore (a : Nat) : Bool :=
  a < 0x100000 || (0x300000 ≤ a && a < 0x600000) || (0x600500 ≤ a && a < 0x600600) || (0x600700 ≤ a && a < 0x600800) ||
  (0x1000000 ≤ a && a < 0x2000000) || (0x2800000 ≤ a && a < 0x3000000) || (0x3400000 ≤ a && a < 0x3800000) ||
  (0x100008 ≤ a && a < 0x100018) || (0x100040 ≤ a && a < 0x100070)

/-- Fields of a register carried over from an earlier state. -/
def carry (old : State) (fs : List (Fld × Nat)) (s : State) : State := fs.foldl (fun s f => s.put f.1 (old.get f.1 f.2) f.2) s

/-- The command journal after a reset (R415, R420, R461): commands not done are to be replayed; what CI had not passed was not
accepted. keepTx: PKT_TX entries stay, to be reported as lost. -/
def replayJournal (keepTx : Bool) (l : List JEntry) : List JEntry :=
  (l.filter (fun e => if e.tx then keepTx && !e.done else e.passed && !e.done)).map (fun e =>
    { e with running := false, replay := true, passed := true, outcome := none })

/-- The host interface after a reset: the journal with the completions queued and not yet written (R22; DEDUCED, log entry 126), and what
stands in host memory. -/
def hostAfter (keepTx : Bool) (h : HostSide) : HostSide :=
  { HostSide.reset with
    journal := replayJournal keepTx h.journal, entries := h.entries, slots := h.slots, buffers := h.buffers,
    ciWritten := h.ciWritten, messages := h.messages, completions := h.completions }

/-- Ascor after a core reset: sessions and staging store end; what lies in fuses, ports and retention SRAM stays. -/
def ascorAfter (a : AscorSide) : AscorSide :=
  { AscorSide.reset with opKeys := a.opKeys, macsec := a.macsec, bbEpoch := a.bbEpoch, bbEpochReady := a.bbEpochReady }

/-- A port after a core reset: express frames go on, bulk frames are gone. -/
def portAfter (x : PortSide) : PortSide :=
  { x with
    sending := (match x.sending with | none => none | some y => if y.express then some y else none),
    preempted := none, toPark := [], heldOnDie := [], neverFits := [], launched := [] }

/-- What the reset of each memory channel keeps of the latched MEM_INIT and of the population found (R318, R462). -/
def memoryKept : List (Fld × Nat) :=
  [(MEM_INIT_CFG_SPILL_GIB, 0), (MEM_INIT_CFG_PARK_GIB, 0), (MEM_INIT_CFG_FIRKIN_GIB, 0), (MEM_INIT_CFG_TASK_LOG2, 0), (MEM_INIT_CFG_MIRROR, 0)] ++
  (List.range 8).flatMap (fun k => [(MEM_DDR_CFG_MAP_ORDER, k), (MEM_DDR_STAT_DIMMS, k), (MEM_DDR_STAT_RANKS, k), (MEM_DDR_STAT_DENSITY, k),
    (MEM_DDR_STAT_DRFM, k)])

/-- The units after a core reset: fenced ones read as resting, the reserve rests, the others are awake. -/
def restAfterCore (s : State) : State :=
  (List.range 17).foldl (fun s u =>
    let s := setSleep u (fenced s u || (u < 5 && reserveRests s u)) false s
    if 9 ≤ u && fenced s u then s.put MEM_DDR_STAT_FENCED 1 (u - 9) else s) s

/-- Island C and the bulk islands at their reset state; islands A and X go on (R462). -/
def coreCleared (s : State) : State :=
  let t : State := { s with
    regs := s.regs.filter (fun e => keptAtCore e.1), host := hostAfter true s.host, ascor := ascorAfter s.ascor,
    counters := { CounterSide.reset with xprFrames := s.counters.xprFrames, xprBytes := s.counters.xprBytes, above := s.counters.above.filter (fun i => i / 8 == 5 || i / 8 == 7) },
    pair := { PairSide.reset with ceased := s.pair.ceased, journal := s.pair.journal, kicks := s.pair.kicks },
    buf := BufferSide.reset, cls := ClassSide.reset, flow := FlowSide.reset, hks := HksSide.reset,
    fel := { FelricSide.reset with resets := (List.range 4).foldl (fun m c => Store.upd m c 0 (· + 1)) s.fel.resets },
    mem := { MemSide.reset with latched := s.mem.latched } }
  let t := { t with
    egr := { s.egr with ports := s.egr.ports.map (fun e => (e.1, portAfter e.2)), accepting := true },
    faults := { s.faults with injections := [], incoming := [] },
    power := { s.power with
      unlocked := s.power.unlocked.filter (fun p => p < 2), inReset := [], planRunning := false, plan := [], planBins := [], eyePs := [] } }
  let t := carry s (memoryKept ++ [(ASC_STAT_ENROLL, 0), (ASC_STAT_OP_SLOT, 0), (ASC_STAT_REQ_OP_BOOT, 0)]) t
  let t := ((t.put PWR_READY_HOST_READY 0).put PWR_READY_BULK_READY 0).put PWR_READY_FULL_READY 0
  let t := journalStat (stageStat (restAfterCore t))
  let t := (List.range 96).foldl (fun t p => holdStat p (parkedStat p t)) t
  (t.put FLT_QTR_STAT_TAKEOVER 0).put PRT_QMUX_BUSY 0

/-- A core reset (R462). cause: LAST_RESET. -/
def coreReset (cause : Nat) (s : State) : State :=
  report srcCoreReset ((coreCleared (bbNote 6 0 0 s)).put PWR_READY_LAST_RESET cause)

/-! ### Full device reset (R31, R40, R447, R460) -/

/-- The black box at a full device reset (R447): the reset's entry, the buffer that was collecting closed with it, or by pin a freeze. -/
def bbAtReset (cause : Nat) (s : State) : State :=
  let s := bbEntry 6 0 (if cause = 2 then 8 else 0) 0 0 (s.freeWord.toNat % 2 ^ 16) (s.drew.freeWord.toNat % 2 ^ 48) s.drew.drew
  if s.faults.collecting.isSome then bbClose s else if cause = 1 then bbFreeze causePin s else s

/-- Rails of supply steps 4 and 5 (R501, R503), by number. -/
def bulkRails : List Nat := [0, 5, 6, 7, 8]

/-- Every rail of steps 4 and 5 is in range. -/
def bulkSupplied (s : State) : Bool := bulkRails.all (fun r => !s.power.railsOut.contains r)

/-- A full device reset (R31, R40, R460): every island, with retention SRAM and fuses kept; retention SRAM is gone too where VDD_AON was
lost. cause: LAST_RESET; 3 is the commanded one, which leaves no frame to report. -/
def fullReset (cause : Nat) (s : State) : State :=
  let lost := s.power.aonLost
  let s := if lost then s else bbAtReset cause s
  let t : State := { State.reset with free := s.free, pending := s.pending }
  let t := { t with
    host := hostAfter (cause != 3) (if lost then { s.host with journal := [], completions := [] } else s.host),
    ascor := { ascorAfter s.ascor with macsec := [], bbEpoch := if lost then 0 else s.ascor.bbEpoch, bbEpochReady := !lost && s.ascor.bbEpochReady },
    faults := (if lost then FaultSide.reset else { FaultSide.reset with bbA := s.faults.bbA, bbB := s.faults.bbB, collecting := s.faults.collecting }),
    pair := { PairSide.reset with journal := if lost then [] else s.pair.journal },
    power := { PowerSide.reset with refPresent := s.power.refPresent, railsOut := s.power.railsOut, coreUp := bulkSupplied s },
    fel := { FelricSide.reset with resets := (List.range 4).foldl (fun m c => Store.upd m c 0 (· + 1)) s.fel.resets } }
  let t := { t with regs := s.regs.filter (fun e => (0x100008 ≤ e.1 && e.1 < 0x100018) || (0x100040 ≤ e.1 && e.1 < 0x100070)) }
  let t := carry s [(ASC_STAT_ENROLL, 0), (ASC_STAT_OP_SLOT, 0), (ASC_STAT_REQ_OP_BOOT, 0)] t
  let t := if lost then t else carry s [(FLT_BB_STAT_LIVE, 0), (FLT_BB_STAT_CLOSED, 0), (FLT_BB_STAT_SEALED, 0), (FLT_BB_STAT_STOPPED, 0)] t
  journalStat (t.put PWR_READY_LAST_RESET (if lost then 0 else cause))

/-! ### Reactions (R429 to R432, R447, R453) -/

/-- The reactions of an occurrence of source e.1 raised at severity e.2 (R429, R431): freeze, fence, hand-over, and for a fatal fault in
island C the core reset. -/
def react (e : Nat × Nat) (s : State) : State :=
  let hand := s.on FLT_SRC_CFG_HANDOVER e.1 && 2 ≤ pairState s && pairState s ≤ 4
  let s := if e.2 = 3 || hand then bbFreeze e.1 s else s
  let s := match (if s.on FLT_SRC_CFG_FENCE e.1 then fenceUnitOf e.1 else none) with
    | none => s
    | some u => if fenced s u then s else (fenceUnit u 0 s).put FLT_SRC_STAT_FENCED_BY 1 e.1
  let s := if hand then cease s else s
  if e.2 = 3 && inIslandC e.1 then coreReset 4 s else s

/-- The reactions owed, in the order raised, with those that they raise. -/
def settleDue : Nat → State → State
  | 0, s => s
  | n + 1, s =>
    match s.faults.due with
    | [] => s
    | e :: rest => settleDue n (react e { s with faults := { s.faults with due := rest } })

/-- Occurrences that one step can owe reactions for: each source at most twice. -/
def settleFuel : Nat := 1024

/-! ### The commanded device reset (R31) -/

/-- A DEVICE_RESET waits for its drain. -/
def draining (s : State) : Bool := s.host.waiting.any (fun w => w.opcode == 0x0B06)

/-- Nothing accepted is left in the device: queues and lines empty, no granted express copy, and all returned work written (R21). -/
def drained (s : State) : Bool :=
  s.buf.queues.all (fun e => (queueCopies e.2).isEmpty) && s.xpr.copies.all (fun c => !c.granted) &&
  s.egr.ports.all (fun e => e.2.sending.isNone && e.2.preempted.isNone) && s.host.exc.isEmpty

/-- The drain has ended: the command completes and the device is reset. -/
def endDrain (s : State) : State := fullReset 3 (finishWaiting (fun w => w.opcode == 0x0B06) (fun _ => resOk) s)

/-- The body of DEVICE_RESET (R31): ingress acceptance stops until the drain has ended. limit: the drain limit in ms, 0 for its default of 10.
DESIGN CHOICE (log entry 123): the limit is an argument, and one beyond 1000 is an argument error. -/
def deviceResetBody (limit : Nat) (s : State) : Answer :=
  if 1000 < limit then failed 1 s
  else .wait 0 0 (s.clock + (if limit = 0 then 10 else limit) * 1000000) { s with egr := { s.egr with accepting := false } }

/-- The drain limit passes (R31): the remaining frames are returned with code 0x03; the reset proceeds once they are written (R21). -/
def drainLimit (s : State) : State :=
  match waitingOf s (fun w => w.opcode == 0x0B06) with
  | none => s
  | some w =>
    if s.clock < w.key then s
    else
      let s := (List.range 96).foldl (fun s p => returnExpress 0x03 p (cutSending p s)) s
      s.buf.queues.foldl (fun s e => returnQueue 0x03 e.1 s) s

/-! ### The end of a step -/

/-- A step ends: reactions owed are taken, work on reintegrations goes on, table commands whose last step has run complete, units that are busy
are marked so, and a drain that has come to its end resets the device; the fault pins then follow the pending sources. -/
def settle (s : State) : State :=
  let s := markBusy (deletionSettle (patSettle (tcamSettle (handBackStep (settleDue settleFuel s)))))
  let s := if draining s && drained s then endDrain s else s
  setPins { s with faults := { s.faults with due := [] } }

/-- The outcome of a command that the device carries out. -/
def ok (s : State) : Host.Outcome State Fault Refusal := .next (settle s)

/-- The outcome of a command that names a part of the device: the part exists, or there is no such command. -/
def within (b : Bool) (s : State) : Host.Outcome State Fault Refusal := if b then ok s else .fault .noSuchUnit

/-! ### Start-up (R460, R461) -/

/-- A start-up stage sets its bit (Table 18.4). Stage 1 AON_READY, 2 HOST_READY, 3 EXPRESS_READY, 4 BULK_READY; each once the earlier ones
stand. valid: a valid boot manifest was found (R382), copyB in copy B; img: the patch words and matches it names with its version. -/
def startupStage (n : Nat) (valid copyB : Bool) (ver : Nat) (words : List Nat) (matches_ : List (Nat × Nat)) (s : State) : State :=
  if n = 1 then
    if s.on PWR_READY_AON_READY || s.power.aonLost then s
    else { s.put PWR_READY_AON_READY 1 with power := { s.power with aonOscillator := !s.power.refPresent } }
  else if n = 2 then
    if !s.on PWR_READY_AON_READY || s.on PWR_READY_HOST_READY || !s.power.coreUp || s.power.unlocked.contains 2 then s
    else
      let s := if valid then
          let s := ((s.put ASC_STAT_BOOT_OK 1).flag ASC_STAT_BOOT_COPY copyB).put ASC_STAT_NO_PATCH 0
          if words.isEmpty then s else loadWords ver words matches_ s
        else report (srcAscor 2) (s.put ASC_STAT_NO_PATCH 1)
      s.put PWR_READY_HOST_READY 1
  else if n = 3 then
    if !s.on PWR_READY_HOST_READY || s.on PWR_READY_EXPRESS_READY || s.power.ageAt.isNone || s.power.planRunning then s
    else s.put PWR_READY_EXPRESS_READY 1
  else if !s.on PWR_READY_HOST_READY || !s.on PWR_READY_EXPRESS_READY || s.on PWR_READY_BULK_READY || !s.power.coreUp then s
  else
    let s := (List.range 4).foldl (fun s t => (List.range 5).foldl (fun r q => r.setReg QTR_HASH_SEED s.freeWord q t) s.drew) s
    let s := drawFlowKeys (s.put PWR_READY_BULK_READY 1)
    if s.mem.latched then (List.range 8).foldl (fun s k => if fenced s (9 + k) then s else startPass k 1 0 s) s else s
where
  /-- The patch that the boot manifest names is loaded (R382, R480). -/
  loadWords (ver : Nat) (words : List Nat) (matches_ : List (Nat × Nat)) (s : State) : State :=
    let s := { s with hks := { s.hks with patch := (words.zipIdx).map (fun (e : Nat × Nat) => (e.2, e.1)) } }
    let s := (s.put HKS_PATCH_WORDS words.length).put HKS_PATCH_MATCHES matches_.length
    let s := matches_.zipIdx.foldl (fun s (e : (Nat × Nat) × Nat) =>
      ((s.put HKS_MATCH_ROM_ADDR e.1.1 e.2).put HKS_MATCH_PATCH_ADDR e.1.2 e.2).put HKS_MATCH_EN 1 e.2) s
    (s.put ASC_STAT_PATCH_VER ver).bump HKS_PATCH_LOAD_CNT

/-- From EXPRESS_READY the journaled commands not done begin to execute again (R461): the next one of a CMD ring. -/
def journalReplay (ring : Nat) (s : State) : State :=
  if s.host.journal.any (fun e => !e.tx && e.ring == ring && e.replay) then startCommand ring s else s

/-! ### PLLs, rails and temperature (R453, R503, R514) -/

/-- A PLL loses lock (Table 18.2): 0 PLL_A, 1 PLL_X, 2 PLL_C, 3 PLL_M. -/
def pllUnlock (p : Nat) (s : State) : State :=
  if s.power.unlocked.contains p then s
  else
    let s := report (srcPllUnlock p) { s with power := { s.power with unlocked := s.power.unlocked ++ [p] } }
    if p = 0 then { s with power := { s.power with aonOscillator := true } }
    else if p = 1 then
      let s := settleDue settleFuel s
      fullReset (s.freeWord.toNat % 16) s.drew
    else s

/-- The core islands lose their supply or are held in reset (R503): what they held is gone, and nothing of them runs. -/
def coreDown (s : State) : State :=
  let t := coreCleared s
  { t with power := { t.power with coreUp := false } }

/-- A rail falls out of its range (R503): one of steps 4 and 5 closes the bulk islands; VDD_AON takes retention SRAM with it. -/
def railFall (r : Nat) (s : State) : State :=
  if s.power.railsOut.contains r then s
  else
    let s := { s with power := { s.power with railsOut := s.power.railsOut ++ [r], aonLost := s.power.aonLost || r == 2 } }
    if bulkRails.contains r then coreDown (report (srcSupply 0) s)
    else report (srcSupply (if r = 2 || r = 10 then 2 else 1)) s

/-- A rail returns (R503): with the last of steps 4 and 5 the core reset sequence runs. -/
def railReturn (r : Nat) (s : State) : State :=
  if !s.power.railsOut.contains r then s
  else
    let s := { s with power := { s.power with railsOut := s.power.railsOut.filter (fun x => x != r) } }
    if bulkRails.contains r && bulkSupplied s then coreReset 4 { s with power := { s.power with coreUp := !s.power.hot } } else s

/-- The hottest sensor reads t °C (R514): TEMP_HIGH at 100, TEMP_CRIT at 115 with a core reset held until 100 or less. -/
def temperature (t : Nat) (s : State) : State :=
  if s.power.hot then
    if t ≤ 100 then { s with power := { s.power with hot := false, coreUp := bulkSupplied s } } else s
  else
    let s := if 100 ≤ t then report srcTempHigh s else s
    if t < 115 then s
    else
      let s := settleDue settleFuel (report srcTempCrit s)
      coreDown (coreReset 4 { s with power := { s.power with hot := true } })

/-- RESET_N (R502): the full reset by pin, or after a loss of VDD_AON by supply. -/
def resetPin (s : State) : State := fullReset 1 s

/-! ### Fault injection (R444) -/

/-- A bank of array a reaches SPARE_THRESH (R27, R442): it is copied to the spare, or none is left. -/
def spareBank (a : Nat) (s : State) : State :=
  if s.faults.spareUsed.contains a then report srcSpareExhausted s
  else if s.faults.spareCopy.contains a then s
  else { s with faults := { s.faults with spareCopy := s.faults.spareCopy ++ [a] } }

/-- An injected fault is produced (R444); its tick is recorded (KIND 10). -/
def inject (kind u : Nat) (s : State) : State :=
  let s := bbNote 10 0 u s
  match kind with
  | 1 => report (srcQuarter u 1) s
  | 2 => spareBank u s
  | 3 => pcFails (u / 32) (u % 32) s
  | 4 => report (srcCluster u 2) s
  | 5 => setDefect u 1 true s
  | 6 => { s with faults := { s.faults with inverted := if s.faults.inverted.contains u then s.faults.inverted else s.faults.inverted ++ [u] } }
  | 7 => report (srcChannel u 0) s
  | _ => cease (report (srcHealthKick 0) s)
/-- Units that a kind of injection can name. -/
def injectUnits (kind : Nat) : Nat :=
  [0, 5, 14, 64, 4, 4, 3, 8, 1].getD kind 0

/-- The body of FAULT_INJECT (R444): armed, and produced at once where no tick is given or it has passed. DESIGN CHOICE (log entry 108): where
two of its checks fail, the one on INJECT_EN gives the status. -/
def injectBody (kind u : Nat) (tick : Option Stamp) (s : State) : Answer :=
  if !s.on FLT_CTRL_INJECT_EN then failed 3 s
  else if kind = 0 || 8 < kind || injectUnits kind ≤ u then failed 1 s
  else if (match tick with | none => false | some t => !stampOk t) then failed 1 s
  else if 16 ≤ s.faults.injections.length then failed 2 s
  else if (match tick with | none => true | some t => stampNs t ≤ s.nowNs) then ok_ (inject kind u s)
  else ok_ { s with faults := { s.faults with injections := s.faults.injections ++ [⟨kind, u, tick⟩] } }

/-- The first armed injection whose tick has come is produced. -/
def injectionDue (s : State) : State :=
  match findIdx? (fun (x : Injection) => match x.tick with | none => true | some t => stampNs t ≤ s.nowNs) s.faults.injections 0 with
  | none => s
  | some (k, x) => inject x.kind x.unit { s with faults := { s.faults with injections := s.faults.injections.eraseIdx k } }

end Sys2Proof.Machine
end

