-- ==== Sys2Proof/Machine/Events.lean ====
section
/-! DEFINITION. Effects of single events that no other module holds: completion of a running command, arrivals, direct reads, shapers,
quiet periods, the black box, spare banks (R241, R252, R257, R267, R280, R290, R401, R415, R431 to R447). -/

namespace Sys2Proof.Machine

/-! ### Commands and sessions -/

/-- The commit of a running command that no row of the table gives a meaning of its own (R415): one whose entry Ascor found not authentic
completes as a rejection (R390), one with a reserved header field or an undefined opcode with ARG (R8, R388). out: the status, DETAIL and
RESULT that the completion reports; a commit that names another outcome is no commit of this command. Every other command is committed by
its own row (log entry 124). -/
def commitCommand (ring cseq : Nat) (out : Nat × Nat × Nat) (s : State) : State :=
  match s.host.journal.find? (fun e => !e.tx && e.ring == ring && e.cseq == cseq && e.running) with
  | none => s
  | some e =>
    let c := cmdOf e
    if s.host.waiting.any (fun w => w.ring == ring && w.cseq == cseq) then s
    else if e.verdict != 0 then (if out = (6, e.verdict, 0) then rejectCommand c e.opcode e.verdict s else s)
    else if (c.reserved || !opcodeDefined e.opcode) && out == (1, 0, 0) then finish c e.opcode (resFail 1) s
    else s

/-- SESSION_IDLE_MIN minutes have passed without a sealed command of session n (R387). -/
def sessionIdle (n : Nat) (s : State) : State :=
  match Store.get? s.ascor.sessions n with
  | none => s
  | some x =>
    if s.clock < x.used + clamp 1 255 (s.get ASC_CTRL_SESSION_IDLE_MIN) * 60 * nsPerSec then s else endSession n s

/-! ### Arrivals (R241, R521) -/

/-- A bulk frame starts to arrive on port p: the port receives, the bulk path runs, and the frame hits no express stream (R13). On a port
that validates, its bytes are those of the line, and the frame is taken as MACsec leaves it (R51, R65). -/
def frameArrival (p : Nat) (bs : List Byte) (ended good : Bool) (s : State) : State :=
  let bulk := fun (plain : List Byte) => receives s p && bulkReady s && !(expressReady s && (streamHit s p plain).isSome)
  match validate s p bs ended with
  | .clear => if bulk bs then bulkArrive p bs ended good none s else s
  | .discard replay => if receives s p && bulkReady s then secRefuse p replay s else s
  | .valid key pn plain icvOk =>
    if !bulk plain then s
    else
      let t := bulkArrive p plain ended (good && icvOk) none s
      if ended then secEnds p key pn good icvOk t
      else if t.buf.nextFrame = s.buf.nextFrame then t
      else { t with buf := { t.buf with wires := Store.set t.buf.wires s.buf.nextFrame (p, bs) } }

/-- A meter bucket charged with the later bytes of a frame: no frame makes it negative (R200). DESIGN CHOICE (log entry 132). -/
def chargeBucket (b : Int) (n : Nat) : Int := if b < 0 then b else max 0 (b - n)

/-- The bytes of a frame that its record and meter bucket still owe are charged at its end (R178, R200, R521). -/
def chargeRest (f total : Nat) (s : State) : State :=
  match (frameOf s f).bind (fun x => x.flow) with
  | none => s
  | some (key, counted, bucket) =>
    let n := total - counted
    let s := countRest key n s
    let m := meterOf s key
    let s := if bucket = 1 then setMeter key (chargeBucket m.1 n) m.2.1 m.2.2.1 s
      else if bucket = 2 then setMeter key m.1 (chargeBucket m.2.1 n) m.2.2.1 s else s
    onFrame f (fun x => { x with flow := none }) s

/-- The last plain bytes of frame f arrive (R23): an express frame by its identity in the crossbar, a bulk frame by its number. -/
def plainEnd (express : Bool) (f : Nat) (rest : List Byte) (good : Bool) (s : State) : State :=
  if express then expressEnd f rest good s
  else
    match frameOf s f with
    | none => bulkEnd f rest good s
    | some x => if x.ended then s else bulkEnd f rest good (chargeRest f (x.bytes.length + rest.length + 4) s)

/-- The plain bytes of frame f that have arrived. -/
def plainSoFar (express : Bool) (f : Nat) (s : State) : Nat :=
  if express then (match Store.get? s.xpr.tails f with | none => 0 | some t => t.out.length)
  else match frameOf s f with
    | some x => x.bytes.length
    | none => match Store.get? s.buf.tails f with | none => 0 | some x => x.bytes.length

/-- The bytes of the line that have arrived of a protected frame f, with its port. -/
def wireOf (express : Bool) (f : Nat) (s : State) : Option (Nat × List Byte) :=
  Store.get? (if express then s.xpr.wires else s.buf.wires) f

/-- The bytes of the line are no longer kept for frame f. -/
def dropWire (express : Bool) (f : Nat) (s : State) : State :=
  if express then { s with xpr := { s.xpr with wires := Store.erase s.xpr.wires f } }
  else { s with buf := { s.buf with wires := Store.erase s.buf.wires f } }

/-- The last bytes of frame f arrive (R23). Of a protected frame they end with its ICV, which is checked over the whole frame (R50): one
whose association is gone meanwhile ends as a bad frame. -/
def frameEndArrival (express : Bool) (f : Nat) (rest : List Byte) (good : Bool) (s : State) : State :=
  match wireOf express f s with
  | none => plainEnd express f rest good s
  | some (p, w) =>
    let s := dropWire express f s
    match validate s p (w ++ rest) true with
    | .valid key pn plain icvOk => secEnds p key pn good icvOk (plainEnd express f (plain.drop (plainSoFar express f s)) (good && icvOk) s)
    | .discard replay => (if replay then secFailure p else id) (plainEnd express f [] false s)
    | .clear => plainEnd express f [] false s

/-- An express frame is decided on a port that receives, once the express path forwards (R460); on a port that validates, as MACsec leaves it
(R51). -/
def expressDecision (p : Nat) (bs : List Byte) (ended good : Bool) (dissent : List Nat) (s : State) : State :=
  if !receives s p || !expressReady s then s
  else
    match validate s p bs ended with
    | .clear => expressDecide p bs ended good dissent s
    | .discard replay => if bulkReady s then s else secRefuse p replay s
    | .valid key pn plain icvOk =>
      if (streamHit s p plain).isNone then s
      else
        let t := expressDecide p plain ended (good && icvOk) dissent s
        if ended then secEnds p key pn good icvOk t
        else if t.xpr.nextIdent = s.xpr.nextIdent then t
        else { t with xpr := { t.xpr with wires := Store.set t.xpr.wires s.xpr.nextIdent (p, bs) } }

/-- The repeat of an XOFF frame for an account still stopped, REFRESH_US after the frame before (R257). -/
def pfcRefresh (p i : Nat) (s : State) : State :=
  let us := clamp 1 4095 (s.get BUF_PFCPROF_W1_REFRESH_US (s.get BUF_PFC_PORT_PROFILE p))
  if !s.buf.xoff.contains (8 * p + i) || s.clock < Store.getD s.buf.xoffAt (8 * p + i) 0 + us * 1000 then s else pfcRepeat p i s

/-- The segment that takes frame x. -/
def segmentOf (s : State) (x : Frame) : Option Segment :=
  match x.segment with
  | none => none
  | some (n, _) => (s.buf.queues.flatMap (fun (e : Nat × Queue) => e.2.segs ++ e.2.reading.toList)).find? (fun g => g.area != .die && g.number == n)

/-- The head copy of queue q, no carrier, is read directly from its frame's cells in HBM (R252); the slots of it that lie in a failed
pseudo-channel are rebuilt and counted (R254). -/
def mcDirectRead (q : Nat) (s : State) : State :=
  match (queueOf s q).head with
  | [] => s
  | c :: _ =>
    match frameOf s c.frame with
    | none => s
    | some x =>
      if !x.multicast || !x.inHbm || s.buf.direct.contains (c.frame, q) then s
      else
        let s := match segmentOf s x, x.segment with
          | some g, some (_, k) => s.bumpBy (rebuilds s g k c.cells) BUF_SPILL_REBUILD_CNT
          | _, _ => s
        { s.bump BUF_MC_DIRECT_CNT with buf := { s.buf with direct := s.buf.direct ++ [(c.frame, q)] } }

/-- RESET_MS of recovery instance r passes without a frame passing (R280): its history is reset. -/
def recoveryReset (r : Nat) (s : State) : State :=
  let names := fun (e : Nat × Stream) => bitOf e.2.entry 182 && bitsOf e.2.entry 205 192 == r && bitsOf e.2.entry 255 240 != 0
  match s.xpr.streams.find? names, Store.get? s.xpr.recovery r with
  | some e, some x =>
    if s.clock < x.passed + bitsOf e.2.entry 255 240 * 1000000 then s
    else { s with xpr := { s.xpr with recovery := Store.erase s.xpr.recovery r } }
  | _, _ => s

/-- A descriptor leaves the release stage of quarter q for the flow update unit (R87). -/
def descriptorRelease (q : Nat) (s : State) : State :=
  match takeReleased q s with
  | none => s
  | some (d, s) => { s with flow := { s.flow with input := s.flow.input ++ [d] } }

/-! ### Spill (R249) and telemetry (R204) -/

/-- The oldest cell of queue q's assembly has been held for ASM_FLUSH_NS. -/
def asmOverdue (s : State) (q : Nat) : Bool :=
  match (queueOf s q).asm with
  | [] => false
  | c :: _ => c.since + s.get BUF_SPILL_CFG_ASM_FLUSH_NS ≤ s.nowNs

/-- The assembly of queue q is written out where R249 asks for it: full, overdue, or the largest while the reserve is empty. -/
def segmentWrite (q : Nat) (s : State) : State :=
  let x := queueOf s q
  if 196 ≤ cellsOn s x.asm || 196 ≤ x.asm.length || asmOverdue s q || (reserveEmpty s 1 && largestAssembly s == some q) then settleBuffer (writeAssembly q s)
  else s

/-- ASM_FLUSH_NS passes for the assembly of queue q. -/
def asmFlush (q : Nat) (s : State) : State := if asmOverdue s q then settleBuffer (writeAssembly q s) else s

/-- A data record is queued for the record of a key (R204), with its flowEndReason: an active export that the last sweep found due, or the
end records of a deletion that waits for the export queue (R206). The other exports of R204 come about inside the deletions themselves. -/
def telemetryExport (key : List Byte) (reason : Nat) (s : State) : State :=
  if reason = 2 then activeExport key s
  else
    match pendOf s key, recordOf s key with
    | some (i, e), some f => if e.waits = .exportRoom && reason = idleReason s f then finishDeletion i s else s
    | _, _ => s

/-! ### Varing (R356, R367) -/

/-- A defect of lane k as its receiver sees it (R356): loss of signal (code 1, n 1 present, 0 gone), a DEG window with n bad blocks (code 6); the
others come about in the framer and change nothing here. -/
def laneDefect (k code n : Nat) (s : State) : State :=
  if code = 1 then setDefect k 1 (n != 0) s else if code = 6 then degWindow k n s else s

/-- A witness frame is sent, or one received is taken (R367). -/
def witnessFrame (received : Option (List Byte × Nat)) (s : State) : State :=
  match received with
  | none => sendWitness s
  | some (bs, tag) => takeWitness bs tag s

/-! ### Shapers (R267, R271, R278) -/

/-- The token update of every ingress policer that is on. -/
def policerUpdate (p : Nat) (s : State) : State :=
  (List.range 8).foldl (fun s i =>
    if s.on SCH_IPOL_EN p i then
      { s with egr := { s.egr with ipol := Store.upd s.egr.ipol (8 * p + i) 0 (tokenUpdate (s.get SCH_IPOL_RATE_KBPS p i) (s.get SCH_IPOL_BURST p i)) } }
    else s) s

/-- The token update of every stream's meter (R278). -/
def meterUpdate (s : State) : State :=
  { s with xpr := { s.xpr with streams := s.xpr.streams.map (fun e =>
      (e.1, { e.2 with tokens := tokenUpdate (bitsOf e.2.entry 287 256) (bitsOf e.2.entry 311 288) e.2.tokens })) } }

/-- Every 16 TIME ticks credit and token counts are updated (R267). -/
def shaperTick (s : State) : State :=
  if s.clock < s.egr.shapedAt + 16 then s
  else updateAll { s with egr := { s.egr with shapedAt := s.egr.shapedAt + 16 } }
where
  /-- Every shaper, policer and meter is updated once. -/
  updateAll (s : State) : State := meterUpdate ((List.range 96).foldl (fun s p => policerUpdate p ((List.range 8).foldl (fun s t => shaperUpdate p t s) s)) s)

/-! ### Quiet periods (R290) -/

/-- Port p declares its quarter quiet at the start of a closed stretch of at least MIN_GAP_NS; once every port of the quarter does, the planner
asks for its rest. -/
def quietStart (p : Nat) (s : State) : State :=
  if !s.on SCH_WAKE_CFG_WAKE_EN p || (listAt (gateLists s p).1 (gateLists s p).2 s.nowNs).isNone || !closedFor s p (clamp 4000 1000000000 (s.get SCH_WAKE_CFG_MIN_GAP_NS p)) then s
  else
    let s := onPort p (fun x => { x with quiet := true }) s
    let q := s.get PRT_STATUS_QUARTER p
    if plannerRests s q then restRequest q s else s

/-! ### Faults and the black box (R401, R431, R432, R436, R442, R447) -/

/-- The attention pulse has run ATTN_PULSE_US (R432). -/
def attnPulseEnd (s : State) : State :=
  if s.clock < s.faults.attnUntil then s else setPins { s with faults := { s.faults with attnPulse := false } }

/-- POST_US have passed since the freeze (R447): the freeze marker closes the buffer. The last of POST_COUNT entries closes it by itself
(bbEntry). -/
def postFreezeEnd (s : State) : State :=
  if s.faults.collecting.isNone || s.clock < s.faults.freezeAt + clamp 1 10000 (s.get FLT_BB_CFG_POST_US) * 1000 then s else bbClose s

/-- The engine of island A has sealed closed buffer b (R401, R447), under the prepared epoch, or in clear with epoch 0 where the device is
unenrolled. -/
def bbSealed (b : Nat) (s : State) : State :=
  let x := bbBuf s b
  let enrolled := s.on ASC_STAT_ENROLL
  if !x.sealDue || !s.on PWR_READY_AON_READY || (enrolled && !s.ascor.bbEpochReady) then s
  else
    let s := setBb s b { x with sealDue := false, epoch := if enrolled then s.ascor.bbEpoch else 0 }
    let s := s.put FLT_BB_STAT_SEALED (withBit (s.get FLT_BB_STAT_SEALED) b true)
    if enrolled then { s.bump ASC_SEAL_CNT with ascor := { s.ascor with bbEpochReady := false } } else s

/-- Ascor prepares the next black-box epoch (R401). -/
def bbEpochPrepared (s : State) : State :=
  if s.ascor.bbEpochReady || s.faults.bbA.sealDue || s.faults.bbB.sealDue then s
  else { s with ascor := { s.ascor with bbEpoch := (s.ascor.bbEpoch + 1) % 2 ^ 32, bbEpochReady := true } }

/-- The copy of array a to its spare bank is complete (R442). -/
def spareCopied (a : Nat) (s : State) : State :=
  if !s.faults.spareCopy.contains a then s
  else
    { s.bump FLT_SPARE_CNT with faults := { s.faults with
        spareCopy := s.faults.spareCopy.filter (fun x => x != a), spareUsed := s.faults.spareUsed ++ [a] } }

/-- A fault source occurs with its cause-specific value (R431). -/
def faultOccurs (src detail value : Nat) (s : State) : State := if (sourceInfo src).isSome then raise src detail value s else s

/-! ### Reading the black box and SMBus (R445 to R450) -/

/-- Bytes of the entries of a buffer. -/
def bbEntryBytes : Nat := 524288

/-- The 32 bytes of an entry with its CHK (Table 17.7). -/
def bbBytes (e : BbEntry) : List Byte :=
  let b := stampBytes e.time ++ leBytes 2 e.source ++ leBytes 1 e.kind ++ leBytes 1 e.flags ++ leBytes 1 e.cls ++ leBytes 1 e.unit ++
    leBytes 4 e.seq ++ leBytes 2 e.detail ++ leBytes 6 e.value
  b ++ leBytes 4 (crc32c b 0)

/-- The entry in slot k of the ring of a buffer, none where none was written. -/
def bbSlot (x : BbBuffer) (k : Nat) : Option BbEntry :=
  let first := x.written - x.entries.length
  let i := (k + bbSize - first % bbSize) % bbSize
  x.entries[i]?

/-- The byte at an offset of buffer b as retention SRAM holds it: entries in clear, or sealed, then the trailer. -/
def bbByte (s : State) (b off : Nat) : Byte :=
  let x := bbBuf s b
  let sealed := bitOf (s.get FLT_BB_STAT_SEALED) b
  if bbEntryBytes ≤ off then Config.trailerByte x.written x.cause x.epoch off
  else if sealed && x.epoch != 0 then Config.sealedByte x.epoch off
  else match bbSlot x (off / 32) with | none => 0 | some e => (bbBytes e).getD (off % 32) 0

/-- n bytes of buffer b from an offset. -/
def bbRead (s : State) (b off n : Nat) : List Byte := (List.range n).map (fun i => bbByte s b (off + i))

/-- The envelope header of a sealed buffer (Table 15.5, R401): KIND 3 with its epoch. -/
def bbHeader (s : State) (b : Nat) : List Byte :=
  leBytes 2 1 ++ leBytes 1 3 ++ zeros 1 ++ beBytes 8 (s.num ASC_ID_FP) ++ leBytes 4 (bbBuf s b).epoch ++ leBytes 8 0 ++ leBytes 4 bbEntryBytes ++ zeros 4

/-- The body of BB_READ (R448): entries of a buffer, or its sealed image with the envelope. -/
def bbReadBody (c : Cmd) (addr b first n : Nat) (s : State) : Answer :=
  if 2 ≤ b || bbSize ≤ first || bbSize < first + n then failed 1 s
  else if bitOf (s.get FLT_BB_STAT_SEALED) b then
    giveResult c addr 0 (bbHeader s b ++ bbRead s b 0 bbEntryBytes ++ (List.range 16).map (fun i => Config.sealedByte (bbBuf s b).epoch (bbEntryBytes + i))) 0 s
  else giveResult c addr 0 (bbRead s b (32 * first) (32 * n)) 0 s

/-- The black-box entry of a state-changing SMBus command (R450): KIND 11 with its code and the byte written. -/
def smbusNote (code byte : Nat) (s : State) : State :=
  bbEntry 11 code 8 0 0 (s.freeWord.toNat % 2 ^ 16) (byte % 256 + 256 * (s.drew.freeWord.toNat % 2 ^ 40)) s.drew.drew

/-- What an SMBus block read returns. -/
def smbusAnswer (bs : List Byte) (s : State) : State := { s with faults := { s.faults with smbus := bs } }

/-- STATUS (Table 17.9): ALARM_N, ATTN_N, FLT_FENCE_STAT, FLT_BB_STAT and the pair STATE in 16 bytes, whose layout the manual leaves open. -/
def smbusStatus (s : State) : State :=
  smbusAnswer ((List.range 16).map (Config.statusByte (alarmBall s) (s.on FLT_PIN_CTRL_ATTN_PIN) (s.num FLT_FENCE_STAT) (s.num FLT_BB_STAT) (pairState s))) s

/-- FAULT_READ: the two words of a fault source record (R428). -/
def smbusFault (i : Nat) (s : State) : State := smbusAnswer (leBytes 8 (s.num FLT_SRC_CFG i) ++ leBytes 8 (s.num FLT_SRC_STAT i)) s

/-- DEVICE_RESET over SMBus: only while the arm of the last 100 ms stands. -/
def smbusReset (byte : Nat) (s : State) : State :=
  let s := smbusNote 0x15 byte s
  if s.faults.resetArmed && s.clock ≤ s.faults.armedAt + 100000000 && byte = 0x5A then fullReset 2 s else s

/-- RESET_ARM: 0xA5 arms a device reset. -/
def smbusArm (byte : Nat) (s : State) : State :=
  let s := smbusNote 0x14 byte s
  if byte = 0xA5 then { s with faults := { s.faults with resetArmed := true, armedAt := s.clock } } else s

/-- 100 ms have passed since the arm (R450). -/
def armExpires (s : State) : State :=
  if s.clock < s.faults.armedAt + 100000000 then s else { s with faults := { s.faults with resetArmed := false } }

/-! ### Memory events (R324, R333, R334) -/

/-- A training pass on channel k ends, with the smallest eye margin it found. -/
def trainingPass (k : Nat) (ok : Bool) (eye : Nat) (s : State) : State :=
  let s := { s with power := { s.power with eyePs := Store.set s.power.eyePs k eye } }
  let s := passEnds k ok s
  channelReturns k ok (planAfterPass k s)

/-- The resilvering of channel k ends. -/
def resilvered (k : Nat) (s : State) : State := channelReturns k true (resilverDone k s)

/-- The DQS oscillator of a rank is read, or its reading ends with the smallest eye margin (R334). -/
def oscillatorStep (k rank : Nat) (begins : Bool) (eye : Nat) (s : State) : State :=
  let s := chanStep k rank begins s
  if begins then s else { s with power := { s.power with eyePs := Store.set s.power.eyePs k eye } }

end Sys2Proof.Machine
end

