-- ==== Sys2Proof/Machine/Trust.lean ====
section
/-! DEFINITION. The commands of Ascor: identity, enrollment, minimum versions, the staging store, sessions, receipts and MACsec
(R375 to R396, R50). What a signature or tag check finds is an operand; drawn values are free. -/

namespace Sys2Proof.Machine

/-! ### Identity and operator (R376 to R378, R381) -/

/-- Whether bs is the challenge last drawn, within its 60 s (R376). -/
def challengeValid (bs : List Byte) (s : State) : Bool :=
  match s.ascor.challenge with
  | none => false
  | some (c, t) => c == bs && s.clock ≤ t + 60 * nsPerSec

/-- The object of ASC_ID_GET (R376): identity key, fingerprint, vendor certificate and challenge, in 512 bytes. -/
def identityObject (s : State) : List Byte :=
  padTo 512 ((List.range 96).map Config.identityByte ++ beBytes 8 (s.num ASC_ID_FP) ++
    (List.range 256).map (fun i => Config.identityByte (96 + i)) ++ freeBytes s 32)

/-- The challenge that ASC_ID_GET draws (R376). -/
def drawChallenge (s : State) (t : State) : State :=
  { t with ascor := { t.ascor with challenge := some (freeBytes s 32, s.clock) } }

/-- ASC_ID_GET (R376): identity key, fingerprint, vendor certificate and a fresh challenge in a staged object of 512 bytes. -/
def idGet (s : State) : Answer :=
  match freeObject s 512 with
  | none => failed 2 s
  | some n => .done ⟨0, 0, n, true⟩ (drawChallenge s (setStaged n (identityObject s) (s.drewMany 32)))

/-- The key is burnt into the next operator slot (R377, R378). -/
def burnKey (key : List Byte) (s : State) : State :=
  let slot := s.ascor.opKeys.length
  let s := { s with ascor := { s.ascor with opKeys := s.ascor.opKeys ++ [Config.digest (4 :: key)] } }
  ((s.put ASC_STAT_ENROLL 1).put ASC_STAT_OP_SLOT slot).setReg ASC_OP_FP (BitVec.ofNat 64 (fingerprint key))

/-- An authentication error of a proof of possession: its DETAIL is left open. -/
def proofFails (s : State) : Answer := .done ⟨6, s.freeWord.toNat % 256, 0, false⟩ s.drew

/-- ASC_ENROLL (R377). The object holds key, challenge and signature. -/
def enroll (obj : Nat) (sigOk : Bool) (s : State) : Answer :=
  if s.on ASC_STAT_ENROLL then failed 3 s
  else withObject obj (fun bs s => if sigOk && challengeValid (slice bs 96 32) s then ok_ (burnKey (slice bs 0 96) s) else proofFails s) s

/-- Every open session ends. -/
def endSessions (s : State) : State := (List.range 4).foldl (fun s n => endSession n s) s

/-- ASC_OP_ROTATE (R378). -/
def opRotate (obj : Nat) (sigOk : Bool) (s : State) : Answer :=
  if 4 ≤ s.ascor.opKeys.length then failed 2 s
  else withObject obj (fun bs s =>
    if sigOk && challengeValid (slice bs 96 32) s then ok_ (endSessions (burnKey (slice bs 0 96) s)) else proofFails s) s

/-- ASC_MIN_VER_SET (R381). -/
def minVerSet (kind ver : Nat) (s : State) : Answer :=
  if kind = 0 || 6 ≤ kind then failed 1 s
  else if ver < s.get ASC_MIN_VER_MIN_VER kind then failed 1 s
  else if ver = s.get ASC_MIN_VER_MIN_VER kind then ok_ s
  else if s.get ASC_MIN_VER_RAISES_LEFT kind = 0 then failed 2 s
  else ok_ ((s.put ASC_MIN_VER_MIN_VER ver kind).dec ASC_MIN_VER_RAISES_LEFT kind)

/-! ### Staging (R383, R384) -/

/-- The object of an ASC_STAGE: the one taken at its acceptance, else the lowest free one. -/
def stageObject (c : Cmd) (len : Nat) (s : State) : Option Nat :=
  match (journaled s c).bind (fun e => e.object) with
  | some n => some n
  | none => freeObject s len

/-- ASC_STAGE (R383, R384): RESULT is the object's number, and the result its digest. The object is the one taken at acceptance. -/
def stage (c : Cmd) (bs : List Byte) (addr : Nat) (s : State) : Answer :=
  atAcceptance c (fun s =>
    match stageObject c bs.length s with
    | none => failed 2 s
    | some n =>
      if !stageFits s bs.length then failed 2 s
      else if lockedBy s c.ring c.cseq n then failed 4 s
      else
        match giveResult c addr 0 ((if c.sealed then leBytes 4 n else []) ++ beBytes 48 (Config.digest bs)) n (setStaged n bs s) with
        | .done r t => if r.status = 0 then .done r t else failed 2 s
        | _ => failed 2 s) s

/-- ASC_STAGE_READ. -/
def stageRead (c : Cmd) (obj addr : Nat) (s : State) : Answer := withObject obj (fun bs s => giveResult c addr 0 bs 0 s) s

/-! ### Receipts (R391) -/

/-- ASC_RECEIPT_READ (R391): the receipts of the session with a SESSION_ID, oldest first. -/
def receiptRead (c : Cmd) (ident addr : Nat) (s : State) : Answer :=
  match s.ascor.sessions.find? (fun e => e.2.ident == ident) with
  | none => failed 1 s
  | some e => giveResult c addr 0 e.2.receipts.flatten 0 s

/-! ### MACsec (R50, R395) -/

/-- A MACsec association's operands lie in range: port, channel, direction, association number. -/
def saNamed (p chan dir an : Nat) : Bool := p < 96 && chan < 64 && dir < 2 && an < 4

/-- The secure channels of a port in use, of either direction, without a given one. -/
def saChannels (s : State) (p but : Nat) : Nat :=
  ((List.range 128).filter (fun k => k != but && s.ascor.macsec.any (fun e => e.1 / 4 == p * 128 + k))).length

/-- MACSEC_SA_INSTALL (R394, R395). obj: its key object; tagOk: the tag of R394 verifies under K_wrap. A receiving association is in use
while it is installed; of a transmitting channel the one installed last is. -/
def saInstall (c : Cmd) (p chan dir an sci pn ssci obj : Nat) (tagOk : Bool) (s : State) : Answer :=
  if !saNamed p chan dir an then failed 1 s
  else withObject obj (fun bs s =>
    match Store.get? s.ascor.sessions c.session with
    | none => failed 1 s
    | some x =>
      let wrap := leField bs 4 8
      if !tagOk || leField bs 0 4 != 1 || bs.length != 72 then .done ⟨6, 1, 0, false⟩ (report (srcAscor 0) (s.bump ASC_AUTH_FAIL_CNT))
      else if (match x.lastWrap with | none => false | some w => wrap ≤ w) then .done ⟨6, 2, 0, false⟩ (report (srcAscor 0) (s.bump ASC_REPLAY_CNT))
      else if (match Store.get? s.ascor.macsec (saKey p chan dir an) with | none => false | some a => a.inUse) then failed 4 s
      else if 64 ≤ saChannels s p (chan * 2 + dir) then failed 2 s
      else
        let others := s.ascor.macsec.map (fun (e : Nat × MacsecSa) => if dir = 1 && e.1 / 4 = saKey p chan dir an / 4 then (e.1, { e.2 with inUse := false }) else e)
        ok_ { s with free := s.free + 1, ascor := { s.ascor with
          sessions := Store.set s.ascor.sessions c.session { x with lastWrap := some wrap },
          macsec := Store.set others (saKey p chan dir an) ⟨sci, pn, ssci, true, s.free⟩ } }) s

/-- MACSEC_SA_DELETE (R395). -/
def saDelete (p chan dir an : Nat) (s : State) : Answer :=
  if !saNamed p chan dir an then failed 1 s
  else ok_ { s with ascor := { s.ascor with macsec := Store.erase s.ascor.macsec (saKey p chan dir an) } }

/-- MACSEC_PORT_SET (R50): the SG fields of PRT_MACSEC_CTRL. off: the confidentiality offset's code. -/
def macsecPortSet (p : Nat) (en bypass : Bool) (off : Nat) (s : State) : Answer :=
  if 96 ≤ p || 3 ≤ off then failed 1 s
  else ok_ (((s.flag PRT_MACSEC_CTRL_MACSEC_EN en p).flag PRT_MACSEC_CTRL_PTP_BYPASS bypass p).put PRT_MACSEC_CTRL_CONF_OFFSET off p)

end Sys2Proof.Machine
end

