-- ==== Sys2Proof/Machine/AscorRows.lean ====
section
/-! DEFINITION. The commands of Ascor (chapter 15). -/

namespace Sys2Proof.Machine

/-- ASC_ID_GET (R376): Writes the identity public key, fingerprint, vendor certificate and a fresh challenge to a staged object. -/
def execAscIdGet (c : Cmd) (s : State) : Host.Outcome State Fault Refusal :=
  within (c.ring < 4) (command c 0x0100 true (fun s => idGet s) s)

/-- ASC_ENROLL (R377): Verifies the operator signature over the challenge and burns the operator key digest into fuse slot 0. -/
def execAscEnroll (c : Cmd) (obj : Nat) (sigOk : Bool) (s : State) : Host.Outcome State Fault Refusal :=
  within (c.ring < 4) (command c 0x0101 true (fun s => enroll obj sigOk s) s)

/-- ASC_SESSION_OPEN (R386): Verifies the controller proof, derives the session keys and writes the signed response into the staged object.
-/
def execAscSessionOpen (c : Cmd) (obj : Nat) (sigOk certOk : Bool) (s : State) : Host.Outcome State Fault Refusal :=
  within (c.ring < 4) (command c 0x0102 true (fun s => sessionOpen c obj sigOk certOk s) s)

/-- ASC_SESSION_CLOSE (R387): Closes the named session, or the session the entry is sealed under, at acceptance. -/
def execAscSessionClose (c : Cmd) (ident : Nat) (s : State) : Host.Outcome State Fault Refusal :=
  within (c.ring < 4) (command c 0x0103 false (fun s => sessionClose c ident s) s)

/-- ASC_STAGE (R383): Copies a host buffer into a free staging object and returns its number and SHA-384 digest. -/
def execAscStage (c : Cmd) (bytes : List Byte) (addr : Nat) (s : State) : Host.Outcome State Fault Refusal :=
  within (c.ring < 4) (command c 0x0104 true (fun s => stage c bytes addr s) s)

/-- ASC_STAGE_READ (R383): Returns the contents of a staging object. -/
def execAscStageRead (c : Cmd) (obj addr : Nat) (s : State) : Host.Outcome State Fault Refusal :=
  within (c.ring < 4) (command c 0x0105 true (fun s => stageRead c obj addr s) s)

/-- ASC_STAGE_FREE (R384): Frees a staging object at acceptance unless an earlier accepted command holds its lock. -/
def execAscStageFree (c : Cmd) (obj : Nat) (s : State) : Host.Outcome State Fault Refusal :=
  within (c.ring < 4) (command c 0x0106 true (fun s => stageFree c obj s) s)

/-- ASC_RECEIPT_READ (R391): Returns receipts from a session's receipt ring. -/
def execAscReceiptRead (c : Cmd) (ident addr : Nat) (s : State) : Host.Outcome State Fault Refusal :=
  within (c.ring < 4) (command c 0x0107 true (fun s => receiptRead c ident addr s) s)

/-- ASC_OP_ROTATE (R378): Burns the successor operator key into the next fuse slot and ends every open session. -/
def execAscOpRotate (c : Cmd) (obj : Nat) (sigOk : Bool) (s : State) : Host.Outcome State Fault Refusal :=
  within (c.ring < 4) (command c 0x0108 false (fun s => opRotate obj sigOk s) s)

/-- ASC_MIN_VER_SET (R381): Raises the fused minimum accepted image version of one image kind. -/
def execAscMinVerSet (c : Cmd) (kind ver : Nat) (s : State) : Host.Outcome State Fault Refusal :=
  within (c.ring < 4) (command c 0x0109 false (fun s => minVerSet kind ver s) s)

/-- MACSEC_SA_INSTALL (R395): Unwraps a SAK key object and installs a MACsec secure association on a port channel. -/
def execMacsecSaInstall (c : Cmd) (p chan dir an sci pn ssci obj : Nat) (tagOk : Bool) (s : State) : Host.Outcome State Fault Refusal :=
  within (c.ring < 4) (command c 0x0110 false (fun s => saInstall c p chan dir an sci pn ssci obj tagOk s) s)

/-- MACSEC_SA_DELETE (R395): Clears a MACsec secure association. -/
def execMacsecSaDelete (c : Cmd) (p chan dir an : Nat) (s : State) : Host.Outcome State Fault Refusal :=
  within (c.ring < 4) (command c 0x0111 false (fun s => saDelete p chan dir an s) s)

/-- MACSEC_PORT_SET (R50): Sets the SG fields of PRT_MACSEC_CTRL of a port. -/
def execMacsecPortSet (c : Cmd) (p : Nat) (en bypass : Bool) (off : Nat) (s : State) : Host.Outcome State Fault Refusal :=
  within (c.ring < 4) (command c 0x0112 false (fun s => macsecPortSet p en bypass off s) s)

end Sys2Proof.Machine
end

