-- ==== Sys2Proof/Machine/Forwarding.lean ====
section
/-! DEFINITION. The commands of the forwarding tables (R121 to R139, R245, R520, R522). -/

namespace Sys2Proof.Machine

/-- Completion of a table command with a RESULT and the mask of the quarters that applied it (R105, R122). -/
def okTableWith (n : Nat) (s : State) : Answer := .done ⟨0, quarterMask s, n, false⟩ s

/-! ### Learned addresses (R138, R139, R522) -/

/-- The operands of a learned address lie in range. -/
def l2Named (fid mac : Nat) : Bool := fid < 4096 && mac < 2 ^ 48

/-- The quarters in service that cannot place an entry under R127. -/
def cannotPlace (s : State) (t : Nat) (key data : List Byte) : List Nat :=
  (liveQuarters s).filter (fun q => (insertBy (tablePlace s q t) (tableOf s q t) key data).isNone)

/-- L2_ADD (R139): a STATIC entry with ORIGIN 7 in every quarter in service, or in none. Its LEARN_T is left open. -/
def l2Add (fid mac port : Nat) (s : State) : Answer :=
  if !l2Named fid mac || 96 ≤ port then failed 1 s
  else
    let key := l2Key fid (beBytes 6 mac)
    let data := l2Bytes (l2Entry key port true false 7 s.freeWord.toNat)
    match cannotPlace s 0 key data with
    | [] => okTable (onLive (fun q s => (tableInsert q 0 key data s).1) s.drew)
    | l => .done ⟨5, (l.map (fun q => 2 ^ q)).sum, 0, false⟩ (l.foldl (fun s q => rehashRequest q 0 s) s)

/-- L2_DEL (R522). -/
def l2Del (fid mac : Nat) (s : State) : Answer :=
  if !l2Named fid mac then failed 1 s
  else
    let key := l2Key fid (beBytes 6 mac)
    if (liveQuarters s).any (fun q => (tableLookup s q 0 key).isSome) then okTableWith 1 (onLive (fun q s => tableErase q 0 key s) s)
    else okTableWith 0 s

/-- Whether L2_FLUSH removes an entry (R139). -/
def flushes (fid port : Option Nat) (static : Bool) (x : Slot) : Bool :=
  let e := leNat x.data
  (match fid with | none => true | some f => bitsOf e 59 48 == f) && (match port with | none => true | some p => l2Port e == p) &&
  (static || !l2Static e)

/-- L2_FLUSH (R139): RESULT is the largest number of entries removed in a quarter. -/
def l2Flush (fid port : Option Nat) (static : Bool) (s : State) : Answer :=
  let gone := fun (q : Nat) => ((quarterOf s q).learned.slots.filter (fun e => flushes fid port static e.2)).length
  let most := ((liveQuarters s).map gone).foldl max 0
  okTableWith most (onLive (fun q s =>
    let t := (quarterOf s q).learned
    setTable q 0 { t with slots := t.slots.filter (fun e => !flushes fid port static e.2) } s) s)

/-- L2_READ (R138, R522): the entry in quarter q, or 32 zero bytes. -/
def l2Read (c : Cmd) (q fid mac addr : Nat) (s : State) : Answer :=
  if 5 ≤ q || !l2Named fid mac then failed 1 s
  else
    match l2Lookup s q (l2Key fid (beBytes 6 mac)) with
    | none => giveResult c addr 0 (zeros 32) 0 s
    | some e => giveResult c addr 0 (l2Bytes e) 1 s

/-! ### Exact match (R121, R522) -/

/-- Bytes of the value of an exact-match kind (R121). -/
def exactBytes (kind : Nat) : Nat := if kind = 1 || kind = 2 then 3 else if kind = 3 then 4 else 16

/-- The operands of an exact-match key lie in range. -/
def exactNamed (kind r v : Nat) : Bool :=
  1 ≤ kind && kind ≤ 4 && r < 8192 && v < 2 ^ (8 * exactBytes kind) && (3 ≤ kind || r == 0)

/-- EM_ADD (R522). -/
def emAdd (kind r v nh : Nat) (s : State) : Answer :=
  if !exactNamed kind r v || 65536 ≤ nh then failed 1 s
  else
    let x := tableInsert (referenceQuarter s) 1 (exactKey kind r (beBytes (exactBytes kind) v)) (leBytes 2 nh) s
    if x.2 then okTable x.1 else failed 5 x.1

/-- EM_DEL (R522). -/
def emDel (kind r v : Nat) (s : State) : Answer :=
  if !exactNamed kind r v then failed 1 s
  else
    let key := exactKey kind r (beBytes (exactBytes kind) v)
    let q := referenceQuarter s
    if (tableLookup s q 1 key).isSome then okTableWith 1 (tableErase q 1 key s) else okTableWith 0 s

/-! ### Prefixes (R131 to R133) -/

/-- The prefix table of a family. -/
def prefixTable (six : Bool) : Nat := if six then 3 else 2

/-- Address bytes of a family. -/
def addrBytes (six : Bool) : Nat := if six then 16 else 4

/-- The instance, length and address of a prefix key. -/
def keyInst (k : List Byte) : Nat := beField k 0 2
/-- The length in a prefix key. -/
def keyPrefixLen (k : List Byte) : Nat := beField k 2 1
/-- The address in a prefix key. -/
def keyAddr (k : List Byte) : List Byte := k.drop 3

/-- An entry that is a prefix, not a marker. -/
def isPrefix (x : Slot) : Bool := bitOf (leField x.data 2 1) 0

/-- The positions where the search of R131 for position target goes on to longer lengths. -/
def searchPath : Nat → Nat → Nat → Nat → List Nat
  | 0, _, _, _ => []
  | n + 1, lo, hi, target =>
    if hi ≤ lo then []
    else
      let mid := (lo + (hi - 1)) / 2
      if mid = target then []
      else if mid < target then mid :: searchPath n (mid + 1) hi target else searchPath n lo mid target

/-- The lengths at which a prefix of length len needs a marker or a prefix in an instance (R131). -/
def markerLens (lens : List Nat) (len : Nat) : List Nat := (searchPath 9 0 lens.length (lens.idxOf len)).map (fun i => lens.getD i 0)

/-- The result of the longest prefix of length at most len that covers an address in instance r, in a table. -/
def coverOf (t : CTable) (place : List Byte → Place) (r : Nat) (a : List Byte) (lens : List Nat) (len : Nat) : Option Nat :=
  (lens.filter (fun l => l ≤ len)).reverse.findSome? (fun l =>
    (lookupSlot t (place (prefixKey r l a)) (prefixKey r l a)).bind (fun x => if isPrefix x then prefixResult x else none))

/-- Every marker of instance r carries the result of its longest covering prefix. -/
def refreshMarkers (place : List Byte → Place) (r : Nat) (lens : List Nat) (t : CTable) : CTable :=
  { t with slots := t.slots.map (fun (e : Nat × Slot) =>
      if keyInst e.2.key != r || isPrefix e.2 then e
      else (e.1, { e.2 with data := prefixData (coverOf t place r (keyAddr e.2.key) lens (keyPrefixLen e.2.key)) false })) }

/-- A prefix with its markers in a table: markers first, then the prefix, then the results of the markers under it. -/
def addPrefix (place : List Byte → Place) (r len nh : Nat) (a : List Byte) (lens : List Nat) (t : CTable) : Option CTable :=
  let mark := fun (t : Option CTable) (l : Nat) => t.bind (fun t =>
    let k := prefixKey r l a
    if (findSlot t (place k) k).isSome then some t
    else insertBy place t k (prefixData (coverOf t place r a lens l) false))
  ((((markerLens lens len).foldl mark (some t)).bind (fun t => insertBy place t (prefixKey r len a) (prefixData (some nh) true)))).map
    (refreshMarkers place r lens)

/-- Whether a prefix of instance r needs an entry at a length and address. -/
def markerNeeded (t : CTable) (r : Nat) (a : List Byte) (lens : List Nat) (l : Nat) : Bool :=
  t.slots.any (fun e => keyInst e.2.key == r && isPrefix e.2 && (markerLens lens (keyPrefixLen e.2.key)).contains l &&
    truncBits (keyAddr e.2.key) l == truncBits a l)

/-- A prefix and the markers that served only it taken out of a table. -/
def removePrefix (place : List Byte → Place) (r len : Nat) (a : List Byte) (lens : List Nat) (t : CTable) : CTable :=
  let t := setData (place (prefixKey r len a)) t (prefixKey r len a) (prefixData none false)
  let drop := fun (t : CTable) (l : Nat) =>
    let k := prefixKey r l a
    match lookupSlot t (place k) k with
    | none => t
    | some x => if isPrefix x || markerNeeded t r a lens l then t else eraseKey (place k) t k
  refreshMarkers place r lens ((markerLens lens len ++ [len]).foldl drop t)

/-- The operands of a prefix: its length is set in the instance's filter and no bit of it lies beyond its length (R132). -/
def prefixNamed (s : State) (r : Nat) (six : Bool) (len v : Nat) : Bool :=
  let w := 8 * addrBytes six
  r < 8192 && len ≤ w && v < 2 ^ w && v % 2 ^ (w - len) == 0 && (instLens s r six).contains len

/-- ROUTE_ADD (R131, R132, R522). -/
def routeAdd (r : Nat) (six : Bool) (len v nh : Nat) (s : State) : Answer :=
  if !prefixNamed s r six len v || 65536 ≤ nh then failed 1 s
  else
    let q := referenceQuarter s
    let t := prefixTable six
    match addPrefix (tablePlace s q t) r len nh (beBytes (addrBytes six) v) (instLens s r six) (tableOf s q t) with
    | none => failed 5 (onLive (fun q s => rehashRequest q t s) s)
    | some x => okTable (setTable q t x s)

/-- ROUTE_DEL (R132, R522). -/
def routeDel (r : Nat) (six : Bool) (len v : Nat) (s : State) : Answer :=
  if !prefixNamed s r six len v then failed 1 s
  else
    let q := referenceQuarter s
    let t := prefixTable six
    let a := beBytes (addrBytes six) v
    match tableLookup s q t (prefixKey r len a) with
    | none => okTableWith 0 s
    | some x =>
      if !isPrefix x then okTableWith 0 s
      else okTableWith 1 (setTable q t (removePrefix (tablePlace s q t) r len a (instLens s r six) (tableOf s q t)) s)

/-- Whether a copy of the VRF map names instance r. -/
def vrfNames (s : State) (r : Nat) : Bool := (List.range 4096).any (fun v => vrfInst s false v == r || vrfInst s true v == r)

/-- Whether instance r holds a prefix or marker. -/
def instHolds (s : State) (r : Nat) : Bool := (s.cls.pfx4.slots ++ s.cls.pfx6.slots).any (fun e => keyInst e.2.key == r)

/-- RT_WRITE (R130). -/
def rtWrite (r f4 f6 : Nat) (toHost : Bool) (s : State) : Answer :=
  let x := routeInst s r
  if 8192 ≤ r || 2 ^ 33 ≤ f4 || 2 ^ 129 ≤ f6 then failed 1 s
  else if (x.filter4 != f4 || x.filter6 != f6) && (instHolds s r || vrfNames s r) then failed 4 s
  else okTable { s with cls := { s.cls with routes := Store.set s.cls.routes r ⟨f4, f6, toHost⟩ } }

/-- RT_FREE (R133). -/
def rtFree (r : Nat) (s : State) : Answer :=
  if 8192 ≤ r then failed 1 s
  else if vrfNames s r then failed 4 s
  else
    let cut := fun (t : CTable) => { t with slots := t.slots.filter (fun e => keyInst e.2.key != r) }
    let q := referenceQuarter s
    okTable (setTable q 3 (cut s.cls.pfx6) (setTable q 2 (cut s.cls.pfx4) s))

/-! ### Direct tables (R130, R135, R245, R520) -/

/-- The copy of the VRF map of an epoch bit with one VRF mapped. -/
def setVrf (epoch : Bool) (v r : Nat) (s : State) : State :=
  { s with cls := if epoch then { s.cls with vrf1 := Store.put s.cls.vrf1 v 0 r } else { s.cls with vrf0 := Store.put s.cls.vrf0 v 0 r } }

/-- VRF_MAP_WRITE (R130): it writes the copy of the inactive epoch, and waits while a RULESET_COMMIT is in progress. -/
def vrfMapWrite (v r : Nat) (s : State) : Answer :=
  if 4096 ≤ v || 8192 ≤ r then failed 1 s
  else if s.host.waiting.any (fun w => w.opcode == 0x0201) then .wait 0 0 (key2 v r) s
  else okTable (setVrf (!epochBit s (referenceQuarter s)) v r s)

/-- When a RULESET_COMMIT completes the newly active copy of the VRF map is copied into the other, and a write that waited is made
(R130). -/
def rulesetEnds (s : State) : State :=
  let before := s.host.waiting.any (fun w => w.opcode == 0x0201)
  let s := swapComplete s
  if !before || s.host.waiting.any (fun w => w.opcode == 0x0201) then s
  else
    let new := epochBit s (referenceQuarter s)
    let s := { s with cls := if new then { s.cls with vrf0 := s.cls.vrf1 } else { s.cls with vrf1 := s.cls.vrf0 } }
    match waitingOf s (fun w => w.opcode == 0x030A) with
    | none => s
    | some w =>
      finishWaiting (fun w => w.opcode == 0x030A) (fun _ => ⟨0, quarterMask s, 0, false⟩) (setVrf (!new) (w.key / 2 ^ 32) (w.key % 2 ^ 32) s)

/-- VLAN_WRITE (R130). -/
def vlanWrite (vid fid vrf rmac : Nat) (routing : Bool) (flood : Nat) (s : State) : Answer :=
  if 4096 ≤ vid || 4096 ≤ fid || 4096 ≤ vrf || 256 ≤ rmac || 16384 ≤ flood then failed 1 s
  else okTable { s with cls := { s.cls with vlans := Store.set s.cls.vlans vid ⟨fid, vrf, rmac, routing, flood⟩ } }

/-- NH_WRITE (R135). -/
def nhWrite (i e : Nat) (s : State) : Answer :=
  if 65536 ≤ i || 2 ^ 128 ≤ e || bitsOf e 127 89 != 0 then failed 1 s
  else okTable { s with cls := { s.cls with hops := Store.set s.cls.hops i e } }

/-- RMAC_WRITE (R520). -/
def rmacWrite (i mac : Nat) (valid : Bool) (s : State) : Answer :=
  if 256 ≤ i || 2 ^ 48 ≤ mac then failed 1 s
  else okTable { s with cls := { s.cls with macs := if valid then Store.set s.cls.macs i mac else Store.erase s.cls.macs i } }

/-- The multicast group that a 256-bit entry describes (Table 10.2). -/
def groupOfEntry (e : Nat) : McGroup :=
  ⟨bitsOf e 95 0, bitOf e 96, bitOf e 97, bitOf e 98, bitsOf e 101 99,
    (List.range 8).map (fun k => if bitOf e (168 + k) then some (bitsOf e (111 + 8 * k) (104 + 8 * k)) else none), bitsOf e 183 176⟩

/-- MCAST_WRITE (R245): entry g from its 32 bytes. -/
def mcastWrite (obj g : Nat) (s : State) : Answer :=
  withObject obj (fun bs s =>
    let e := leNat bs
    if 16384 ≤ g || bs.length != 32 || bitsOf e 103 102 != 0 || bitsOf e 255 184 != 0 || 16 ≤ bitsOf e 183 176 then failed 1 s
    else okTable { s with buf := { s.buf with mcGroups := Store.set s.buf.mcGroups g (groupOfEntry e) } }) s

/-! ### Rehash (R129) -/

/-- Table t of quarter q under fresh seeds (R129): answers none where an entry cannot be placed. -/
def rehashOne (t seeds q : Nat) (s : State) : Option State :=
  let new := crcPlace (tableBuckets t) (seeds % 2 ^ 32) (seeds / 2 ^ 32)
  let x := rehashTable new (tableOf s q t)
  if x.2 then some (setTable q t x.1 s) else none

/-- The seeds of table t in quarter q after a rehash. -/
def setSeeds (t seeds q : Nat) (s : State) : State := s.setReg QTR_HASH_SEED (BitVec.ofNat 64 seeds) q t

/-- What the end of a rehash leaves whatever its outcome: flip and victim are 0 and the request is served. -/
def rehashOver (t : Nat) (qs : List Nat) (s : State) : State :=
  qs.foldl (fun s q => (setTable q t { tableOf s q t with flip := 0, victim := 0 } s).put QTR_TABLE_STAT_REHASH_REQ 0 q t) s

/-- TABLE_REHASH (R129): the learned address tables of the quarters of a mask, or an identical table in all quarters. -/
def tableRehash (t mask : Nat) (s : State) : Answer :=
  if 4 ≤ t || (t = 0 && (mask = 0 || 32 ≤ mask)) then failed 1 s
  else
    let qs := (liveQuarters s).filter (fun q => t != 0 || bitOf mask q)
    let seeds := s.freeWord.toNat
    let s := qs.foldl (fun s q => s.setReg QTR_HASH_NEW_SEED (BitVec.ofNat 64 seeds) q t) s.drew
    let work := if t = 0 then qs else qs.take 1
    match work.foldl (fun (x : Option State) q => x.bind (rehashOne t seeds q)) (some s) with
    | none => failed 5 (rehashOver t qs s)
    | some x => .done ⟨0, (qs.map (fun q => 2 ^ q)).sum, 0, false⟩ (rehashOver t qs (qs.foldl (fun s q => setSeeds t seeds q s) x))

end Sys2Proof.Machine
end

