-- ==== Sys2Proof/Machine/ClassifyRows.lean ====
section
/-! DEFINITION. The commands of classification and the steps of their tables (chapters 4 and 5). -/

namespace Sys2Proof.Machine

/-- PARSER_LOAD (R67): Checks a signed parse graph and loads it into the inactive bank of all five quarters. -/
def execParserLoad (c : Cmd) (obj states rows : Nat) (sigOk : Bool) (s : State) : Host.Outcome State Fault Refusal :=
  within (c.ring < 4) (command c 0x0200 false (fun s => parserLoad obj states rows sigOk s) s)

/-- RULESET_COMMIT (R89): Flips the epoch bit of all quarters at a chosen tick and completes once no old-epoch descriptor remains. -/
def execRulesetCommit (c : Cmd) (s : State) : Host.Outcome State Fault Refusal :=
  within (c.ring < 4) (command c 0x0201 false (fun s => commitLater (quarterMask s) 0 s) s)

/-- TCAM_INSERT (R100): Plans and performs the insertion of a TCAM entry by moves and returns its handle. -/
def execTcamInsert (c : Cmd) (obj target : Nat) (s : State) : Host.Outcome State Fault Refusal :=
  within (c.ring < 4) (command c 0x0202 false (fun s => tcamInsert c obj target s) s)

/-- TCAM_DELETE (R101): Clears VALID of the entry named by a handle in one step. -/
def execTcamDelete (c : Cmd) (h : Nat) (s : State) : Host.Outcome State Fault Refusal :=
  within (c.ring < 4) (command c 0x0203 false (fun s => tcamDelete c h s) s)

/-- TCAM_UPDATE (R101): Rewrites epoch bits, action, values and masks of an entry in place in one step. -/
def execTcamUpdate (c : Cmd) (obj h : Nat) (s : State) : Host.Outcome State Fault Refusal :=
  within (c.ring < 4) (command c 0x0204 false (fun s => tcamUpdate c obj h s) s)

/-- TCAM_READ (R101): Returns the entry buffer and its current physical index. -/
def execTcamRead (c : Cmd) (h addr : Nat) (s : State) : Host.Outcome State Fault Refusal :=
  within (c.ring < 4) (command c 0x0205 true (fun s => tcamRead c h addr s) s)

/-- ACTION_WRITE (R107): Writes an action entry identically in all five quarters. -/
def execActionWrite (c : Cmd) (obj idx : Nat) (s : State) : Host.Outcome State Fault Refusal :=
  within (c.ring < 4) (command c 0x0206 false (fun s => actionWrite obj idx s) s)

/-- PAT_LOAD (R119): Checks a signed automaton image and writes it into free table words of all quarters. -/
def execPatLoad (c : Cmd) (obj : Nat) (starts : List Nat) (sigOk : Bool) (s : State) : Host.Outcome State Fault Refusal :=
  within (c.ring < 4) (command c 0x0207 false (fun s => patLoad obj starts sigOk s) s)

/-- PAT_FREE (R119): Frees an automaton image once no action, engine or queued descriptor uses it. -/
def execPatFree (c : Cmd) (n : Nat) (s : State) : Host.Outcome State Fault Refusal :=
  within (c.ring < 4) (command c 0x0208 false (fun s => patFree n s) s)

/-- HASH_GROUP_SET (R82): Sets the fields, seed, size, symmetric and failover bits of a hash group. -/
def execHashGroupSet (c : Cmd) (g fields seed size : Nat) (symmetric failover : Bool) (s : State) : Host.Outcome State Fault Refusal :=
  within (c.ring < 4) (command c 0x0209 false (fun s => hashGroupSet g fields seed size symmetric failover s) s)

/-- INDIR_WRITE (R85): Writes the shadow indirection table of a hash group. -/
def execIndirWrite (c : Cmd) (obj g first : Nat) (s : State) : Host.Outcome State Fault Refusal :=
  within (c.ring < 4) (command c 0x020A false (fun s => indirWrite obj g first s) s)

/-- INDIR_COMMIT (R85): Makes a group's shadow indirection table active in all quarters at one chosen tick. -/
def execIndirCommit (c : Cmd) (g : Nat) (s : State) : Host.Outcome State Fault Refusal :=
  within (c.ring < 4) (command c 0x020B false (fun s => indirCommit g s) s)

/-- XPR_BYTECLASS_WRITE (R110): Writes the express byte-class map. -/
def execXprByteclassWrite (c : Cmd) (k v cls : Nat) (s : State) : Host.Outcome State Fault Refusal :=
  within (c.ring < 4) (command c 0x020C false (fun s => byteClassWrite k v cls s) s)

/-- XPR_TCAM_COMMIT (R114): Flips the express epoch bit in all three replicas at one tick. -/
def execXprTcamCommit (c : Cmd) (s : State) : Host.Outcome State Fault Refusal :=
  within (c.ring < 4) (command c 0x020D false (fun s => commitLater 7 0 s) s)

/-- TCAM_STEP (R103): A TCAM insertion step takes a free or stolen pipeline slot. -/
def execTcamStep (q : Nat) (stolen : Bool) (s : State) : Host.Outcome State Fault Refusal :=
  within (q < 5) (tcamStep q stolen s)

/-- TCAM_SCRUB (R106): The scrubber compares a TCAM row with its shadow and rewrites it on mismatch. upset: the bit error that strikes the
row, as control word and units, before the scrubber comes by. -/
def execTcamScrub (x : TcamRow) (upset : Option (Nat × List (Nat × Nat))) (s : State) : Host.Outcome State Fault Refusal :=
  within (x.quarter < 6 && x.replica < 3) (tcamScrub x.quarter x.replica x.group x.index upset s)

/-- EXPRESS_TCAM_STEP (R112): An express TCAM step writes one entry in all three replicas at one XP edge. -/
def execExpressTcamStep (s : State) : Host.Outcome State Fault Refusal :=
  ok (expressStep s)

/-- RULESET_SWAP_COMPLETE (R89): Every quarter's old-epoch count reaches zero and RULESET_COMMIT completes. -/
def execRulesetSwapComplete (s : State) : Host.Outcome State Fault Refusal :=
  ok (rulesetEnds s)

/-- CUCKOO_INSERTION (R127): The table engine plans and makes the moves of one insertion or raises a rehash request. -/
def execCuckooInsertion (t q : Nat) (key data : List Byte) (s : State) : Host.Outcome State Fault Refusal :=
  within (t < 4 && q < 5) ((tableInsert q t key data s).1)

end Sys2Proof.Machine
end

