-- ==== Sys2Proof/Machine/DeviceCommands.lean ====
section
/-! DEFINITION. The commands of the time base (Table 12.2), of the Varing pair (R340, R370, R372), of the HBM and DDR5 controllers, and
of the fault sources (R430, R431, R447). -/

namespace Sys2Proof.Machine

/-! ### Time (Table 12.2, R296 to R298, R306, R310) -/

/-- TIME_SESSION_OPEN. -/
def sessionOpenTime (s : State) : Answer := ok_ (openServo s)


/-- TIME_STEP (R297, R298): the times before and after in the result object. DESIGN CHOICE (log entry 108): the state is judged before
the arguments. -/
def timeStep (c : Cmd) (mode : Nat) (offset : Int) (sec ns : Nat) (s : State) : Answer :=
  if s.get TIM_STAT_STATE != 1 then failed 3 s
  else
    match stepTarget s mode offset ⟨sec, ns⟩ with
    | none => failed 1 s
    | some b => giveResult c 0 0 (stampBytes s.now ++ stampBytes (nsStamp b)) 0 (stepTo b s)

/-- TIME_ADJ. -/
def timeAdj (incr temp ticks : Nat) (s : State) : Answer :=
  if !inSession s then failed 3 s
  else if 2 ^ 64 ≤ incr || 2 ^ 64 ≤ temp || 2 ^ 32 ≤ ticks then failed 1 s
  else ok_ (adjustTime incr temp ticks s)

/-- TIME_SESSION_CLOSE: HOLDOVER with reason 2. -/
def sessionCloseTime (s : State) : Answer := if inSession s then ok_ (enterHoldover 2 s) else failed 3 s

/-- The arguments that R306 and R7 refuse: PPS_IN takes off and capture only, START below 10^9 ns, and a periodic pulse a width of at
least 8 ns below a period of 100 ns to 1 s. -/
def pinArg (k mode width ns period : Nat) : Bool :=
  4 < k || 3 < mode || (k == 4 && 2 ≤ mode) || nsPerSec ≤ ns ||
    (mode == 3 && (width < 8 || period ≤ width || period < 100 || nsPerSec < period))

/-- TIME_PIN_SET (R306). -/
def timePinSet (k mode edge pol evt adj width ns sec period : Nat) (s : State) : Answer :=
  if pinArg k mode width ns period || 1 < edge || 1 < pol || 1 < evt || 2 ^ 16 ≤ adj || 2 ^ 32 ≤ width || 2 ^ 48 ≤ sec || 2 ^ 30 ≤ period
  then failed 1 s
  else ok_ (setPin k mode edge pol evt adj width ns sec period s)

/-- TIME_WAKE (R310): for the quarter named by MOVED it goes to Q4; for another fenced quarter it is returned. -/
def timeWake (q sec ns : Nat) (s : State) : Answer :=
  if 5 ≤ q || nsPerSec ≤ ns || 2 ^ 48 ≤ sec then failed 1 s
  else if s.get PRT_QMUX_MOVED = q then ok_ (setWake 4 sec ns s)
  else if fenced s q then .back s
  else ok_ (setWake q sec ns s)

/-! ### The pair (R340, R370, R372) -/

/-- VAR_PAIR_SETUP (R340): set-up begins with the partner's fingerprint, the witness port and the partner's witness address; MEM_INIT must
have completed. -/
def pairSetup (fp port da : Nat) (s : State) : Answer :=
  if 2 ^ 64 ≤ fp || 96 ≤ port || 2 ^ 48 ≤ da then failed 1 s
  else if pairState s != 0 then failed 3 s
  else if !s.on MEM_INIT_CFG_DONE then failed 8 s
  else
    let s := (s.setReg VAR_PARTNER_ID (BitVec.ofNat 64 fp)).put VAR_WITNESS_PORT port
    .wait 0 0 0 (setPairState 1 ((s.put VAR_WITNESS_DA da).put VAR_WITNESS_EN 1))

/-- VAR_PAIR_DISSOLVE (Table 14.1). -/
def dissolvePair (s : State) : Answer := ok_ (pairDissolve s)

/-- VAR_SOLO (R372). -/
def soloPair (s : State) : Answer := if pairState s = 5 then ok_ (goSolo s) else failed 3 s

/-! ### Fault sources (R430, R431, R447) -/

/-- An index that names a fault source (R427). -/
def sourceNamed (i : Nat) : Bool := (sourceInfo i).isSome

/-- FAULT_SET is refused (R427, R430). -/
def faultSetArg (s : State) (i sev : Nat) (fence hand : Bool) : Bool :=
  !sourceNamed i || 3 < sev ||
    (s.on FLT_SRC_CFG_LOCK i && (sev < 3 || (s.on FLT_SRC_CFG_FENCE i && !fence) || (s.on FLT_SRC_CFG_HANDOVER i && !hand))) ||
    (fence && (fenceUnitOf i).isNone)

/-- FAULT_SET (R429, R430): at severity 3 ALARM reads 1 whatever is written. -/
def faultSet (i sev : Nat) (fence alarm hand : Bool) (s : State) : Answer :=
  if faultSetArg s i sev fence hand then failed 1 s
  else
    let s := ((s.put FLT_SRC_CFG_SEVERITY sev i).flag FLT_SRC_CFG_FENCE fence i).flag FLT_SRC_CFG_ALARM (alarm || sev == 3) i
    ok_ (setPins (s.flag FLT_SRC_CFG_HANDOVER hand i))

/-- The condition of a source that the state shows still to be present (R431): the reference, the PLLs, the rails, the temperature and the
AVSBus. -/
def stillPresent (s : State) (i : Nat) : Bool :=
  (i == srcRefLost && !s.power.refPresent) || (s.power.unlocked.any (fun p => i == srcPllUnlock p)) ||
    (s.power.railsOut.any (fun r => r < 3 && i == srcSupply r)) || (i == srcTempCrit && s.power.hot) ||
    (i == srcAvsLink && !s.power.avsFailed.isEmpty)

/-- FAULT_CLEAR (R431); with the black-box flag n names a closed buffer, which is freed (R447). -/
def faultClear (n : Nat) (bb : Bool) (s : State) : Answer :=
  if bb then (if 2 ≤ n then failed 1 s else ok_ (bbRelease n s))
  else if !sourceNamed n then failed 1 s
  else
    let s := { s with faults := { s.faults with pending := Store.erase s.faults.pending n } }
    let s := setPins (s.put FLT_SRC_STAT_PENDING 0 n)
    ok_ (if stillPresent s n then report n s else s)

end Sys2Proof.Machine
end

