-- ==== Sys2Proof/Machine/DeviceRows.lean ====
section
/-! DEFINITION. The commands of the time base, the memory controllers, the Varing pair, fault sources, units and power (chapters 12 to 18). -/

namespace Sys2Proof.Machine

/-- TIME_SESSION_OPEN (R296): Ends any servo session and opens a new one, ending holdover. -/
def execTimeSessionOpen (c : Cmd) (s : State) : Host.Outcome State Fault Refusal :=
  within (c.ring < 4) (command c 0x0800 false (fun s => sessionOpenTime s) s)

/-- TIME_STEP (R297): Steps the clock by an offset or to an absolute time at one tick. -/
def execTimeStep (c : Cmd) (mode : Nat) (offset : Int) (sec ns : Nat) (s : State) : Host.Outcome State Fault Refusal :=
  within (c.ring < 4) (command c 0x0801 false (fun s => timeStep c mode offset sec ns s) s)

/-- TIME_ADJ (R296): Sets INCR, optionally a temporary rate, and restarts the servo watchdog. -/
def execTimeAdj (c : Cmd) (incr temp ticks : Nat) (s : State) : Host.Outcome State Fault Refusal :=
  within (c.ring < 4) (command c 0x0802 false (fun s => timeAdj incr temp ticks s) s)

/-- TIME_SESSION_CLOSE (R296): Ends the servo session and enters HOLDOVER with reason 2. -/
def execTimeSessionClose (c : Cmd) (s : State) : Host.Outcome State Fault Refusal :=
  within (c.ring < 4) (command c 0x0803 false (fun s => sessionCloseTime s) s)

/-- TIME_PIN_SET (R306): Sets a time pin to off, capture, single pulse or periodic pulse. -/
def execTimePinSet (c : Cmd) (k mode edge pol evt adj width ns sec period : Nat) (s : State) : Host.Outcome State Fault Refusal :=
  within (c.ring < 4) (command c 0x0804 false (fun s => timePinSet k mode edge pol evt adj width ns sec period s) s)

/-- TIME_WAKE (R310): Sets the pending timed wake of a quarter. -/
def execTimeWake (c : Cmd) (q sec ns : Nat) (s : State) : Host.Outcome State Fault Refusal :=
  within (c.ring < 4) (command c 0x0805 false (fun s => timeWake q sec ns s) s)

/-- MEM_INIT (R318): Latches the memory partition, trains and zeroes HBM and DDR5, and sets the tier configuration. dimms: what the SPD of
each channel shows. -/
def execMemInit (c : Cmd) (spill park firkin task : Nat) (mirror : Bool) (dimms : List Dimms) (s : State) : Host.Outcome State Fault Refusal :=
  within (c.ring < 4) (command c 0x0900 false (fun s => memInitBody spill park firkin task mirror dimms s) s)

/-- MEM_RETRAIN (R335): Runs a full training pass on a DDR5 channel in service. -/
def execMemRetrain (c : Cmd) (k : Nat) (s : State) : Host.Outcome State Fault Refusal :=
  within (c.ring < 4) (command c 0x0901 false (fun s => memRetrainBody k s) s)

/-- MEM_SPEED (R336): Changes the speed bin of a DDR5 channel through self-refresh and retraining. -/
def execMemSpeed (c : Cmd) (k bin : Nat) (s : State) : Host.Outcome State Fault Refusal :=
  within (c.ring < 4) (command c 0x0902 false (fun s => memSpeedBody k bin s) s)

/-- MEM_HBM_REINTEGRATE (R320): Retrains, repairs, tests and rebuilds the failed pseudo-channels of a stack. passed: the mask of the failed
pseudo-channels whose test passes. -/
def execMemHbmReintegrate (c : Cmd) (st passed : Nat) (s : State) : Host.Outcome State Fault Refusal :=
  within (c.ring < 4) (command c 0x0903 false (fun s => hbmReintegrateBody st passed s) s)

/-- VAR_PAIR_SETUP (R340): Starts pair set-up with the named partner and witness, choosing joiner and PAIR_HALF. -/
def execVarPairSetup (c : Cmd) (fp port da : Nat) (s : State) : Host.Outcome State Fault Refusal :=
  within (c.ring < 4) (command c 0x0A00 false (fun s => pairSetup fp port da s) s)

/-- VAR_PAIR_DISSOLVE (R339): Dissolves the pair and returns the device to STATE 0. -/
def execVarPairDissolve (c : Cmd) (s : State) : Host.Outcome State Fault Refusal :=
  within (c.ring < 4) (command c 0x0A01 false (fun s => dissolvePair s) s)

/-- VAR_SOLO (R372): Tells the survivor the partner has stopped, setting PAIR_HALF to 0. -/
def execVarSolo (c : Cmd) (s : State) : Host.Outcome State Fault Refusal :=
  within (c.ring < 4) (command c 0x0A02 false (fun s => soloPair s) s)

/-- FAULT_SET (R430): Sets the severity and reaction bits of a fault source within the LOCK rules. -/
def execFaultSet (c : Cmd) (idx sev : Nat) (fence alarm handover : Bool) (s : State) : Host.Outcome State Fault Refusal :=
  within (c.ring < 4) (command c 0x0B00 false (fun s => faultSet idx sev fence alarm handover s) s)

/-- FAULT_CLEAR (R431): Clears PENDING of a fault source, or releases a black-box buffer with the flag. -/
def execFaultClear (c : Cmd) (n : Nat) (bb : Bool) (s : State) : Host.Outcome State Fault Refusal :=
  within (c.ring < 4) (command c 0x0B01 false (fun s => faultClear n bb s) s)

/-- FAULT_INJECT (R444): Arms an injection of a Table 1.3 fault at a given tick. -/
def execFaultInject (c : Cmd) (kind u : Nat) (tick : Option Stamp) (s : State) : Host.Outcome State Fault Refusal :=
  within (c.ring < 4) (command c 0x0B02 false (fun s => injectBody kind u tick s) s)

/-- FENCE (R434): Fences a unit by closing its isolation gates and starting its replacement. -/
def execFence (c : Cmd) (u : Nat) (s : State) : Host.Outcome State Fault Refusal :=
  within (c.ring < 4) (command c 0x0B03 false (fun s => fenceBody u s) s)

/-- REINTEGRATE (R443): Self-tests, reloads and rejoins a fenced unit, or hands back a quarter's ports from Q4. -/
def execReintegrate (c : Cmd) (u : Nat) (back pass : Bool) (s : State) : Host.Outcome State Fault Refusal :=
  within (c.ring < 4) (command c 0x0B04 false (fun s => reintegrateBody u back pass s) s)

/-- UNIT_RESET (R40): Resets one quarter, cluster or channel island. -/
def execUnitReset (c : Cmd) (u : Nat) (s : State) : Host.Outcome State Fault Refusal :=
  within (c.ring < 4) (command c 0x0B05 false (fun s => unitResetBody u s) s)

/-- DEVICE_RESET (R31): Drains accepted frames up to the drain limit and then performs a full device reset. -/
def execDeviceReset (c : ResetCmd) (s : State) : Host.Outcome State Fault Refusal :=
  within (c.ring < 4) (command c.toCmd 0x0B06 false (fun s => deviceResetBody c.limit s) s)

/-- BB_READ (R448): Returns black-box entries or the sealed image to a host buffer. -/
def execBbRead (c : Cmd) (b first n addr : Nat) (s : State) : Host.Outcome State Fault Refusal :=
  within (c.ring < 4) (command c 0x0B07 true (fun s => bbReadBody c addr b first n s) s)

/-- UNIT_REST (R457): Requests rest of a unit, deferred if it is not empty. -/
def execUnitRest (c : Cmd) (u : Nat) (s : State) : Host.Outcome State Fault Refusal :=
  within (c.ring < 4) (command c 0x0E00 false (fun s => unitRestBody u s) s)

/-- UNIT_WAKE (R457): Wakes a resting unit. -/
def execUnitWake (c : Cmd) (u : Nat) (s : State) : Host.Outcome State Fault Refusal :=
  within (c.ring < 4) (command c 0x0E01 false (fun s => unitWakeBody u s) s)

/-- AGE_MEASURE (R464): Measures all 48 ageing monitors without re-planning. -/
def execAgeMeasure (c : Cmd) (readings : List (Nat × Int)) (s : State) : Host.Outcome State Fault Refusal :=
  within (c.ring < 4) (command c 0x0E02 false (fun s => ageMeasureBody readings s) s)

/-- MARGIN_REPLAN (R465): Runs the margin re-plan of rail set points, memory eyes and lane eyes. -/
def execMarginReplan (c : Cmd) (readings : List (Nat × Int)) (lanes : List (Nat × Nat × Nat)) (s : State) : Host.Outcome State Fault Refusal :=
  within (c.ring < 4) (command c 0x0E03 false (fun s => replanBody readings lanes s) s)

end Sys2Proof.Machine
end

