-- ==== Sys2Proof/Machine/ExpressRows.lean ====
section
/-! DEFINITION. The express path, the egress schedulers and the ports (chapters 3, 10 and 11). -/

namespace Sys2Proof.Machine

/-- EXPRESS_DECISION (R275): The three replicas decide an express frame's stream and stages and vote. dissent: replicas whose own result
differs. -/
def execExpressDecision (p : Nat) (bytes : List Byte) (ended good : Bool) (dissent : List Nat) (s : State) : Host.Outcome State Fault Refusal :=
  within (p < 96) (expressDecision p bytes ended good dissent s)

/-- RECOVERY_RESET (R280): RESET_MS passes without a frame and the recovery history is reset. -/
def execRecoveryReset (r : Nat) (s : State) : Host.Outcome State Fault Refusal :=
  within (r < 16384) (recoveryReset r s)

/-- CELL_TIME (R260): Once every 4 ns the crossbar matches ingress to egress ports and grants cells. -/
def execCellTime (s : State) : Host.Outcome State Fault Refusal :=
  ok (cellTime s)

/-- EXPRESS_OVERSIZE (R276): An express frame's byte count exceeds MAX_SDU and is refused or stomped. -/
def execExpressOversize (ident : Nat) (s : State) : Host.Outcome State Fault Refusal :=
  ok (expressOversize ident s)

/-- EXPRESS_DEADLINE (R281): An accepted express frame passes its deadline untransmitted and is returned, or dropped while island C is out.
-/
def execExpressDeadline (ident e : Nat) (s : State) : Host.Outcome State Fault Refusal :=
  within (e < 96) (expressDeadline ident e s)

/-- EGRESS_FRAME_START (R265): The line is free and the port starts the next eligible express or bulk frame. -/
def execEgressFrameStart (p : Nat) (s : State) : Host.Outcome State Fault Refusal :=
  within (p < 96) (frameStart p s)

/-- EGRESS_FRAME_END (R21): A frame's last byte leaves the egress MAC and it is delivered. -/
def execEgressFrameEnd (p : Nat) (s : State) : Host.Outcome State Fault Refusal :=
  within (p < 96) (frameEnd p s)

/-- PREEMPTION (R287): A bulk frame is preempted at the next allowed boundary. -/
def execPreemption (p : Nat) (s : State) : Host.Outcome State Fault Refusal :=
  within (p < 96) (preempt p s)

/-- SHAPER_UPDATE (R267): Every 16 TIME ticks credit and token counts are updated. -/
def execShaperUpdate (s : State) : Host.Outcome State Fault Refusal :=
  ok (shaperTick s)

/-- PAUSE_RECEIVED (R270): A PFC or PAUSE frame stops the named bulk queues for its pause time. times: priority and pause quanta of a PFC
frame, or one entry of a PAUSE frame. -/
def execPauseReceived (p : Nat) (pfc : Bool) (times : List (Nat × Nat)) (s : State) : Host.Outcome State Fault Refusal :=
  within (p < 96) (pauseReceived p pfc times s)

/-- PAUSE_EXPIRY (R270): A received pause time runs out and the queue resumes. -/
def execPauseExpiry (p t : Nat) (s : State) : Host.Outcome State Fault Refusal :=
  within (p < 96 && t < 8) (pauseExpires p t s)

/-- LAUNCH_TIME (R289): A head frame's launch time is reached and its queue becomes eligible. -/
def execLaunchTime (p t : Nat) (s : State) : Host.Outcome State Fault Refusal :=
  within (p < 96 && t < 8) (launchReached p t s)

/-- GATE_ENTRY_CHANGE (R283): The operational gate list moves to its next entry and gates change. -/
def execGateEntryChange (p : Nat) (s : State) : Host.Outcome State Fault Refusal :=
  within (p < 96) (gatePosition p s)

/-- SET_AND_HOLD_MAC (R288): HOLD_ADVANCE before an OP 1 entry the preemptable MAC is held. -/
def execSetAndHoldMac (p : Nat) (s : State) : Host.Outcome State Fault Refusal :=
  within (p < 96) (macHold p s)

/-- SET_AND_RELEASE_MAC (R288): RELEASE_ADVANCE before an OP 2 entry the preemptable MAC is released. -/
def execSetAndReleaseMac (p : Nat) (s : State) : Host.Outcome State Fault Refusal :=
  within (p < 96) (macRelease p s)

/-- GCL_LIST_START (R284): At its start time a pending gate list becomes operational from entry 0. -/
def execGclListStart (p : Nat) (s : State) : Host.Outcome State Fault Refusal :=
  within (p < 96) (gateListStarts p s)

/-- SGATE_LIST_START (R277): At its start time a pending stream gate list becomes operational. -/
def execSgateListStart (idx : Nat) (s : State) : Host.Outcome State Fault Refusal :=
  within (idx < 256) (streamListStarts idx s)

/-- QUIET_PERIOD_START (R290): A port declares its quarter quiet at the start of a long closed stretch. -/
def execQuietPeriodStart (p : Nat) (s : State) : Host.Outcome State Fault Refusal :=
  within (p < 96) (quietStart p s)

/-- PLANNED_WAKE (R290): A quiet period ends and the scheduler sends the quarter a wake request. -/
def execPlannedWake (p : Nat) (s : State) : Host.Outcome State Fault Refusal :=
  within (p < 96) (endQuiet p s)

/-- LINK_DOWN (R56): A link fault lasts DEBOUNCE and the port enters hold. -/
def execLinkDown (p : Nat) (seen : LinkFault) (s : State) : Host.Outcome State Fault Refusal :=
  within (p < 96) (linkDown p seen.cause seen.lasted s)

/-- LINK_UP (R58): Lock and alignment last DEBOUNCE and transmission resumes from each queue head. -/
def execLinkUp (x : LinkGood) (s : State) : Host.Outcome State Fault Refusal :=
  within (x.port < 96) (linkUp x.port x.lasted s)

/-- HOLD_TIME_EXPIRY (R59): The hold time passes with the link down and the port's bulk queues start parking. -/
def execHoldTimeExpiry (p : Nat) (s : State) : Host.Outcome State Fault Refusal :=
  within (p < 96) (holdExpires p s)

/-- VERIFY_TIME_EXPIRY (R54): The MAC merge verify time runs out and the verify protocol resends or gives up. -/
def execVerifyTimeExpiry (p : Nat) (s : State) : Host.Outcome State Fault Refusal :=
  within (p < 96) (verifyExpires p s)

/-- VERIFY_RESPONSE_RECEIVED (R55): A verify or respond mPacket arrives from the link partner and verification answers it or succeeds,
making PREEMPT_ACTIVE true. respond: a respond mPacket; else a verify. -/
def execVerifyResponseReceived (p : Nat) (respond : Bool) (s : State) : Host.Outcome State Fault Refusal :=
  within (p < 96) (verifyReceived p respond s)

end Sys2Proof.Machine
end

