-- ==== Sys2Proof/Machine/FaultRows.lean ====
section
/-! DEFINITION. Faults, the black box and takeovers (chapter 17), resets and start-up (chapters 2 and 18). -/

namespace Sys2Proof.Machine

/-- FAULT_OCCURRENCE (R431): A fault source occurs; COUNT rises and its reactions apply if not already pending. -/
def execFaultOccurrence (src detail value : Nat) (s : State) : Host.Outcome State Fault Refusal :=
  within (src < 512) (faultOccurs src detail value s)

/-- ATTN_PULSE_END (R432): The ATTN_N pulse of ATTN_PULSE_US ends. -/
def execAttnPulseEnd (s : State) : Host.Outcome State Fault Refusal :=
  ok (attnPulseEnd s)

/-- FREEZE (R447): A fatal or handover reaction, pin reset or SMBus freeze freezes the live black-box buffer. -/
def execFreeze (cause : Nat) (s : State) : Host.Outcome State Fault Refusal :=
  within (cause < 512 || cause = 0x1000 || cause = 0x2000) (bbFreeze cause s)

/-- POST_FREEZE_END (R447): POST_COUNT entries or POST_US pass and a freeze marker closes the buffer. -/
def execPostFreezeEnd (s : State) : Host.Outcome State Fault Refusal :=
  ok (postFreezeEnd s)

/-- BB_SEAL_COMPLETE (R447): The island A engine finishes sealing a closed buffer. -/
def execBbSealComplete (b : Nat) (s : State) : Host.Outcome State Fault Refusal :=
  within (b < 2) (bbSealed b s)

/-- BB_EPOCH (R401): Ascor prepares the next black-box seal epoch key and record. -/
def execBbEpoch (s : State) : Host.Outcome State Fault Refusal :=
  ok (bbEpochPrepared s)

/-- QTR_TAKEOVER (R439): The reserve quarter takes a failed quarter's ports under the takeover routine. passed: the self-test of the quarter
brought in. -/
def execQtrTakeover (q : Nat) (passed : Bool) (s : State) : Host.Outcome State Fault Refusal :=
  within (q < 5) (takeoverEnds q passed s)

/-- QUARTER_FAILURE (R436): A quarter is declared failed and fenced. idx: the source of R436, 0 PIPE_UE, 1 RESIDUE, 2 STALL, 3 WAKE_FAIL. -/
def execQuarterFailure (q idx : Nat) (s : State) : Host.Outcome State Fault Refusal :=
  within (q < 5 && idx < 4) (report (srcQuarter q idx) s)

/-- SPARE_BANK_COPY (R442): A bank reaching SPARE_THRESH is copied to its spare in service. -/
def execSpareBankCopy (a : Nat) (s : State) : Host.Outcome State Fault Refusal :=
  within (a < 14) (spareBank a s)

/-- SPARE_COPY_COMPLETE (R442): A spare copy completes and accesses move to the spare. -/
def execSpareCopyComplete (a : Nat) (s : State) : Host.Outcome State Fault Refusal :=
  within (a < 14) (spareCopied a s)

/-- INJECTION_FIRE (R444): An armed injection reaches its tick and produces its fault. -/
def execInjectionFire (s : State) : Host.Outcome State Fault Refusal :=
  ok (injectionDue s)

/-- FENCE_VIOLATION (R435): Output of a fenced unit is discarded at its gates and counted. -/
def execFenceViolation (u : Nat) (s : State) : Host.Outcome State Fault Refusal :=
  within (u < 20) (fenceViolation u s)

/-- RESET_N (R502): A low pulse on RESET_N causes a full device reset. -/
def execResetN (s : State) : Host.Outcome State Fault Refusal :=
  ok (resetPin s)

/-- STARTUP_STAGE (R460): A start-up stage completes and sets its PWR_READY bit. valid, copyB: what the boot ROM found; ver, words,
matches_: the patch that the manifest names. -/
def execStartupStage (n : Nat) (valid copyB : Bool) (ver : Nat) (words : List Nat) (matches_ : List (Nat × Nat)) (s : State) : Host.Outcome State Fault Refusal :=
  within (1 ≤ n && n ≤ 4) (startupStage n valid copyB ver words matches_ s)

/-- JOURNAL_REPLAY (R461): From EXPRESS_READY journaled commands not done are replayed in ring order. -/
def execJournalReplay (ring : Nat) (s : State) : Host.Outcome State Fault Refusal :=
  within (ring < 4) (journalReplay ring s)

/-- CORE_RESET (R462): Island C and the bulk islands are reset while A and X keep running. -/
def execCoreReset (byCommand : Bool) (s : State) : Host.Outcome State Fault Refusal :=
  ok (coreReset (if byCommand then 5 else 4) s)

/-- RAIL_FALL (R503): A supply rail falls out of range. r: the rail by its place in Table 22.1. -/
def execRailFall (r : Nat) (s : State) : Host.Outcome State Fault Refusal :=
  within (r < 11) (railFall r s)

/-- RAIL_RETURN (R503): The rails of steps 4 and 5 return and the core reset sequence runs. -/
def execRailReturn (r : Nat) (s : State) : Host.Outcome State Fault Refusal :=
  within (r < 11) (railReturn r s)

/-- TEMP_CRIT (R514): The hottest on-die sensor reaches 115 °C or 100 °C and a fault is raised. t: the hottest sensor in °C. -/
def execTempCrit (t : Nat) (s : State) : Host.Outcome State Fault Refusal :=
  ok (temperature t s)

/-- UNIT_RESET_END (R462): A quarter, cluster or channel reset ends and the unit comes out of reset, fenced and resting. -/
def execUnitResetEnd (u : Nat) (s : State) : Host.Outcome State Fault Refusal :=
  within (u < 17) (resetUnitEnds u s)

/-- HEALTH_KICK (R368): A kick from island C, island X or SEC reaches the health monitor and restarts its KICK_NS count. d: 0 island C, 1
island X, 2 SEC. -/
def execHealthKick (d : Nat) (s : State) : Host.Outcome State Fault Refusal :=
  within (d < 3) (healthKick d s)

/-- HEALTH_KICK_MISSED (R368): A kick is missing for KICK_NS and the health monitor reacts. -/
def execHealthKickMissed (d : Nat) (s : State) : Host.Outcome State Fault Refusal :=
  within (d < 3) (kickMissed d s)

/-- FAIL_SILENT_CESSATION (R368): The device stops heartbeats and witness frames, sets AIS and quiets every port. -/
def execFailSilentCessation (s : State) : Host.Outcome State Fault Refusal :=
  ok (cease s)

end Sys2Proof.Machine
end

