-- ==== Sys2Proof/Machine/FelricCommands.lean ====
section
/-! DEFINITION. The commands of the Felric engine (R218 to R223, R233, R234). -/

namespace Sys2Proof.Machine

/-- The header of a program image is in range (Table 9.4) and the slot does not hold its version. -/
def progHeader (s : State) (bs : List Byte) : Bool :=
  let slot := leField bs 4 1
  let n := leField bs 6 2
  leField bs 2 2 != 0 && slot != 0 && leField bs 5 1 < 8 && 1 ≤ n && n ≤ 256 && (slice bs 12 52).all (fun b => b == 0) &&
  64 + 4 * n ≤ bs.length &&
  (match Store.get? s.fel.progs slot with | none => true | some p => p.version != leField bs 2 2)

/-- PROG_LOAD (R221 to R223): the new version is current from now on, and the command completes once no running task uses the old one. -/
def progLoad (obj : Nat) (sigOk : Bool) (s : State) : Answer :=
  withImage obj 2 sigOk (fun bs s =>
    let slot := leField bs 4 1
    let words := numbersOf bs 64 4 (leField bs 6 2)
    if !progHeader s bs || !programOk (leField bs 5 1) words then failed 7 s
    else
      let p : Prog := ⟨leField bs 2 2, leField bs 5 1, leField bs 8 4, words⟩
      let s := { s with fel := { s.fel with progs := Store.set s.fel.progs slot p } }
      let s := programRefs (s.put FLW_PROG_STAT_SLOT slot)
      if s.get FLW_PROG_STAT_OLD_REFS = 0 then ok_ s else .wait 0 0 slot (s.put FLW_PROG_STAT_DRAINING 1)) s

/-- A profile copy names a program slot. -/
def profileNames (c : PolicyCopy) (slot : Nat) : Bool := c.profiles.any (fun e => profProg e.2 == slot)

/-- PROG_UNLOAD (R223). -/
def progUnload (slot : Nat) (s : State) : Answer :=
  if slot = 0 || (Store.get? s.fel.progs slot).isNone then failed 1 s
  else if profileNames s.flow.policy0 slot || profileNames s.flow.policy1 slot then failed 4 s
  else ok_ { s with fel := { s.fel with progs := Store.erase s.fel.progs slot } }

/-- TASK_POST (R213, R218, R220): RESULT is the TASK_ID. -/
def taskPost (prog arg : Nat) (key : List Byte) (s : State) : Answer :=
  if 256 ≤ prog || 2 ^ 64 ≤ arg then failed 1 s
  else
    let k := padTo 40 key
    let t := newTask s 7 prog arg (leadOf s k) k false 0
    match queueTask t (takeTaskId s) with
    | some s => okWith t.ident (countEvent 8 0x07 7 1 s)
    | none => failed 2 (report (srcTask 1) (spillFullFault t.cluster (s.bump FLW_TASK_DROP_CNT)))

/-- TASK_CANCEL (R219): a queued POSTED task is cancelled; a dispatched one runs on. -/
def taskCancel (n : Nat) (s : State) : Answer :=
  if s.fel.running.any (fun e => e.2.task.ident == n) then failed 0x0B s
  else if (List.range 4).any (fun c => (queuedTasks s c).any (fun t => t.ident == n && t.kind == 7)) then
    ok_ (cancelTasks (fun t => t.ident == n && t.kind == 7) s)
  else failed 1 s

/-- BANK_OWN_SET (R233). -/
def bankOwnSet (b owner : Nat) (s : State) : Answer :=
  if 32 ≤ b || !(owner < 0x42 || owner == 0x7F) then failed 1 s else ok_ (s.put FLW_BANK_OWN_OWNER owner b)

/-- BANK_READ (R234): 64 bytes of a bank. -/
def bankRead (c : Cmd) (b off : Nat) (s : State) : Answer :=
  if 32 ≤ b || 262144 < off + 64 then failed 1 s
  else giveResult c 0 0 ((List.range 64).map (fun i => bankByte s (262144 * b + off + i))) 0 s

end Sys2Proof.Machine
end

