-- ==== Sys2Proof/Machine/FelricCommandRows.lean ====
section
/-! DEFINITION. The commands of the Felric engine (chapter 9). -/

namespace Sys2Proof.Machine

/-- PROG_LOAD (R223): Checks and installs a Felric program version into a slot of all instruction stores. -/
def execProgLoad (c : Cmd) (obj : Nat) (sigOk : Bool) (s : State) : Host.Outcome State Fault Refusal :=
  within (c.ring < 4) (command c 0x0500 false (fun s => progLoad obj sigOk s) s)

/-- PROG_UNLOAD (R223): Removes the program of a slot that no profile copy names. -/
def execProgUnload (c : Cmd) (slot : Nat) (s : State) : Host.Outcome State Fault Refusal :=
  within (c.ring < 4) (command c 0x0501 false (fun s => progUnload slot s) s)

/-- TASK_POST (R220): Raises a POSTED task and completes with its TASK_ID when queued. -/
def execTaskPost (c : Cmd) (prog arg : Nat) (key : List Byte) (s : State) : Host.Outcome State Fault Refusal :=
  within (c.ring < 4) (command c 0x0502 false (fun s => taskPost prog arg key s) s)

/-- TASK_CANCEL (R219): Cancels a queued POSTED task before dispatch. -/
def execTaskCancel (c : Cmd) (n : Nat) (s : State) : Host.Outcome State Fault Refusal :=
  within (c.ring < 4) (command c 0x0503 false (fun s => taskCancel n s) s)

/-- BANK_OWN_SET (R233): Moves ownership of a shared bank by authenticated command. -/
def execBankOwnSet (c : Cmd) (b owner : Nat) (s : State) : Host.Outcome State Fault Refusal :=
  within (c.ring < 4) (command c 0x0504 false (fun s => bankOwnSet b owner s) s)

/-- BANK_READ (R234): Reads 64 bytes of a shared bank without ownership. -/
def execBankRead (c : Cmd) (b off : Nat) (s : State) : Host.Outcome State Fault Refusal :=
  within (c.ring < 4) (command c 0x0505 false (fun s => bankRead c b off s) s)

end Sys2Proof.Machine
end

