-- ==== Sys2Proof/Machine/FelricRows.lean ====
section
/-! DEFINITION. The instructions of a Felric core (Table 9.7): core n executes its next word, where that word is the instruction. -/

namespace Sys2Proof.Machine

/-- ADD (R229): Felric instruction: D = A + B. -/
def execFAdd (n d a b : Nat) (s : State) : Host.Outcome State Fault Refusal :=
  within (n < 64) (felricStep n false (.regs 0x01 d a b) s)

/-- SUB (R229): Felric instruction: D = A − B. -/
def execFSub (n d a b : Nat) (s : State) : Host.Outcome State Fault Refusal :=
  within (n < 64) (felricStep n false (.regs 0x02 d a b) s)

/-- AND (R229): Felric instruction: D = A and B. -/
def execFAnd (n d a b : Nat) (s : State) : Host.Outcome State Fault Refusal :=
  within (n < 64) (felricStep n false (.regs 0x03 d a b) s)

/-- OR (R229): Felric instruction: D = A or B. -/
def execFOr (n d a b : Nat) (s : State) : Host.Outcome State Fault Refusal :=
  within (n < 64) (felricStep n false (.regs 0x04 d a b) s)

/-- XOR (R229): Felric instruction: D = A xor B. -/
def execFXor (n d a b : Nat) (s : State) : Host.Outcome State Fault Refusal :=
  within (n < 64) (felricStep n false (.regs 0x05 d a b) s)

/-- SHL (R229): Felric instruction: shift left by B[5:0]. -/
def execFShl (n d a b : Nat) (s : State) : Host.Outcome State Fault Refusal :=
  within (n < 64) (felricStep n false (.regs 0x06 d a b) s)

/-- SHR (R229): Felric instruction: logical shift right by B[5:0]. -/
def execFShr (n d a b : Nat) (s : State) : Host.Outcome State Fault Refusal :=
  within (n < 64) (felricStep n false (.regs 0x07 d a b) s)

/-- SAR (R229): Felric instruction: arithmetic shift right by B[5:0]. -/
def execFSar (n d a b : Nat) (s : State) : Host.Outcome State Fault Refusal :=
  within (n < 64) (felricStep n false (.regs 0x08 d a b) s)

/-- ROTL (R229): Felric instruction: rotate left by B[5:0]. -/
def execFRotl (n d a b : Nat) (s : State) : Host.Outcome State Fault Refusal :=
  within (n < 64) (felricStep n false (.regs 0x09 d a b) s)

/-- MUL (R229): Felric instruction: low 64 bits of A × B. -/
def execFMul (n d a b : Nat) (s : State) : Host.Outcome State Fault Refusal :=
  within (n < 64) (felricStep n false (.regs 0x0A d a b) s)

/-- MINU (R229): Felric instruction: unsigned minimum. -/
def execFMinu (n d a b : Nat) (s : State) : Host.Outcome State Fault Refusal :=
  within (n < 64) (felricStep n false (.regs 0x0B d a b) s)

/-- MAXU (R229): Felric instruction: unsigned maximum. -/
def execFMaxu (n d a b : Nat) (s : State) : Host.Outcome State Fault Refusal :=
  within (n < 64) (felricStep n false (.regs 0x0C d a b) s)

/-- SLTU (R229): Felric instruction: unsigned set-less-than. -/
def execFSltu (n d a b : Nat) (s : State) : Host.Outcome State Fault Refusal :=
  within (n < 64) (felricStep n false (.regs 0x0D d a b) s)

/-- SLT (R229): Felric instruction: signed set-less-than. -/
def execFSlt (n d a b : Nat) (s : State) : Host.Outcome State Fault Refusal :=
  within (n < 64) (felricStep n false (.regs 0x0E d a b) s)

/-- CRCW (R229): Felric instruction: CRC-32C of 8 bytes with a seed. -/
def execFCrcw (n d a b : Nat) (s : State) : Host.Outcome State Fault Refusal :=
  within (n < 64) (felricStep n false (.regs 0x1B d a b) s)

/-- ADDI (R229): Felric instruction: add a sign-extended immediate. -/
def execFAddi (n d a imm : Nat) (s : State) : Host.Outcome State Fault Refusal :=
  within (n < 64) (felricStep n false (.imm 0x10 d a imm) s)

/-- ANDI (R229): Felric instruction: and with a zero-extended immediate. -/
def execFAndi (n d a imm : Nat) (s : State) : Host.Outcome State Fault Refusal :=
  within (n < 64) (felricStep n false (.imm 0x11 d a imm) s)

/-- ORI (R229): Felric instruction: or with a zero-extended immediate. -/
def execFOri (n d a imm : Nat) (s : State) : Host.Outcome State Fault Refusal :=
  within (n < 64) (felricStep n false (.imm 0x12 d a imm) s)

/-- XORI (R229): Felric instruction: xor with a zero-extended immediate. -/
def execFXori (n d a imm : Nat) (s : State) : Host.Outcome State Fault Refusal :=
  within (n < 64) (felricStep n false (.imm 0x13 d a imm) s)

/-- SHLI (R229): Felric instruction: shift left by IMM[5:0]. -/
def execFShli (n d a imm : Nat) (s : State) : Host.Outcome State Fault Refusal :=
  within (n < 64) (felricStep n false (.imm 0x14 d a imm) s)

/-- SHRI (R229): Felric instruction: logical shift right by IMM[5:0]. -/
def execFShri (n d a imm : Nat) (s : State) : Host.Outcome State Fault Refusal :=
  within (n < 64) (felricStep n false (.imm 0x15 d a imm) s)

/-- SARI (R229): Felric instruction: arithmetic shift right by IMM[5:0]. -/
def execFSari (n d a imm : Nat) (s : State) : Host.Outcome State Fault Refusal :=
  within (n < 64) (felricStep n false (.imm 0x16 d a imm) s)

/-- ROTLI (R229): Felric instruction: rotate left by IMM[5:0]. -/
def execFRotli (n d a imm : Nat) (s : State) : Host.Outcome State Fault Refusal :=
  within (n < 64) (felricStep n false (.imm 0x17 d a imm) s)

/-- ORH (R229): Felric instruction: D = (A << 16) or IMM[15:0]. -/
def execFOrh (n d a imm : Nat) (s : State) : Host.Outcome State Fault Refusal :=
  within (n < 64) (felricStep n false (.imm 0x19 d a imm) s)

/-- ROTB (R230): Felric instruction: rotate or reverse byte lanes. -/
def execFRotb (n d a imm : Nat) (s : State) : Host.Outcome State Fault Refusal :=
  within (n < 64) (felricStep n false (.imm 0x1A d a imm) s)

/-- LI (R229): Felric instruction: load a sign-extended immediate. -/
def execFLi (n d imm : Nat) (s : State) : Host.Outcome State Fault Refusal :=
  within (n < 64) (felricStep n false (.imm 0x18 d 0 imm) s)

/-- LD (R226): Felric instruction: load from REC, EVT, SCR or BANK space. -/
def execFLd (n d a space size off : Nat) (s : State) : Host.Outcome State Fault Refusal :=
  within (n < 64) (felricStep n false (.mem false d a space size off) s)

/-- ST (R227): Felric instruction: store into the task's view, scratchpad or owned bank. -/
def execFSt (n d a space size off : Nat) (s : State) : Host.Outcome State Fault Refusal :=
  within (n < 64) (felricStep n false (.mem true d a space size off) s)

/-- BR (R229): Felric instruction: forward branch on a condition. -/
def execFBr (n a b cond dist : Nat) (s : State) : Host.Outcome State Fault Refusal :=
  within (n < 64) (felricStep n false (.br a b cond dist) s)

/-- CSRR (R229): Felric instruction: read a CSR. -/
def execFCsrr (n d a k : Nat) (s : State) : Host.Outcome State Fault Refusal :=
  within (n < 64) (felricStep n false (.ctl 0x30 d a k) s)

/-- CSRW (R233): Felric instruction: write a CSR, handing over bank ownership. -/
def execFCsrw (n d a k : Nat) (s : State) : Host.Outcome State Fault Refusal :=
  within (n < 64) (felricStep n false (.ctl 0x31 d a k) s)

/-- BWAIT (R229): Felric instruction: wait up to 4096 cycles to own a bank. timeout: 4096 cycles have passed without ownership. -/
def execFBwait (n d a k : Nat) (timeout : Bool) (s : State) : Host.Outcome State Fault Refusal :=
  within (n < 64) (felricStep n timeout (.ctl 0x32 d a k) s)

/-- NOTE (R229): Felric instruction: queue a program-notice event for commit. -/
def execFNote (n d a k : Nat) (s : State) : Host.Outcome State Fault Refusal :=
  within (n < 64) (felricStep n false (.ctl 0x34 d a k) s)

/-- TARM (R235): Felric instruction: arm or disarm the record's timer at commit. -/
def execFTarm (n d a k : Nat) (s : State) : Host.Outcome State Fault Refusal :=
  within (n < 64) (felricStep n false (.ctl 0x35 d a k) s)

/-- END (R227): Felric instruction: commit the task's writes, timer, notices and result and end the task. -/
def execFEnd (n result : Nat) (s : State) : Host.Outcome State Fault Refusal :=
  within (n < 64) (felricStep n false (.fin result) s)

end Sys2Proof.Machine
end

