-- ==== Sys2Proof/Machine/FlowCommandRows.lean ====
section
/-! DEFINITION. The commands of flows and stateful actions and the commit tick (chapters 7 and 8). -/

namespace Sys2Proof.Machine

/-- FLOW_READ (R172): Returns the tun record with counts merged at one instant. -/
def execFlowRead (c : Cmd) (key : List Byte) (addr : Nat) (s : State) : Host.Outcome State Fault Refusal :=
  within (c.ring < 4) (command c 0x0400 true (fun s => flowRead c key addr s) s)

/-- FLOW_DELETE (R172): Deletes a flow by key without the idle check. -/
def execFlowDelete (c : Cmd) (key : List Byte) (s : State) : Host.Outcome State Fault Refusal :=
  within (c.ring < 4) (command c 0x0401 false (fun s => flowDelete key s) s)

/-- FLOW_FLUSH (R208): Deletes every flow of a profile by an HKS sweep with export reason 0x04. -/
def execFlowFlush (c : Cmd) (profile : Nat) (s : State) : Host.Outcome State Fault Refusal :=
  within (c.ring < 4) (command c 0x0402 false (fun s => flowFlush profile s) s)

/-- FLOW_REPROFILE (R208): Rewrites PROFILE of every record with the old number in one tun sweep. -/
def execFlowReprofile (c : Cmd) (old new : Nat) (s : State) : Host.Outcome State Fault Refusal :=
  within (c.ring < 4) (command c 0x0403 false (fun s => flowReprofile old new s) s)

/-- FLOW_REKEY (R173): Replaces the flow keys and moves every record to its new buckets by an HKS routine. -/
def execFlowRekey (c : Cmd) (s : State) : Host.Outcome State Fault Refusal :=
  within (c.ring < 4) (command c 0x0404 false (fun s => flowRekey s) s)

/-- PROFILE_WRITE (R176): Writes a flow profile entry into the inactive profile copy. -/
def execProfileWrite (c : Cmd) (obj n : Nat) (s : State) : Host.Outcome State Fault Refusal :=
  within (c.ring < 4) (command c 0x0405 false (fun s => profileWrite obj n s) s)

/-- PROFILE_COMMIT (R175): Makes the inactive profile copy active at a chosen tick and completes when no old-copy task remains. -/
def execProfileCommit (c : Cmd) (s : State) : Host.Outcome State Fault Refusal :=
  within (c.ring < 4) (command c 0x0406 false (fun s => commitLater 0 0 s) s)

/-- OT_MAP_WRITE (R207): Writes an OT verdict map into the inactive copy. -/
def execOtMapWrite (c : Cmd) (obj m : Nat) (s : State) : Host.Outcome State Fault Refusal :=
  within (c.ring < 4) (command c 0x0407 false (fun s => otMapWrite obj m s) s)

/-- NAT_POOL_WRITE (R189): Writes a NAT pool entry. -/
def execNatPoolWrite (c : Cmd) (obj n : Nat) (s : State) : Host.Outcome State Fault Refusal :=
  within (c.ring < 4) (command c 0x0408 false (fun s => natPoolWrite obj n s) s)

/-- NAT_POOL_READ (R189): Returns a NAT pool entry and its number of bindings. -/
def execNatPoolRead (c : Cmd) (n addr : Nat) (s : State) : Host.Outcome State Fault Refusal :=
  within (c.ring < 4) (command c 0x0409 true (fun s => natPoolRead c n addr s) s)

/-- LB_SERVICE_WRITE (R196): Writes a load-balancing service into the inactive copy. -/
def execLbServiceWrite (c : Cmd) (n seed size : Nat) (s : State) : Host.Outcome State Fault Refusal :=
  within (c.ring < 4) (command c 0x040A false (fun s => lbServiceWrite n seed size s) s)

/-- LB_INDIR_WRITE (R198): Writes the inactive indirection table of a load-balancing service. -/
def execLbIndirWrite (c : Cmd) (obj n first : Nat) (s : State) : Host.Outcome State Fault Refusal :=
  within (c.ring < 4) (command c 0x040B false (fun s => lbIndirWrite obj n first s) s)

/-- LB_INDIR_COMMIT (R198): Makes a service's inactive indirection table active at one tick. -/
def execLbIndirCommit (c : Cmd) (n : Nat) (s : State) : Host.Outcome State Fault Refusal :=
  within (c.ring < 4) (command c 0x040C false (fun s => lbIndirCommit n s) s)

/-- LB_MEMBER_WRITE (R196): Changes a load-balancing member entry at once and as a whole. -/
def execLbMemberWrite (c : Cmd) (obj n : Nat) (s : State) : Host.Outcome State Fault Refusal :=
  within (c.ring < 4) (command c 0x040D false (fun s => lbMemberWrite obj n s) s)

/-- LB_MEMBER_READ (R196): Returns a member entry and the number of records holding it. -/
def execLbMemberRead (c : Cmd) (n addr : Nat) (s : State) : Host.Outcome State Fault Refusal :=
  within (c.ring < 4) (command c 0x040E true (fun s => lbMemberRead c n addr s) s)

/-- COMMIT_TICK (R89): A device-chosen commit tick flips an epoch or makes a shadow copy active. -/
def execCommitTick (ring : Nat) (s : State) : Host.Outcome State Fault Refusal :=
  within (ring < 4) (commitTick ring s)

end Sys2Proof.Machine
end

