-- ==== Sys2Proof/Machine/FlowRows.lean ====
section
/-! DEFINITION. The flow engine and the scheduling of Felric tasks (chapters 7 to 9). -/

namespace Sys2Proof.Machine

/-- FLOW_LOOKUP (R155): The flow update unit looks a released descriptor up in pending table and gill. -/
def execFlowLookup (s : State) : Host.Outcome State Fault Refusal :=
  ok (flowLookupNext s)

/-- PENDING_FETCH_COMPLETE (R156): A firkin or tun fetch completes and the pending entry's descriptors are drained against the record. -/
def execPendingFetchComplete (idx : Nat) (s : State) : Host.Outcome State Fault Refusal :=
  ok (fetchComplete idx s)

/-- MISS_TIMEOUT (R157): A pending entry's timer reaches TIMEOUT_US and its waiting descriptors are refused. -/
def execMissTimeout (idx : Nat) (s : State) : Host.Outcome State Fault Refusal :=
  ok (missTimeout idx s)

/-- TUN_INSERTION (R161): The tun insertion engine places a new record under cuckoo moves and writes SLOT. -/
def execTunInsertion (s : State) : Host.Outcome State Fault Refusal :=
  ok (tunInsertion s)

/-- WRITE_THROUGH_LAND (R167): A write-through reaches tun and clears HELD unless a STRICT acknowledgement is outstanding. -/
def execWriteThroughLand (s : State) : Host.Outcome State Fault Refusal :=
  ok (writeThroughLand s)

/-- WRITE_BACK (R168): A dirty record is written back by its period, moving DELTA to firkin and tun. -/
def execWriteBack (s : State) : Host.Outcome State Fault Refusal :=
  ok (writeBackNext s)

/-- DEMOTION (R165): An idle gill or firkin copy is evicted down one tier. -/
def execDemotion (key : List Byte) (s : State) : Host.Outcome State Fault Refusal :=
  ok (demote key s)

/-- TUN_SWEEP (R170): HKS sweeps the tun region every SWEEP_S, finding due records and active exports. -/
def execTunSweep (s : State) : Host.Outcome State Fault Refusal :=
  ok (tunSweep s)

/-- IDLE_DELETION (R171): A due record is re-checked, raises an idle event and, if not kept, is deleted. -/
def execIdleDeletion (key : List Byte) (s : State) : Host.Outcome State Fault Refusal :=
  ok (idleDeletion key s)

/-- STRICT_ACK (R195): The partner acknowledges a STRICT creation or CHOICE change and the held frames are released. -/
def execStrictAck (idx : Nat) (s : State) : Host.Outcome State Fault Refusal :=
  ok (strictAck idx s)

/-- TELEMETRY_EXPORT (R204): An IPFIX data record is queued for a record at deletion, flush or active timeout. -/
def execTelemetryExport (key : List Byte) (reason : Nat) (s : State) : Host.Outcome State Fault Refusal :=
  ok (telemetryExport key reason s)

/-- EXPORT_MESSAGE (R206): An export message is closed at MSG_MAX or BATCH_US and sent to the ring or port. -/
def execExportMessage (s : State) : Host.Outcome State Fault Refusal :=
  ok (exportRoomCame (exportMessage s))

/-- TEMPLATE_RESEND (R206): Template sets are sent at enable, every TEMPLATE_S and after a destination change. -/
def execTemplateResend (s : State) : Host.Outcome State Fault Refusal :=
  ok (sendTemplates s)

/-- TELEMETRY_EPOCH (R401): Telemetry sealing starts a new epoch and sends its epoch record. -/
def execTelemetryEpoch (s : State) : Host.Outcome State Fault Refusal :=
  ok (telemetryEpoch s)

/-- NAT_PORT_REUSE (R191): A deleted binding's port is freed after REUSE_S. -/
def execNatPortReuse (idx : Nat) (s : State) : Host.Outcome State Fault Refusal :=
  ok (freeHeldPort idx s)

/-- TASK_DISPATCH (R216): A free core takes the highest eligible task and its record view. -/
def execTaskDispatch (n : Nat) (s : State) : Host.Outcome State Fault Refusal :=
  within (n < 64) (dispatchTask n s)

/-- TASK_SPILL_REFILL (R217): The on-die ready list is refilled in order from the HBM spill sub-ring. -/
def execTaskSpillRefill (c l : Nat) (s : State) : Host.Outcome State Fault Refusal :=
  within (c < 4 && l < 8) (refillSpill c l s)

/-- TASK_QUEUE_SPACE (R218): A task owed to a pending entry is queued when sub-ring space appears. -/
def execTaskQueueSpace (idx : Nat) (s : State) : Host.Outcome State Fault Refusal :=
  ok (queueOwed idx s)

/-- TASK_TIME_FAULT (R231): A task runs MAX_CYCLES without END and ends with fault TIME. -/
def execTaskTimeFault (n : Nat) (s : State) : Host.Outcome State Fault Refusal :=
  within (n < 64) (taskTimeFault n s)

/-- TASK_FAULT (R231): A task ends by fault and commits nothing; its held frames follow FAULT_ACT. The fault of this event is ECC (code 4);
the others come about inside the instructions. -/
def execTaskFault (n : Nat) (s : State) : Host.Outcome State Fault Refusal :=
  within (n < 64) (taskFault n 4 s)

/-- TIMER_FIRE (R235): The timer wheel reaches a record's TIMER deadline and raises a TIMER task. -/
def execTimerFire (idx : Nat) (s : State) : Host.Outcome State Fault Refusal :=
  ok (timerFire idx s)

/-- CLUSTER_LOSS (R236): A fenced or reset cluster's map entries, descriptors and running tasks move to the survivors. -/
def execClusterLoss (c : Nat) (s : State) : Host.Outcome State Fault Refusal :=
  within (c < 4) (loseCluster c s)

/-- PROGRAM_VERSION_DRAIN (R223): The old program version is freed once no running task uses it and PROG_LOAD completes. -/
def execProgramVersionDrain (s : State) : Host.Outcome State Fault Refusal :=
  ok (programSettle s)

/-- PROFILE_DRAIN_COMPLETE (R175): No task carries the old profile copy bit and PROFILE_COMMIT completes. -/
def execProfileDrainComplete (s : State) : Host.Outcome State Fault Refusal :=
  ok (profileSettle s)

end Sys2Proof.Machine
end

