-- ==== Sys2Proof/Machine/ForwardingRows.lean ====
section
/-! DEFINITION. The commands of the forwarding tables (chapter 6). -/

namespace Sys2Proof.Machine

/-- L2_ADD (R139): Plans and places a STATIC learned address entry in every unfenced quarter, or in none. -/
def execL2Add (c : Cmd) (fid mac port : Nat) (s : State) : Host.Outcome State Fault Refusal :=
  within (c.ring < 4) (command c 0x0300 false (fun s => l2Add fid mac port s) s)

/-- L2_DEL (R522): Deletes a learned address entry in every unfenced quarter. -/
def execL2Del (c : Cmd) (fid mac : Nat) (s : State) : Host.Outcome State Fault Refusal :=
  within (c.ring < 4) (command c 0x0301 false (fun s => l2Del fid mac s) s)

/-- L2_FLUSH (R139): Removes learned address entries matching the given FID and port. -/
def execL2Flush (c : Cmd) (fid port : Option Nat) (static : Bool) (s : State) : Host.Outcome State Fault Refusal :=
  within (c.ring < 4) (command c 0x0302 false (fun s => l2Flush fid port static s) s)

/-- L2_READ (R522): Returns a learned address entry or zeros. -/
def execL2Read (c : Cmd) (q fid mac addr : Nat) (s : State) : Host.Outcome State Fault Refusal :=
  within (c.ring < 4) (command c 0x0303 true (fun s => l2Read c q fid mac addr s) s)

/-- EM_ADD (R522): Inserts an exact-match entry in every unfenced quarter, or in none. -/
def execEmAdd (c : Cmd) (kind r v nh : Nat) (s : State) : Host.Outcome State Fault Refusal :=
  within (c.ring < 4) (command c 0x0304 false (fun s => emAdd kind r v nh s) s)

/-- EM_DEL (R522): Deletes an exact-match entry. -/
def execEmDel (c : Cmd) (kind r v : Nat) (s : State) : Host.Outcome State Fault Refusal :=
  within (c.ring < 4) (command c 0x0305 false (fun s => emDel kind r v s) s)

/-- ROUTE_ADD (R132): Writes markers and then a new prefix into the prefix table of a route instance. -/
def execRouteAdd (c : Cmd) (r : Nat) (six : Bool) (len v nh : Nat) (s : State) : Host.Outcome State Fault Refusal :=
  within (c.ring < 4) (command c 0x0306 false (fun s => routeAdd r six len v nh s) s)

/-- ROUTE_DEL (R132): Removes a prefix and then the markers that served it. -/
def execRouteDel (c : Cmd) (r : Nat) (six : Bool) (len v : Nat) (s : State) : Host.Outcome State Fault Refusal :=
  within (c.ring < 4) (command c 0x0307 false (fun s => routeDel r six len v s) s)

/-- RT_WRITE (R130): Sets a route instance's length filters and no-route action. -/
def execRtWrite (c : Cmd) (r f4 f6 : Nat) (toHost : Bool) (s : State) : Host.Outcome State Fault Refusal :=
  within (c.ring < 4) (command c 0x0308 false (fun s => rtWrite r f4 f6 toHost s) s)

/-- RT_FREE (R133): Deletes the prefixes and markers of a route instance no VRF map copy names. -/
def execRtFree (c : Cmd) (r : Nat) (s : State) : Host.Outcome State Fault Refusal :=
  within (c.ring < 4) (command c 0x0309 false (fun s => rtFree r s) s)

/-- VRF_MAP_WRITE (R130): Writes the inactive-epoch copy of the VRF map. -/
def execVrfMapWrite (c : Cmd) (v r : Nat) (s : State) : Host.Outcome State Fault Refusal :=
  within (c.ring < 4) (command c 0x030A false (fun s => vrfMapWrite v r s) s)

/-- VLAN_WRITE (R130): Writes one VLAN table entry whole. -/
def execVlanWrite (c : Cmd) (vid fid vrf rmac : Nat) (routing : Bool) (flood : Nat) (s : State) : Host.Outcome State Fault Refusal :=
  within (c.ring < 4) (command c 0x030B false (fun s => vlanWrite vid fid vrf rmac routing flood s) s)

/-- NH_WRITE (R135): Writes one next-hop entry. -/
def execNhWrite (c : Cmd) (idx e : Nat) (s : State) : Host.Outcome State Fault Refusal :=
  within (c.ring < 4) (command c 0x030C false (fun s => nhWrite idx e s) s)

/-- TABLE_REHASH (R129): Replaces the seeds of an ordinary table by an HKS routine that moves every misplaced entry. -/
def execTableRehash (c : Cmd) (t mask : Nat) (s : State) : Host.Outcome State Fault Refusal :=
  within (c.ring < 4) (command c 0x030D false (fun s => tableRehash t mask s) s)

/-- MCAST_WRITE (R245): Writes a multicast group entry whole. -/
def execMcastWrite (c : Cmd) (obj g : Nat) (s : State) : Host.Outcome State Fault Refusal :=
  within (c.ring < 4) (command c 0x030E false (fun s => mcastWrite obj g s) s)

/-- RMAC_WRITE (R520): Writes one router address entry in all five quarters. -/
def execRmacWrite (c : Cmd) (idx mac : Nat) (valid : Bool) (s : State) : Host.Outcome State Fault Refusal :=
  within (c.ring < 4) (command c 0x030F false (fun s => rmacWrite idx mac valid s) s)

end Sys2Proof.Machine
end

