-- ==== Sys2Proof/Machine/HksRows.lean ====
section
/-! DEFINITION. The HKS engine (chapter 19). -/

namespace Sys2Proof.Machine

/-- HKS_PATCH_LOAD (R481): Checks an HKS microcode patch and applies it between two fetches. check: the SECDED code of every word fits. -/
def execHksPatchLoad (c : Cmd) (obj : Nat) (sigOk check : Bool) (s : State) : Host.Outcome State Fault Refusal :=
  within (c.ring < 4) (command c 0x0C00 false (fun s => patchLoad obj sigOk check s) s)

/-- HKS_STATUS (R477): Returns HKS_STAT, HKS_RUN and the trap frames. -/
def execHksStatus (c : Cmd) (addr : Nat) (s : State) : Host.Outcome State Fault Refusal :=
  within (c.ring < 4) (command c 0x0C01 true (fun s => hksStatus c addr s) s)

/-- HKS_MICROWORD (R473): HKS executes one microword with its sequencing, ALU and memory operations. w: the word that the ROM holds at the
address of the running routine; err: 0 none, 1 a single-bit, 2 a double-bit error of the fetch. -/
def execHksMicroword (w err : Nat) (s : State) : Host.Outcome State Fault Refusal :=
  within (err < 3) (microword w err s)

/-- HKS_MEM_RESPONSE (R473): A read response arrives in the RW registers of an HKS routine. k: 0 the running routine, then the trapped and
the waiting ones; idx: its outstanding read. -/
def execHksMemResponse (k idx : Nat) (bytes : List Byte) (inProgress : Bool) (inserted : Option Bool) (s : State) : Host.Outcome State Fault Refusal :=
  ok (memResponse k idx bytes inProgress inserted s)

/-- MICRO_TRAP (R476): A higher-level request preempts a routine at its next trap point and saves a trap frame. -/
def execMicroTrap (s : State) : Host.Outcome State Fault Refusal :=
  ok (microTrap s)

/-- TRAP_FRAME_RESTORE (R476): A routine ends and the most recent trap frame is restored. -/
def execTrapFrameRestore (s : State) : Host.Outcome State Fault Refusal :=
  ok (restoreFrame s)

/-- HKS_ROUTINE_REQUEST (R474): A routine request arrives at HKS and waits by level. -/
def execHksRoutineRequest (r : Nat) (cancel : Bool) (s : State) : Host.Outcome State Fault Refusal :=
  within ((routineLevel r).isSome) (routineRequest r cancel s)

/-- HKS_ROUND_ROBIN_YIELD (R474): A level-0 routine gives way after 10 µs of running. -/
def execHksRoundRobinYield (s : State) : Host.Outcome State Fault Refusal :=
  ok (roundRobin s)

/-- HKS_ABANDON (R478): A routine is abandoned, its marks resolved and its command completed with FAILED. -/
def execHksAbandon (s : State) : Host.Outcome State Fault Refusal :=
  ok (abandonRoutine s)

/-- HKS_ROUTINE_LATE (R478): A routine runs 1 s beyond its duration and is abandoned. -/
def execHksRoutineLate (s : State) : Host.Outcome State Fault Refusal :=
  ok (routineLate s)

end Sys2Proof.Machine
end

