-- ==== Sys2Proof/Machine/HostRows.lean ====
section
/-! DEFINITION. The ring engine of the host interface (R404 to R426). -/

namespace Sys2Proof.Machine

/-- CMD_FETCH (R414): A CMD entry is verified by Ascor, journaled and passed by CI, which accepts it. entry: its 64 bytes. -/
def execCmdFetch (r : Nat) (entry : List Byte) (found : EntryChecks) (s : State) : Host.Outcome State Fault Refusal :=
  within (r < 4) (cmdFetch r entry found.tagOk found.sigOk found.certOk s)

/-- PARTNER_JOURNAL_ACK (R20): The partner acknowledges a journal copy, letting the consumer index advance. -/
def execPartnerJournalAck (r idx : Nat) (s : State) : Host.Outcome State Fault Refusal :=
  within (r < 24) (partnerAcks r idx s)

/-- COMMAND_EXECUTE (R415): A command starts executing once earlier commands of its ring and family have completed. -/
def execCommandExecute (ring : Nat) (s : State) : Host.Outcome State Fault Refusal :=
  within (ring < 4) (startCommand ring s)

/-- COMMAND_COMMIT (R415): A command changes state, queues its completion and marks its journal entry done. status, detail, result: what its
completion reports. -/
def execCommandCommit (ring cseq status detail result : Nat) (s : State) : Host.Outcome State Fault Refusal :=
  within (ring < 4) (commitCommand ring cseq (status, detail, result) s)

/-- COMPLETION_WRITE (R416): A completion is written at the next CPL position once space exists. -/
def execCompletionWrite (ring : Nat) (s : State) : Host.Outcome State Fault Refusal :=
  within (ring < 4) (writeCompletion ring s)

/-- CI_WRITE_BACK (R410): The device writes a host-written ring's new CI to HST_RING_AUX. -/
def execCiWriteBack (r : Nat) (s : State) : Host.Outcome State Fault Refusal :=
  within (r < 24) (ciWriteBack r s)

/-- PKT_TX_FETCH (R418): A PKT_TX descriptor is checked, journaled and its frame read for injection. d: the 64 bytes of the descriptor;
frame: the bytes at BUF. -/
def execPktTxFetch (r : Nat) (d frame : List Byte) (s : State) : Host.Outcome State Fault Refusal :=
  within (8 ≤ r && r < 24) (txFetch r d frame s)

/-- PKT_TX_DIRECT_LINK (R419): A DIRECT frame is linked into its queue and CI advances past it once admission allows. -/
def execPktTxDirectLink (r : Nat) (s : State) : Host.Outcome State Fault Refusal :=
  within (8 ≤ r && r < 24) (txLink r s)

/-- PKT_TX_PIPELINE_HANDOVER (R419): A PIPELINE frame is handed to its quarter as an arrival on its port at the CI advance. -/
def execPktTxPipelineHandover (r : Nat) (s : State) : Host.Outcome State Fault Refusal :=
  within (8 ≤ r && r < 24) (txHand r s)

/-- TXC_WRITE (R419): A TXC entry is written in PKT_TX order with its status. r: the PKT_TX ring. -/
def execTxcWrite (r : Nat) (s : State) : Host.Outcome State Fault Refusal :=
  within (8 ≤ r && r < 24) (writeTxc r s)

/-- PKT_RX_WRITE (R421): A frame for the host is written to PKT_RX slots and delivered at its EOP entry. -/
def execPktRxWrite (k : Nat) (s : State) : Host.Outcome State Fault Refusal :=
  within (k < 16) (writeRx k s)

/-- EXC_WRITE (R24): Returned work is written to the EXC ring with its reason code. -/
def execExcWrite (s : State) : Host.Outcome State Fault Refusal :=
  ok (writeExc s)

/-- TLM_WRITE (R421): An IPFIX message or sealed envelope is written to the TLM ring. -/
def execTlmWrite (s : State) : Host.Outcome State Fault Refusal :=
  ok (writeTlm s)

/-- EVENT_POST (R423): An event is written to the EVT ring, or waits in the FIFO, or is dropped. -/
def execEventPost (s : State) : Host.Outcome State Fault Refusal :=
  ok (writeEvent s)

/-- MSI_X_MESSAGE (R424): An armed ring sends its vector when MOD_COUNT entries are reached. -/
def execMsiXMessage (r : Nat) (s : State) : Host.Outcome State Fault Refusal :=
  within (r < 59) (countSignals r s)

/-- MOD_US_EXPIRY (R424): The moderation time of an armed ring passes and its vector is sent. -/
def execModUsExpiry (r : Nat) (s : State) : Host.Outcome State Fault Refusal :=
  within (r < 59) (timeSignals r s)

/-- FUNCTION_LEVEL_RESET (R406): An FLR, hot reset or PCIe link loss resets only the host interface. -/
def execFunctionLevelReset (linkLost : Bool) (s : State) : Host.Outcome State Fault Refusal :=
  ok (flrReset linkLost s)

/-- PCIE_LINK_TRAINING (R404): The PCIe link trains to a speed and width. -/
def execPcieLinkTraining (speed width : Nat) (s : State) : Host.Outcome State Fault Refusal :=
  ok (pcieTrains speed width s)

/-- PKT_TX_LOST_REPORT (R420): After a pin, SMBus or fatal reset, undone PKT_TX entries are removed and reported. -/
def execPktTxLostReport (s : State) : Host.Outcome State Fault Refusal :=
  ok (txLostReport s)

/-- DRAIN_LIMIT_EXPIRY (R31): The drain limit of a commanded device reset passes; the remaining frames are returned with code 0x03 and the
reset proceeds. -/
def execDrainLimitExpiry (s : State) : Host.Outcome State Fault Refusal :=
  ok (drainLimit s)

/-- SESSION_IDLE_EXPIRY (R387): A session passes SESSION_IDLE_MIN minutes without a sealed command and ends. -/
def execSessionIdleExpiry (n : Nat) (s : State) : Host.Outcome State Fault Refusal :=
  within (n < 4) (sessionIdle n s)

/-- MSI_X_VECTOR_UNMASK (R424): The host unmasks an MSI-X vector whose pending bit is set, and the device sends the held message. -/
def execMsiXVectorUnmask (v : Nat) (s : State) : Host.Outcome State Fault Refusal :=
  within (v < 64) (unmaskVector v s)

end Sys2Proof.Machine
end

