-- ==== Sys2Proof/Machine/IngressRows.lean ====
section
/-! DEFINITION. Arrival of frames and the quarters (chapters 3 to 6 and 10). -/

namespace Sys2Proof.Machine

/-- FRAME_ARRIVAL (R241): A bulk frame starts to arrive; its cells are charged and admitted or refused. bytes: those received so far as on
the line, without FCS; ended: they are all of the frame; good: its FCS fits. -/
def execFrameArrival (p : Nat) (bytes : List Byte) (ended good : Bool) (s : State) : Host.Outcome State Fault Refusal :=
  within (p < 96) (frameArrival p bytes ended good s)

/-- PFC_REFRESH (R257): The REFRESH_US period passes and the XOFF PFC frame is repeated. -/
def execPfcRefresh (p idx : Nat) (s : State) : Host.Outcome State Fault Refusal :=
  within (p < 96 && idx < 8) (pfcRefresh p idx s)

/-- FRAME_END_ARRIVAL (R23): The last byte of a frame arrives; a bad frame is refused or stomped at every egress. -/
def execFrameEndArrival (express : Bool) (f : Nat) (rest : List Byte) (good : Bool) (s : State) : Host.Outcome State Fault Refusal :=
  ok (frameEndArrival express f rest good s)

/-- HEADER_DESCRIPTOR_DISPATCH (R516): Once the parse window is present the header descriptor leaves for its quarter or wake FIFO. -/
def execHeaderDescriptorDispatch (f : Nat) (s : State) : Host.Outcome State Fault Refusal :=
  ok (dispatchFrame f s)

/-- QUARTER_PASS (R66): A quarter parses a descriptor, searches its TCAM groups and makes the forwarding decision. -/
def execQuarterPass (q : Nat) (s : State) : Host.Outcome State Fault Refusal :=
  within (q < 5) (quarterPass q s)

/-- RECIRCULATION (R86): A recirculated descriptor is taken from the recirculation queue for its second pass. -/
def execRecirculation (q : Nat) (s : State) : Host.Outcome State Fault Refusal :=
  within (q < 5) (recirculationPass q s)

/-- PATTERN_INSPECTION (R117): An automaton engine inspects a frame's payload bytes and gives a verdict. ue: the image store read was
uncorrectable. -/
def execPatternInspection (q : Nat) (ue : Bool) (s : State) : Host.Outcome State Fault Refusal :=
  within (q < 5) (inspectPattern q ue s)

/-- DESCRIPTOR_RELEASE (R87): The release stage releases a descriptor once every earlier descriptor of its port and lane has left. -/
def execDescriptorRelease (q : Nat) (s : State) : Host.Outcome State Fault Refusal :=
  within (q < 5) (descriptorRelease q s)

/-- LEARN_NOTICE (R140): A learn notice on the ring is applied at a quarter. -/
def execLearnNotice (q : Nat) (s : State) : Host.Outcome State Fault Refusal :=
  within (q < 5) (learnNotice q s)

/-- L2_AGE (R143): HKS sweeps a quarter's learned address table, clearing HIT, refreshing or removing entries. -/
def execL2Age (q : Nat) (s : State) : Host.Outcome State Fault Refusal :=
  within (q < 5) (ageSweep q s)

end Sys2Proof.Machine
end

