-- ==== Sys2Proof/Machine/MemoryRows.lean ====
section
/-! DEFINITION. The memory controllers (chapter 13). -/

namespace Sys2Proof.Machine

/-- HBM_ECC_ERROR (R319): An HBM read finds an error, corrected or rebuilt from parity. -/
def execHbmEccError (st pc : Nat) (ue : Bool) (s : State) : Host.Outcome State Fault Refusal :=
  within (st < 2 && pc < 32) (hbmError st pc ue s)

/-- PC_FAILED (R319): An HBM pseudo-channel is declared failed. -/
def execPcFailed (st pc : Nat) (s : State) : Host.Outcome State Fault Refusal :=
  within (st < 2 && pc < 32) (pcFails st pc s)

/-- DDR_ECC_ERROR (R330): A DDR5 read finds a correctable or uncorrectable error, possibly marking a device. -/
def execDdrEccError (k : Nat) (ue : Bool) (dev sc bg ba rank row col : Nat) (s : State) : Host.Outcome State Fault Refusal :=
  within (k < 8) (ddrError k ue dev ⟨sc, bg, ba, rank, row, col⟩ s)

/-- PATROL_SCRUB (R332): The patrol scrub reads and corrects DDR5 or HBM bursts. m: 0 to 7 the channels, 8 and 9 the stacks; n: bursts
corrected; last: the end of a scrub period. -/
def execPatrolScrub (m n : Nat) (last : Bool) (s : State) : Host.Outcome State Fault Refusal :=
  within (m < 10) (patrolScrub m n last s)

/-- REFRESH (R328): A same-bank refresh falls due each tREFI. -/
def execRefresh (k bank : Nat) (overdue : Bool) (s : State) : Host.Outcome State Fault Refusal :=
  within (k < 8) (refreshDue k bank overdue s)

/-- DIMM_TEMP_READ (R328): Every 1 ms the DIMM thermal sensors are read and tREFI chosen. -/
def execDimmTempRead (k t : Nat) (s : State) : Host.Outcome State Fault Refusal :=
  within (k < 8) (dimmTemp k t s)

/-- MEMORY_REQUEST_ISSUE (R327): A channel or pseudo-channel issues its next column command by urgency. m: a channel, or 8 plus a
pseudo-channel. -/
def execMemoryRequestIssue (m : Nat) (waiting : List MemReq) (s : State) : Host.Outcome State Fault Refusal :=
  within (m < 72) (issueRequest m waiting s)

/-- ZQ_CALIBRATION (R334): Every ZQ_MS a rank runs ZQ calibration. -/
def execZqCalibration (k rank : Nat) (begins : Bool) (s : State) : Host.Outcome State Fault Refusal :=
  within (k < 8) (chanStep k rank begins s)

/-- OSCILLATOR_READING (R334): Every OSC_MS a rank's DQS oscillator is read and delays moved. eye: the smallest eye margin in ps at its end.
-/
def execOscillatorReading (k rank : Nat) (begins : Bool) (eye : Nat) (s : State) : Host.Outcome State Fault Refusal :=
  within (k < 8) (oscillatorStep k rank begins eye s)

/-- TRAINING_PASS_COMPLETE (R333): A training pass on a channel completes or fails. -/
def execTrainingPassComplete (k : Nat) (passed : Bool) (eye : Nat) (s : State) : Host.Outcome State Fault Refusal :=
  within (k < 8) (trainingPass k passed eye s)

/-- RESILVER (R324): HKS copies a reintegrated channel's pair contents and rejoins it. -/
def execResilver (k : Nat) (s : State) : Host.Outcome State Fault Refusal :=
  within (k < 8) (resilvered k s)

/-- CHANNEL_FENCED (R324): A mirrored channel is fenced and its partner serves alone. -/
def execChannelFenced (k : Nat) (s : State) : Host.Outcome State Fault Refusal :=
  within (k < 8) (fenceUnit (9 + k) 0 s)

/-- BIN_CHANGE_APPLY (R337): A pending bin change applies after the running pass or step ends. -/
def execBinChangeApply (k : Nat) (s : State) : Host.Outcome State Fault Refusal :=
  within (k < 8) (binApplies k s)

end Sys2Proof.Machine
end

