-- ==== Sys2Proof/Machine/PairRows.lean ====
section
/-! DEFINITION. The Varing pair and its mirror messages (chapter 14). -/

namespace Sys2Proof.Machine

/-- LANE_FRAME_HEADER (R345): A Varing lane framer checks a header at a block boundary and moves its alignment state. -/
def execLaneFrameHeader (k block : Nat) (header : List Byte) (s : State) : Host.Outcome State Fault Refusal :=
  within (k < 4) (laneHeader k block header s)

/-- LANE_DEFECT (R356): A Varing lane defect is declared or cleared and the lane leaves or rejoins striping. -/
def execLaneDefect (k code n : Nat) (s : State) : Host.Outcome State Fault Refusal :=
  within (k < 4 && 1 ≤ code && code ≤ 6) (laneDefect k code n s)

/-- RDI_RECEIVED (R357): RDI in three headers sets RDI_RX and removes the lane from sending. -/
def execRdiReceived (k : Nat) (on : Bool) (s : State) : Host.Outcome State Fault Refusal :=
  within (k < 4) (rdiReceived k on s)

/-- LANE_REJOIN (R355): A lane free of defects for 1 ms rejoins striping. -/
def execLaneRejoin (k : Nat) (s : State) : Host.Outcome State Fault Refusal :=
  within (k < 4) (laneRejoin k s)

/-- MULTIFRAME (R347): A valid multiframe overhead gives the partner time offset. -/
def execMultiframe (k : Nat) (s : State) : Host.Outcome State Fault Refusal :=
  within (k < 4) (multiframe k s)

/-- CONTAINER_RECEIVE (R353): A container is checked and accepted into the apply queue in SEQ order. -/
def execContainerReceive (x : LaneBytes) (icvOk : Bool) (s : State) : Host.Outcome State Fault Refusal :=
  within (x.lane < 4) (containerReceive x.lane x.bytes icvOk s)

/-- CONTAINER_SEND (R353): A container, or a fill container, is assigned to a lane and sent. -/
def execContainerSend (x : LaneRun) (s : State) : Host.Outcome State Fault Refusal :=
  within (x.lane < 4) (containerSend x.lane x.blocks s)

/-- RETRANSMISSION (R354): A container unacknowledged after RETX_NS is sent again. -/
def execRetransmission (seq : Nat) (s : State) : Host.Outcome State Fault Refusal :=
  ok (retransmit seq s)

/-- CONTAINER_KEY_ROLL (R397): A sequence nears its limit and the next container key is derived. -/
def execContainerKeyRoll (s : State) : Host.Outcome State Fault Refusal :=
  ok (containerKeyRoll s)

/-- WITNESS_KEY_ROLL (R398): WSEQ reaches its limit and the next witness key is derived. -/
def execWitnessKeyRoll (s : State) : Host.Outcome State Fault Refusal :=
  ok (witnessKeyRoll s)

/-- HEARTBEAT (R367): A HEARTBEAT message is sent every HB_NS or received and accepted. received: the one at the front of the apply queue is
taken; else one is sent when it is due. -/
def execHeartbeat (received : Bool) (s : State) : Host.Outcome State Fault Refusal :=
  ok (if received then applyType 0x01 s else sendHeartbeat s)

/-- WITNESS_FRAME (R367): A witness frame is sent every WIT_NS or received and accepted. received: none where one is sent; else the bytes
with the key number under which their tag verifies. -/
def execWitnessFrame (received : Option (List Byte × Nat)) (s : State) : Host.Outcome State Fault Refusal :=
  ok (witnessFrame received s)

/-- LINK_SILENT (R369): No heartbeat is accepted within LINK_MISS_NS and the liveness table applies. -/
def execLinkSilent (s : State) : Host.Outcome State Fault Refusal :=
  ok (linkSilent s)

/-- WITNESS_SILENT (R369): No witness frame is accepted within WIT_MISS_NS and the liveness table applies. -/
def execWitnessSilent (s : State) : Host.Outcome State Fault Refusal :=
  ok (witnessSilent s)

/-- LINK_BACK (R369): The link returns in STATE 4 and the pair resynchronises. -/
def execLinkBack (s : State) : Host.Outcome State Fault Refusal :=
  ok (linkBack s)

/-- PAIR_TAKEOVER (R371): The survivor fences the partner, applies its apply queue, takes over ageing and replays the partner journal. -/
def execPairTakeover (s : State) : Host.Outcome State Fault Refusal :=
  ok (pairTakeover s)

/-- SOLO_HOLD_EXPIRY (R372): SOLO_HOLD_MS passes with nothing from the partner and PAIR_HALF becomes 0. -/
def execSoloHoldExpiry (s : State) : Host.Outcome State Fault Refusal :=
  ok (soloHold s)

/-- MUTUAL_AUTHENTICATION (R396): In SETUP the devices exchange signed ephemeral keys and derive link keys. -/
def execMutualAuthentication (passed : Bool) (partner : Nat) (holds : Bool) (s : State) : Host.Outcome State Fault Refusal :=
  ok (mutualAuth passed partner holds s)

/-- BULK_SYNC (R341): HKS sends every record as SYNCREC and the pair enters STATE 3 at the last acknowledgement. -/
def execBulkSync (s : State) : Host.Outcome State Fault Refusal :=
  ok (bulkSync s)

/-- JOURNAL (R362): A received JOURNAL message enters the partner journal. -/
def execJournalMsg (s : State) : Host.Outcome State Fault Refusal :=
  ok (applyType 0x02 s)

/-- JDONE (R362): A received JDONE message removes its partner journal entry. -/
def execJdone (s : State) : Host.Outcome State Fault Refusal :=
  ok (applyType 0x03 s)

/-- CREATE (R362): A received CREATE inserts both records of a connection and marks its binding. -/
def execCreateMsg (s : State) : Host.Outcome State Fault Refusal :=
  ok (applyType 0x10 s)

/-- STATE (R362): A received STATE message changes the records as the sender did. -/
def execStateMsg (s : State) : Host.Outcome State Fault Refusal :=
  ok (applyType 0x11 s)

/-- PDATA (R362): A received PDATA message writes record bytes 384–511. -/
def execPdata (s : State) : Host.Outcome State Fault Refusal :=
  ok (applyType 0x12 s)

/-- DELETE (R362): A received DELETE removes the flow without export or event. -/
def execDeleteMsg (s : State) : Host.Outcome State Fault Refusal :=
  ok (applyType 0x13 s)

/-- CKPT (R362): A received CKPT adds count deltas and raises LAST_SEEN. -/
def execCkpt (s : State) : Host.Outcome State Fault Refusal :=
  ok (applyType 0x14 s)

/-- SYNCREC (R362): A received SYNCREC inserts a synchronised record. -/
def execSyncrec (s : State) : Host.Outcome State Fault Refusal :=
  ok (applyType 0x15 s)

/-- RECFETCH (R331): A partner requests a record by key and is answered with RECORD. -/
def execRecfetch (s : State) : Host.Outcome State Fault Refusal :=
  ok (applyFetchType false s)

/-- RECORD (R331): A RECORD reply repairs an unreadable tun record. -/
def execRecordMsg (s : State) : Host.Outcome State Fault Refusal :=
  ok (applyFetchType true s)

end Sys2Proof.Machine
end

