-- ==== Sys2Proof/Machine/Monitor.lean ====
section
/-! DEFINITION. The monitored blocks and their counters as time passes: CNT_CYC, the cycle events and the occupancy modes (R483 to
R486, Table 20.2). -/

namespace Sys2Proof.Machine

/-- The frequency in kHz of the domain that block b counts (Tables 0.3 and 20.1). -/
def blockKhz (b : Nat) : Nat :=
  if b < 5 then 1800000 else if b = 5 then 2000000 else if b = 6 then 1800000 else if b = 7 then 1500000 else if b = 8 then 1800000
  else if b = 9 then 1000000 else if b = 10 then 1328125 else if b < 13 then 1200000 else if b < 21 then 1600000 else 1000000

/-- The unit of Table 17.4 that block b is, for the quarters and channels. -/
def blockUnit (b : Nat) : Option Nat := if b < 5 then some b else if 13 ≤ b && b < 21 then some (b - 4) else none

/-- The domain clock of block b runs (R484): its unit serves, and its island is up. -/
def blockRuns (s : State) (b : Nat) : Bool :=
  (b == 5 || b == 7 || s.power.coreUp) && (match blockUnit b with | none => true | some u => serves s u)

/-- Cycles of a domain of f kHz that end within n ns from t ns on. -/
def cyclesIn (f t n : Nat) : Nat := (t + n) * f / 1000000 - t * f / 1000000

/-- The level of an occupancy event of block b (kind O of Table 20.2): for one instance, or summed over all where QUAL is 0xFFF; none for an
event that is not of kind O. The queued requests of a memory controller are no part of the state: their level is open. -/
def levelOf (s : State) (b code qual : Nat) : Option Nat :=
  let across := fun (n : Nat) (f : Nat → Nat) => if qual = 0xFFF then ((List.range n).map f).sum else if qual < n then f qual else 0
  if b < 5 then
    let q := quarterOf s b
    if code = 0x04 then some q.wake.length else if code = 0x05 then some q.release.length
    else if code = 0x06 then some q.recirc.length else if code = 0x07 then some q.inspect.length else none
  else if b = 5 then (if code = 0x03 then some (xShared s) else none)
  else if b = 6 then
    if code = 0x02 then some (s.get BUF_POOL_STAT_POOL0_USED) else if code = 0x03 then some (s.get BUF_POOL_STAT_POOL1_USED)
    else if code = 0x04 then some (across 768 (fun q => let x := queueOf s q; cellsOn s (x.head ++ x.asm)))
    else if code = 0x07 then some (s.get BUF_SPILL_STAT_SEG_USED)
    else if code = 0x08 then some (across 768 (fun i => pfcAccount s (i / 8) (i % 8))) else none
  else if b = 8 then
    if code = 0x03 then some s.flow.pend.length else if code = 0x04 then some (s.get FLW_PEND_OCC_DESCRIPTORS)
    else if code = 0x05 then some s.flow.wt.length else if code = 0x06 then some s.flow.dirty.length
    else if code = 0x08 then some (across 32 (fun i => (readyList s (i / 8) (i % 8)).length)) else none
  else if b = 9 then (if code = 0x03 then some (s.host.journal.filter (fun e => !e.done)).length else none)
  else if b = 10 then
    if code = 0x03 then some s.pair.applyQueue.length
    else if code = 0x04 then some (((s.pair.out.filter (fun e => e.1 == 3)).map (fun e => e.2.length)).sum / 1024) else none
  else if b = 21 then (if code = 0x03 then some s.hks.frames.length else none)
  else if 11 ≤ b && code = 0x04 then some (s.freeWord.toNat % 2 ^ 20)
  else none

/-- Whether Table 20.2 lists a code for block b: kind E, or kind O. -/
def codeListed (b code : Nat) : Bool :=
  1 ≤ code && code ≤ (if b < 5 then 9 else if b = 5 then 5 else if b = 6 then 8 else if b = 7 then 5 else if b = 8 then 8 else if b = 9 then 4
    else if b = 10 then 4 else if b < 21 then 6 else 3)

/-- Whether a listed code is of kind O. -/
def codeLevel (b code : Nat) : Bool :=
  if b < 5 then 4 ≤ code && code ≤ 7 else if b = 5 then code == 3 else if b = 6 then code == 2 || code == 3 || code == 4 || code == 7 || code == 8
  else if b = 7 then false else if b = 8 then (3 ≤ code && code ≤ 6) || code == 8 else if b = 9 then code == 3
  else if b = 10 then code == 3 || code == 4 else if b < 21 then code == 4 else code == 3

/-- Queue i of the egress schedulers holds a frame behind a closed gate. -/
def gateBlocks (s : State) (i : Nat) : Bool := !(queueOf s i).head.isEmpty && !portGateOpen s (i / 8) (i % 8)

/-- Instances whose condition holds in every cycle from now on, for the events that count cycles (Table 20.2): a quarter stalled by its release
stage, a queue behind a closed gate, the sequencer busy at a level. -/
def cycleInstances (s : State) (b code qual : Nat) : Nat :=
  if b < 5 && code = 0x09 then ofBool (4096 ≤ (quarterOf s b).release.length && !(quarterOf s b).wake.isEmpty)
  else if b = 7 && code = 0x05 then
    if qual = 0xFFF then ((List.range 768).filter (gateBlocks s)).length else ofBool (qual < 768 && gateBlocks s qual)
  else if b = 21 && code = 0x02 then
    match s.hks.running with | none => 0 | some x => ofBool (qual == 0xFFF || qual == x.level)
  else 0

/-- The programmable counter k of block b after c cycles of its domain at the present levels (R485). -/
def monitorOne (b c k : Nat) (s : State) : State :=
  if !s.on CNT_SEL_ENABLE b k || s.on CNT_CTRL_FREEZE b then s
  else
    let code := s.get CNT_SEL_EVENT b k
    let qual := s.get CNT_SEL_QUAL b k
    let mode := s.get CNT_SEL_MODE b k
    if mode = 0 then
      let n := cycleInstances s b code qual
      if n = 0 then s else s.bumpBy (n * c) CNT_VAL b k
    else
      match levelOf s b code qual with
      | none => s
      | some l =>
        let high := decide (s.get CNT_SEL_THRESH b k ≤ l)
        let was := s.counters.above.contains (8 * b + k)
        let rest := s.counters.above.filter (fun i => i != 8 * b + k)
        let s := if mode = 1 && high then s.bumpBy c CNT_VAL b k
          else if mode = 2 && !high then s.bumpBy c CNT_VAL b k
          else if mode = 3 && high && !was then s.bump CNT_VAL b k
          else s
        { s with counters := { s.counters with above := if high then rest ++ [8 * b + k] else rest } }

/-- The counters of block b over n ns from now (R484, R485). -/
def monitorBlock (n b : Nat) (s : State) : State :=
  let c := cyclesIn (blockKhz b) s.clock n
  if !blockRuns s b || c = 0 then s
  else (List.range 8).foldl (fun s k => monitorOne b c k s) (s.bumpBy c CNT_CYC b)

/-- The monitored blocks over n ns from now. -/
def monitorTicks (n : Nat) (s : State) : State := ((List.range 22).foldl (fun s b => monitorBlock n b s) s).drew

/-- A selection is written (R485, R486): the counter keeps its value; CFG_ERR is set where it counts nothing, and cleared by a valid one. A
level at or above the threshold now is no rise for mode 3. -/
def writeSelection (b k v : Nat) (s : State) : State :=
  let s := s.setReg CNT_SEL (BitVec.ofNat 64 ((v % 2 ^ 64) &&& CNT_SEL.rw)) b k
  let code := s.get CNT_SEL_EVENT b k
  let bad := code != 0 && (!codeListed b code || (s.get CNT_SEL_MODE b k != 0 && !codeLevel b code))
  let high := match levelOf s b code (s.get CNT_SEL_QUAL b k) with | none => false | some l => decide (s.get CNT_SEL_THRESH b k ≤ l)
  let rest := s.counters.above.filter (fun i => i != 8 * b + k)
  { s.flag CNT_CTRL_CFG_ERR bad b with counters := { s.counters with above := if high then rest ++ [8 * b + k] else rest } }

end Sys2Proof.Machine
end

