-- ==== Sys2Proof/Machine/Registers.lean ====
section
/-! DEFINITION. Accesses to BAR0 and BAR2: the place of an offset in the register map, reads with the high-word latch, writes with the effects
that registers have of their own, and ASC_REG_WRITE (R8 to R12, R95, R242, R314, R392, R426, R494 to R496). -/

namespace Sys2Proof.Machine

/-! ### The register map (R494, R495) -/

/-- A register instance. -/
structure RegRef where
  reg : Reg
  i : Nat
  j : Nat
  k : Nat
deriving DecidableEq, Repr

/-- The instance of register r that begins at a BAR0 offset. -/
def Reg.instanceAt (r : Reg) (off : Nat) : Option RegRef :=
  if off < r.base then none
  else
    let d := off - r.base
    let i := if r.s1 = 0 then 0 else min (d / r.s1) (r.n1 - 1)
    let d := d - r.s1 * i
    let j := if r.s2 = 0 then 0 else min (d / r.s2) (r.n2 - 1)
    let d := d - r.s2 * j
    let k := if r.s3 = 0 then 0 else min (d / r.s3) (r.n3 - 1)
    if d = r.s3 * k then some ⟨r, i, j, k⟩ else none

/-- The register instance that begins at a BAR0 offset. -/
def refAt (off : Nat) : Option RegRef := regIndex.findSome? (fun r => r.instanceAt off)

/-- What a 32-bit word of BAR0 belongs to: the low word of a register, the high word of a 64-bit register, the 4 bytes after a 32-bit register,
or no register. -/
inductive WordAt where
  | low (x : RegRef)
  | high (x : RegRef)
  | pad
  | none
deriving DecidableEq, Repr

/-- The word at an aligned offset. -/
def wordAt (off : Nat) : WordAt :=
  match refAt off with
  | some x => .low x
  | .none =>
    if off % 8 = 4 then
      match refAt (off - 4) with
      | some x => if x.reg.wide then .high x else .pad
      | .none => .none
    else .none

/-- The words that an access of n bytes covers. -/
def accessWords (off n : Nat) : List WordAt := if n = 8 then [wordAt off, wordAt (off + 4)] else [wordAt off]

/-- An access that is discarded (R12, R405, R494): wrong size or alignment, or no register there. BAR2 holds a doorbell for each ring, the
MSI-X table and the pending-bit array. -/
def badAccess (bar2 : Bool) (off n : Nat) : Bool :=
  if bar2 then n != 4 || off % 4 != 0 || !((off % 8 == 0 && off < 8 * 59) || (0x8000 ≤ off && off < 0x8400) || (0x9000 ≤ off && off < 0x9008))
  else (n != 4 && n != 8) || off % n != 0 || (accessWords off n).all (fun w => w = .none)

/-- BAR0 answers from HOST_READY (R496). -/
def barReady (s : State) : Bool := s.on PWR_READY_HOST_READY

/-- A discarded access: a read returns 0; it is counted. -/
def discardAccess (bar2 : Bool) (off n : Nat) (read : Bool) (s : State) : State :=
  if !barReady s || !badAccess bar2 off n then s
  else
    let s := s.bump HST_BAD_ACCESS_CNT
    if read then { s with host := { s.host with answer := 0 } } else s

/-! ### Reads (R10, R11, R314) -/

/-- The value that a read of a register returns. -/
def readRef (s : State) (x : RegRef) : Nat :=
  if x.reg = TIM_NOW_LO then s.time.ns + s.time.sec % 2 ^ 32 * 2 ^ 32
  else if x.reg = TIM_NOW_HI then s.time.sec / 2 ^ 32
  else s.num x.reg x.i x.j x.k

/-- The offset of a register instance. -/
def RegRef.offset (x : RegRef) : Nat := x.reg.addr x.i x.j x.k

/-- The register that a read of x latches for the next read from the same requester (R314): TIM_NOW_HI, or TIM_CAP_HI_k. -/
def latchPartner (x : RegRef) : Option RegRef :=
  if x.reg = TIM_NOW_LO then some { x with reg := TIM_NOW_HI }
  else if x.reg = TIM_CAP_LO then some { x with reg := TIM_CAP_HI }
  else none

/-- A value latched for a requester under an offset. -/
def setLatch (req off v : Nat) (s : State) : State :=
  { s with host := { s.host with latch := Store.set s.host.latch (key2 req off) v } }

/-- A latched value taken: the value and the state without it. -/
def takeLatch (req off : Nat) (s : State) : Option (Nat × State) :=
  (Store.get? s.host.latch (key2 req off)).map (fun v =>
    (v, { s with host := { s.host with latch := Store.erase s.host.latch (key2 req off) } }))

/-- A register read whole by a requester: its latched value where one stands. -/
def readWhole (req : Nat) (x : RegRef) (s : State) : Nat × State :=
  match takeLatch req x.offset s with
  | some r => r
  | none => (readRef s x, s)

/-- One 32-bit word read: a low word latches the high word, and a high word is returned as latched. -/
def readWord (req off : Nat) (s : State) : Nat × State :=
  match wordAt off with
  | .low x =>
    let r := readWhole req x s
    let s := if x.reg.wide then setLatch req (off + 4) (r.1 / 2 ^ 32) r.2 else r.2
    (r.1 % 2 ^ 32, match latchPartner x with | none => s | some y => setLatch req y.offset (readRef s y) s)
  | .high x =>
    match takeLatch req off s with
    | some r => r
    | none => (readRef s x / 2 ^ 32, s)
  | _ => (0, s)

/-- A read of 4 or 8 bytes at an aligned offset of BAR0; a 64-bit register read at once is taken at one instant. -/
def readAccess (req off n : Nat) (s : State) : State :=
  if !barReady s || badAccess false off n then s
  else
    let answer := fun (r : Nat × State) => { r.2 with host := { r.2.host with answer := r.1 } }
    if n = 4 then answer (readWord req off s)
    else
      match wordAt off with
      | .low x =>
        if x.reg.wide then
          let r := readWhole req x s
          answer (r.1, match latchPartner x with | none => r.2 | some y => setLatch req y.offset (readRef r.2 y) r.2)
        else
          let a := readWord req off s
          let b := readWord req (off + 4) a.2
          answer (a.1 + b.1 * 2 ^ 32, b.2)
      | _ =>
        let b := readWord req (off + 4) s
        answer (b.1 * 2 ^ 32, b.2)

/-! ### Registers with effects of their own -/

/-- The entries of a copy of the TCAM of quarter q, its rows or their shadow, by bank and place in it: those of searched banks, and those that a bank keeps while it is not searched,
held under 8 + bank. -/
def bankEntries (s : State) (q : Nat) (m : Store (Store TEntry)) : List (Nat × Nat × TEntry) :=
  (List.range 8).flatMap (fun g =>
    let per := 1024 / widthUnits (groupWidth s q g)
    (Store.getD m g []).filterMap (fun e => ((searchedBanks s q g)[e.1 / per]?).map (fun b => (b, e.1 % per, e.2)))) ++
  (List.range 24).flatMap (fun b => (Store.getD m (8 + b) []).map (fun e => (b, e.1, e.2)))

/-- The entry at place e of bank b takes its place in its group, or stays with its bank (R93). -/
def placeEntry (s : State) (q : Nat) (m : Store (Store TEntry)) (x : Nat × Nat × TEntry) : Store (Store TEntry) :=
  let g := s.get QTR_TCAM_BANK_GROUP q x.1
  let per := 1024 / widthUnits (groupWidth s q g)
  match leastBelow (fun i => (searchedBanks s q g)[i]? == some x.1) 24 with
  | some i => Store.upd m g [] (fun t => Store.set t (i * per + x.2.1) x.2.2)
  | none => Store.upd m (8 + x.1) [] (fun t => Store.set t x.2.1 x.2.2)

/-- An enabled bank whose width differs from its group's (R93). -/
def widthDiffers (s : State) (q n : Nat) : Bool :=
  s.on QTR_TCAM_BANK_ENABLE q n && bankWidth s q n != groupWidth s q (s.get QTR_TCAM_BANK_GROUP q n)

/-- A bank register is written (R93, R95): WIDTH and GROUP only while VALID_CNT is 0; the groups' searched banks follow. -/
def writeBank (q n v : Nat) (s : State) : State :=
  let old := s.num QTR_TCAM_BANK q n
  let refused := s.get QTR_TCAM_BANK_VALID_CNT q n != 0 && bitsOf old 4 0 != bitsOf v 4 0
  let v := if refused then withBits v 4 0 (bitsOf old 4 0) else v
  let rows := bankEntries s q (quarterOf s q).tcam
  let copies := bankEntries s q (quarterOf s q).shadow
  let before := (List.range 24).filter (widthDiffers s q)
  let s := s.setReg QTR_TCAM_BANK (BitVec.ofNat 64 v) q n
  let s := onQuarter q (fun y => { y with tcam := rows.foldl (placeEntry s q) [], shadow := copies.foldl (placeEntry s q) [] }) s
  let s := (List.range 24).foldl (fun s b =>
    if widthDiffers s q b then s.put QTR_TCAM_BANK_CFG_ERR 1 q b
    else if before.contains b then s.put QTR_TCAM_BANK_CFG_ERR 0 q b else s) s
  s.flag QTR_TCAM_BANK_CFG_ERR (refused || widthDiffers s q n) q n

/-- A buffer register is written (R242): ignored with CFG_ERR where the parts would pass 655,360 cells. -/
def writeBuffer (x : RegRef) (v : Nat) (s : State) : State :=
  let t := s.setReg x.reg (BitVec.ofNat 64 v) x.i x.j x.k
  let parts := reservedCells t + t.get BUF_POOL_CFG_POOL0_SIZE + t.get BUF_POOL_CFG_POOL1_SIZE
  if 655360 < parts then s.put BUF_RESERVE_STAT_CFG_ERR 1
  else settleBuffer ((t.put BUF_RESERVE_STAT_CFG_ERR 0).put BUF_RESERVE_STAT_RESERVED (reservedCells t))

/-- MEM_DDR_CFG is written (Table 13.7): MAP_ORDER is kept after MEM_INIT, and a change of it sets CFG_ERR. -/
def writeChannel (k v : Nat) (s : State) : State :=
  let old := s.get MEM_DDR_CFG_MAP_ORDER k
  let refused := s.mem.latched && bitsOf v 1 0 != old
  (s.setReg MEM_DDR_CFG (BitVec.ofNat 64 (if s.mem.latched then withBits v 1 0 old else v)) k).flag MEM_DDR_CFG_CFG_ERR refused k

/-- PRT_MODE of port p is written (R45 to R47, R62): ENABLE starts or ends the port; the other fields wait for it. -/
def writeMode (p v : Nat) (s : State) : State :=
  let was := s.on PRT_MODE_ENABLE p
  let on := bitOf v 8
  if on && !was then enablePort p v s
  else
    let s := s.setReg PRT_MODE (BitVec.ofNat 64 (withBit v 8 was)) p
    if was && !on then disablePort p s else s

/-- HST_RING_CFG is written (R407, R426). -/
def writeRing (r v : Nat) (s : State) : State :=
  if bitOf v 5 then ringEnable r v s
  else if ringOn s r then
    let same := bitsOf v 4 0 == s.get HST_RING_CFG_SIZE_LOG2 r && bitsOf v 13 8 == s.get HST_RING_CFG_VECTOR r &&
      bitsOf v 17 14 == s.get HST_RING_CFG_SLOT_LOG2 r
    let s := ringDisable r s
    if same then s else s.put HST_RING_CFG_CFG_ERR 1 r
  else ringFields r v s

/-! ### Single lookups in register mode (R425) -/

/-- GO is written (R425): the key, table and quarter of the lookup are taken and READY is cleared; while one runs, GO_ERR. -/
def diagGo (ctrl : Nat) (s : State) : State :=
  let s := s.setReg HST_DIAG_CTRL (BitVec.ofNat 64 (withBits (s.num HST_DIAG_CTRL) 5 0 ctrl))
  if !bitOf ctrl 6 then s
  else if s.host.diagPending.isSome then s.put HST_DIAG_CTRL_GO_ERR 1
  else
    let key := (List.range 8).flatMap (fun k => leBytes 8 (s.num HST_DIAG_KEY k))
    let s := { s with host := { s.host with diagPending := some (s.get HST_DIAG_CTRL_TABLE, s.get HST_DIAG_CTRL_QUARTER, key) } }
    (s.put HST_DIAG_CTRL_GO_ERR 0).put HST_DIAG_STAT_READY 0

/-! ### Writes (R8, R9, R392, R426, R495) -/

/-- The effect of a new value of a register, its bits outside RW as they were. DEDUCED (log entry 134): a write of SHAPER is one that changes
it, since R269 keeps the credit at a write of RATE_KBPS, which shares its register. -/
def applyWrite (x : RegRef) (v : Nat) (s : State) : State :=
  let plain := s.setReg x.reg (BitVec.ofNat 64 v) x.i x.j x.k
  if x.reg = PRT_MODE then writeMode x.i v s
  else if x.reg = PRT_PREEMPT then
    preemptWritten x.i (s.on PRT_PREEMPT_PREEMPT_EN x.i && !s.on PRT_PREEMPT_VERIFY_DIS x.i) plain
  else if x.reg = QTR_TCAM_BANK then writeBank x.i x.j v s
  else if x.reg = QTR_SLEEP_CTRL then reserveRestWritten x.i plain
  else if [BUF_POOL_CFG, BUF_SPILL_CFG, BUF_QPROF, BUF_PFCPROF_W0, BUF_PFCPROF_W1, BUF_QMAP, BUF_PFC_PORT].contains x.reg then writeBuffer x v s
  else if x.reg = SCH_QCFG then
    (if bitsOf v 13 12 = s.get SCH_QCFG_SHAPER x.i x.j then plain else setCredit x.i x.j 0 plain)
  else if x.reg = SCH_WAKE_CFG then (if bitOf v 0 then plain else endQuiet x.i plain)
  else if x.reg = MEM_DDR_CFG then writeChannel x.i v s
  else if x.reg = VAR_LANE_CFG then laneConfig plain
  else if x.reg = HST_RING_CFG then writeRing x.i v s
  else if x.reg = HST_RING_BASE || x.reg = HST_RING_AUX then (if ringOn s x.i then s.put HST_RING_CFG_CFG_ERR 1 x.i else plain)
  else if x.reg = FLT_PIN_CTRL then setPins plain
  else if x.reg = CNT_SEL then writeSelection x.i x.j v s
  else if x.reg = FLW_TLM_CTRL then
    (if bitsOf v 1 0 + 4 * bitsOf v 21 3 = bitsOf (s.num FLW_TLM_CTRL) 1 0 + 4 * bitsOf (s.num FLW_TLM_CTRL) 21 3 then plain
     else { plain with flow := { plain.flow with templatesAt := none } })
  else plain

/-- The bits of mask m of a register are written with v by a plain access (R9, R392): RW bits are taken; a change of an SG bit is counted and
raised. -/
def writeRef (x : RegRef) (m v : Nat) (s : State) : State :=
  let old := s.num x.reg x.i x.j x.k
  let sg := (old ^^^ v) &&& m &&& x.reg.sg
  let s := if sg != 0 then report (srcAscor 4) (s.bump ASC_SG_REJECT_CNT) else s
  if x.reg = HST_DIAG_CTRL then diagGo ((old &&& 0x3F &&& (m ^^^ (2 ^ 64 - 1))) ||| (v &&& m)) s
  else
    let rw := m &&& x.reg.rw
    if rw = 0 then s else applyWrite x ((old &&& (rw ^^^ (2 ^ 64 - 1))) ||| (v &&& rw)) s

/-- A write of 4 or 8 bytes at an aligned offset of BAR0 (R495). -/
def writeAccess (off n v : Nat) (s : State) : State :=
  if !barReady s || badAccess false off n then s
  else if n = 4 then
    match wordAt off with
    | .low x => writeRef x (2 ^ 32 - 1) (v % 2 ^ 32) s
    | .high x => writeRef x ((2 ^ 32 - 1) * 2 ^ 32) (v % 2 ^ 32 * 2 ^ 32) s
    | _ => s
  else
    match wordAt off with
    | .low x =>
      if x.reg.wide then writeRef x (2 ^ 64 - 1) (v % 2 ^ 64) s
      else
        let s := writeRef x (2 ^ 32 - 1) (v % 2 ^ 32) s
        match wordAt (off + 4) with
        | .low y => writeRef y (2 ^ 32 - 1) (v / 2 ^ 32 % 2 ^ 32) s
        | _ => s
    | _ =>
      match wordAt (off + 4) with
      | .low y => writeRef y (2 ^ 32 - 1) (v / 2 ^ 32 % 2 ^ 32) s
      | _ => s

/-! ### ASC_REG_WRITE (R284, R314, R392) -/

/-- Registers whose SG fields have a command of their own (R392). -/
def ownCommand : List Reg :=
  [TIM_INCR, TIM_PIN_CFG, TIM_PIN_START_NS, TIM_PIN_START_S, TIM_PIN_PERIOD, FLT_SRC_CFG, MEM_INIT_CFG, FLW_BANK_OWN, PRT_MACSEC_CTRL]

/-- Express banks that hold a valid entry. -/
def expressHolds (s : State) : Bool := s.xpr.tcam.any (fun e => e.2.any (fun t => t.2.valid))

/-- SG bits of a register take a new value: CHAIN only while the express banks are empty (Table 5.13); a ring's CFG only while it is disabled
(R426); WD_MS restarts the servo watchdog (R314); SEAL set starts a telemetry epoch (R401); the hours count on from the moment PWR_HOURS is set
(R467; DEDUCED, log entry 137). -/
def applySealed (x : RegRef) (m v : Nat) (s : State) : State :=
  let plain := s.setReg x.reg (BitVec.ofNat 64 v) x.i x.j x.k
  if x.reg = XPR_TCAM_CFG then
    let refused := expressHolds s && bitsOf v 1 0 != s.get XPR_TCAM_CFG_CHAIN
    let v := if refused then withBits v 1 0 (s.get XPR_TCAM_CFG_CHAIN) else v
    (s.setReg XPR_TCAM_CFG (BitVec.ofNat 64 v)).flag XPR_TCAM_CFG_CFG_ERR refused
  else if x.reg = HST_RING_CFG then (if ringOn s x.i then s.put HST_RING_CFG_CFG_ERR 1 x.i else plain)
  else if x.reg = TIM_CTRL then (if bitsOf m 15 0 != 0 then restartWatch plain else plain)
  else if x.reg = FLW_TLM_CTRL then
    (if s.on FLW_TLM_CTRL_SEAL then plain else { plain with ascor := { plain.ascor with tlmAt := none } })
  else if x.reg = PWR_HOURS then { plain with power := { plain.power with hourAt := plain.clock } }
  else plain

/-- ASC_REG_WRITE: the masked SG bits of one register. -/
def sealedWrite (off v mask : Nat) (s : State) : Answer :=
  match refAt off with
  | none => failed 1 s
  | some x =>
    if x.reg.sg = 0 || ownCommand.contains x.reg then failed 1 s
    else if x.reg = SCH_GCL_ADMIN && s.on SCH_GCL_STAT_PENDING x.i then failed 4 s
    else
      let m := mask &&& x.reg.sg
      let old := s.num x.reg x.i x.j x.k
      ok_ (applySealed x m ((old &&& (m ^^^ (2 ^ 64 - 1))) ||| (v &&& m)) s)

end Sys2Proof.Machine
end

