-- ==== Sys2Proof/Machine/Counters.lean ====
section
/-! DEFINITION. The counter commands (R428, R487 to R491), single lookups (R425), and the answer to an undefined opcode (R416). -/

namespace Sys2Proof.Machine

/-! ### Counters (R487 to R491) -/

/-- The 64-bit counter registers of the manual: read-only registers of one 64-bit count. -/
def counterReg (r : Reg) : Bool :=
  r.wide && r.rw == 0 && r.sg == 0 && r.reset == 0 &&
  !([PRT_QUIET_0, PRT_QUIET_1, QTR_EPOCH, QTR_PAT_FREE_WORDS, QTR_HASH_SEED, QTR_HASH_NEW_SEED, FLW_TIER_CFG, FLW_KEY_STAT, FLW_PEND_OCC,
      FLW_PROF_STAT, FLW_CLUSTER_MAP_0, FLW_CLUSTER_MAP_1, FLW_PROG_STAT, FLW_RDY, FLW_CORE_NOW, BUF_POOL_STAT, BUF_SPILL_STAT, SCH_QCREDIT,
      SCH_GCL_STAT, SCH_GCL_START_S, SCH_GCL_POS, SCH_GCL_OPER, XPR_STREAM_VALID, TIM_NOW_LO, TIM_NOW_HI, TIM_STAT, TIM_TEMP, TIM_STEP_LAST,
      TIM_CAP_LO, TIM_CAP_HI, TIM_WAKE_LO, TIM_WAKE_HI].contains r ||
    [MEM_HBM_STAT, MEM_DDR_STAT, MEM_DDR_ERR_LOG, VAR_STAT, VAR_PARTNER_ID, VAR_LANE_STAT, ASC_STAT, ASC_ID_FP, ASC_OP_FP, ASC_MIN_VER, ASC_SESSION,
      ASC_STAGE_STAT, HST_RING_IDX, HST_DIAG_STAT, HST_DIAG_POS, HST_DIAG_LOC, HST_DIAG_DATA, HST_PCIE_STAT, HST_JOURNAL_STAT, FLT_SRC_STAT,
      FLT_FENCE_STAT, FLT_QTR_STAT, FLT_BB_STAT, PWR_READY, PWR_UNIT_STAT, PWR_AVS, PWR_LIFE, PWR_ISLAND_W, PWR_MON, HKS_STAT, HKS_RUN, HKS_PATCH,
      HKS_MATCH, GLB_ID, GLB_CAPS, GLB_SERIAL, GLB_MAP_VER].contains r)

/-- A counter id (chapter 20): a rule counter of a kind, a register, or nothing. -/
inductive CounterAt where
  | rule (kind index : Nat)
  | reg (x : RegRef)
  | none
deriving DecidableEq, Repr

/-- What a counter id names; with the words of the fault source records where a read may name them (R428). -/
def counterAt (records : Bool) (id : Nat) : CounterAt :=
  if bitOf id 31 then (if bitsOf id 30 28 ≤ 3 then .rule (bitsOf id 30 28) (bitsOf id 15 0) else .none)
  else
    match refAt (bitsOf id 26 0) with
    | some x => if counterReg x.reg || (records && (x.reg = FLT_SRC_CFG || x.reg = FLT_SRC_STAT)) then .reg x else .none
    | .none => .none

/-- The value of a rule counter (R487): the five quarters and the accumulator, or the voted express count. -/
def ruleValue (s : State) (kind i : Nat) : Nat :=
  let sum := fun (m acc : Store Nat) => (((List.range 5).map (fun q => Store.getD m (key2 q i) 0)).sum + Store.getD acc i 0) % 2 ^ 64
  if kind = 0 then sum s.counters.ruleFrames s.counters.accFrames
  else if kind = 1 then sum s.counters.ruleBytes s.counters.accBytes
  else if kind = 2 then Store.getD s.counters.xprFrames i 0
  else Store.getD s.counters.xprBytes i 0

/-- The unit of Table 17.4 whose counter a register is, if any (Table 20.3). -/
def counterUnit (x : RegRef) : Option Nat :=
  let off := x.offset
  if x.reg.base / 0x100000 = 6 then blockUnit x.i
  else if 0x2000000 ≤ off && off < 0x2500000 then some ((off - 0x2000000) / 0x100000)
  else if 0x4080000 ≤ off && off < 0x4280000 then some (9 + (off - 0x4080000) / 0x40000)
  else if x.reg = FLW_DISP || x.reg = FLW_WAIT_SUM || x.reg = FLW_WAIT_MAX then some (5 + x.i)
  else if x.reg = FLW_CORE_BUSY || x.reg = FLW_CORE_TASKS || x.reg = FLW_CORE_FAULT then some (5 + x.i / 16)
  else none

/-- The 16-byte entry of a counter id read at a time (R489). -/
def counterEntry (s : State) (t id : Nat) : List Byte :=
  let line := fun (v flags : Nat) => leBytes 8 v ++ leBytes 4 (t % 2 ^ 32) ++ leBytes 4 flags
  match counterAt true id with
  | .none => line 0 2
  | .rule kind i => line (ruleValue s kind i) 0
  | .reg x => line (readRef s x) (match counterUnit x with | .none => 0 | some u => ofBool (fenced s u))

/-- The ids of a list are as many as R489 to R491 allow. -/
def listFits (ids : List Nat) : Bool := 1 ≤ ids.length && ids.length ≤ 256 && ids.all (fun i => i < 2 ^ 32)

/-- CNT_READ (R489): one counter every 10 ns, in list order. -/
def cntRead (c : Cmd) (ids : List Nat) (addr : Nat) (s : State) : Answer :=
  if !listFits ids then failed 1 s
  else giveResult c addr 0 (ids.zipIdx.flatMap (fun e => counterEntry s (s.nowNs + 10 * e.2) e.1)) 0 s

/-- CNT_SNAPSHOT (R490): every counter at one tick T; T and 6 reserved bytes come first. -/
def cntSnapshot (c : Cmd) (ids : List Nat) (addr : Nat) (s : State) : Answer :=
  if !listFits ids then failed 1 s
  else giveResult c addr 0 (stampBytes s.now ++ zeros 6 ++ ids.flatMap (counterEntry s s.nowNs)) 0 s

/-- One counter cleared (R491): of a quarter rule counter the five copies and the accumulator. -/
def clearCounter (s : State) (id : Nat) : State :=
  match counterAt false id with
  | .none => s
  | .reg x => s.setReg x.reg 0 x.i x.j x.k
  | .rule kind i =>
    let c := s.counters
    let drop := fun (m : Store Nat) => m.filter (fun e => e.1 % 2 ^ 32 != i)
    { s with counters :=
      if kind = 0 then { c with ruleFrames := drop c.ruleFrames, accFrames := Store.erase c.accFrames i }
      else if kind = 1 then { c with ruleBytes := drop c.ruleBytes, accBytes := Store.erase c.accBytes i }
      else if kind = 2 then { c with xprFrames := Store.erase c.xprFrames i }
      else { c with xprBytes := Store.erase c.xprBytes i } }

/-- CNT_CLEAR (R491): all at one tick; with an id that names no counter nothing is cleared. -/
def cntClear (obj n : Nat) (s : State) : Answer :=
  withObject obj (fun bs s =>
    let ids := numbersOf bs 0 4 n
    if !listFits ids || bs.length < 4 * n || ids.any (fun i => counterAt false i = .none) then failed 1 s
    else ok_ (ids.foldl clearCounter s)) s

/-! ### Single lookups (R425, Table 16.11) -/

/-- The result of a lookup: HIT, IN_PROGRESS, TIER, PENDING, the place, the slot and 32 bytes of data. -/
structure Found where
  hit : Bool
  inProgress : Bool
  tier : Nat
  waits : Bool
  place : Place
  slot : Nat
  data : List Byte
deriving DecidableEq, Repr

/-- A lookup of a key in table t of quarter q. -/
def findTable (s : State) (q t : Nat) (key : List Byte) : Found :=
  let p := tablePlace s q t key
  match findSlot (tableOf s q t) p key with
  | none => ⟨false, false, 0, false, p, noSlot, zeros 32⟩
  | some i =>
    match Store.get? (tableOf s q t).slots i with
    | none => ⟨false, false, 0, false, p, noSlot, zeros 32⟩
    | some x => ⟨true, x.inProgress, 4, false, p, i, padTo 32 (if t = 0 then leBytes 32 (l2Of x) else x.data)⟩

/-- The length of the longest entry that the search of R131 meets, and the result it carries. -/
def searchMeets (s : State) (q t r : Nat) (a : List Byte) (lens : List Nat) : Nat → Nat → Nat → Option (Nat × Option Nat) → Option (Nat × Option Nat)
  | 0, _, _, best => best
  | n + 1, lo, hi, best =>
    if hi ≤ lo then best
    else
      let mid := (lo + (hi - 1)) / 2
      match tableLookup s q t (prefixKey r (lens.getD mid 0) a) with
      | some x => searchMeets s q t r a lens n (mid + 1) hi (some (lens.getD mid 0, prefixResult x))
      | none => searchMeets s q t r a lens n lo mid best

/-- A full prefix search (R131, R425): the next-hop index in bytes 0 and 1. Where no entry is met, the place has no key to be of: it is
open. -/
def findPrefix (s : State) (q t r : Nat) (a : List Byte) : Found :=
  let lens := instLens s r (t = 3)
  let x := s.freeWord.toNat
  match searchMeets s q t r a lens 8 0 lens.length none with
  | none => ⟨false, false, 0, false, ⟨x % 2 ^ 16, bitsOf x 31 16, bitsOf x 47 32⟩, noSlot, zeros 32⟩
  | some (len, nh) =>
    let f := findTable s q t (prefixKey r len a)
    match nh with
    | none => { f with hit := false, tier := 0, slot := noSlot, data := zeros 32 }
    | some n => { f with data := padTo 32 (leBytes 2 n) }

/-- A flow lookup (R425): in the tier that holds the record nearest, in that tier's layout (Tables 7.4 to 7.6), else the place in tun. -/
def findFlow (s : State) (key : List Byte) : Found :=
  let k := padTo 40 key
  let wait := (pendOf s k).isSome
  let mark := tunMarked s k
  match gillOf s k, firkinOf s k, tunOf s k with
  | some (i, g), some (_, f), _ => ⟨true, mark, 1, wait, flowPlace s gillBuckets k, i, (gillBytes s f g).take 32⟩
  | _, some (i, f), _ => ⟨true, mark, 2, wait, flowPlace s (firkinBuckets s) k, i, (firkinBytes s f).take 32⟩
  | _, none, some (i, x) => ⟨true, mark, 3, wait, standingPlace s (tunBuckets s) k, i, x.data.take 32⟩
  | _, none, none => ⟨false, false, 0, wait, flowPlace s (tunBuckets s) k, noSlot, zeros 32⟩

/-- Bytes of the value of an exact-match key of a kind. -/
def exactValue (kind : Nat) : Nat := if kind = 1 || kind = 2 then 3 else if kind = 3 then 4 else 16

/-- The lookup that TABLE, QUARTER and the key bytes name (Table 16.11). -/
def diagFind (s : State) (table quarter : Nat) (key : List Byte) : Found :=
  let q := min quarter 4
  if table = 4 then findFlow s (slice key 0 40)
  else if table = 3 then findPrefix s q 3 (beField key 0 2) (slice key 2 16)
  else if table = 2 then findPrefix s q 2 (beField key 0 2) (slice key 2 4)
  else if table = 1 then findTable s q 1 (slice key 0 (3 + exactValue (leField key 0 1)))
  else findTable s q 0 (slice key 0 8)

/-- HST_DIAG_STAT of a result, with READY = 1 and a number of lookups. -/
def diagStatWord (f : Found) (seq : Nat) : Nat :=
  1 + 2 * ofBool f.hit + 4 * ofBool f.inProgress + f.tier * 8 + 64 * ofBool f.waits + f.place.fp % 2 ^ 16 * 2 ^ 16 + seq % 2 ^ 32 * 2 ^ 32

/-- A register-mode lookup ends (R425): all result registers change together. -/
def diagDone (s : State) : State :=
  match s.host.diagPending with
  | none => s
  | some (table, quarter, key) =>
    let f := diagFind s table quarter key
    let s := { s.drew with host := { s.host with diagPending := none } }
    let s := s.setReg HST_DIAG_STAT (BitVec.ofNat 64 (diagStatWord f (s.get HST_DIAG_STAT_SEQ + 1)))
    let s := ((s.put HST_DIAG_POS_B0 f.place.b0).put HST_DIAG_POS_B1 f.place.b1).put HST_DIAG_LOC_SLOT f.slot
    (List.range 4).foldl (fun s k => s.setReg HST_DIAG_DATA (BitVec.ofNat 64 (leField f.data (8 * k) 8)) k) s

/-- DIAG_LOOKUP (R425): the 64-byte result. Which lookups its SEQ counts is open. -/
def diagLookup (c : Cmd) (table quarter : Nat) (key : List Byte) (addr : Nat) (s : State) : Answer :=
  let f := diagFind s table quarter (padTo 64 key)
  let seq := s.drew.freeWord.toNat
  let bs := leBytes 8 (diagStatWord f seq) ++ leBytes 4 f.place.b0 ++ leBytes 4 f.place.b1 ++ leBytes 8 f.slot ++ padTo 32 f.data ++ zeros 8
  giveResult c addr 0 bs 0 s.drew.drew

/-! ### Undefined opcodes (R416) -/

/-- A command with an opcode that the catalogue does not list, in its turn: sealed it completes with ARG; unsealed it is rejected under R390. -/
def undefinedOpcode (c : Cmd) (op : Nat) (s : State) : State :=
  if !executes s c op then s
  else if !c.sealed then rejectCommand c op 3 s
  else if c.verdict != 0 then rejectCommand c op c.verdict s
  else finish c op (resFail 1) s

end Sys2Proof.Machine
end

