-- ==== Sys2Proof/Machine/RegisterRows.lean ====
section
/-! DEFINITION. Register accesses, rings, counters and single lookups (chapters 1, 16 and 20). -/

namespace Sys2Proof.Machine

/-- ASC_REG_WRITE (R392): Writes the masked SG bits of one BAR0 register. -/
def execAscRegWrite (c : Cmd) (off v mask : Nat) (s : State) : Host.Outcome State Fault Refusal :=
  within (c.ring < 4) (command c 0x010A false (fun s => sealedWrite off v mask s) s)

/-- CNT_READ (R489): Reads a list of counters in order, each with its capture time and flags. -/
def execCntRead (c : Cmd) (ids : List Nat) (addr : Nat) (s : State) : Host.Outcome State Fault Refusal :=
  within (c.ring < 4) (command c 0x0D00 true (fun s => cntRead c ids addr s) s)

/-- CNT_SNAPSHOT (R490): Captures every listed counter at one TIME tick. -/
def execCntSnapshot (c : Cmd) (ids : List Nat) (addr : Nat) (s : State) : Host.Outcome State Fault Refusal :=
  within (c.ring < 4) (command c 0x0D01 true (fun s => cntSnapshot c ids addr s) s)

/-- CNT_CLEAR (R491): Clears every listed counter at one TIME tick. -/
def execCntClear (c : Cmd) (obj n : Nat) (s : State) : Host.Outcome State Fault Refusal :=
  within (c.ring < 4) (command c 0x0D02 false (fun s => cntClear obj n s) s)

/-- DIAG_LOOKUP (R425): Runs one table lookup without a frame and writes the 64-byte result. -/
def execDiagLookup (c : Cmd) (table quarter : Nat) (key : List Byte) (addr : Nat) (s : State) : Host.Outcome State Fault Refusal :=
  within (c.ring < 4) (command c 0x0F00 true (fun s => diagLookup c table quarter key addr s) s)

/-- UNDEFINED_OPCODE (R416): A command entry with an opcode not in the catalogue completes with ARG or is rejected. -/
def execUndefinedOpcode (c : Cmd) (op : Nat) (s : State) : Host.Outcome State Fault Refusal :=
  within (c.ring < 4 && !opcodeDefined op) (undefinedOpcode c op s)

/-- BAR0_ACCESS_DISCARDED (R12): An access of wrong size, alignment or unmapped offset reads 0 or is ignored and counted. bar2: the access
is to BAR2. -/
def execBar0AccessDiscarded (bar2 : Bool) (off n : Nat) (read : Bool) (s : State) : Host.Outcome State Fault Refusal :=
  ok (discardAccess bar2 off n read s)

/-- BAR0_LOW_WORD_READ (R11): A 32-bit read of a 64-bit register's low word latches its high word for the requester. Every read of a
register of BAR0 by requester req: n bytes at an offset. -/
def execBar0LowWordRead (req off n : Nat) (s : State) : Host.Outcome State Fault Refusal :=
  ok (readAccess req off n s)

/-- REGISTER_WRITE (R9): A BAR0 write to a register with no behaviour of its own sets its RW fields. -/
def execRegisterWrite (off n v : Nat) (s : State) : Host.Outcome State Fault Refusal :=
  ok (writeAccess off n v s)

/-- DOORBELL (R409): A doorbell write advances a ring's PI or CI if valid, else is ignored and counted. -/
def execDoorbell (r v : Nat) (s : State) : Host.Outcome State Fault Refusal :=
  ok (if barReady s then doorbellWrite r v s else s)

/-- RING_ENABLE (R407): Setting HST_RING_CFG.EN checks the ring configuration and zeroes its indexes. -/
def execRingEnable (r cfg : Nat) (s : State) : Host.Outcome State Fault Refusal :=
  within (r < 59) (if barReady s then ringEnable r cfg s else s)

/-- RING_DISABLE (R426): Clearing EN stops fetching or holds work bound for the ring. -/
def execRingDisable (r : Nat) (s : State) : Host.Outcome State Fault Refusal :=
  within (r < 59) (if barReady s then ringDisable r s else s)

/-- PORT_ENABLE (R47): PRT_MODE.ENABLE 0 to 1 applies speed, FEC, AN and LT, or sets MODE_ERR. -/
def execPortEnable (p mode : Nat) (s : State) : Host.Outcome State Fault Refusal :=
  within (p < 96) (if barReady s then enablePort p mode s else s)

/-- PORT_DISABLE (R62): PRT_MODE.ENABLE 1 to 0 returns every queued or parked frame with code 0x04. -/
def execPortDisable (p : Nat) (s : State) : Host.Outcome State Fault Refusal :=
  within (p < 96) (if barReady s && s.on PRT_MODE_ENABLE p then disablePort p s else s)

/-- DIAG_GO (R425): Writing GO starts a register-mode lookup, or sets GO_ERR while busy. -/
def execDiagGo (ctrl : Nat) (s : State) : Host.Outcome State Fault Refusal :=
  ok (if barReady s then diagGo ctrl s else s)

/-- DIAG_LOOKUP_DONE (R425): A register-mode lookup ends; result registers change together and READY sets. -/
def execDiagLookupDone (s : State) : Host.Outcome State Fault Refusal :=
  ok (diagDone s)

/-- CNT_SEL_WRITE (R486): A counter selection write keeps the value and counts the new event from the second cycle. -/
def execCntSelWrite (b k v : Nat) (s : State) : Host.Outcome State Fault Refusal :=
  within (b < 22 && k < 8) (if barReady s then writeSelection b k v s else s)

end Sys2Proof.Machine
end

