-- ==== Sys2Proof/Machine/SmbusRows.lean ====
section
/-! DEFINITION. The SMBus commands (Table 17.9). -/

namespace Sys2Proof.Machine

/-- SMBUS_STATUS (R450): SMBus block read of alarm, attention, fence, black-box and pair status. -/
def execSmbusStatus (s : State) : Host.Outcome State Fault Refusal :=
  ok (smbusStatus s)

/-- SMBUS_FAULT_READ (R428): SMBus read of a fault source record. -/
def execSmbusFaultRead (idx : Nat) (s : State) : Host.Outcome State Fault Refusal :=
  within (idx < 512) (smbusFault idx s)

/-- BB_READ_BLOCK (R448): SMBus read of 224 bytes of a black-box buffer. -/
def execBbReadBlock (b off : Nat) (s : State) : Host.Outcome State Fault Refusal :=
  within (b < 2 && off < 524800) (smbusAnswer (bbRead s b off 224) s)

/-- BB_FREEZE (R447): SMBus command that freezes the live black-box buffer. -/
def execBbFreeze (byte : Nat) (s : State) : Host.Outcome State Fault Refusal :=
  ok (bbFreeze causeSmbus (smbusNote 0x04 byte s))

/-- BB_RELEASE (R447): SMBus command that frees a closed black-box buffer. -/
def execBbRelease (b : Nat) (s : State) : Host.Outcome State Fault Refusal :=
  ok ((fun s => if b < 2 then bbRelease b s else s) (smbusNote 0x05 b s))

/-- SMBUS_FENCE (R434): Unauthenticated SMBus fence of a unit, gates closed within 1 µs. -/
def execSmbusFence (u : Nat) (s : State) : Host.Outcome State Fault Refusal :=
  ok ((fun s => if u < 20 then fenceUnit u 8 s else s) (smbusNote 0x10 u s))

/-- SMBUS_QUIET (R63): SMBus quiet of a port transmitter. -/
def execSmbusQuiet (p : Nat) (s : State) : Host.Outcome State Fault Refusal :=
  ok ((fun s => if p < 96 then quietPort p s else s) (smbusNote 0x11 p s))

/-- SMBUS_UNQUIET (R63): SMBus release of a quieted port. -/
def execSmbusUnquiet (p : Nat) (s : State) : Host.Outcome State Fault Refusal :=
  ok ((fun s => if p < 96 then unquietPort p s else s) (smbusNote 0x12 p s))

/-- QUARTER_RESET (R449): SMBus reset of one quarter, left fenced and resting. -/
def execQuarterReset (q : Nat) (s : State) : Host.Outcome State Fault Refusal :=
  ok ((fun s => if q < 5 then resetUnit q 8 s else s) (smbusNote 0x13 q s))

/-- RESET_ARM (R450): Arms an SMBus device reset for 100 ms. -/
def execResetArm (byte : Nat) (s : State) : Host.Outcome State Fault Refusal :=
  ok (smbusArm byte s)

/-- SMBUS_DEVICE_RESET (R450): Full device reset over SMBus when armed within 100 ms. -/
def execSmbusDeviceReset (byte : Nat) (s : State) : Host.Outcome State Fault Refusal :=
  ok (smbusReset byte s)

/-- RESET_ARM_EXPIRY (R450): The 100 ms window of an SMBus reset arm ends. -/
def execResetArmExpiry (s : State) : Host.Outcome State Fault Refusal :=
  ok (armExpires s)

end Sys2Proof.Machine
end

