-- ==== Sys2Proof/Machine/SpillRows.lean ====
section
/-! DEFINITION. Spill and the park area (chapter 10). -/

namespace Sys2Proof.Machine

/-- SEGMENT_WRITE (R249): A queue's assembly is written out as a 64 KiB spill segment. -/
def execSegmentWrite (q : Nat) (s : State) : Host.Outcome State Fault Refusal :=
  within (q < 784) (segmentWrite q s)

/-- ASM_FLUSH_EXPIRY (R249): An assembly has held its oldest cell for ASM_FLUSH_NS and is written as a segment. -/
def execAsmFlushExpiry (q : Nat) (s : State) : Host.Outcome State Fault Refusal :=
  within (q < 784) (asmFlush q s)

/-- SEGMENT_WRITE_ACK (R249): A segment write is acknowledged and the assembly cells are freed. n: the segment. -/
def execSegmentWriteAck (q n : Nat) (s : State) : Host.Outcome State Fault Refusal :=
  within (q < 784) (ackSegment q n s)

/-- READ_BACK (R251): The oldest segment of a spilling queue is read back when its head falls below HEAD_LOW. -/
def execReadBack (q : Nat) (s : State) : Host.Outcome State Fault Refusal :=
  within (q < 784) (readBack q s)

/-- READ_BACK_LAND (R251): A read-back lands and its cells are linked behind the head. -/
def execReadBackLand (q : Nat) (s : State) : Host.Outcome State Fault Refusal :=
  within (q < 784) (landReadBack q s)

/-- MC_DIRECT_READ (R252): A non-carrier multicast copy is sent by a direct read of its cells in HBM. -/
def execMcDirectRead (q : Nat) (s : State) : Host.Outcome State Fault Refusal :=
  within (q < 784) (mcDirectRead q s)

/-- QUEUE_PARK (R255): One queue of a port whose hold expired is moved to the park area. -/
def execQueuePark (p : Nat) (s : State) : Host.Outcome State Fault Refusal :=
  within (p < 96) (parkNext p s)

end Sys2Proof.Machine
end

