-- ==== Sys2Proof/Machine/StreamCommands.lean ====
section
/-! DEFINITION. The commands of express streams, stream gates and gate lists (R15, R272 to R277, R284 to R286), and of ports and
parked queues (R59, R63). -/

namespace Sys2Proof.Machine

/-! ### Express streams (R15, R272 to R274, R276) -/

/-- Reserved bits of a stream entry that must be zero (Table 11.1, R8), and TAGS 3, which is reserved. -/
def streamReserved (e : Nat) : Bool :=
  [(15, 11), (31, 28), (47, 44), (127, 112), (191, 190), (207, 206), (239, 232), (383, 312)].any (fun r => bitsOf e r.1 r.2 != 0) ||
    bitsOf e 10 9 == 3

/-- Two entries could hit on one frame (R272): their keys agree, an entry for any ingress port agreeing with every port. -/
def streamsClash (a b : Nat) : Bool :=
  (streamKey a).2 == (streamKey b).2 && ((streamKey a).1 == (streamKey b).1 || (streamKey a).1 == 128 || (streamKey b).1 == 128)

/-- The valid entries of the stream table beside handle h. -/
def otherStreams (s : State) (h : Nat) : List Nat :=
  ((s.xpr.streams.filter (fun x => x.1 != h && bitOf x.2.entry 0)).map (fun x => x.2.entry))

/-- An egress port that an entry may not name, or not with its frame length (R274). -/
def egressBad (s : State) (e p : Nat) : Bool :=
  96 ≤ p || !(portOf s p).enabled || inGroup s p || (bitOf e 180 && maxLen s p < streamSdu e + 10)

/-- Sequence recovery that differs from another entry's of the same instance (R274). -/
def recoveryDiffers (a b : Nat) : Bool :=
  bitOf a 182 && bitOf b 182 && bitsOf a 205 192 == bitsOf b 205 192 &&
    (bitsOf a 189 183 != bitsOf b 189 183 || bitsOf a 255 240 != bitsOf b 255 240)

/-- The committed rates of the valid streams of port p, with entry e among them, exceed 30 % of its configured rate (R15). -/
def overCommitted (s : State) (h e p : Nat) : Bool :=
  let rates := ((e :: otherStreams s h).filter (fun x => (streamEgress x).contains p)).map (fun x => bitsOf x 287 256)
  3 * rateOfSpeed (s.get PRT_MODE_SPEED p) < 10 * rates.sum

/-- An argument error of a valid entry e for handle h (R272, R274). -/
def streamArg (s : State) (h e : Nat) : Bool :=
  (otherStreams s h).any (fun b => streamsClash e b || recoveryDiffers e b) ||
    (streamEgress e).any (egressBad s e) || (bitOf e 180 && streamSdu e == 0)

/-- XPR_STREAM_VALID follows the table. -/
def streamStat (s : State) : State :=
  s.setReg XPR_STREAM_VALID (BitVec.ofNat 64 (s.xpr.streams.filter (fun x => bitOf x.2.entry 0)).length)

/-- STREAM_WRITE (R15, R274): a rewrite keeps generator, recovery and tokens; one with VALID = 0 clears them. -/
def streamWrite (obj h : Nat) (s : State) : Answer :=
  withObject obj (fun bs s =>
    let e := leNat bs
    if 16384 ≤ h || bs.length != 48 || streamReserved e then failed 1 s
    else if !bitOf e 0 then
      let x := streamOf s h
      let s := if bitOf x.entry 182 then { s with xpr := { s.xpr with recovery := Store.erase s.xpr.recovery (bitsOf x.entry 205 192) } } else s
      ok_ (streamStat (setStream h { x with entry := e, seq := 0, tokens := 0 } s))
    else if streamArg s h e then failed 1 s
    else if (streamEgress e).any (overCommitted s h e) then failed 2 s
    else ok_ (streamStat (setStream h { streamOf s h with entry := e } s))) s

/-- STREAM_READ (R273, R275): the entry in 48 bytes, then the frames passed and refused at stages 1 to 6 in 8 bytes each. -/
def streamRead (c : Cmd) (h addr : Nat) (s : State) : Answer :=
  if 16384 ≤ h then failed 1 s
  else
    let x := streamOf s h
    giveResult c addr 0 (leBytes 48 x.entry ++ (streamCount.padCounts x.counts).flatMap (leBytes 8)) 0 s

/-- STREAM_UNBLOCK (R276). -/
def streamUnblock (h : Nat) (s : State) : Answer :=
  if 16384 ≤ h then failed 1 s else ok_ (setStream h { streamOf s h with blocked := false } s)

/-! ### Stream gates (R277) -/

/-- A list that a commit accepts (R277, R284): length, cycle time, base and entries. -/
def listOk (most : Nat) (base : Stamp) (cycle : Nat) (l : List Nat) (good : Nat → Bool) : Bool :=
  1 ≤ l.length && l.length ≤ most && 1000 ≤ cycle && cycle ≤ 1000000000 && base.ns < nsPerSec && l.all good

/-- SGATE_WRITE (R277): entries of 4 bytes, base and cycle time, and enable; while a change is pending, an in-use error. -/
def sgateWrite (obj i sec ns cycle : Nat) (enable : Bool) (s : State) : Answer :=
  withObject obj (fun bs s =>
    let l := numbersOf bs 0 4 (bs.length / 4)
    if 256 ≤ i || bs.length % 4 != 0 || l.any (fun e => bitsOf e 31 25 != 0) || nsPerSec ≤ ns then failed 1 s
    else
      let g := Store.getD s.xpr.gates i ⟨none, none, none⟩
      if g.pend.isSome then failed 4 s
      else
        let g := { g with admin := some ⟨l, stampNs ⟨sec, ns⟩, cycle, enable, 0, false⟩ }
        ok_ { s with xpr := { s.xpr with gates := Store.set s.xpr.gates i g } }) s

/-- SGATE_COMMIT (R277, R284, R285). -/
def sgateCommit (i : Nat) (s : State) : Answer :=
  match Store.get? s.xpr.gates i with
  | none => failed 1 s
  | some g =>
    match g.admin with
    | none => failed 1 s
    | some a =>
      if !listOk 64 (nsStamp a.base) a.cycle a.entries (fun e => 32 ≤ bitsOf e 23 0) then failed 1 s
      else
        let b := listStart a.base a.cycle s.nowNs
        let g := { g with pend := some { a with start := b.1, past := b.2 } }
        ok_ { s with xpr := { s.xpr with gates := Store.set s.xpr.gates i g } }

/-! ### Gate control lists (R284 to R286, R291) -/

/-- The admin entries of a port within its length. -/
def adminEntries (s : State) (p : Nat) : List Nat := (List.range (s.get SCH_GCL_CFG_ADMIN_LEN p)).map (fun i => s.num SCH_GCL_ADMIN p i)

/-- The TIME from t on at which one list first opens a gate of WAKE_MASK, the list being in force from t; none where it opens none within
two cycles. -/
def opensAt (s : State) (p : Nat) (g : Option GateList) : Nat → Nat → Option Nat
  | 0, _ => none
  | n + 1, t =>
    match g with
    | none => some t
    | some l =>
      if !l.enable then some t
      else
        let off := cycleOffset l t
        let e := entryAt l.entries 0 0 off l.cycle
        if opensBulk s p e.2.2 then some t else opensAt s p g n (t + (e.2.1 - off))

/-- Steps within which two cycles of a list pass. -/
def opensFuel : Nat := 2056

/-- A committed change whose start would open a bulk window earlier than the plan foresaw (R291). -/
def opensEarlier (s : State) (p : Nat) (g : GateList) : Bool :=
  match opensAt s p (some g) opensFuel g.start with
  | none => false
  | some b => match opensAt s p (Store.get? s.egr.gcl p) opensFuel s.nowNs with | none => true | some a => b < a

/-- The start of a list as its registers report it (R285). -/
def putStart (p : Nat) (t : Stamp) (s : State) : State := (s.put SCH_GCL_START_NS_START_NS t.ns p).put SCH_GCL_START_S_START_S t.sec p

/-- GCL_COMMIT (R284, R285): the checked admin copy becomes the pending change. -/
def gclCommit (p : Nat) (s : State) : Answer :=
  let base : Stamp := ⟨s.get SCH_GCL_BASE_S_BASE_S p, s.get SCH_GCL_BASE_NS_BASE_NS p⟩
  let cycle := s.get SCH_GCL_CFG_ADMIN_CYCLE_NS p
  let len := s.get SCH_GCL_CFG_ADMIN_LEN p
  if 96 ≤ p || 1024 < len || !listOk 1024 base cycle (adminEntries s p) (fun e => 32 ≤ gateInterval e && gateOp e ≤ 2) then failed 1 s
  else
    let b := listStart (stampNs base) cycle s.nowNs
    let g : GateList := ⟨adminEntries s p, stampNs base, cycle, s.on SCH_GCL_CFG_ADMIN_EN p, b.1, b.2⟩
    let early := opensEarlier s p g
    let s := { s with egr := { s.egr with gclPend := Store.set s.egr.gclPend p g } }
    let s := putStart p (nsStamp b.1) ((s.put SCH_GCL_STAT_PENDING 1 p).flag SCH_GCL_STAT_PAST_BASE b.2 p)
    ok_ (if early then endQuiet p s else s)

/-- GCL_CANCEL (R284): the pending change is discarded; the start shown is the last list's again. -/
def gclCancel (p : Nat) (s : State) : Answer :=
  if 96 ≤ p then failed 1 s
  else if (Store.get? s.egr.gclPend p).isNone then ok_ s
  else
    let t := match Store.get? s.egr.gcl p with | none => 0 | some g => g.start
    let s := { s with egr := { s.egr with gclPend := Store.erase s.egr.gclPend p } }
    ok_ (putStart p (nsStamp t) (s.put SCH_GCL_STAT_PENDING 0 p))

/-- GCL_STATUS (R286, Table 16.2): SCH_GCL_STAT in a staged object, and STEPPED is cleared. -/
def gclStatus (c : Cmd) (p : Nat) (s : State) : Answer :=
  if 96 ≤ p then failed 1 s
  else
    match giveResult c 0 0 (leBytes 8 (s.num SCH_GCL_STAT p)) 0 s with
    | .done r t => if r.status = 0 then .done r (t.put SCH_GCL_STAT_STEPPED 0 p) else .done r t
    | a => a

/-! ### Ports and parked queues (R59, R63) -/

/-- PORT_QUIET. -/
def portQuiet (p : Nat) (s : State) : Answer := if 96 ≤ p then failed 1 s else ok_ (quietPort p s)

/-- PORT_UNQUIET. -/
def portUnquiet (p : Nat) (s : State) : Answer := if 96 ≤ p then failed 1 s else ok_ (unquietPort p s)

/-- A command on a parked queue: RESULT is the number of its frames. -/
def onParked (q : Nat) (f : State → State) (s : State) : Answer :=
  if 768 ≤ q then failed 1 s
  else if !(queueOf s q).parked then failed 3 s
  else okWith (queueCopies (queueOf s q)).length (parkedStat (q / 8) (f s))

/-- PARK_RELEASE (R59): into the queue of the same number of port p; to the queue's own port only once its link is up. -/
def parkRelease (q p : Nat) (s : State) : Answer :=
  if 96 ≤ p then failed 1 s
  else if q / 8 = p && !s.on PRT_STATUS_LINK_UP p then failed 3 s
  else onParked q (releasePark q (8 * p + q % 8)) s

/-- PARK_RETURN (R59): every frame is returned with code 0x02. -/
def parkReturn (q : Nat) (s : State) : Answer := onParked q (returnQueue 0x02 q) s

/-- A frame discarded with acknowledgement (R21): the TXC entry of a DIRECT frame has status 1. -/
def discardCopy (c : Copy) (s : State) : State :=
  let tx := match frameOf s c.frame with | none => none | some x => x.tx
  dropCopy c.frame (txOutcome tx 1 s.now s)

/-- PARK_DISCARD (R59): the frames are discarded and counted in RESULT. -/
def parkDiscard (q : Nat) (s : State) : Answer :=
  onParked q (fun s => (queueCopies (queueOf s q)).foldl (fun s c => discardCopy c s) (takeQueue q s)) s

end Sys2Proof.Machine
end

