-- ==== Sys2Proof/Machine/StreamRows.lean ====
section
/-! DEFINITION. The commands of express streams, gate lists, ports and parked queues (chapters 3 and 11). -/

namespace Sys2Proof.Machine

/-- STREAM_WRITE (R274): Writes an express stream entry in all three replicas at one XP edge. -/
def execStreamWrite (c : Cmd) (obj h : Nat) (s : State) : Host.Outcome State Fault Refusal :=
  within (c.ring < 4) (command c 0x0600 false (fun s => streamWrite obj h s) s)

/-- STREAM_READ (R273): Returns an express stream entry and its per-stream counts. -/
def execStreamRead (c : Cmd) (h addr : Nat) (s : State) : Host.Outcome State Fault Refusal :=
  within (c.ring < 4) (command c 0x0601 true (fun s => streamRead c h addr s) s)

/-- STREAM_UNBLOCK (R276): Unblocks a stream blocked for an oversize frame. -/
def execStreamUnblock (c : Cmd) (h : Nat) (s : State) : Host.Outcome State Fault Refusal :=
  within (c.ring < 4) (command c 0x0602 false (fun s => streamUnblock h s) s)

/-- SGATE_WRITE (R277): Writes the admin list of a stream gate instance. -/
def execSgateWrite (c : Cmd) (obj idx sec ns cycle : Nat) (enable : Bool) (s : State) : Host.Outcome State Fault Refusal :=
  within (c.ring < 4) (command c 0x0603 false (fun s => sgateWrite obj idx sec ns cycle enable s) s)

/-- SGATE_COMMIT (R277): Validates a stream gate admin list and schedules it to become operational. -/
def execSgateCommit (c : Cmd) (idx : Nat) (s : State) : Host.Outcome State Fault Refusal :=
  within (c.ring < 4) (command c 0x0604 false (fun s => sgateCommit idx s) s)

/-- GCL_COMMIT (R284): Checks the port's admin gate list, computes its start and latches it as the pending change. -/
def execGclCommit (c : Cmd) (p : Nat) (s : State) : Host.Outcome State Fault Refusal :=
  within (c.ring < 4) (command c 0x0605 false (fun s => gclCommit p s) s)

/-- GCL_CANCEL (R284): Discards the pending gate list change. -/
def execGclCancel (c : Cmd) (p : Nat) (s : State) : Host.Outcome State Fault Refusal :=
  within (c.ring < 4) (command c 0x0606 false (fun s => gclCancel p s) s)

/-- GCL_STATUS (R286): Returns SCH_GCL_STAT and then clears STEPPED. -/
def execGclStatus (c : Cmd) (p : Nat) (s : State) : Host.Outcome State Fault Refusal :=
  within (c.ring < 4) (command c 0x0607 false (fun s => gclStatus c p s) s)

/-- PORT_QUIET (R63): Brings a port's transmitter to electrical idle within 1 µs and treats its queues as under link down. -/
def execPortQuiet (c : Cmd) (p : Nat) (s : State) : Host.Outcome State Fault Refusal :=
  within (c.ring < 4) (command c 0x0700 false (fun s => portQuiet p s) s)

/-- PORT_UNQUIET (R63): Releases a quieted port and restarts auto-negotiation and training. -/
def execPortUnquiet (c : Cmd) (p : Nat) (s : State) : Host.Outcome State Fault Refusal :=
  within (c.ring < 4) (command c 0x0701 false (fun s => portUnquiet p s) s)

/-- PARK_RELEASE (R59): Links a parked queue into the same-numbered queue of a target port. q: the parked queue, 8 × port + number; p: the
target port. -/
def execParkRelease (c : Cmd) (q p : Nat) (s : State) : Host.Outcome State Fault Refusal :=
  within (c.ring < 4) (command c 0x0702 false (fun s => parkRelease q p s) s)

/-- PARK_RETURN (R59): Returns every frame of a parked queue on the EXC ring with code 0x02. -/
def execParkReturn (c : Cmd) (q : Nat) (s : State) : Host.Outcome State Fault Refusal :=
  within (c.ring < 4) (command c 0x0703 false (fun s => parkReturn q s) s)

/-- PARK_DISCARD (R59): Discards a parked queue's frames with acknowledgement and counts them. -/
def execParkDiscard (c : Cmd) (q : Nat) (s : State) : Host.Outcome State Fault Refusal :=
  within (c.ring < 4) (command c 0x0704 false (fun s => parkDiscard q s) s)

end Sys2Proof.Machine
end

