-- ==== Sys2Proof/Machine/TimeRows.lean ====
section
/-! DEFINITION. The time base, rest and wake, clocks and ageing (chapters 12 and 18). -/

namespace Sys2Proof.Machine

/-- TIME_TICK (R293): The clock advances by its increment at each TIME tick. n ticks. -/
def execTimeTick (n : Nat) (s : State) : Host.Outcome State Fault Refusal :=
  ok (timeTicks n (monitorTicks n s))

/-- PPS_PULSE_END (R307): The PPS_WIDTH_US of a 1PPS pulse ends. -/
def execPpsPulseEnd (s : State) : Host.Outcome State Fault Refusal :=
  ok (ppsEnd s)

/-- TEMP_RATE_END (R293): The temporary rate count reaches zero and INCR applies again. -/
def execTempRateEnd (s : State) : Host.Outcome State Fault Refusal :=
  ok (tempEnd s)

/-- SERVO_WATCHDOG_EXPIRY (R300): The servo watchdog reaches WD_MS and the clock enters HOLDOVER with reason 1. -/
def execServoWatchdogExpiry (s : State) : Host.Outcome State Fault Refusal :=
  ok (watchdogExpires s)

/-- REF_LOST (R302): The reference clock fails; PLLs hold and TIM_STAT.REF_LOST is set. -/
def execRefLost (s : State) : Host.Outcome State Fault Refusal :=
  ok (refLost s)

/-- REF_RETURN (R39): The reference meets its requirements for 1 ms and PLLs pull back without phase step. -/
def execRefReturn (s : State) : Host.Outcome State Fault Refusal :=
  ok (refReturns s)

/-- PLL_UNLOCK (R453): A PLL loses lock and its fault reaction applies. -/
def execPllUnlock (p : Nat) (s : State) : Host.Outcome State Fault Refusal :=
  within (p < 4) (pllUnlock p s)

/-- PIN_CAPTURE (R308): A selected edge on a capture pin stores its TIME and posts a capture event. edge: 0 rising, 1 falling. -/
def execPinCapture (k edge : Nat) (s : State) : Host.Outcome State Fault Refusal :=
  within (k < 5 && edge < 2) (pinCapture k edge s)

/-- PIN_PULSE (R309): A pin output pulse starts at its scheduled TIME. -/
def execPinPulse (k : Nat) (s : State) : Host.Outcome State Fault Refusal :=
  within (k < 5) (pinPulse k s)

/-- PIN_PULSE_WIDTH_END (R306): A TT pin output pulse reaches WIDTH_NS and the pin returns to its inactive level. -/
def execPinPulseWidthEnd (k : Nat) (s : State) : Host.Outcome State Fault Refusal :=
  within (k < 5) (pulseEnd k s)

/-- TIME_WAKE_FIRE (R310): A timed wake's request time arrives and the quarter is sent a wake request. -/
def execTimeWakeFire (q : Nat) (s : State) : Host.Outcome State Fault Refusal :=
  within (q < 5) (wakeFires q s)

/-- UNIT_WAKE_REQUEST (R455): A wake request reaches a resting unit and its wake sequence starts. -/
def execUnitWakeRequest (u : Nat) (s : State) : Host.Outcome State Fault Refusal :=
  within (u < 17) (wakeUnit u s)

/-- WAKE_COMPLETE (R455): A waking unit serves again 2.0 µs after its wake request. -/
def execWakeComplete (u : Nat) (s : State) : Host.Outcome State Fault Refusal :=
  within (u < 17) (wakeDone u s)

/-- REST_REQUEST (R456): A rest request puts an empty unit to rest or is deferred. -/
def execRestRequest (u : Nat) (s : State) : Host.Outcome State Fault Refusal :=
  within (u < 17) (restRequest u s)

/-- IDLE_REST_EXPIRY (R456): An auto-rest cluster or channel has been empty for IDLE_US and requests rest. -/
def execIdleRestExpiry (u : Nat) (s : State) : Host.Outcome State Fault Refusal :=
  within (u < 17) (idleRest u s)

/-- WAKE_FAIL (R44): A quarter's wake does not complete and a failed-wake fault is raised. -/
def execWakeFail (q : Nat) (s : State) : Host.Outcome State Fault Refusal :=
  within (q < 5) (wakeFails q s)

/-- AGE_MEASUREMENT (R464): The periodic ageing measurement of all monitors runs. readings: reading and drift in mV by monitor; lanes: lane,
eye height, eye height after re-adaptation. -/
def execAgeMeasurement (readings : List (Nat × Int)) (lanes : List (Nat × Nat × Nat)) (s : State) : Host.Outcome State Fault Refusal :=
  ok (periodicMeasure readings lanes s)

/-- SETPOINT_STEP (R466): An adaptive rail set point moves by one 5 mV step. acked: the AVSBus transaction went through. -/
def execSetpointStep (r : Nat) (acked : Bool) (s : State) : Host.Outcome State Fault Refusal :=
  within (r < 2) (setpointStep r acked s)

/-- AVS_LINK_RETRY (R505): A failed AVSBus transaction is retried every 1 ms. -/
def execAvsLinkRetry (r : Nat) (acked : Bool) (s : State) : Host.Outcome State Fault Refusal :=
  within (r < 2) (avsRetry r acked s)

/-- HOUR_COUNT (R467): Each 3600 s of AON time PWR_HOURS counts one hour. -/
def execHourCount (s : State) : Host.Outcome State Fault Refusal :=
  ok (hourPasses s)

/-- POWER_ESTIMATE_UPDATE (R459): Every 1 ms the on-die power estimate PWR_ISLAND_W_k of each rail is updated. -/
def execPowerEstimateUpdate (w0 w1 w2 : Nat) (s : State) : Host.Outcome State Fault Refusal :=
  ok (powerEstimate w0 w1 w2 s)

end Sys2Proof.Machine
end

