-- ==== Sys2Proof/Machine/Dispatch.lean ====
section
/-! DEFINITION. The meaning of a command: one arm per constructor of Instr, each a direct call of its meaning. -/

namespace Sys2Proof.Machine

/-- The effect of a command on everything but the queue of waiting commands. -/
def exec (i : Instr) (s : State) : Host.Outcome State Fault Refusal :=
  match i with
  | .ascIdGet c => Sys2Proof.Machine.execAscIdGet c s
  | .ascEnroll c obj sigOk => Sys2Proof.Machine.execAscEnroll c obj sigOk s
  | .ascSessionOpen c obj sigOk certOk => Sys2Proof.Machine.execAscSessionOpen c obj sigOk certOk s
  | .ascSessionClose c ident => Sys2Proof.Machine.execAscSessionClose c ident s
  | .ascStage c bytes addr => Sys2Proof.Machine.execAscStage c bytes addr s
  | .ascStageRead c obj addr => Sys2Proof.Machine.execAscStageRead c obj addr s
  | .ascStageFree c obj => Sys2Proof.Machine.execAscStageFree c obj s
  | .ascReceiptRead c ident addr => Sys2Proof.Machine.execAscReceiptRead c ident addr s
  | .ascOpRotate c obj sigOk => Sys2Proof.Machine.execAscOpRotate c obj sigOk s
  | .ascMinVerSet c kind ver => Sys2Proof.Machine.execAscMinVerSet c kind ver s
  | .ascRegWrite c off v mask => Sys2Proof.Machine.execAscRegWrite c off v mask s
  | .macsecSaInstall c p chan dir an sci pn ssci obj tagOk => Sys2Proof.Machine.execMacsecSaInstall c p chan dir an sci pn ssci obj tagOk s
  | .macsecSaDelete c p chan dir an => Sys2Proof.Machine.execMacsecSaDelete c p chan dir an s
  | .macsecPortSet c p en bypass off => Sys2Proof.Machine.execMacsecPortSet c p en bypass off s
  | .parserLoad c obj states rows sigOk => Sys2Proof.Machine.execParserLoad c obj states rows sigOk s
  | .rulesetCommit c => Sys2Proof.Machine.execRulesetCommit c s
  | .tcamInsert c obj target => Sys2Proof.Machine.execTcamInsert c obj target s
  | .tcamDelete c h => Sys2Proof.Machine.execTcamDelete c h s
  | .tcamUpdate c obj h => Sys2Proof.Machine.execTcamUpdate c obj h s
  | .tcamRead c h addr => Sys2Proof.Machine.execTcamRead c h addr s
  | .actionWrite c obj idx => Sys2Proof.Machine.execActionWrite c obj idx s
  | .patLoad c obj starts sigOk => Sys2Proof.Machine.execPatLoad c obj starts sigOk s
  | .patFree c n => Sys2Proof.Machine.execPatFree c n s
  | .hashGroupSet c g fields seed size symmetric failover => Sys2Proof.Machine.execHashGroupSet c g fields seed size symmetric failover s
  | .indirWrite c obj g first => Sys2Proof.Machine.execIndirWrite c obj g first s
  | .indirCommit c g => Sys2Proof.Machine.execIndirCommit c g s
  | .xprByteclassWrite c k v cls => Sys2Proof.Machine.execXprByteclassWrite c k v cls s
  | .xprTcamCommit c => Sys2Proof.Machine.execXprTcamCommit c s
  | .l2Add c fid mac port => Sys2Proof.Machine.execL2Add c fid mac port s
  | .l2Del c fid mac => Sys2Proof.Machine.execL2Del c fid mac s
  | .l2Flush c fid port static => Sys2Proof.Machine.execL2Flush c fid port static s
  | .l2Read c q fid mac addr => Sys2Proof.Machine.execL2Read c q fid mac addr s
  | .emAdd c kind r v nh => Sys2Proof.Machine.execEmAdd c kind r v nh s
  | .emDel c kind r v => Sys2Proof.Machine.execEmDel c kind r v s
  | .routeAdd c r six len v nh => Sys2Proof.Machine.execRouteAdd c r six len v nh s
  | .routeDel c r six len v => Sys2Proof.Machine.execRouteDel c r six len v s
  | .rtWrite c r f4 f6 toHost => Sys2Proof.Machine.execRtWrite c r f4 f6 toHost s
  | .rtFree c r => Sys2Proof.Machine.execRtFree c r s
  | .vrfMapWrite c v r => Sys2Proof.Machine.execVrfMapWrite c v r s
  | .vlanWrite c vid fid vrf rmac routing flood => Sys2Proof.Machine.execVlanWrite c vid fid vrf rmac routing flood s
  | .nhWrite c idx e => Sys2Proof.Machine.execNhWrite c idx e s
  | .tableRehash c t mask => Sys2Proof.Machine.execTableRehash c t mask s
  | .mcastWrite c obj g => Sys2Proof.Machine.execMcastWrite c obj g s
  | .rmacWrite c idx mac valid => Sys2Proof.Machine.execRmacWrite c idx mac valid s
  | .flowRead c key addr => Sys2Proof.Machine.execFlowRead c key addr s
  | .flowDelete c key => Sys2Proof.Machine.execFlowDelete c key s
  | .flowFlush c profile => Sys2Proof.Machine.execFlowFlush c profile s
  | .flowReprofile c old new => Sys2Proof.Machine.execFlowReprofile c old new s
  | .flowRekey c => Sys2Proof.Machine.execFlowRekey c s
  | .profileWrite c obj n => Sys2Proof.Machine.execProfileWrite c obj n s
  | .profileCommit c => Sys2Proof.Machine.execProfileCommit c s
  | .otMapWrite c obj m => Sys2Proof.Machine.execOtMapWrite c obj m s
  | .natPoolWrite c obj n => Sys2Proof.Machine.execNatPoolWrite c obj n s
  | .natPoolRead c n addr => Sys2Proof.Machine.execNatPoolRead c n addr s
  | .lbServiceWrite c n seed size => Sys2Proof.Machine.execLbServiceWrite c n seed size s
  | .lbIndirWrite c obj n first => Sys2Proof.Machine.execLbIndirWrite c obj n first s
  | .lbIndirCommit c n => Sys2Proof.Machine.execLbIndirCommit c n s
  | .lbMemberWrite c obj n => Sys2Proof.Machine.execLbMemberWrite c obj n s
  | .lbMemberRead c n addr => Sys2Proof.Machine.execLbMemberRead c n addr s
  | .progLoad c obj sigOk => Sys2Proof.Machine.execProgLoad c obj sigOk s
  | .progUnload c slot => Sys2Proof.Machine.execProgUnload c slot s
  | .taskPost c prog arg key => Sys2Proof.Machine.execTaskPost c prog arg key s
  | .taskCancel c n => Sys2Proof.Machine.execTaskCancel c n s
  | .bankOwnSet c b owner => Sys2Proof.Machine.execBankOwnSet c b owner s
  | .bankRead c b off => Sys2Proof.Machine.execBankRead c b off s
  | .streamWrite c obj h => Sys2Proof.Machine.execStreamWrite c obj h s
  | .streamRead c h addr => Sys2Proof.Machine.execStreamRead c h addr s
  | .streamUnblock c h => Sys2Proof.Machine.execStreamUnblock c h s
  | .sgateWrite c obj idx sec ns cycle enable => Sys2Proof.Machine.execSgateWrite c obj idx sec ns cycle enable s
  | .sgateCommit c idx => Sys2Proof.Machine.execSgateCommit c idx s
  | .gclCommit c p => Sys2Proof.Machine.execGclCommit c p s
  | .gclCancel c p => Sys2Proof.Machine.execGclCancel c p s
  | .gclStatus c p => Sys2Proof.Machine.execGclStatus c p s
  | .portQuiet c p => Sys2Proof.Machine.execPortQuiet c p s
  | .portUnquiet c p => Sys2Proof.Machine.execPortUnquiet c p s
  | .parkRelease c q p => Sys2Proof.Machine.execParkRelease c q p s
  | .parkReturn c q => Sys2Proof.Machine.execParkReturn c q s
  | .parkDiscard c q => Sys2Proof.Machine.execParkDiscard c q s
  | .timeSessionOpen c => Sys2Proof.Machine.execTimeSessionOpen c s
  | .timeStep c mode offset sec ns => Sys2Proof.Machine.execTimeStep c mode offset sec ns s
  | .timeAdj c incr temp ticks => Sys2Proof.Machine.execTimeAdj c incr temp ticks s
  | .timeSessionClose c => Sys2Proof.Machine.execTimeSessionClose c s
  | .timePinSet c k mode edge pol evt adj width ns sec period => Sys2Proof.Machine.execTimePinSet c k mode edge pol evt adj width ns sec period s
  | .timeWake c q sec ns => Sys2Proof.Machine.execTimeWake c q sec ns s
  | .memInit c spill park firkin task mirror dimms => Sys2Proof.Machine.execMemInit c spill park firkin task mirror dimms s
  | .memRetrain c k => Sys2Proof.Machine.execMemRetrain c k s
  | .memSpeed c k bin => Sys2Proof.Machine.execMemSpeed c k bin s
  | .memHbmReintegrate c st passed => Sys2Proof.Machine.execMemHbmReintegrate c st passed s
  | .varPairSetup c fp port da => Sys2Proof.Machine.execVarPairSetup c fp port da s
  | .varPairDissolve c => Sys2Proof.Machine.execVarPairDissolve c s
  | .varSolo c => Sys2Proof.Machine.execVarSolo c s
  | .faultSet c idx sev fence alarm handover => Sys2Proof.Machine.execFaultSet c idx sev fence alarm handover s
  | .faultClear c n bb => Sys2Proof.Machine.execFaultClear c n bb s
  | .faultInject c kind u tick => Sys2Proof.Machine.execFaultInject c kind u tick s
  | .fence c u => Sys2Proof.Machine.execFence c u s
  | .reintegrate c u back pass => Sys2Proof.Machine.execReintegrate c u back pass s
  | .unitReset c u => Sys2Proof.Machine.execUnitReset c u s
  | .deviceReset c => Sys2Proof.Machine.execDeviceReset c s
  | .bbRead c b first n addr => Sys2Proof.Machine.execBbRead c b first n addr s
  | .hksPatchLoad c obj sigOk check => Sys2Proof.Machine.execHksPatchLoad c obj sigOk check s
  | .hksStatus c addr => Sys2Proof.Machine.execHksStatus c addr s
  | .cntRead c ids addr => Sys2Proof.Machine.execCntRead c ids addr s
  | .cntSnapshot c ids addr => Sys2Proof.Machine.execCntSnapshot c ids addr s
  | .cntClear c obj n => Sys2Proof.Machine.execCntClear c obj n s
  | .unitRest c u => Sys2Proof.Machine.execUnitRest c u s
  | .unitWake c u => Sys2Proof.Machine.execUnitWake c u s
  | .ageMeasure c readings => Sys2Proof.Machine.execAgeMeasure c readings s
  | .marginReplan c readings lanes => Sys2Proof.Machine.execMarginReplan c readings lanes s
  | .diagLookup c table quarter key addr => Sys2Proof.Machine.execDiagLookup c table quarter key addr s
  | .undefinedOpcode c op => Sys2Proof.Machine.execUndefinedOpcode c op s
  | .smbusStatus => Sys2Proof.Machine.execSmbusStatus s
  | .smbusFaultRead idx => Sys2Proof.Machine.execSmbusFaultRead idx s
  | .bbReadBlock b off => Sys2Proof.Machine.execBbReadBlock b off s
  | .bbFreeze byte => Sys2Proof.Machine.execBbFreeze byte s
  | .bbRelease b => Sys2Proof.Machine.execBbRelease b s
  | .smbusFence u => Sys2Proof.Machine.execSmbusFence u s
  | .smbusQuiet p => Sys2Proof.Machine.execSmbusQuiet p s
  | .smbusUnquiet p => Sys2Proof.Machine.execSmbusUnquiet p s
  | .quarterReset q => Sys2Proof.Machine.execQuarterReset q s
  | .resetArm byte => Sys2Proof.Machine.execResetArm byte s
  | .smbusDeviceReset byte => Sys2Proof.Machine.execSmbusDeviceReset byte s
  | .resetArmExpiry => Sys2Proof.Machine.execResetArmExpiry s
  | .fAdd n d a b => Sys2Proof.Machine.execFAdd n d a b s
  | .fSub n d a b => Sys2Proof.Machine.execFSub n d a b s
  | .fAnd n d a b => Sys2Proof.Machine.execFAnd n d a b s
  | .fOr n d a b => Sys2Proof.Machine.execFOr n d a b s
  | .fXor n d a b => Sys2Proof.Machine.execFXor n d a b s
  | .fShl n d a b => Sys2Proof.Machine.execFShl n d a b s
  | .fShr n d a b => Sys2Proof.Machine.execFShr n d a b s
  | .fSar n d a b => Sys2Proof.Machine.execFSar n d a b s
  | .fRotl n d a b => Sys2Proof.Machine.execFRotl n d a b s
  | .fMul n d a b => Sys2Proof.Machine.execFMul n d a b s
  | .fMinu n d a b => Sys2Proof.Machine.execFMinu n d a b s
  | .fMaxu n d a b => Sys2Proof.Machine.execFMaxu n d a b s
  | .fSltu n d a b => Sys2Proof.Machine.execFSltu n d a b s
  | .fSlt n d a b => Sys2Proof.Machine.execFSlt n d a b s
  | .fAddi n d a imm => Sys2Proof.Machine.execFAddi n d a imm s
  | .fAndi n d a imm => Sys2Proof.Machine.execFAndi n d a imm s
  | .fOri n d a imm => Sys2Proof.Machine.execFOri n d a imm s
  | .fXori n d a imm => Sys2Proof.Machine.execFXori n d a imm s
  | .fShli n d a imm => Sys2Proof.Machine.execFShli n d a imm s
  | .fShri n d a imm => Sys2Proof.Machine.execFShri n d a imm s
  | .fSari n d a imm => Sys2Proof.Machine.execFSari n d a imm s
  | .fRotli n d a imm => Sys2Proof.Machine.execFRotli n d a imm s
  | .fLi n d imm => Sys2Proof.Machine.execFLi n d imm s
  | .fOrh n d a imm => Sys2Proof.Machine.execFOrh n d a imm s
  | .fRotb n d a imm => Sys2Proof.Machine.execFRotb n d a imm s
  | .fCrcw n d a b => Sys2Proof.Machine.execFCrcw n d a b s
  | .fLd n d a space size off => Sys2Proof.Machine.execFLd n d a space size off s
  | .fSt n d a space size off => Sys2Proof.Machine.execFSt n d a space size off s
  | .fBr n a b cond dist => Sys2Proof.Machine.execFBr n a b cond dist s
  | .fCsrr n d a k => Sys2Proof.Machine.execFCsrr n d a k s
  | .fCsrw n d a k => Sys2Proof.Machine.execFCsrw n d a k s
  | .fBwait n d a k timeout => Sys2Proof.Machine.execFBwait n d a k timeout s
  | .fNote n d a k => Sys2Proof.Machine.execFNote n d a k s
  | .fTarm n d a k => Sys2Proof.Machine.execFTarm n d a k s
  | .fEnd n result => Sys2Proof.Machine.execFEnd n result s
  | .hksMicroword w err => Sys2Proof.Machine.execHksMicroword w err s
  | .hksMemResponse k idx bytes inProgress inserted => Sys2Proof.Machine.execHksMemResponse k idx bytes inProgress inserted s
  | .microTrap => Sys2Proof.Machine.execMicroTrap s
  | .trapFrameRestore => Sys2Proof.Machine.execTrapFrameRestore s
  | .hksRoutineRequest r cancel => Sys2Proof.Machine.execHksRoutineRequest r cancel s
  | .hksRoundRobinYield => Sys2Proof.Machine.execHksRoundRobinYield s
  | .hksAbandon => Sys2Proof.Machine.execHksAbandon s
  | .hksRoutineLate => Sys2Proof.Machine.execHksRoutineLate s
  | .bar0AccessDiscarded bar2 off n read => Sys2Proof.Machine.execBar0AccessDiscarded bar2 off n read s
  | .bar0LowWordRead req off n => Sys2Proof.Machine.execBar0LowWordRead req off n s
  | .registerWrite off n v => Sys2Proof.Machine.execRegisterWrite off n v s
  | .doorbell r v => Sys2Proof.Machine.execDoorbell r v s
  | .ringEnable r cfg => Sys2Proof.Machine.execRingEnable r cfg s
  | .ringDisable r => Sys2Proof.Machine.execRingDisable r s
  | .portEnable p mode => Sys2Proof.Machine.execPortEnable p mode s
  | .portDisable p => Sys2Proof.Machine.execPortDisable p s
  | .diagGo ctrl => Sys2Proof.Machine.execDiagGo ctrl s
  | .diagLookupDone => Sys2Proof.Machine.execDiagLookupDone s
  | .cntSelWrite b k v => Sys2Proof.Machine.execCntSelWrite b k v s
  | .cmdFetch r entry found => Sys2Proof.Machine.execCmdFetch r entry found s
  | .partnerJournalAck r idx => Sys2Proof.Machine.execPartnerJournalAck r idx s
  | .commandExecute ring => Sys2Proof.Machine.execCommandExecute ring s
  | .commandCommit ring cseq status detail result => Sys2Proof.Machine.execCommandCommit ring cseq status detail result s
  | .completionWrite ring => Sys2Proof.Machine.execCompletionWrite ring s
  | .ciWriteBack r => Sys2Proof.Machine.execCiWriteBack r s
  | .pktTxFetch r d frame => Sys2Proof.Machine.execPktTxFetch r d frame s
  | .pktTxDirectLink r => Sys2Proof.Machine.execPktTxDirectLink r s
  | .pktTxPipelineHandover r => Sys2Proof.Machine.execPktTxPipelineHandover r s
  | .txcWrite r => Sys2Proof.Machine.execTxcWrite r s
  | .pktRxWrite k => Sys2Proof.Machine.execPktRxWrite k s
  | .excWrite => Sys2Proof.Machine.execExcWrite s
  | .tlmWrite => Sys2Proof.Machine.execTlmWrite s
  | .eventPost => Sys2Proof.Machine.execEventPost s
  | .msiXMessage r => Sys2Proof.Machine.execMsiXMessage r s
  | .modUsExpiry r => Sys2Proof.Machine.execModUsExpiry r s
  | .functionLevelReset linkLost => Sys2Proof.Machine.execFunctionLevelReset linkLost s
  | .pcieLinkTraining speed width => Sys2Proof.Machine.execPcieLinkTraining speed width s
  | .pktTxLostReport => Sys2Proof.Machine.execPktTxLostReport s
  | .frameArrival p bytes ended good => Sys2Proof.Machine.execFrameArrival p bytes ended good s
  | .pfcRefresh p idx => Sys2Proof.Machine.execPfcRefresh p idx s
  | .frameEndArrival express f rest good => Sys2Proof.Machine.execFrameEndArrival express f rest good s
  | .headerDescriptorDispatch f => Sys2Proof.Machine.execHeaderDescriptorDispatch f s
  | .quarterPass q => Sys2Proof.Machine.execQuarterPass q s
  | .recirculation q => Sys2Proof.Machine.execRecirculation q s
  | .patternInspection q ue => Sys2Proof.Machine.execPatternInspection q ue s
  | .descriptorRelease q => Sys2Proof.Machine.execDescriptorRelease q s
  | .flowLookup => Sys2Proof.Machine.execFlowLookup s
  | .pendingFetchComplete idx => Sys2Proof.Machine.execPendingFetchComplete idx s
  | .missTimeout idx => Sys2Proof.Machine.execMissTimeout idx s
  | .tunInsertion => Sys2Proof.Machine.execTunInsertion s
  | .writeThroughLand => Sys2Proof.Machine.execWriteThroughLand s
  | .writeBack => Sys2Proof.Machine.execWriteBack s
  | .demotion key => Sys2Proof.Machine.execDemotion key s
  | .tunSweep => Sys2Proof.Machine.execTunSweep s
  | .idleDeletion key => Sys2Proof.Machine.execIdleDeletion key s
  | .strictAck idx => Sys2Proof.Machine.execStrictAck idx s
  | .telemetryExport key reason => Sys2Proof.Machine.execTelemetryExport key reason s
  | .exportMessage => Sys2Proof.Machine.execExportMessage s
  | .templateResend => Sys2Proof.Machine.execTemplateResend s
  | .telemetryEpoch => Sys2Proof.Machine.execTelemetryEpoch s
  | .natPortReuse idx => Sys2Proof.Machine.execNatPortReuse idx s
  | .taskDispatch n => Sys2Proof.Machine.execTaskDispatch n s
  | .taskSpillRefill c l => Sys2Proof.Machine.execTaskSpillRefill c l s
  | .taskQueueSpace idx => Sys2Proof.Machine.execTaskQueueSpace idx s
  | .taskTimeFault n => Sys2Proof.Machine.execTaskTimeFault n s
  | .taskFault n => Sys2Proof.Machine.execTaskFault n s
  | .timerFire idx => Sys2Proof.Machine.execTimerFire idx s
  | .clusterLoss c => Sys2Proof.Machine.execClusterLoss c s
  | .programVersionDrain => Sys2Proof.Machine.execProgramVersionDrain s
  | .segmentWrite q => Sys2Proof.Machine.execSegmentWrite q s
  | .asmFlushExpiry q => Sys2Proof.Machine.execAsmFlushExpiry q s
  | .segmentWriteAck q n => Sys2Proof.Machine.execSegmentWriteAck q n s
  | .readBack q => Sys2Proof.Machine.execReadBack q s
  | .readBackLand q => Sys2Proof.Machine.execReadBackLand q s
  | .mcDirectRead q => Sys2Proof.Machine.execMcDirectRead q s
  | .queuePark p => Sys2Proof.Machine.execQueuePark p s
  | .expressDecision p bytes ended good dissent => Sys2Proof.Machine.execExpressDecision p bytes ended good dissent s
  | .recoveryReset r => Sys2Proof.Machine.execRecoveryReset r s
  | .cellTime => Sys2Proof.Machine.execCellTime s
  | .expressOversize ident => Sys2Proof.Machine.execExpressOversize ident s
  | .expressDeadline ident e => Sys2Proof.Machine.execExpressDeadline ident e s
  | .egressFrameStart p => Sys2Proof.Machine.execEgressFrameStart p s
  | .egressFrameEnd p => Sys2Proof.Machine.execEgressFrameEnd p s
  | .preemption p => Sys2Proof.Machine.execPreemption p s
  | .shaperUpdate => Sys2Proof.Machine.execShaperUpdate s
  | .pauseReceived p pfc times => Sys2Proof.Machine.execPauseReceived p pfc times s
  | .pauseExpiry p t => Sys2Proof.Machine.execPauseExpiry p t s
  | .launchTime p t => Sys2Proof.Machine.execLaunchTime p t s
  | .gateEntryChange p => Sys2Proof.Machine.execGateEntryChange p s
  | .setAndHoldMac p => Sys2Proof.Machine.execSetAndHoldMac p s
  | .setAndReleaseMac p => Sys2Proof.Machine.execSetAndReleaseMac p s
  | .gclListStart p => Sys2Proof.Machine.execGclListStart p s
  | .sgateListStart idx => Sys2Proof.Machine.execSgateListStart idx s
  | .quietPeriodStart p => Sys2Proof.Machine.execQuietPeriodStart p s
  | .plannedWake p => Sys2Proof.Machine.execPlannedWake p s
  | .linkDown p seen => Sys2Proof.Machine.execLinkDown p seen s
  | .linkUp x => Sys2Proof.Machine.execLinkUp x s
  | .holdTimeExpiry p => Sys2Proof.Machine.execHoldTimeExpiry p s
  | .learnNotice q => Sys2Proof.Machine.execLearnNotice q s
  | .l2Age q => Sys2Proof.Machine.execL2Age q s
  | .tcamStep q stolen => Sys2Proof.Machine.execTcamStep q stolen s
  | .tcamScrub x upset => Sys2Proof.Machine.execTcamScrub x upset s
  | .expressTcamStep => Sys2Proof.Machine.execExpressTcamStep s
  | .commitTick ring => Sys2Proof.Machine.execCommitTick ring s
  | .rulesetSwapComplete => Sys2Proof.Machine.execRulesetSwapComplete s
  | .profileDrainComplete => Sys2Proof.Machine.execProfileDrainComplete s
  | .cuckooInsertion t q key data => Sys2Proof.Machine.execCuckooInsertion t q key data s
  | .timeTick n => Sys2Proof.Machine.execTimeTick n s
  | .ppsPulseEnd => Sys2Proof.Machine.execPpsPulseEnd s
  | .tempRateEnd => Sys2Proof.Machine.execTempRateEnd s
  | .servoWatchdogExpiry => Sys2Proof.Machine.execServoWatchdogExpiry s
  | .refLost => Sys2Proof.Machine.execRefLost s
  | .refReturn => Sys2Proof.Machine.execRefReturn s
  | .pllUnlock p => Sys2Proof.Machine.execPllUnlock p s
  | .pinCapture k edge => Sys2Proof.Machine.execPinCapture k edge s
  | .pinPulse k => Sys2Proof.Machine.execPinPulse k s
  | .timeWakeFire q => Sys2Proof.Machine.execTimeWakeFire q s
  | .unitWakeRequest u => Sys2Proof.Machine.execUnitWakeRequest u s
  | .wakeComplete u => Sys2Proof.Machine.execWakeComplete u s
  | .restRequest u => Sys2Proof.Machine.execRestRequest u s
  | .idleRestExpiry u => Sys2Proof.Machine.execIdleRestExpiry u s
  | .wakeFail q => Sys2Proof.Machine.execWakeFail q s
  | .faultOccurrence src detail value => Sys2Proof.Machine.execFaultOccurrence src detail value s
  | .attnPulseEnd => Sys2Proof.Machine.execAttnPulseEnd s
  | .freeze cause => Sys2Proof.Machine.execFreeze cause s
  | .postFreezeEnd => Sys2Proof.Machine.execPostFreezeEnd s
  | .bbSealComplete b => Sys2Proof.Machine.execBbSealComplete b s
  | .bbEpoch => Sys2Proof.Machine.execBbEpoch s
  | .qtrTakeover q passed => Sys2Proof.Machine.execQtrTakeover q passed s
  | .quarterFailure q idx => Sys2Proof.Machine.execQuarterFailure q idx s
  | .spareBankCopy a => Sys2Proof.Machine.execSpareBankCopy a s
  | .spareCopyComplete a => Sys2Proof.Machine.execSpareCopyComplete a s
  | .injectionFire => Sys2Proof.Machine.execInjectionFire s
  | .fenceViolation u => Sys2Proof.Machine.execFenceViolation u s
  | .hbmEccError st pc ue => Sys2Proof.Machine.execHbmEccError st pc ue s
  | .pcFailed st pc => Sys2Proof.Machine.execPcFailed st pc s
  | .ddrEccError k ue dev sc bg ba rank row col => Sys2Proof.Machine.execDdrEccError k ue dev sc bg ba rank row col s
  | .patrolScrub m n last => Sys2Proof.Machine.execPatrolScrub m n last s
  | .refresh k bank overdue => Sys2Proof.Machine.execRefresh k bank overdue s
  | .dimmTempRead k t => Sys2Proof.Machine.execDimmTempRead k t s
  | .memoryRequestIssue m waiting => Sys2Proof.Machine.execMemoryRequestIssue m waiting s
  | .zqCalibration k rank begins => Sys2Proof.Machine.execZqCalibration k rank begins s
  | .oscillatorReading k rank begins eye => Sys2Proof.Machine.execOscillatorReading k rank begins eye s
  | .trainingPassComplete k passed eye => Sys2Proof.Machine.execTrainingPassComplete k passed eye s
  | .resilver k => Sys2Proof.Machine.execResilver k s
  | .channelFenced k => Sys2Proof.Machine.execChannelFenced k s
  | .binChangeApply k => Sys2Proof.Machine.execBinChangeApply k s
  | .ageMeasurement readings lanes => Sys2Proof.Machine.execAgeMeasurement readings lanes s
  | .setpointStep r acked => Sys2Proof.Machine.execSetpointStep r acked s
  | .avsLinkRetry r acked => Sys2Proof.Machine.execAvsLinkRetry r acked s
  | .hourCount => Sys2Proof.Machine.execHourCount s
  | .resetN => Sys2Proof.Machine.execResetN s
  | .startupStage n valid copyB ver words matches_ => Sys2Proof.Machine.execStartupStage n valid copyB ver words matches_ s
  | .journalReplay ring => Sys2Proof.Machine.execJournalReplay ring s
  | .coreReset byCommand => Sys2Proof.Machine.execCoreReset byCommand s
  | .railFall r => Sys2Proof.Machine.execRailFall r s
  | .railReturn r => Sys2Proof.Machine.execRailReturn r s
  | .tempCrit t => Sys2Proof.Machine.execTempCrit t s
  | .healthKickMissed d => Sys2Proof.Machine.execHealthKickMissed d s
  | .failSilentCessation => Sys2Proof.Machine.execFailSilentCessation s
  | .laneFrameHeader k block header => Sys2Proof.Machine.execLaneFrameHeader k block header s
  | .laneDefect k code n => Sys2Proof.Machine.execLaneDefect k code n s
  | .rdiReceived k on => Sys2Proof.Machine.execRdiReceived k on s
  | .laneRejoin k => Sys2Proof.Machine.execLaneRejoin k s
  | .multiframe k => Sys2Proof.Machine.execMultiframe k s
  | .containerReceive x icvOk => Sys2Proof.Machine.execContainerReceive x icvOk s
  | .containerSend x => Sys2Proof.Machine.execContainerSend x s
  | .retransmission seq => Sys2Proof.Machine.execRetransmission seq s
  | .containerKeyRoll => Sys2Proof.Machine.execContainerKeyRoll s
  | .witnessKeyRoll => Sys2Proof.Machine.execWitnessKeyRoll s
  | .heartbeat received => Sys2Proof.Machine.execHeartbeat received s
  | .witnessFrame received => Sys2Proof.Machine.execWitnessFrame received s
  | .linkSilent => Sys2Proof.Machine.execLinkSilent s
  | .witnessSilent => Sys2Proof.Machine.execWitnessSilent s
  | .linkBack => Sys2Proof.Machine.execLinkBack s
  | .pairTakeover => Sys2Proof.Machine.execPairTakeover s
  | .soloHoldExpiry => Sys2Proof.Machine.execSoloHoldExpiry s
  | .mutualAuthentication passed partner holds => Sys2Proof.Machine.execMutualAuthentication passed partner holds s
  | .bulkSync => Sys2Proof.Machine.execBulkSync s
  | .journalMsg => Sys2Proof.Machine.execJournalMsg s
  | .jdone => Sys2Proof.Machine.execJdone s
  | .createMsg => Sys2Proof.Machine.execCreateMsg s
  | .stateMsg => Sys2Proof.Machine.execStateMsg s
  | .pdata => Sys2Proof.Machine.execPdata s
  | .deleteMsg => Sys2Proof.Machine.execDeleteMsg s
  | .ckpt => Sys2Proof.Machine.execCkpt s
  | .syncrec => Sys2Proof.Machine.execSyncrec s
  | .recfetch => Sys2Proof.Machine.execRecfetch s
  | .recordMsg => Sys2Proof.Machine.execRecordMsg s
  | .drainLimitExpiry => Sys2Proof.Machine.execDrainLimitExpiry s
  | .sessionIdleExpiry n => Sys2Proof.Machine.execSessionIdleExpiry n s
  | .msiXVectorUnmask v => Sys2Proof.Machine.execMsiXVectorUnmask v s
  | .verifyTimeExpiry p => Sys2Proof.Machine.execVerifyTimeExpiry p s
  | .verifyResponseReceived p respond => Sys2Proof.Machine.execVerifyResponseReceived p respond s
  | .pinPulseWidthEnd k => Sys2Proof.Machine.execPinPulseWidthEnd k s
  | .unitResetEnd u => Sys2Proof.Machine.execUnitResetEnd u s
  | .healthKick d => Sys2Proof.Machine.execHealthKick d s
  | .powerEstimateUpdate w0 w1 w2 => Sys2Proof.Machine.execPowerEstimateUpdate w0 w1 w2 s

end Sys2Proof.Machine
end

