-- ==== Sys2Proof/WellFormed.lean ====
section
/-! DEFINITION. Well-formed commands: a command that names a CMD ring names one of the four (R411), and one that names a part of the
device (a port, a quarter, a queue, a channel, a ring, a lane, a source) names one that exists. Arguments of catalogue commands out of
their range are no matter of form: the command completes with ARG (R7). -/

namespace Sys2Proof

open Machine in
/-- Whether the device has the parts that a command names. -/
def Instr.wf : Instr → Bool
  | .ascIdGet c => c.ring < 4
  | .ascEnroll c _ _ => c.ring < 4
  | .ascSessionOpen c _ _ _ => c.ring < 4
  | .ascSessionClose c _ => c.ring < 4
  | .ascStage c _ _ => c.ring < 4
  | .ascStageRead c _ _ => c.ring < 4
  | .ascStageFree c _ => c.ring < 4
  | .ascReceiptRead c _ _ => c.ring < 4
  | .ascOpRotate c _ _ => c.ring < 4
  | .ascMinVerSet c _ _ => c.ring < 4
  | .ascRegWrite c _ _ _ => c.ring < 4
  | .macsecSaInstall c _ _ _ _ _ _ _ _ _ => c.ring < 4
  | .macsecSaDelete c _ _ _ _ => c.ring < 4
  | .macsecPortSet c _ _ _ _ => c.ring < 4
  | .parserLoad c _ _ _ _ => c.ring < 4
  | .rulesetCommit c => c.ring < 4
  | .tcamInsert c _ _ => c.ring < 4
  | .tcamDelete c _ => c.ring < 4
  | .tcamUpdate c _ _ => c.ring < 4
  | .tcamRead c _ _ => c.ring < 4
  | .actionWrite c _ _ => c.ring < 4
  | .patLoad c _ _ _ => c.ring < 4
  | .patFree c _ => c.ring < 4
  | .hashGroupSet c _ _ _ _ _ _ => c.ring < 4
  | .indirWrite c _ _ _ => c.ring < 4
  | .indirCommit c _ => c.ring < 4
  | .xprByteclassWrite c _ _ _ => c.ring < 4
  | .xprTcamCommit c => c.ring < 4
  | .l2Add c _ _ _ => c.ring < 4
  | .l2Del c _ _ => c.ring < 4
  | .l2Flush c _ _ _ => c.ring < 4
  | .l2Read c _ _ _ _ => c.ring < 4
  | .emAdd c _ _ _ _ => c.ring < 4
  | .emDel c _ _ _ => c.ring < 4
  | .routeAdd c _ _ _ _ _ => c.ring < 4
  | .routeDel c _ _ _ _ => c.ring < 4
  | .rtWrite c _ _ _ _ => c.ring < 4
  | .rtFree c _ => c.ring < 4
  | .vrfMapWrite c _ _ => c.ring < 4
  | .vlanWrite c _ _ _ _ _ _ => c.ring < 4
  | .nhWrite c _ _ => c.ring < 4
  | .tableRehash c _ _ => c.ring < 4
  | .mcastWrite c _ _ => c.ring < 4
  | .rmacWrite c _ _ _ => c.ring < 4
  | .flowRead c _ _ => c.ring < 4
  | .flowDelete c _ => c.ring < 4
  | .flowFlush c _ => c.ring < 4
  | .flowReprofile c _ _ => c.ring < 4
  | .flowRekey c => c.ring < 4
  | .profileWrite c _ _ => c.ring < 4
  | .profileCommit c => c.ring < 4
  | .otMapWrite c _ _ => c.ring < 4
  | .natPoolWrite c _ _ => c.ring < 4
  | .natPoolRead c _ _ => c.ring < 4
  | .lbServiceWrite c _ _ _ => c.ring < 4
  | .lbIndirWrite c _ _ _ => c.ring < 4
  | .lbIndirCommit c _ => c.ring < 4
  | .lbMemberWrite c _ _ => c.ring < 4
  | .lbMemberRead c _ _ => c.ring < 4
  | .progLoad c _ _ => c.ring < 4
  | .progUnload c _ => c.ring < 4
  | .taskPost c _ _ _ => c.ring < 4
  | .taskCancel c _ => c.ring < 4
  | .bankOwnSet c _ _ => c.ring < 4
  | .bankRead c _ _ => c.ring < 4
  | .streamWrite c _ _ => c.ring < 4
  | .streamRead c _ _ => c.ring < 4
  | .streamUnblock c _ => c.ring < 4
  | .sgateWrite c _ _ _ _ _ _ => c.ring < 4
  | .sgateCommit c _ => c.ring < 4
  | .gclCommit c _ => c.ring < 4
  | .gclCancel c _ => c.ring < 4
  | .gclStatus c _ => c.ring < 4
  | .portQuiet c _ => c.ring < 4
  | .portUnquiet c _ => c.ring < 4
  | .parkRelease c _ _ => c.ring < 4
  | .parkReturn c _ => c.ring < 4
  | .parkDiscard c _ => c.ring < 4
  | .timeSessionOpen c => c.ring < 4
  | .timeStep c _ _ _ _ => c.ring < 4
  | .timeAdj c _ _ _ => c.ring < 4
  | .timeSessionClose c => c.ring < 4
  | .timePinSet c _ _ _ _ _ _ _ _ _ _ => c.ring < 4
  | .timeWake c _ _ _ => c.ring < 4
  | .memInit c _ _ _ _ _ _ => c.ring < 4
  | .memRetrain c _ => c.ring < 4
  | .memSpeed c _ _ => c.ring < 4
  | .memHbmReintegrate c _ _ => c.ring < 4
  | .varPairSetup c _ _ _ => c.ring < 4
  | .varPairDissolve c => c.ring < 4
  | .varSolo c => c.ring < 4
  | .faultSet c _ _ _ _ _ => c.ring < 4
  | .faultClear c _ _ => c.ring < 4
  | .faultInject c _ _ _ => c.ring < 4
  | .fence c _ => c.ring < 4
  | .reintegrate c _ _ _ => c.ring < 4
  | .unitReset c _ => c.ring < 4
  | .deviceReset c => c.ring < 4
  | .bbRead c _ _ _ _ => c.ring < 4
  | .hksPatchLoad c _ _ _ => c.ring < 4
  | .hksStatus c _ => c.ring < 4
  | .cntRead c _ _ => c.ring < 4
  | .cntSnapshot c _ _ => c.ring < 4
  | .cntClear c _ _ => c.ring < 4
  | .unitRest c _ => c.ring < 4
  | .unitWake c _ => c.ring < 4
  | .ageMeasure c _ => c.ring < 4
  | .marginReplan c _ _ => c.ring < 4
  | .diagLookup c _ _ _ _ => c.ring < 4
  | .undefinedOpcode c op => c.ring < 4 && !opcodeDefined op
  | .smbusStatus => true
  | .smbusFaultRead idx => idx < 512
  | .bbReadBlock b off => b < 2 && off < 524800
  | .bbFreeze _ => true
  | .bbRelease _ => true
  | .smbusFence _ => true
  | .smbusQuiet _ => true
  | .smbusUnquiet _ => true
  | .quarterReset _ => true
  | .resetArm _ => true
  | .smbusDeviceReset _ => true
  | .resetArmExpiry => true
  | .fAdd n _ _ _ => n < 64
  | .fSub n _ _ _ => n < 64
  | .fAnd n _ _ _ => n < 64
  | .fOr n _ _ _ => n < 64
  | .fXor n _ _ _ => n < 64
  | .fShl n _ _ _ => n < 64
  | .fShr n _ _ _ => n < 64
  | .fSar n _ _ _ => n < 64
  | .fRotl n _ _ _ => n < 64
  | .fMul n _ _ _ => n < 64
  | .fMinu n _ _ _ => n < 64
  | .fMaxu n _ _ _ => n < 64
  | .fSltu n _ _ _ => n < 64
  | .fSlt n _ _ _ => n < 64
  | .fAddi n _ _ _ => n < 64
  | .fAndi n _ _ _ => n < 64
  | .fOri n _ _ _ => n < 64
  | .fXori n _ _ _ => n < 64
  | .fShli n _ _ _ => n < 64
  | .fShri n _ _ _ => n < 64
  | .fSari n _ _ _ => n < 64
  | .fRotli n _ _ _ => n < 64
  | .fLi n _ _ => n < 64
  | .fOrh n _ _ _ => n < 64
  | .fRotb n _ _ _ => n < 64
  | .fCrcw n _ _ _ => n < 64
  | .fLd n _ _ _ _ _ => n < 64
  | .fSt n _ _ _ _ _ => n < 64
  | .fBr n _ _ _ _ => n < 64
  | .fCsrr n _ _ _ => n < 64
  | .fCsrw n _ _ _ => n < 64
  | .fBwait n _ _ _ _ => n < 64
  | .fNote n _ _ _ => n < 64
  | .fTarm n _ _ _ => n < 64
  | .fEnd n _ => n < 64
  | .hksMicroword _ err => err < 3
  | .hksMemResponse _ _ _ _ _ => true
  | .microTrap => true
  | .trapFrameRestore => true
  | .hksRoutineRequest r _ => (routineLevel r).isSome
  | .hksRoundRobinYield => true
  | .hksAbandon => true
  | .hksRoutineLate => true
  | .bar0AccessDiscarded _ _ _ _ => true
  | .bar0LowWordRead _ _ _ => true
  | .registerWrite _ _ _ => true
  | .doorbell _ _ => true
  | .ringEnable r _ => r < 59
  | .ringDisable r => r < 59
  | .portEnable p _ => p < 96
  | .portDisable p => p < 96
  | .diagGo _ => true
  | .diagLookupDone => true
  | .cntSelWrite b k _ => b < 22 && k < 8
  | .cmdFetch r _ _ => r < 4
  | .partnerJournalAck r _ => r < 24
  | .commandExecute ring => ring < 4
  | .commandCommit ring _ _ _ _ => ring < 4
  | .completionWrite ring => ring < 4
  | .ciWriteBack r => r < 24
  | .pktTxFetch r _ _ => 8 ≤ r && r < 24
  | .pktTxDirectLink r => 8 ≤ r && r < 24
  | .pktTxPipelineHandover r => 8 ≤ r && r < 24
  | .txcWrite r => 8 ≤ r && r < 24
  | .pktRxWrite k => k < 16
  | .excWrite => true
  | .tlmWrite => true
  | .eventPost => true
  | .msiXMessage r => r < 59
  | .modUsExpiry r => r < 59
  | .functionLevelReset _ => true
  | .pcieLinkTraining _ _ => true
  | .pktTxLostReport => true
  | .frameArrival p _ _ _ => p < 96
  | .pfcRefresh p idx => p < 96 && idx < 8
  | .frameEndArrival _ _ _ _ => true
  | .headerDescriptorDispatch _ => true
  | .quarterPass q => q < 5
  | .recirculation q => q < 5
  | .patternInspection q _ => q < 5
  | .descriptorRelease q => q < 5
  | .flowLookup => true
  | .pendingFetchComplete _ => true
  | .missTimeout _ => true
  | .tunInsertion => true
  | .writeThroughLand => true
  | .writeBack => true
  | .demotion _ => true
  | .tunSweep => true
  | .idleDeletion _ => true
  | .strictAck _ => true
  | .telemetryExport _ _ => true
  | .exportMessage => true
  | .templateResend => true
  | .telemetryEpoch => true
  | .natPortReuse _ => true
  | .taskDispatch n => n < 64
  | .taskSpillRefill c l => c < 4 && l < 8
  | .taskQueueSpace _ => true
  | .taskTimeFault n => n < 64
  | .taskFault n => n < 64
  | .timerFire _ => true
  | .clusterLoss c => c < 4
  | .programVersionDrain => true
  | .segmentWrite q => q < 784
  | .asmFlushExpiry q => q < 784
  | .segmentWriteAck q _ => q < 784
  | .readBack q => q < 784
  | .readBackLand q => q < 784
  | .mcDirectRead q => q < 784
  | .queuePark p => p < 96
  | .expressDecision p _ _ _ _ => p < 96
  | .recoveryReset r => r < 16384
  | .cellTime => true
  | .expressOversize _ => true
  | .expressDeadline _ e => e < 96
  | .egressFrameStart p => p < 96
  | .egressFrameEnd p => p < 96
  | .preemption p => p < 96
  | .shaperUpdate => true
  | .pauseReceived p _ _ => p < 96
  | .pauseExpiry p t => p < 96 && t < 8
  | .launchTime p t => p < 96 && t < 8
  | .gateEntryChange p => p < 96
  | .setAndHoldMac p => p < 96
  | .setAndReleaseMac p => p < 96
  | .gclListStart p => p < 96
  | .sgateListStart idx => idx < 256
  | .quietPeriodStart p => p < 96
  | .plannedWake p => p < 96
  | .linkDown p _ => p < 96
  | .linkUp x => x.port < 96
  | .holdTimeExpiry p => p < 96
  | .learnNotice q => q < 5
  | .l2Age q => q < 5
  | .tcamStep q _ => q < 5
  | .tcamScrub x _ => x.quarter < 6 && x.replica < 3
  | .expressTcamStep => true
  | .commitTick ring => ring < 4
  | .rulesetSwapComplete => true
  | .profileDrainComplete => true
  | .cuckooInsertion t q _ _ => t < 4 && q < 5
  | .timeTick _ => true
  | .ppsPulseEnd => true
  | .tempRateEnd => true
  | .servoWatchdogExpiry => true
  | .refLost => true
  | .refReturn => true
  | .pllUnlock p => p < 4
  | .pinCapture k edge => k < 5 && edge < 2
  | .pinPulse k => k < 5
  | .timeWakeFire q => q < 5
  | .unitWakeRequest u => u < 17
  | .wakeComplete u => u < 17
  | .restRequest u => u < 17
  | .idleRestExpiry u => u < 17
  | .wakeFail q => q < 5
  | .faultOccurrence src _ _ => src < 512
  | .attnPulseEnd => true
  | .freeze cause => cause < 512 || cause = 0x1000 || cause = 0x2000
  | .postFreezeEnd => true
  | .bbSealComplete b => b < 2
  | .bbEpoch => true
  | .qtrTakeover q _ => q < 5
  | .quarterFailure q idx => q < 5 && idx < 4
  | .spareBankCopy a => a < 14
  | .spareCopyComplete a => a < 14
  | .injectionFire => true
  | .fenceViolation u => u < 20
  | .hbmEccError st pc _ => st < 2 && pc < 32
  | .pcFailed st pc => st < 2 && pc < 32
  | .ddrEccError k _ _ _ _ _ _ _ _ => k < 8
  | .patrolScrub m _ _ => m < 10
  | .refresh k _ _ => k < 8
  | .dimmTempRead k _ => k < 8
  | .memoryRequestIssue m _ => m < 72
  | .zqCalibration k _ _ => k < 8
  | .oscillatorReading k _ _ _ => k < 8
  | .trainingPassComplete k _ _ => k < 8
  | .resilver k => k < 8
  | .channelFenced k => k < 8
  | .binChangeApply k => k < 8
  | .ageMeasurement _ _ => true
  | .setpointStep r _ => r < 2
  | .avsLinkRetry r _ => r < 2
  | .hourCount => true
  | .resetN => true
  | .startupStage n _ _ _ _ _ => 1 ≤ n && n ≤ 4
  | .journalReplay ring => ring < 4
  | .coreReset _ => true
  | .railFall r => r < 11
  | .railReturn r => r < 11
  | .tempCrit _ => true
  | .healthKickMissed d => d < 3
  | .failSilentCessation => true
  | .laneFrameHeader k _ _ => k < 4
  | .laneDefect k code _ => k < 4 && 1 ≤ code && code ≤ 6
  | .rdiReceived k _ => k < 4
  | .laneRejoin k => k < 4
  | .multiframe k => k < 4
  | .containerReceive x _ => x.lane < 4
  | .containerSend x => x.lane < 4
  | .retransmission _ => true
  | .containerKeyRoll => true
  | .witnessKeyRoll => true
  | .heartbeat _ => true
  | .witnessFrame _ => true
  | .linkSilent => true
  | .witnessSilent => true
  | .linkBack => true
  | .pairTakeover => true
  | .soloHoldExpiry => true
  | .mutualAuthentication _ _ _ => true
  | .bulkSync => true
  | .journalMsg => true
  | .jdone => true
  | .createMsg => true
  | .stateMsg => true
  | .pdata => true
  | .deleteMsg => true
  | .ckpt => true
  | .syncrec => true
  | .recfetch => true
  | .recordMsg => true
  | .drainLimitExpiry => true
  | .sessionIdleExpiry n => n < 4
  | .msiXVectorUnmask v => v < 64
  | .verifyTimeExpiry p => p < 96
  | .verifyResponseReceived p _ => p < 96
  | .pinPulseWidthEnd k => k < 5
  | .unitResetEnd u => u < 17
  | .healthKick d => d < 3
  | .powerEstimateUpdate _ _ _ => true

/-- A command of the catalogue (Table 16.2): what its entry carries, its OPCODE, and whether its class is U (Table 15.4); none for an event. -/
def Instr.catalogue : Instr → Option (Cmd × Nat × Bool)
  | .ascIdGet c => some (c, 0x0100, true)
  | .ascEnroll c _ _ => some (c, 0x0101, true)
  | .ascSessionOpen c _ _ _ => some (c, 0x0102, true)
  | .ascSessionClose c _ => some (c, 0x0103, false)
  | .ascStage c _ _ => some (c, 0x0104, true)
  | .ascStageRead c _ _ => some (c, 0x0105, true)
  | .ascStageFree c _ => some (c, 0x0106, true)
  | .ascReceiptRead c _ _ => some (c, 0x0107, true)
  | .ascOpRotate c _ _ => some (c, 0x0108, false)
  | .ascMinVerSet c _ _ => some (c, 0x0109, false)
  | .ascRegWrite c _ _ _ => some (c, 0x010A, false)
  | .macsecSaInstall c _ _ _ _ _ _ _ _ _ => some (c, 0x0110, false)
  | .macsecSaDelete c _ _ _ _ => some (c, 0x0111, false)
  | .macsecPortSet c _ _ _ _ => some (c, 0x0112, false)
  | .parserLoad c _ _ _ _ => some (c, 0x0200, false)
  | .rulesetCommit c => some (c, 0x0201, false)
  | .tcamInsert c _ _ => some (c, 0x0202, false)
  | .tcamDelete c _ => some (c, 0x0203, false)
  | .tcamUpdate c _ _ => some (c, 0x0204, false)
  | .tcamRead c _ _ => some (c, 0x0205, true)
  | .actionWrite c _ _ => some (c, 0x0206, false)
  | .patLoad c _ _ _ => some (c, 0x0207, false)
  | .patFree c _ => some (c, 0x0208, false)
  | .hashGroupSet c _ _ _ _ _ _ => some (c, 0x0209, false)
  | .indirWrite c _ _ _ => some (c, 0x020A, false)
  | .indirCommit c _ => some (c, 0x020B, false)
  | .xprByteclassWrite c _ _ _ => some (c, 0x020C, false)
  | .xprTcamCommit c => some (c, 0x020D, false)
  | .l2Add c _ _ _ => some (c, 0x0300, false)
  | .l2Del c _ _ => some (c, 0x0301, false)
  | .l2Flush c _ _ _ => some (c, 0x0302, false)
  | .l2Read c _ _ _ _ => some (c, 0x0303, true)
  | .emAdd c _ _ _ _ => some (c, 0x0304, false)
  | .emDel c _ _ _ => some (c, 0x0305, false)
  | .routeAdd c _ _ _ _ _ => some (c, 0x0306, false)
  | .routeDel c _ _ _ _ => some (c, 0x0307, false)
  | .rtWrite c _ _ _ _ => some (c, 0x0308, false)
  | .rtFree c _ => some (c, 0x0309, false)
  | .vrfMapWrite c _ _ => some (c, 0x030A, false)
  | .vlanWrite c _ _ _ _ _ _ => some (c, 0x030B, false)
  | .nhWrite c _ _ => some (c, 0x030C, false)
  | .tableRehash c _ _ => some (c, 0x030D, false)
  | .mcastWrite c _ _ => some (c, 0x030E, false)
  | .rmacWrite c _ _ _ => some (c, 0x030F, false)
  | .flowRead c _ _ => some (c, 0x0400, true)
  | .flowDelete c _ => some (c, 0x0401, false)
  | .flowFlush c _ => some (c, 0x0402, false)
  | .flowReprofile c _ _ => some (c, 0x0403, false)
  | .flowRekey c => some (c, 0x0404, false)
  | .profileWrite c _ _ => some (c, 0x0405, false)
  | .profileCommit c => some (c, 0x0406, false)
  | .otMapWrite c _ _ => some (c, 0x0407, false)
  | .natPoolWrite c _ _ => some (c, 0x0408, false)
  | .natPoolRead c _ _ => some (c, 0x0409, true)
  | .lbServiceWrite c _ _ _ => some (c, 0x040A, false)
  | .lbIndirWrite c _ _ _ => some (c, 0x040B, false)
  | .lbIndirCommit c _ => some (c, 0x040C, false)
  | .lbMemberWrite c _ _ => some (c, 0x040D, false)
  | .lbMemberRead c _ _ => some (c, 0x040E, true)
  | .progLoad c _ _ => some (c, 0x0500, false)
  | .progUnload c _ => some (c, 0x0501, false)
  | .taskPost c _ _ _ => some (c, 0x0502, false)
  | .taskCancel c _ => some (c, 0x0503, false)
  | .bankOwnSet c _ _ => some (c, 0x0504, false)
  | .bankRead c _ _ => some (c, 0x0505, false)
  | .streamWrite c _ _ => some (c, 0x0600, false)
  | .streamRead c _ _ => some (c, 0x0601, true)
  | .streamUnblock c _ => some (c, 0x0602, false)
  | .sgateWrite c _ _ _ _ _ _ => some (c, 0x0603, false)
  | .sgateCommit c _ => some (c, 0x0604, false)
  | .gclCommit c _ => some (c, 0x0605, false)
  | .gclCancel c _ => some (c, 0x0606, false)
  | .gclStatus c _ => some (c, 0x0607, false)
  | .portQuiet c _ => some (c, 0x0700, false)
  | .portUnquiet c _ => some (c, 0x0701, false)
  | .parkRelease c _ _ => some (c, 0x0702, false)
  | .parkReturn c _ => some (c, 0x0703, false)
  | .parkDiscard c _ => some (c, 0x0704, false)
  | .timeSessionOpen c => some (c, 0x0800, false)
  | .timeStep c _ _ _ _ => some (c, 0x0801, false)
  | .timeAdj c _ _ _ => some (c, 0x0802, false)
  | .timeSessionClose c => some (c, 0x0803, false)
  | .timePinSet c _ _ _ _ _ _ _ _ _ _ => some (c, 0x0804, false)
  | .timeWake c _ _ _ => some (c, 0x0805, false)
  | .memInit c _ _ _ _ _ _ => some (c, 0x0900, false)
  | .memRetrain c _ => some (c, 0x0901, false)
  | .memSpeed c _ _ => some (c, 0x0902, false)
  | .memHbmReintegrate c _ _ => some (c, 0x0903, false)
  | .varPairSetup c _ _ _ => some (c, 0x0A00, false)
  | .varPairDissolve c => some (c, 0x0A01, false)
  | .varSolo c => some (c, 0x0A02, false)
  | .faultSet c _ _ _ _ _ => some (c, 0x0B00, false)
  | .faultClear c _ _ => some (c, 0x0B01, false)
  | .faultInject c _ _ _ => some (c, 0x0B02, false)
  | .fence c _ => some (c, 0x0B03, false)
  | .reintegrate c _ _ _ => some (c, 0x0B04, false)
  | .unitReset c _ => some (c, 0x0B05, false)
  | .deviceReset c => some (c.toCmd, 0x0B06, false)
  | .bbRead c _ _ _ _ => some (c, 0x0B07, true)
  | .hksPatchLoad c _ _ _ => some (c, 0x0C00, false)
  | .hksStatus c _ => some (c, 0x0C01, true)
  | .cntRead c _ _ => some (c, 0x0D00, true)
  | .cntSnapshot c _ _ => some (c, 0x0D01, true)
  | .cntClear c _ _ => some (c, 0x0D02, false)
  | .unitRest c _ => some (c, 0x0E00, false)
  | .unitWake c _ => some (c, 0x0E01, false)
  | .ageMeasure c _ => some (c, 0x0E02, false)
  | .marginReplan c _ _ => some (c, 0x0E03, false)
  | .diagLookup c _ _ _ _ => some (c, 0x0F00, true)
  | .undefinedOpcode _ _ => none
  | .smbusStatus => none
  | .smbusFaultRead _ => none
  | .bbReadBlock _ _ => none
  | .bbFreeze _ => none
  | .bbRelease _ => none
  | .smbusFence _ => none
  | .smbusQuiet _ => none
  | .smbusUnquiet _ => none
  | .quarterReset _ => none
  | .resetArm _ => none
  | .smbusDeviceReset _ => none
  | .resetArmExpiry => none
  | .fAdd _ _ _ _ => none
  | .fSub _ _ _ _ => none
  | .fAnd _ _ _ _ => none
  | .fOr _ _ _ _ => none
  | .fXor _ _ _ _ => none
  | .fShl _ _ _ _ => none
  | .fShr _ _ _ _ => none
  | .fSar _ _ _ _ => none
  | .fRotl _ _ _ _ => none
  | .fMul _ _ _ _ => none
  | .fMinu _ _ _ _ => none
  | .fMaxu _ _ _ _ => none
  | .fSltu _ _ _ _ => none
  | .fSlt _ _ _ _ => none
  | .fAddi _ _ _ _ => none
  | .fAndi _ _ _ _ => none
  | .fOri _ _ _ _ => none
  | .fXori _ _ _ _ => none
  | .fShli _ _ _ _ => none
  | .fShri _ _ _ _ => none
  | .fSari _ _ _ _ => none
  | .fRotli _ _ _ _ => none
  | .fLi _ _ _ => none
  | .fOrh _ _ _ _ => none
  | .fRotb _ _ _ _ => none
  | .fCrcw _ _ _ _ => none
  | .fLd _ _ _ _ _ _ => none
  | .fSt _ _ _ _ _ _ => none
  | .fBr _ _ _ _ _ => none
  | .fCsrr _ _ _ _ => none
  | .fCsrw _ _ _ _ => none
  | .fBwait _ _ _ _ _ => none
  | .fNote _ _ _ _ => none
  | .fTarm _ _ _ _ => none
  | .fEnd _ _ => none
  | .hksMicroword _ _ => none
  | .hksMemResponse _ _ _ _ _ => none
  | .microTrap => none
  | .trapFrameRestore => none
  | .hksRoutineRequest _ _ => none
  | .hksRoundRobinYield => none
  | .hksAbandon => none
  | .hksRoutineLate => none
  | .bar0AccessDiscarded _ _ _ _ => none
  | .bar0LowWordRead _ _ _ => none
  | .registerWrite _ _ _ => none
  | .doorbell _ _ => none
  | .ringEnable _ _ => none
  | .ringDisable _ => none
  | .portEnable _ _ => none
  | .portDisable _ => none
  | .diagGo _ => none
  | .diagLookupDone => none
  | .cntSelWrite _ _ _ => none
  | .cmdFetch _ _ _ => none
  | .partnerJournalAck _ _ => none
  | .commandExecute _ => none
  | .commandCommit _ _ _ _ _ => none
  | .completionWrite _ => none
  | .ciWriteBack _ => none
  | .pktTxFetch _ _ _ => none
  | .pktTxDirectLink _ => none
  | .pktTxPipelineHandover _ => none
  | .txcWrite _ => none
  | .pktRxWrite _ => none
  | .excWrite => none
  | .tlmWrite => none
  | .eventPost => none
  | .msiXMessage _ => none
  | .modUsExpiry _ => none
  | .functionLevelReset _ => none
  | .pcieLinkTraining _ _ => none
  | .pktTxLostReport => none
  | .frameArrival _ _ _ _ => none
  | .pfcRefresh _ _ => none
  | .frameEndArrival _ _ _ _ => none
  | .headerDescriptorDispatch _ => none
  | .quarterPass _ => none
  | .recirculation _ => none
  | .patternInspection _ _ => none
  | .descriptorRelease _ => none
  | .flowLookup => none
  | .pendingFetchComplete _ => none
  | .missTimeout _ => none
  | .tunInsertion => none
  | .writeThroughLand => none
  | .writeBack => none
  | .demotion _ => none
  | .tunSweep => none
  | .idleDeletion _ => none
  | .strictAck _ => none
  | .telemetryExport _ _ => none
  | .exportMessage => none
  | .templateResend => none
  | .telemetryEpoch => none
  | .natPortReuse _ => none
  | .taskDispatch _ => none
  | .taskSpillRefill _ _ => none
  | .taskQueueSpace _ => none
  | .taskTimeFault _ => none
  | .taskFault _ => none
  | .timerFire _ => none
  | .clusterLoss _ => none
  | .programVersionDrain => none
  | .segmentWrite _ => none
  | .asmFlushExpiry _ => none
  | .segmentWriteAck _ _ => none
  | .readBack _ => none
  | .readBackLand _ => none
  | .mcDirectRead _ => none
  | .queuePark _ => none
  | .expressDecision _ _ _ _ _ => none
  | .recoveryReset _ => none
  | .cellTime => none
  | .expressOversize _ => none
  | .expressDeadline _ _ => none
  | .egressFrameStart _ => none
  | .egressFrameEnd _ => none
  | .preemption _ => none
  | .shaperUpdate => none
  | .pauseReceived _ _ _ => none
  | .pauseExpiry _ _ => none
  | .launchTime _ _ => none
  | .gateEntryChange _ => none
  | .setAndHoldMac _ => none
  | .setAndReleaseMac _ => none
  | .gclListStart _ => none
  | .sgateListStart _ => none
  | .quietPeriodStart _ => none
  | .plannedWake _ => none
  | .linkDown _ _ => none
  | .linkUp _ => none
  | .holdTimeExpiry _ => none
  | .learnNotice _ => none
  | .l2Age _ => none
  | .tcamStep _ _ => none
  | .tcamScrub _ _ => none
  | .expressTcamStep => none
  | .commitTick _ => none
  | .rulesetSwapComplete => none
  | .profileDrainComplete => none
  | .cuckooInsertion _ _ _ _ => none
  | .timeTick _ => none
  | .ppsPulseEnd => none
  | .tempRateEnd => none
  | .servoWatchdogExpiry => none
  | .refLost => none
  | .refReturn => none
  | .pllUnlock _ => none
  | .pinCapture _ _ => none
  | .pinPulse _ => none
  | .timeWakeFire _ => none
  | .unitWakeRequest _ => none
  | .wakeComplete _ => none
  | .restRequest _ => none
  | .idleRestExpiry _ => none
  | .wakeFail _ => none
  | .faultOccurrence _ _ _ => none
  | .attnPulseEnd => none
  | .freeze _ => none
  | .postFreezeEnd => none
  | .bbSealComplete _ => none
  | .bbEpoch => none
  | .qtrTakeover _ _ => none
  | .quarterFailure _ _ => none
  | .spareBankCopy _ => none
  | .spareCopyComplete _ => none
  | .injectionFire => none
  | .fenceViolation _ => none
  | .hbmEccError _ _ _ => none
  | .pcFailed _ _ => none
  | .ddrEccError _ _ _ _ _ _ _ _ _ => none
  | .patrolScrub _ _ _ => none
  | .refresh _ _ _ => none
  | .dimmTempRead _ _ => none
  | .memoryRequestIssue _ _ => none
  | .zqCalibration _ _ _ => none
  | .oscillatorReading _ _ _ _ => none
  | .trainingPassComplete _ _ _ => none
  | .resilver _ => none
  | .channelFenced _ => none
  | .binChangeApply _ => none
  | .ageMeasurement _ _ => none
  | .setpointStep _ _ => none
  | .avsLinkRetry _ _ => none
  | .hourCount => none
  | .resetN => none
  | .startupStage _ _ _ _ _ _ => none
  | .journalReplay _ => none
  | .coreReset _ => none
  | .railFall _ => none
  | .railReturn _ => none
  | .tempCrit _ => none
  | .healthKickMissed _ => none
  | .failSilentCessation => none
  | .laneFrameHeader _ _ _ => none
  | .laneDefect _ _ _ => none
  | .rdiReceived _ _ => none
  | .laneRejoin _ => none
  | .multiframe _ => none
  | .containerReceive _ _ => none
  | .containerSend _ => none
  | .retransmission _ => none
  | .containerKeyRoll => none
  | .witnessKeyRoll => none
  | .heartbeat _ => none
  | .witnessFrame _ => none
  | .linkSilent => none
  | .witnessSilent => none
  | .linkBack => none
  | .pairTakeover => none
  | .soloHoldExpiry => none
  | .mutualAuthentication _ _ _ => none
  | .bulkSync => none
  | .journalMsg => none
  | .jdone => none
  | .createMsg => none
  | .stateMsg => none
  | .pdata => none
  | .deleteMsg => none
  | .ckpt => none
  | .syncrec => none
  | .recfetch => none
  | .recordMsg => none
  | .drainLimitExpiry => none
  | .sessionIdleExpiry _ => none
  | .msiXVectorUnmask _ => none
  | .verifyTimeExpiry _ => none
  | .verifyResponseReceived _ _ => none
  | .pinPulseWidthEnd _ => none
  | .unitResetEnd _ => none
  | .healthKick _ => none
  | .powerEstimateUpdate _ _ _ => none

end Sys2Proof
end

