-- ==== Sys2Proof/Safety.lean ====
section
/-! DEFINITION. What counts as a safe run of the block: its commands are well formed, so that no step stops, and what the fault pins show is
what the fault sources hold. -/

namespace Sys2Proof.Machine

/-- The commands that wait are well formed. -/
def State.queueWf (s : State) : Bool := s.pending.all Instr.wf

/-- The fault pins agree with the fault sources (R429, R432, R433), and no reaction to an occurrence is owed (R429). -/
def State.pinsAgree (s : State) : Prop :=
  s.on FLT_PIN_CTRL_ALARM_PIN = s.faults.pending.any (holdsAlarm s) ∧
  s.on FLT_PIN_CTRL_ATTN_PIN = (s.faults.attnPulse || s.on FLT_PIN_CTRL_ATTN_SW) ∧
  s.on FLT_PIN_CTRL_ATTN_PULSE = s.faults.attnPulse ∧
  s.faults.due = []

/-- A step that is safe: it answers a next state. -/
def safeStep (s : State) : Prop := ∃ t, step s = .next t

/-- A catalogue command that the device executes (R22, R390, R371, R8, R461): it came on one of the four CMD rings, its journal entry has
begun in its turn, it is authentic (and sealed, where its class is S), it is no replay of the failed partner's own units, its reserved fields
are zero, and the start-up stage that it needs is reached. -/
def Taken (c : Cmd) (op : Nat) (classU : Bool) (s : State) : Prop :=
  c.ring < 4 ∧ executes s c op = true ∧ rejection c classU = 0 ∧ c.partnerLocal = false ∧ c.reserved = false ∧ stageReached s (stageNeeded op) = true

/-- Core n is about to execute instruction x of its task r (R210, R227, R231): the core exists and its cluster serves, the task's next word is x,
and the task has cycles left. -/
def AboutTo (n : Nat) (x : FInstr) (r : Running) (s : State) : Prop :=
  n < 64 ∧ runningOn s n = some r ∧ serves s (5 + n / 16) = true ∧ (r.prog.words[r.pc]?).bind decodeFelric = some x ∧
    r.cycles < clamp 512 8191 (s.get FLW_TASK_CTRL_MAX_CYCLES)

end Sys2Proof.Machine
end

