-- ==== Sys2Proof/Certificates/Slice0/Obligations.lean ====
section
/-! DEFINITION. The statements for the provers. -/

open Sys2Proof Sys2Proof.Machine

/-- For every state whose queue begins with command c and goes on with rest, one step is exec of c on the state whose queue is rest; on an
empty queue a step answers the state unchanged (the model's choice: log entry 4). -/
def Obligations.StepRunsFrontCommand : Prop :=
  (∀ (s : State) (c : Instr) (rest : List Instr), s.pending = c :: rest → step s = exec c { s with pending := rest }) ∧
  (∀ s : State, s.pending = [] → step s = .next s)

/-- For every command that names existing parts of the device, and every state, exec answers a next state: no command of the manual stops the
device, and none is refused. -/
def Obligations.WellFormedCommandsComplete : Prop :=
  ∀ (i : Instr) (s : State), i.wf = true → ∃ t, exec i s = .next t

/-- For every command and state, either exec answers a next state, or the command is ill formed and exec answers the fault noSuchUnit (the
model's choice: log entry 1). -/
def Obligations.OnlyIllFormedCommandsStop : Prop :=
  ∀ (i : Instr) (s : State), (∃ t, exec i s = .next t) ∨ (i.wf = false ∧ exec i s = .fault .noSuchUnit)

/-- For every state in which the pins agree with the fault sources, if a step answers a next state, then in that state ALARM_PIN is 1 exactly
while some pending source holds ALARM_N (its ALARM bit is 1, or it was raised fatal), ATTN_PIN is 1 exactly while the attention pulse runs or
ATTN_SW is 1, ATTN_PULSE shows the pulse, and no reaction to an occurrence is owed. -/
def Obligations.PinsAgreeAfterEveryStep : Prop :=
  ∀ s t : State, s.pinsAgree → step s = .next t → t.pinsAgree

/-- Right after a full device reset no source is pending, no attention pulse runs, and both fault pins read 0. -/
def Obligations.PinsAgreeAtReset : Prop := State.reset.pinsAgree

/-- For every state, register, instance and value: the register written reads the value; a register at another BAR0 offset reads as before;
a listed order that rises still rises; and the register written with its reset value is not listed. -/
def Obligations.RegisterFileReadsBackItsWrites : Prop :=
  ∀ (s : State) (r : Reg) (v : Word64) (i j k : Nat),
    (s.setReg r v i j k).reg r i j k = v ∧
    (∀ (q : Reg) (i' j' k' : Nat), q.addr i' j' k' ≠ r.addr i j k → (s.setReg r v i j k).reg q i' j' k' = s.reg q i' j' k') ∧
    (Store.sorted s.regs = true → Store.sorted (s.setReg r v i j k).regs = true) ∧
    Store.get? (s.setReg r (BitVec.ofNat 64 (r.resetAt i j)) i j k).regs (r.addr i j k) = none

/-- For every command, outcome and state: a completion with the command's CSEQ, the outcome's RESULT, STATUS and DETAIL joins the held
completions as the last; the first journal entry of the same ring and CSEQ that is no PKT_TX descriptor leaves the journal; and the clock, the
buffer, the express path, the ports, the classification tables, the flow tables, the Felric engine, the memory controllers and the fault sources
are as they were. -/
def Obligations.CompletionLeavesTheDataPath : Prop :=
  ∀ (c : Cmd) (op : Nat) (r : Res) (s : State),
    (finish c op r s).host.completions = s.host.completions ++ [⟨c.ring, c.cseq, r.result, r.status, r.detail, c.replayed, r.object⟩] ∧
    (finish c op r s).host.journal = journalDrop (fun e => !e.tx && e.ring == c.ring && e.cseq == c.cseq) s.host.journal ∧
    (finish c op r s).time = s.time ∧ (finish c op r s).buf = s.buf ∧ (finish c op r s).xpr = s.xpr ∧ (finish c op r s).egr = s.egr ∧
    (finish c op r s).cls = s.cls ∧ (finish c op r s).flow = s.flow ∧ (finish c op r s).fel = s.fel ∧ (finish c op r s).mem = s.mem ∧
    (finish c op r s).hks = s.hks ∧ (finish c op r s).faults = s.faults ∧ (finish c op r s).power = s.power ∧
    (finish c op r s).pending = s.pending
/-- For every command of the catalogue and every state: where its entry's turn to execute has come, with a rejection (an unsealed entry of class S, or a verdict of a failed tag, a replay or
a missing privilege) exec answers the state in which the command is rejected with that reason; nothing else of the command happens. Where its turn has not come (the
journal holds no accepted entry of it that has begun: R22, R415) exec changes nothing but what a step settles. -/
def Obligations.RejectedCommandsHaveNoEffect : Prop :=
  ∀ (i : Instr) (c : Cmd) (op : Nat) (u : Bool) (s : State), i.catalogue = some (c, op, u) → c.ring < 4 →
    (executes s c op = true → rejection c u ≠ 0 → exec i s = .next (settle (rejectCommand c op (rejection c u) s))) ∧
    (executes s c op = false → exec i s = .next (settle s))

/-- For every command of the catalogue whose turn has come and that is not rejected: a replay of the failed partner's own units completes with PARTNER_LOCAL, an entry
with a non-zero reserved field with ARG, and a command whose start-up stage is not reached with STATE, and in each case nothing else of the
command happens. -/
def Obligations.RefusedFormsOnlyComplete : Prop :=
  ∀ (i : Instr) (c : Cmd) (op : Nat) (u : Bool) (s : State), i.catalogue = some (c, op, u) → c.ring < 4 → executes s c op = true → rejection c u = 0 →
    (c.partnerLocal = true → exec i s = .next (settle (finish c op (resFail 0x0C) s))) ∧
    (c.partnerLocal = false → c.reserved = true → exec i s = .next (settle (finish c op (resFail 1) s))) ∧
    (c.partnerLocal = false → c.reserved = false → stageReached s (stageNeeded op) = false →
      exec i s = .next (settle (finish c op (resFail 3) s)))

/-- For every command, opcode and state: a done answer completes the command; a waiting one adds it to the commands that wait with what its
completion needs; one that the device cannot execute is returned on the EXC ring with code 0x05 and completes with RETURNED. A result of an unsealed
command goes to the host buffer at its address; of a sealed one to a free staged object, whose number is RESULT; where none is free the command
completes with CAPACITY. -/
def Obligations.AnswersAndResults : Prop :=
  ∀ (c : Cmd) (op : Nat) (s : State),
    (∀ r : Res, conclude c op (.done r s) = finish c op r s) ∧
    (∀ result detail key : Nat, conclude c op (.wait result detail key s) =
      { s with host := { s.host with waiting := s.host.waiting ++
        [⟨c.ring, c.cseq, op, c.sealed, c.session, c.replayed, result, detail, key⟩] } }) ∧
    (conclude c op (.back s) = finish c op (resFail 0x0A)
      { s with host := { s.host with exc := s.host.exc ++ [⟨true, 0x05, c.ring, 0, s.now, c.cseq, entryOf s c.ring c.cseq⟩] } }) ∧
    (∀ (addr detail result : Nat) (bs : List Byte), c.sealed = false → giveResult c addr detail bs result s =
      .done ⟨0, detail, result, false⟩ { s with host := { s.host with buffers := Store.set s.host.buffers addr bs } }) ∧
    (∀ (addr detail result n : Nat) (bs : List Byte), c.sealed = true → freeObject s bs.length = some n →
      giveResult c addr detail bs result s = .done ⟨0, detail, n, true⟩ (setStaged n bs s)) ∧
    (∀ (addr detail result : Nat) (bs : List Byte), c.sealed = true → freeObject s bs.length = none →
      giveResult c addr detail bs result s = .done (resFail 2) s)

/-- For every state and taken command: ASC_ID_GET with a free object draws a challenge into it and notes it; ASC_ENROLL of an unenrolled device and
ASC_OP_ROTATE with a slot left, with a valid challenge and signature, burn the key (a rotation also ends the sessions); ASC_SESSION_OPEN by the
operator's key takes the free session; ASC_SESSION_CLOSE ends the sender's; ASC_STAGE, ASC_STAGE_READ and ASC_STAGE_FREE fill, return and free an
object that is not locked, and the session and staging commands that took effect at their acceptance complete with the outcome they had there (R16:
an entry accepted opens or closes its session, frees its object, or takes the object it will fill); ASC_RECEIPT_READ returns the receipts; ASC_MIN_VER_SET raises the minimum and takes one raise. Of the rest of the
state they leave what each clause says. -/
def Obligations.AscorCommandsComplete : Prop :=
  ∀ (s : State) (c : Cmd),
    (∀ n, Taken c 0x0100 true s → freeObject s 512 = some n →
      ∃ t, exec (.ascIdGet c) s = .next (settle (finish c 0x0100 ⟨0, 0, n, true⟩ t)) ∧
        t.ascor.challenge = some (freeBytes s 32, s.clock) ∧ (∃ x, stagedOf t n = some x ∧ x.bytes.length = 512) ∧
        t = { s with ascor := t.ascor, regs := t.regs, free := s.free + 32 }) ∧
    (∀ (obj : Nat) (x : StagedObj), Taken c 0x0101 true s → s.on ASC_STAT_ENROLL = false → stagedOf s obj = some x →
      challengeValid (slice x.bytes 96 32) s = true →
      ∃ t, exec (.ascEnroll c obj true) s = .next (settle (finish c 0x0101 resOk t)) ∧ t.on ASC_STAT_ENROLL = true ∧
        t.ascor = { s.ascor with opKeys := s.ascor.opKeys ++ [Config.digest (4 :: slice x.bytes 0 96)] } ∧
        t.num ASC_OP_FP = fingerprint (slice x.bytes 0 96) ∧ t = { s with ascor := t.ascor, regs := t.regs }) ∧
    (∀ (obj : Nat) (x : StagedObj) (n : Nat) (certOk : Bool), Taken c 0x0102 true s → outcomeAt s c = none → s.on ASC_STAT_ENROLL = true → stagedOf s obj = some x →
      operatorFp s = some (beField x.bytes 128 8) → freeSession s = some n →
      ∃ t, exec (.ascSessionOpen c obj true certOk) s = .next (settle (finish c 0x0102 (resWith n) t)) ∧
        Store.get? t.ascor.sessions n = some ⟨true, false, 2 ^ 11 - 1, s.freeWord.toNat % 2 ^ 32, none, none, [], s.free, s.clock⟩ ∧
        t = { s with ascor := t.ascor, regs := t.regs, free := s.free + 225 }) ∧
    (∀ x : Session, Taken c 0x0103 false s → outcomeAt s c = none → Store.get? s.ascor.sessions c.session = some x → x.opened = true →
      exec (.ascSessionClose c 0) s = .next (settle (finish c 0x0103 resOk (endSession c.session s)))) ∧
    (∀ (bytes : List Byte) (addr n : Nat), Taken c 0x0104 true s → c.sealed = false → outcomeAt s c = none →
      stageObject c bytes.length s = some n →
      stageFits s bytes.length = true → lockedBy s c.ring c.cseq n = false →
      ∃ t, exec (.ascStage c bytes addr) s = .next (settle (finish c 0x0104 (resWith n) t)) ∧
        stagedOf t n = some ⟨bytes, Config.digest bytes⟩ ∧ Store.get? t.host.buffers addr = some (beBytes 48 (Config.digest bytes)) ∧
        t = { s with ascor := t.ascor, regs := t.regs, host := t.host }) ∧
    (∀ (obj addr : Nat) (x : StagedObj), Taken c 0x0105 true s → stagedOf s obj = some x →
      exec (.ascStageRead c obj addr) s = .next (settle (conclude c 0x0105 (giveResult c addr 0 x.bytes 0 s)))) ∧
    (∀ (obj : Nat) (x : StagedObj), Taken c 0x0106 true s → outcomeAt s c = none → stagedOf s obj = some x → lockedBy s c.ring c.cseq obj = false →
      ∃ t, exec (.ascStageFree c obj) s = .next (settle (finish c 0x0106 resOk t)) ∧ stagedOf t obj = none ∧
        (∀ n, n ≠ obj → stagedOf t n = stagedOf s n) ∧ t = { s with ascor := t.ascor, regs := t.regs }) ∧
    (∀ (ident addr : Nat) (e : Nat × Session), Taken c 0x0107 true s → s.ascor.sessions.find? (fun e => e.2.ident == ident) = some e →
      exec (.ascReceiptRead c ident addr) s = .next (settle (conclude c 0x0107 (giveResult c addr 0 e.2.receipts.flatten 0 s)))) ∧
    (∀ (obj : Nat) (x : StagedObj), Taken c 0x0108 false s → s.ascor.opKeys.length < 4 → stagedOf s obj = some x →
      challengeValid (slice x.bytes 96 32) s = true →
      exec (.ascOpRotate c obj true) s = .next (settle (finish c 0x0108 resOk (endSessions (burnKey (slice x.bytes 0 96) s))))) ∧
    (∀ kind ver : Nat, Taken c 0x0109 false s → 1 ≤ kind → kind < 6 → s.get ASC_MIN_VER_MIN_VER kind < ver → ver < 2 ^ 16 →
      s.get ASC_MIN_VER_RAISES_LEFT kind ≠ 0 →
      ∃ t, exec (.ascMinVerSet c kind ver) s = .next (settle (finish c 0x0109 resOk t)) ∧ t.get ASC_MIN_VER_MIN_VER kind = ver ∧
        t.get ASC_MIN_VER_RAISES_LEFT kind = s.get ASC_MIN_VER_RAISES_LEFT kind - 1 ∧ t = { s with regs := t.regs }) ∧
    (∀ (st d r obj ident addr : Nat) (sigOk certOk : Bool) (bytes : List Byte), outcomeAt s c = some (st, d, r) →
      (Taken c 0x0102 true s → exec (.ascSessionOpen c obj sigOk certOk) s = .next (settle (finish c 0x0102 ⟨st, d, r, false⟩ s))) ∧
      (Taken c 0x0103 false s → exec (.ascSessionClose c ident) s = .next (settle (finish c 0x0103 ⟨st, d, r, false⟩ s))) ∧
      (Taken c 0x0104 true s → exec (.ascStage c bytes addr) s = .next (settle (finish c 0x0104 ⟨st, d, r, false⟩ s))) ∧
      (Taken c 0x0106 true s → exec (.ascStageFree c obj) s = .next (settle (finish c 0x0106 ⟨st, d, r, false⟩ s)))) ∧
    (∀ e : JEntry, e.verdict = 0 → headerReserved e.entry = false →
      (∀ (r : Res) (t : State), (e.opcode = 0x0102 ∧ openingOf (leField e.entry 16 4) e.sigOk e.certOk s = .done r t ∨
          e.opcode = 0x0103 ∧ closingOf (cmdOf e) (leField e.entry 16 4) s = .done r t ∨
          e.opcode = 0x0106 ∧ freeStaged (cmdOf e) (leField e.entry 16 4) s = .done r t) →
        acceptWork e s = markAccepted e (some (r.status, r.detail, r.result)) e.object t) ∧
      (∀ n, e.opcode = 0x0104 → freeObject s 0 = some n → lockedBy s e.ring e.cseq n = false →
        acceptWork e s = markAccepted e none (some n) s))

/-- For every state and taken command: ASC_REG_WRITE of a register with SG bits and no command of its own (and no pending change of its gate list) gives its masked SG bits the value, which for every register but XPR_TCAM_CFG,
HST_RING_CFG, TIM_CTRL, FLW_TLM_CTRL and PWR_HOURS is all it does;
MACSEC_SA_INSTALL into an association that is not installed, with a good key object, installs it and notes the wrap counter of the session;
MACSEC_SA_DELETE clears one; MACSEC_PORT_SET sets the three fields of its port. No other part of the state changes. A frame that starts on a protected port
takes the next packet number of the association in use and stands on the line in its protected form; encrypting secure data twice gives it back; and a
protected frame whose FCS and ICV fit moves the packet number expected next past its own. -/
def Obligations.SealedWritesAndMacsecComplete : Prop :=
  ∀ (s : State) (c : Cmd),
    (∀ (off v mask : Nat) (x : RegRef), Taken c 0x010A false s → refAt off = some x → x.reg.sg ≠ 0 → ownCommand.contains x.reg = false →
      (x.reg = SCH_GCL_ADMIN → s.on SCH_GCL_STAT_PENDING x.i = false) →
      exec (.ascRegWrite c off v mask) s = .next (settle (finish c 0x010A resOk (applySealed x (mask &&& x.reg.sg)
        ((s.num x.reg x.i x.j x.k &&& ((mask &&& x.reg.sg) ^^^ (2 ^ 64 - 1))) ||| (v &&& (mask &&& x.reg.sg))) s)))) ∧
    (∀ (x : RegRef) (m v : Nat), x.reg ≠ XPR_TCAM_CFG → x.reg ≠ HST_RING_CFG → x.reg ≠ TIM_CTRL → x.reg ≠ FLW_TLM_CTRL → x.reg ≠ PWR_HOURS →
      applySealed x m v s = s.setReg x.reg (BitVec.ofNat 64 v) x.i x.j x.k) ∧
    (∀ (p chan dir an sci pn ssci obj : Nat) (x : StagedObj) (y : Session), Taken c 0x0110 false s → saNamed p chan dir an = true →
      stagedOf s obj = some x → x.bytes.length = 72 → leField x.bytes 0 4 = 1 → Store.get? s.ascor.sessions c.session = some y →
      (∀ w, y.lastWrap = some w → w < leField x.bytes 4 8) → Store.get? s.ascor.macsec (saKey p chan dir an) = none →
      saChannels s p (chan * 2 + dir) < 64 →
      ∃ t, exec (.macsecSaInstall c p chan dir an sci pn ssci obj true) s = .next (settle (finish c 0x0110 resOk t)) ∧
        Store.get? t.ascor.macsec (saKey p chan dir an) = some ⟨sci, pn, ssci, true, s.free⟩ ∧
        Store.get? t.ascor.sessions c.session = some { y with lastWrap := some (leField x.bytes 4 8) } ∧
        t = { s with ascor := t.ascor, free := s.free + 1 }) ∧
    (∀ p chan dir an : Nat, Taken c 0x0111 false s → saNamed p chan dir an = true →
      ∃ t, exec (.macsecSaDelete c p chan dir an) s = .next (settle (finish c 0x0111 resOk t)) ∧
        Store.get? t.ascor.macsec (saKey p chan dir an) = none ∧
        (∀ k, k ≠ saKey p chan dir an → Store.get? t.ascor.macsec k = Store.get? s.ascor.macsec k) ∧ t = { s with ascor := t.ascor }) ∧
    (∀ (p off : Nat) (en bypass : Bool), Taken c 0x0112 false s → p < 96 → off < 3 →
      ∃ t, exec (.macsecPortSet c p en bypass off) s = .next (settle (finish c 0x0112 resOk t)) ∧ t.on PRT_MACSEC_CTRL_MACSEC_EN p = en ∧
        t.on PRT_MACSEC_CTRL_PTP_BYPASS p = bypass ∧ t.get PRT_MACSEC_CTRL_CONF_OFFSET p = off ∧ t = { s with regs := t.regs }) ∧
    (∀ (p k : Nat) (bs : List Byte) (a : MacsecSa), txSa s p = some (k, a) →
      (protects s p bs = true → takePn p bs s =
        (some (k, a.pn), { s with ascor := { s.ascor with macsec := Store.set s.ascor.macsec k { a with pn := a.pn + 1 } } })) ∧
      (protects s p bs = false → takePn p bs s = (none, s))) ∧
    (∀ (p k pn : Nat) (bs : List Byte) (a : MacsecSa), Store.get? s.ascor.macsec k = some a →
      onLine s p (some (k, pn)) bs = protectedFrame a (k % 4) pn (confOffset s p) bs ∧ onLine s p none bs = bs) ∧
    (∀ (key ssci pn off : Nat) (data : List Byte), secure key ssci pn off (secure key ssci pn off data) = data) ∧
    (∀ (p k pn : Nat) (a : MacsecSa), Store.get? s.ascor.macsec k = some a →
      secEnds p k pn true true s = { s with ascor := { s.ascor with macsec := Store.set s.ascor.macsec k { a with pn := max a.pn (pn + 1) } } } ∧
      secEnds p k pn true false s = secFailure p s ∧ (∀ icvOk : Bool, secEnds p k pn false icvOk s = s))
/-- For every state and taken command with operands in range: PARSER_LOAD puts its graph into the bank not in use and marks it pending;
RULESET_COMMIT, INDIR_COMMIT and XPR_TCAM_COMMIT wait for their tick; TCAM_INSERT into a group of the quarters or of the express path, TCAM_DELETE and
TCAM_UPDATE queue their steps and wait (on a table of the quarters only from BULK_READY on: before it STATE); TCAM_READ returns the entry and its place; ACTION_WRITE, HASH_GROUP_SET, INDIR_WRITE and XPR_BYTECLASS_WRITE
write their entries; PAT_LOAD takes the lowest free image and its words; PAT_FREE of an image that no entry names waits until nothing uses it. -/
def Obligations.ClassificationCommandsComplete : Prop :=
  ∀ (s : State) (c : Cmd),
    (∀ (obj states rows : Nat) (x : StagedObj), Taken c 0x0200 false s → stagedOf s obj = some x → leField x.bytes 0 2 = 3 →
      s.get ASC_MIN_VER_MIN_VER 3 ≤ leField x.bytes 2 2 → states ≤ 64 → rows ≤ 1024 → (imageBody x.bytes).length = 16 * states + 12 * rows →
      ∃ g : Graph, g = ⟨numbersOf (imageBody x.bytes) 0 16 states, numbersOf (imageBody x.bytes) (16 * states) 12 rows, leField x.bytes 2 2⟩ ∧
        exec (.parserLoad c obj states rows true) s = .next (settle (conclude c 0x0200 (okTable ((List.range 5).foldl
          (fun s q => s.put QTR_EPOCH_GRAPH_PENDING 1 q)
          { s with cls := if s.on QTR_EPOCH_GRAPH_BANK (referenceQuarter s) then { s.cls with graphA := some g } else { s.cls with graphB := some g } }))))) ∧
    (Taken c 0x0201 false s → exec (.rulesetCommit c) s = .next (settle (conclude c 0x0201 (.wait 0 (quarterMask s) 0 s)))) ∧
    (∀ (obj target h : Nat) (x : StagedObj) (plan : List (Nat × Nat) × Nat), Taken c 0x0202 false s → stagedOf s obj = some x → target < 8 → stageReached s 3 = true →
      bufferFits (groupWidth s (referenceQuarter s) target) x.bytes = true → bitOf (leField x.bytes 0 8) 0 = true →
      freeHandle (quarterOf s (referenceQuarter s)).tcam 0 0x6000 = some h →
      planInsert (Store.getD (quarterOf s (referenceQuarter s)).tcam target []) (groupSize s (referenceQuarter s) target)
        (bitsOf (leField x.bytes 0 8) 16 5) = some plan →
      exec (.tcamInsert c obj target) s = .next (settle (conclude c 0x0202 (stepsFor false (fun _ => planSteps target c.ring c.cseq plan
        (entryOfBytes (widthUnits (groupWidth s (referenceQuarter s) target)) h x.bytes)) h s)))) ∧
    (∀ (obj g h : Nat) (x : StagedObj) (plan : List (Nat × Nat) × Nat), Taken c 0x0202 false s → stagedOf s obj = some x →
      g < chainGroups (xprChain s) → bufferFits (chainWidth (xprChain s)) x.bytes = true → bitOf (leField x.bytes 0 8) 0 = true →
      freeHandle s.xpr.tcam 0x7000 0x7800 = some h →
      planInsert (Store.getD s.xpr.tcam g []) 512 (bitsOf (leField x.bytes 0 8) 16 5) = some plan →
      exec (.tcamInsert c obj (8 + g)) s = .next (settle (conclude c 0x0202 (stepsFor true (fun _ => planSteps g c.ring c.cseq plan
        (entryOfBytes (widthUnits (chainWidth (xprChain s))) h x.bytes)) h s)))) ∧
    (∀ (h : Nat) (e : Nat × Nat × TEntry), Taken c 0x0203 false s → (expressHandle h = true ∨ stageReached s 3 = true) → handleGroup (tablesOf s h) h = some e →
      exec (.tcamDelete c h) s = .next (settle (conclude c 0x0203 (handleSteps c h none s)))) ∧
    (∀ (obj h g i : Nat) (e : TEntry) (x : StagedObj), Taken c 0x0204 false s → (expressHandle h = true ∨ stageReached s 3 = true) → stagedOf s obj = some x →
      handleGroup (tablesOf s h) h = some (g, i, e) → bufferFits e.width x.bytes = true → bitsOf (leField x.bytes 0 8) 16 5 = e.prio →
      exec (.tcamUpdate c obj h) s = .next (settle (conclude c 0x0204 (handleSteps c h (some { entryOfBytes (widthUnits e.width) h x.bytes with
        ctl := withBit (entryOfBytes (widthUnits e.width) h x.bytes).ctl 0 true }) s)))) ∧
    (∀ (h addr g i : Nat) (e : TEntry), Taken c 0x0205 true s → (expressHandle h = true ∨ stageReached s 3 = true) → handleGroup (tablesOf s h) h = some (g, i, e) →
      exec (.tcamRead c h addr) s = .next (settle (conclude c 0x0205 (giveResult c addr 0 (entryBytes e ++ leBytes 4 i) 0 s)))) ∧
    (∀ obj target h addr : Nat, stageReached s 3 = false →
      (Taken c 0x0202 false s → target < 8 → exec (.tcamInsert c obj target) s = .next (settle (finish c 0x0202 (resFail 3) s))) ∧
      (Taken c 0x0203 false s → expressHandle h = false → exec (.tcamDelete c h) s = .next (settle (finish c 0x0203 (resFail 3) s))) ∧
      (Taken c 0x0204 false s → expressHandle h = false → exec (.tcamUpdate c obj h) s = .next (settle (finish c 0x0204 (resFail 3) s))) ∧
      (Taken c 0x0205 true s → expressHandle h = false → exec (.tcamRead c h addr) s = .next (settle (finish c 0x0205 (resFail 3) s)))) ∧
    (∀ (obj i : Nat) (x : StagedObj), Taken c 0x0206 false s → stagedOf s obj = some x → i < 65536 → x.bytes.length = 32 →
      bitsOf (leNat x.bytes) 88 73 ≤ 4095 → bitsOf (leNat x.bytes) 255 89 = 0 →
      exec (.actionWrite c obj i) s = .next (settle (conclude c 0x0206 (okTable
        { s with cls := { s.cls with actions := Store.put s.cls.actions i 0 (leNat x.bytes) } })))) ∧
    (∀ (obj n : Nat) (starts : List Nat) (x : StagedObj) (g : Image), Taken c 0x0207 false s → stagedOf s obj = some x →
      leField x.bytes 0 2 = 4 → s.get ASC_MIN_VER_MIN_VER 4 ≤ leField x.bytes 2 2 → (imageBody x.bytes).length % 8 = 0 →
      g = ⟨numbersOf (imageBody x.bytes) 0 8 ((imageBody x.bytes).length / 8), starts⟩ → imageGood g = true →
      g.words.length ≤ s.num QTR_PAT_FREE_WORDS (referenceQuarter s) → leastBelow (fun n => (Store.get? s.cls.images n).isNone) 64 = some n →
      exec (.patLoad c obj starts true) s = .next (settle (conclude c 0x0207 (okTableWith n
        (freeWords (-(g.words.length : Int)) { s with cls := { s.cls with images := Store.set s.cls.images n g } }))))) ∧
    (∀ (n : Nat) (g : Image), Taken c 0x0208 false s → Store.get? s.cls.images n = some g → imageNamed s n = false →
      exec (.patFree c n) s = .next (settle (conclude c 0x0208 (.wait 0 0 n s)))) ∧
    (∀ (g fields seed size : Nat) (symmetric failover : Bool), Taken c 0x0209 false s → g < 256 → fields < 2 ^ 16 → seed < 2 ^ 32 → size ≤ 12 →
      exec (.hashGroupSet c g fields seed size symmetric failover) s = .next (settle (conclude c 0x0209 (okTable
        { s with cls := { s.cls with groups := Store.set s.cls.groups g ⟨fields, seed, size, symmetric, failover⟩ } })))) ∧
    (∀ (obj g first : Nat) (x : StagedObj), Taken c 0x020A false s → stagedOf s obj = some x → g < 256 → x.bytes.length % 4 = 0 →
      first + x.bytes.length / 4 ≤ 4096 → (numbersOf x.bytes 0 4 (x.bytes.length / 4)).all memberGood = true →
      exec (.indirWrite c obj g first) s = .next (settle (conclude c 0x020A (okTable
        { s with cls := { s.cls with shadow := writeRange s.cls.shadow g first (3 * 2 ^ 16) (numbersOf x.bytes 0 4 (x.bytes.length / 4)) } })))) ∧
    (∀ g : Nat, Taken c 0x020B false s → g < 256 →
      exec (.indirCommit c g) s = .next (settle (conclude c 0x020B (.wait 0 (quarterMask s) g s)))) ∧
    (∀ k v cls : Nat, Taken c 0x020C false s → k < 32 → v < 256 → cls < 2 ^ 20 →
      exec (.xprByteclassWrite c k v cls) s = .next (settle (finish c 0x020C ⟨0, 7, 0, false⟩
        { s with xpr := { s.xpr with byteClass := Store.put s.xpr.byteClass (key2 k v) 0 cls } }))) ∧
    (Taken c 0x020D false s → exec (.xprTcamCommit c) s = .next (settle (conclude c 0x020D (.wait 0 7 0 s))))

/-- For every state and taken command with operands in range: L2_ADD that every quarter in service can place writes its static entry in each;
L2_DEL, EM_DEL and ROUTE_DEL answer 1 and take the entry out where it stands, else 0; L2_FLUSH takes the entries that it names out of every quarter and
answers the most that one lost; L2_READ returns the entry or zeros; EM_ADD and ROUTE_ADD that fit take the entry; RT_WRITE, RT_FREE, VRF_MAP_WRITE (which
waits while a rule-set commit runs), VLAN_WRITE, NH_WRITE, MCAST_WRITE and RMAC_WRITE write their entries; TABLE_REHASH whose entries all find a place
gives the tables fresh seeds. -/
def Obligations.ForwardingCommandsComplete : Prop :=
  ∀ (s : State) (c : Cmd),
    (∀ (fid mac port : Nat) (key data : List Byte), Taken c 0x0300 false s → l2Named fid mac = true → port < 96 → key = l2Key fid (beBytes 6 mac) →
      data = l2Bytes (l2Entry key port true false 7 s.freeWord.toNat) → cannotPlace s 0 key data = [] →
      exec (.l2Add c fid mac port) s = .next (settle (conclude c 0x0300
        (okTable (onLive (fun q s => (tableInsert q 0 key data s).1) s.drew))))) ∧
    (∀ fid mac : Nat, Taken c 0x0301 false s → l2Named fid mac = true →
      exec (.l2Del c fid mac) s = .next (settle (conclude c 0x0301
        (if (liveQuarters s).any (fun q => (tableLookup s q 0 (l2Key fid (beBytes 6 mac))).isSome)
          then okTableWith 1 (onLive (fun q s => tableErase q 0 (l2Key fid (beBytes 6 mac)) s) s) else okTableWith 0 s)))) ∧
    (∀ (fid port : Option Nat) (static : Bool), Taken c 0x0302 false s →
      exec (.l2Flush c fid port static) s = .next (settle (conclude c 0x0302 (okTableWith
        (((liveQuarters s).map (fun q => ((quarterOf s q).learned.slots.filter (fun e => flushes fid port static e.2)).length)).foldl max 0)
        (onLive (fun q s => setTable q 0 { (quarterOf s q).learned with
          slots := (quarterOf s q).learned.slots.filter (fun e => !flushes fid port static e.2) } s) s))))) ∧
    (∀ q fid mac addr : Nat, Taken c 0x0303 true s → q < 5 → l2Named fid mac = true →
      exec (.l2Read c q fid mac addr) s = .next (settle (conclude c 0x0303 (match l2Lookup s q (l2Key fid (beBytes 6 mac)) with
        | none => giveResult c addr 0 (zeros 32) 0 s | some e => giveResult c addr 0 (l2Bytes e) 1 s)))) ∧
    (∀ kind r v nh : Nat, Taken c 0x0304 false s → exactNamed kind r v = true → nh < 65536 →
      (tableInsert (referenceQuarter s) 1 (exactKey kind r (beBytes (exactBytes kind) v)) (leBytes 2 nh) s).2 = true →
      exec (.emAdd c kind r v nh) s = .next (settle (conclude c 0x0304 (okTable
        (tableInsert (referenceQuarter s) 1 (exactKey kind r (beBytes (exactBytes kind) v)) (leBytes 2 nh) s).1)))) ∧
    (∀ kind r v : Nat, Taken c 0x0305 false s → exactNamed kind r v = true →
      exec (.emDel c kind r v) s = .next (settle (conclude c 0x0305
        (if (tableLookup s (referenceQuarter s) 1 (exactKey kind r (beBytes (exactBytes kind) v))).isSome
          then okTableWith 1 (tableErase (referenceQuarter s) 1 (exactKey kind r (beBytes (exactBytes kind) v)) s) else okTableWith 0 s)))) ∧
    (∀ (r : Nat) (six : Bool) (len v nh : Nat) (x : CTable), Taken c 0x0306 false s → prefixNamed s r six len v = true → nh < 65536 →
      addPrefix (tablePlace s (referenceQuarter s) (prefixTable six)) r len nh (beBytes (addrBytes six) v) (instLens s r six)
        (tableOf s (referenceQuarter s) (prefixTable six)) = some x →
      exec (.routeAdd c r six len v nh) s = .next (settle (conclude c 0x0306 (okTable (setTable (referenceQuarter s) (prefixTable six) x s))))) ∧
    (∀ (r : Nat) (six : Bool) (len v : Nat) (x : Slot), Taken c 0x0307 false s → prefixNamed s r six len v = true →
      tableLookup s (referenceQuarter s) (prefixTable six) (prefixKey r len (beBytes (addrBytes six) v)) = some x → isPrefix x = true →
      exec (.routeDel c r six len v) s = .next (settle (conclude c 0x0307 (okTableWith 1 (setTable (referenceQuarter s) (prefixTable six)
        (removePrefix (tablePlace s (referenceQuarter s) (prefixTable six)) r len (beBytes (addrBytes six) v) (instLens s r six)
          (tableOf s (referenceQuarter s) (prefixTable six))) s))))) ∧
    (∀ (r : Nat) (six : Bool) (len v : Nat), Taken c 0x0307 false s → prefixNamed s r six len v = true →
      (∀ x, tableLookup s (referenceQuarter s) (prefixTable six) (prefixKey r len (beBytes (addrBytes six) v)) = some x → isPrefix x = false) →
      exec (.routeDel c r six len v) s = .next (settle (conclude c 0x0307 (okTableWith 0 s)))) ∧
    (∀ (r f4 f6 : Nat) (toHost : Bool), Taken c 0x0308 false s → r < 8192 → f4 < 2 ^ 33 → f6 < 2 ^ 129 →
      ((routeInst s r).filter4 = f4 ∧ (routeInst s r).filter6 = f6) ∨ (instHolds s r = false ∧ vrfNames s r = false) →
      exec (.rtWrite c r f4 f6 toHost) s = .next (settle (conclude c 0x0308 (okTable
        { s with cls := { s.cls with routes := Store.set s.cls.routes r ⟨f4, f6, toHost⟩ } })))) ∧
    (∀ r : Nat, Taken c 0x0309 false s → r < 8192 → vrfNames s r = false →
      exec (.rtFree c r) s = .next (settle (conclude c 0x0309 (okTable (setTable (referenceQuarter s) 3
        { s.cls.pfx6 with slots := s.cls.pfx6.slots.filter (fun e => keyInst e.2.key != r) } (setTable (referenceQuarter s) 2
        { s.cls.pfx4 with slots := s.cls.pfx4.slots.filter (fun e => keyInst e.2.key != r) } s)))))) ∧
    (∀ v r : Nat, Taken c 0x030A false s → v < 4096 → r < 8192 →
      exec (.vrfMapWrite c v r) s = .next (settle (conclude c 0x030A (if s.host.waiting.any (fun w => w.opcode == 0x0201) then .wait 0 0 (key2 v r) s
        else okTable (setVrf (!epochBit s (referenceQuarter s)) v r s))))) ∧
    (∀ (vid fid vrf rmac : Nat) (routing : Bool) (flood : Nat), Taken c 0x030B false s → vid < 4096 → fid < 4096 → vrf < 4096 → rmac < 256 →
      flood < 16384 →
      exec (.vlanWrite c vid fid vrf rmac routing flood) s = .next (settle (conclude c 0x030B (okTable
        { s with cls := { s.cls with vlans := Store.set s.cls.vlans vid ⟨fid, vrf, rmac, routing, flood⟩ } })))) ∧
    (∀ i e : Nat, Taken c 0x030C false s → i < 65536 → e < 2 ^ 128 → bitsOf e 127 89 = 0 →
      exec (.nhWrite c i e) s = .next (settle (conclude c 0x030C (okTable { s with cls := { s.cls with hops := Store.set s.cls.hops i e } })))) ∧
    (∀ (t mask : Nat) (x : State), Taken c 0x030D false s → t < 4 → (t = 0 → mask ≠ 0 ∧ mask < 32) →
      (let qs := (liveQuarters s).filter (fun q => t != 0 || bitOf mask q)
       (if t = 0 then qs else qs.take 1).foldl (fun (x : Option State) q => x.bind (rehashOne t s.freeWord.toNat q))
        (some (qs.foldl (fun s' q => s'.setReg QTR_HASH_NEW_SEED (BitVec.ofNat 64 s.freeWord.toNat) q t) s.drew)) = some x) →
      exec (.tableRehash c t mask) s = .next (settle (
        let qs := (liveQuarters s).filter (fun q => t != 0 || bitOf mask q)
        finish c 0x030D ⟨0, (qs.map (fun q => 2 ^ q)).sum, 0, false⟩
          (rehashOver t qs (qs.foldl (fun s' q => setSeeds t s.freeWord.toNat q s') x))))) ∧
    (∀ (obj g : Nat) (x : StagedObj), Taken c 0x030E false s → stagedOf s obj = some x → g < 16384 → x.bytes.length = 32 →
      bitsOf (leNat x.bytes) 103 102 = 0 → bitsOf (leNat x.bytes) 255 184 = 0 → bitsOf (leNat x.bytes) 183 176 < 16 →
      exec (.mcastWrite c obj g) s = .next (settle (conclude c 0x030E (okTable
        { s with buf := { s.buf with mcGroups := Store.set s.buf.mcGroups g (groupOfEntry (leNat x.bytes)) } })))) ∧
    (∀ (i mac : Nat) (valid : Bool), Taken c 0x030F false s → i < 256 → mac < 2 ^ 48 →
      exec (.rmacWrite c i mac valid) s = .next (settle (conclude c 0x030F (okTable
        { s with cls := { s.cls with macs := if valid then Store.set s.cls.macs i mac else Store.erase s.cls.macs i } }))))
/-- For every state and taken command with operands in range: FLOW_READ returns the record with its copies' counts, or zeros; FLOW_DELETE of a flow
whose end records find room deletes it, of an unknown one answers 0, else it waits; FLOW_FLUSH deletes the flows of a profile, and waits where one finds no
room; FLOW_REPROFILE answers how many flows changed; FLOW_REKEY outside pair states 1 to 5 and while no other runs draws the next keys, starts the routine that moves the records, and waits for its end; PROFILE_WRITE,
OT_MAP_WRITE, LB_SERVICE_WRITE and LB_INDIR_WRITE write the inactive copy; PROFILE_COMMIT and LB_INDIR_COMMIT wait for their tick; NAT_POOL_WRITE within the
16,384 addresses and LB_MEMBER_WRITE write their entries; NAT_POOL_READ and LB_MEMBER_READ return the entry and its use. -/
def Obligations.FlowCommandsComplete : Prop :=
  ∀ (s : State) (c : Cmd),
    (∀ (key : List Byte) (addr : Nat), Taken c 0x0400 true s → recordOf s (padTo 40 key) = none →
      exec (.flowRead c key addr) s = .next (settle (conclude c 0x0400 (giveResult c addr 0 (zeros 513) 0 s)))) ∧
    (∀ (key : List Byte) (addr : Nat) (f : Firkin), Taken c 0x0400 true s → recordOf s (padTo 40 key) = some f →
      exec (.flowRead c key addr) s = .next (settle (conclude c 0x0400 (giveResult c addr 0 (padTo 512 (fullRecord s (padTo 40 key)) ++
        leBytes 1 (ofBool (match tunOf s (padTo 40 key) with | none => false | some (_, x) => x.inProgress))) 1 s)))) ∧
    (∀ key : List Byte, Taken c 0x0401 false s → recordOf s (padTo 40 key) = none →
      exec (.flowDelete c key) s = .next (settle (finish c 0x0401 (resWith 0) s))) ∧
    (∀ (key : List Byte) (f : Firkin), Taken c 0x0401 false s → recordOf s (padTo 40 key) = some f →
      exec (.flowDelete c key) s = .next (settle (conclude c 0x0401 (if deletionRoom s (padTo 40 key)
        then okWith 1 (deleteFlow (padTo 40 key) (some commandReason) s) else .wait 1 0 (leNat (padTo 40 key)) s)))) ∧
    (∀ n : Nat, Taken c 0x0402 false s → n < 4096 →
      exec (.flowFlush c n) s = .next (settle (conclude c 0x0402 (if (flushSome n s).2.2 then .wait (flushSome n s).2.1 0 n (flushSome n s).1
        else okWith (flushSome n s).2.1 (flushSome n s).1)))) ∧
    (∀ old new : Nat, Taken c 0x0403 false s → old < 4096 → new < 4096 →
      exec (.flowReprofile c old new) s = .next (settle (finish c 0x0403 (resWith (reprofile old new s).2) (reprofile old new s).1))) ∧
    (Taken c 0x0404 false s → (pairState s = 0 ∨ 5 < pairState s) → s.flow.rekey = none →
      exec (.flowRekey c) s = .next (settle (conclude c 0x0404 (.wait 0 0 0
        (routineRequest 0x13 false (rekeyStart s.free128 s.drew.drew.free128 s.drew.drew.drew.drew)))))) ∧
    (Taken c 0x0404 false s → 1 ≤ pairState s → pairState s ≤ 5 → exec (.flowRekey c) s = .next (settle (finish c 0x0404 (resFail 3) s))) ∧
    (Taken c 0x0404 false s → (pairState s = 0 ∨ 5 < pairState s) → s.flow.rekey.isSome = true →
      exec (.flowRekey c) s = .next (settle (finish c 0x0404 (resFail 4) s))) ∧
    (∀ (obj n : Nat) (x : StagedObj), Taken c 0x0405 false s → stagedOf s obj = some x → n < 4096 → x.bytes.length = 32 →
      bitsOf (leNat x.bytes) 255 224 = 0 →
      (∀ p : Profile, p = leNat x.bytes → p.lb = true → p.natKind = 2 → p.sticky = true) →
      exec (.profileWrite c obj n) s = .next (settle (finish c 0x0405 resOk
        (onInactive (fun y => { y with profiles := Store.put y.profiles n 0 (leNat x.bytes) }) s)))) ∧
    (Taken c 0x0406 false s → exec (.profileCommit c) s = .next (settle (conclude c 0x0406 (.wait 0 0 0 s)))) ∧
    (∀ (obj m : Nat) (x : StagedObj), Taken c 0x0407 false s → stagedOf s obj = some x → m < 64 → x.bytes.length = 136 →
      ((numbersOf x.bytes 0 8 17).take 16).any (fun r => bitsOf r 63 36 != 0) = false →
      bitsOf ((numbersOf x.bytes 0 8 17).getD 16 0) 63 9 = 0 →
      exec (.otMapWrite c obj m) s = .next (settle (finish c 0x0407 resOk
        (onInactive (fun y => { y with otMaps := Store.set y.otMaps m (numbersOf x.bytes 0 8 17) }) s)))) ∧
    (∀ (obj n : Nat) (x : StagedObj), Taken c 0x0408 false s → stagedOf s obj = some x → n < 1024 → x.bytes.length = 32 →
      bitOf (leNat x.bytes) 3 = false → bitsOf (leNat x.bytes) 15 13 = 0 → bitsOf (leNat x.bytes) 127 80 = 0 →
      (bitOf (poolOf s n) 0 = false ∨ Store.getD s.flow.bindings n 0 = 0 ∨ withBit (leNat x.bytes) 2 false = withBit (poolOf s n) 2 false) →
      ((s.flow.pools.filter (fun e => e.1 != n)).map (fun e => poolAddrs e.2)).sum + poolAddrs (leNat x.bytes) ≤ 16384 →
      exec (.natPoolWrite c obj n) s = .next (settle (finish c 0x0408 resOk
        { s with flow := { s.flow with pools := Store.put s.flow.pools n 0 (leNat x.bytes) } }))) ∧
    (∀ n addr : Nat, Taken c 0x0409 true s → n < 1024 →
      exec (.natPoolRead c n addr) s = .next (settle (conclude c 0x0409 (giveResult c addr 0
        (leBytes 32 (poolOf s n) ++ leBytes 4 (Store.getD s.flow.bindings n 0)) 0 s)))) ∧
    (∀ n seed size : Nat, Taken c 0x040A false s → n < 1024 → seed < 2 ^ 32 → size ≤ 12 →
      exec (.lbServiceWrite c n seed size) s = .next (settle (finish c 0x040A resOk
        (onInactive (fun y => { y with services := Store.set y.services n ⟨seed, size⟩ }) s)))) ∧
    (∀ (obj n first : Nat) (x : StagedObj), Taken c 0x040B false s → stagedOf s obj = some x → n < 1024 → x.bytes.length % 2 = 0 →
      first + x.bytes.length / 2 ≤ 4096 →
      exec (.lbIndirWrite c obj n first) s = .next (settle (finish c 0x040B resOk
        (onInactive (fun y => { y with indir := writeRange y.indir n first 0xFFFF (numbersOf x.bytes 0 2 (x.bytes.length / 2)) }) s)))) ∧
    (∀ n : Nat, Taken c 0x040C false s → n < 1024 →
      exec (.lbIndirCommit c n) s = .next (settle (conclude c 0x040C (.wait 0 0 n s)))) ∧
    (∀ (obj n : Nat) (x : StagedObj), Taken c 0x040D false s → stagedOf s obj = some x → n < 65536 → x.bytes.length = 32 →
      bitOf (leNat x.bytes) 15 = false → bitsOf (leNat x.bytes) 79 72 = 0 → bitsOf (leNat x.bytes) 127 96 = 0 →
      exec (.lbMemberWrite c obj n) s = .next (settle (finish c 0x040D resOk
        { s with flow := { s.flow with members := Store.set s.flow.members n (leNat x.bytes) } }))) ∧
    (∀ n addr : Nat, Taken c 0x040E true s → n < 65536 →
      exec (.lbMemberRead c n addr) s = .next (settle (conclude c 0x040E (giveResult c addr 0 (leBytes 32 (lbMember s n) ++
        leBytes 4 (if n = 0xFFFF then 0
          else ((allKeys s).filter (fun k => match recordOf s k with | none => false | some f => f.choice == n)).length)) 0 s))))

/-- For every state and taken command with operands in range: PROG_LOAD of a valid image makes its version current, and completes at once or once no
running task uses the old one; PROG_UNLOAD of a loaded program that no profile names takes it out; TASK_POST with room answers the TASK_ID; TASK_CANCEL of
a queued posted task cancels it and of a dispatched one completes with DISPATCHED; BANK_OWN_SET sets the owner; BANK_READ returns 64 bytes. -/
def Obligations.FelricCommandsComplete : Prop :=
  ∀ (s : State) (c : Cmd),
    (∀ (obj : Nat) (x : StagedObj) (p : Prog) (t : State), Taken c 0x0500 false s → stagedOf s obj = some x → leField x.bytes 0 2 = 2 →
      s.get ASC_MIN_VER_MIN_VER 2 ≤ leField x.bytes 2 2 → progHeader s x.bytes = true →
      programOk (leField x.bytes 5 1) (numbersOf x.bytes 64 4 (leField x.bytes 6 2)) = true →
      p = ⟨leField x.bytes 2 2, leField x.bytes 5 1, leField x.bytes 8 4, numbersOf x.bytes 64 4 (leField x.bytes 6 2)⟩ →
      t = programRefs (({ s with fel := { s.fel with progs := Store.set s.fel.progs (leField x.bytes 4 1) p } } : State).put
        FLW_PROG_STAT_SLOT (leField x.bytes 4 1)) →
      exec (.progLoad c obj true) s = .next (settle (conclude c 0x0500 (if t.get FLW_PROG_STAT_OLD_REFS = 0 then ok_ t
        else .wait 0 0 (leField x.bytes 4 1) (t.put FLW_PROG_STAT_DRAINING 1))))) ∧
    (∀ (slot : Nat) (p : Prog), Taken c 0x0501 false s → slot ≠ 0 → Store.get? s.fel.progs slot = some p → profileNames s.flow.policy0 slot = false →
      profileNames s.flow.policy1 slot = false →
      exec (.progUnload c slot) s = .next (settle (finish c 0x0501 resOk { s with fel := { s.fel with progs := Store.erase s.fel.progs slot } }))) ∧
    (∀ (prog arg : Nat) (key : List Byte) (t : State), Taken c 0x0502 false s → prog < 256 → arg < 2 ^ 64 →
      queueTask (newTask s 7 prog arg (leadOf s (padTo 40 key)) (padTo 40 key) false 0) (takeTaskId s) = some t →
      exec (.taskPost c prog arg key) s = .next (settle (finish c 0x0502
        (resWith (newTask s 7 prog arg (leadOf s (padTo 40 key)) (padTo 40 key) false 0).ident) (countEvent 8 0x07 7 1 t)))) ∧
    (∀ n : Nat, Taken c 0x0503 false s → s.fel.running.any (fun e => e.2.task.ident == n) = false →
      (List.range 4).any (fun l => (queuedTasks s l).any (fun t => t.ident == n && t.kind == 7)) = true →
      exec (.taskCancel c n) s = .next (settle (finish c 0x0503 resOk (cancelTasks (fun t => t.ident == n && t.kind == 7) s)))) ∧
    (∀ n : Nat, Taken c 0x0503 false s → s.fel.running.any (fun e => e.2.task.ident == n) = true →
      exec (.taskCancel c n) s = .next (settle (finish c 0x0503 (resFail 0x0B) s))) ∧
    (∀ b owner : Nat, Taken c 0x0504 false s → b < 32 → (owner < 0x42 ∨ owner = 0x7F) →
      exec (.bankOwnSet c b owner) s = .next (settle (finish c 0x0504 resOk (s.put FLW_BANK_OWN_OWNER owner b)))) ∧
    (∀ b off : Nat, Taken c 0x0505 false s → b < 32 → off + 64 ≤ 262144 →
      exec (.bankRead c b off) s = .next (settle (conclude c 0x0505 (giveResult c 0 0
        ((List.range 64).map (fun i => bankByte s (262144 * b + off + i))) 0 s))))

/-- For every state and taken command with operands in range: STREAM_WRITE of a valid entry that passes the checks of R274 and of R15 keeps the stream's
generator, recovery and tokens, and one with VALID 0 clears them; STREAM_READ returns entry and counts; STREAM_UNBLOCK lifts the block; SGATE_WRITE without
a pending change and SGATE_COMMIT of a good list set the admin and the pending list; GCL_COMMIT of a good admin copy makes it the pending change;
GCL_CANCEL discards it; GCL_STATUS (with a free object or unsealed) returns the status and clears STEPPED; PORT_QUIET and PORT_UNQUIET quiet and release;
PARK_RELEASE, PARK_RETURN and PARK_DISCARD of a parked queue act on its frames and answer their number. -/
def Obligations.StreamAndPortCommandsComplete : Prop :=
  ∀ (s : State) (c : Cmd),
    (∀ (obj h : Nat) (x : StagedObj), Taken c 0x0600 false s → stagedOf s obj = some x → h < 16384 → x.bytes.length = 48 →
      streamReserved (leNat x.bytes) = false → bitOf (leNat x.bytes) 0 = true → streamArg s h (leNat x.bytes) = false →
      (streamEgress (leNat x.bytes)).any (overCommitted s h (leNat x.bytes)) = false →
      exec (.streamWrite c obj h) s = .next (settle (finish c 0x0600 resOk (streamStat (setStream h { streamOf s h with entry := leNat x.bytes } s))))) ∧
    (∀ (obj h : Nat) (x : StagedObj), Taken c 0x0600 false s → stagedOf s obj = some x → h < 16384 → x.bytes.length = 48 →
      streamReserved (leNat x.bytes) = false → bitOf (leNat x.bytes) 0 = false →
      exec (.streamWrite c obj h) s = .next (settle (finish c 0x0600 resOk (streamStat (setStream h
        { streamOf s h with entry := leNat x.bytes, seq := 0, tokens := 0 } (if bitOf (streamOf s h).entry 182 then
          { s with xpr := { s.xpr with recovery := Store.erase s.xpr.recovery (bitsOf (streamOf s h).entry 205 192) } } else s)))))) ∧
    (∀ h addr : Nat, Taken c 0x0601 true s → h < 16384 →
      exec (.streamRead c h addr) s = .next (settle (conclude c 0x0601 (giveResult c addr 0 (leBytes 48 (streamOf s h).entry ++
        (streamCount.padCounts (streamOf s h).counts).flatMap (leBytes 8)) 0 s)))) ∧
    (∀ h : Nat, Taken c 0x0602 false s → h < 16384 →
      exec (.streamUnblock c h) s = .next (settle (finish c 0x0602 resOk (setStream h { streamOf s h with blocked := false } s)))) ∧
    (∀ (obj i sec ns cycle : Nat) (enable : Bool) (x : StagedObj) (g y : StreamGate), Taken c 0x0603 false s → stagedOf s obj = some x → i < 256 →
      x.bytes.length % 4 = 0 → (numbersOf x.bytes 0 4 (x.bytes.length / 4)).any (fun e => bitsOf e 31 25 != 0) = false → ns < nsPerSec →
      g = Store.getD s.xpr.gates i ⟨none, none, none⟩ → g.pend = none →
      y = { g with admin := some ⟨numbersOf x.bytes 0 4 (x.bytes.length / 4), stampNs ⟨sec, ns⟩, cycle, enable, 0, false⟩ } →
      exec (.sgateWrite c obj i sec ns cycle enable) s = .next (settle (finish c 0x0603 resOk
        { s with xpr := { s.xpr with gates := Store.set s.xpr.gates i y } }))) ∧
    (∀ (i : Nat) (g y : StreamGate) (a : GateList) (b : Nat × Bool), Taken c 0x0604 false s → Store.get? s.xpr.gates i = some g → g.admin = some a →
      listOk 64 (nsStamp a.base) a.cycle a.entries (fun e => 32 ≤ bitsOf e 23 0) = true → b = listStart a.base a.cycle s.nowNs →
      y = { g with pend := some { a with start := b.1, past := b.2 } } →
      exec (.sgateCommit c i) s = .next (settle (finish c 0x0604 resOk { s with xpr := { s.xpr with gates := Store.set s.xpr.gates i y } }))) ∧
    (∀ (p : Nat) (base : Stamp) (b : Nat × Bool) (g : GateList) (t : State), Taken c 0x0605 false s → p < 96 →
      s.get SCH_GCL_CFG_ADMIN_LEN p ≤ 1024 → base = ⟨s.get SCH_GCL_BASE_S_BASE_S p, s.get SCH_GCL_BASE_NS_BASE_NS p⟩ →
      listOk 1024 base (s.get SCH_GCL_CFG_ADMIN_CYCLE_NS p) (adminEntries s p) (fun e => 32 ≤ gateInterval e && gateOp e ≤ 2) = true →
      b = listStart (stampNs base) (s.get SCH_GCL_CFG_ADMIN_CYCLE_NS p) s.nowNs →
      g = ⟨adminEntries s p, stampNs base, s.get SCH_GCL_CFG_ADMIN_CYCLE_NS p, s.on SCH_GCL_CFG_ADMIN_EN p, b.1, b.2⟩ →
      t = putStart p (nsStamp b.1) ((({ s with egr := { s.egr with gclPend := Store.set s.egr.gclPend p g } } : State).put
        SCH_GCL_STAT_PENDING 1 p).flag SCH_GCL_STAT_PAST_BASE b.2 p) →
      exec (.gclCommit c p) s = .next (settle (finish c 0x0605 resOk (if opensEarlier s p g then endQuiet p t else t)))) ∧
    (∀ (p : Nat) (g : GateList), Taken c 0x0606 false s → p < 96 → Store.get? s.egr.gclPend p = some g →
      exec (.gclCancel c p) s = .next (settle (finish c 0x0606 resOk
        (putStart p (nsStamp (match Store.get? s.egr.gcl p with | none => 0 | some g => g.start))
          (({ s with egr := { s.egr with gclPend := Store.erase s.egr.gclPend p } } : State).put SCH_GCL_STAT_PENDING 0 p))))) ∧
    (∀ (p : Nat) (r : Res) (t : State), Taken c 0x0607 false s → p < 96 → giveResult c 0 0 (leBytes 8 (s.num SCH_GCL_STAT p)) 0 s = .done r t →
      r.status = 0 → exec (.gclStatus c p) s = .next (settle (finish c 0x0607 r (t.put SCH_GCL_STAT_STEPPED 0 p)))) ∧
    (∀ p : Nat, Taken c 0x0700 false s → p < 96 → exec (.portQuiet c p) s = .next (settle (finish c 0x0700 resOk (quietPort p s)))) ∧
    (∀ p : Nat, Taken c 0x0701 false s → p < 96 → exec (.portUnquiet c p) s = .next (settle (finish c 0x0701 resOk (unquietPort p s)))) ∧
    (∀ q p : Nat, Taken c 0x0702 false s → p < 96 → (q / 8 = p → s.on PRT_STATUS_LINK_UP p = true) → q < 768 → (queueOf s q).parked = true →
      exec (.parkRelease c q p) s = .next (settle (finish c 0x0702 (resWith (queueCopies (queueOf s q)).length)
        (parkedStat (q / 8) (releasePark q (8 * p + q % 8) s))))) ∧
    (∀ q : Nat, Taken c 0x0703 false s → q < 768 → (queueOf s q).parked = true →
      exec (.parkReturn c q) s = .next (settle (finish c 0x0703 (resWith (queueCopies (queueOf s q)).length)
        (parkedStat (q / 8) (returnQueue 0x02 q s))))) ∧
    (∀ q : Nat, Taken c 0x0704 false s → q < 768 → (queueOf s q).parked = true →
      exec (.parkDiscard c q) s = .next (settle (finish c 0x0704 (resWith (queueCopies (queueOf s q)).length)
        (parkedStat (q / 8) ((queueCopies (queueOf s q)).foldl (fun s c => discardCopy c s) (takeQueue q s))))))
/-- For every state and taken command: TIME_SESSION_OPEN opens a servo session; TIME_STEP in STATE 1 with a target in range steps the clock and returns the
times before and after; TIME_ADJ and TIME_SESSION_CLOSE in a session adjust the rate and enter HOLDOVER with reason 2; TIME_PIN_SET with operands in range
sets its pin; TIME_WAKE sets the wake of a quarter in service, of Q4 where Q4 serves the quarter's ports, and is returned for another fenced quarter. -/
def Obligations.TimeCommandsComplete : Prop :=
  ∀ (s : State) (c : Cmd),
    (Taken c 0x0800 false s → exec (.timeSessionOpen c) s = .next (settle (finish c 0x0800 resOk (openServo s)))) ∧
    (∀ (mode : Nat) (offset : Int) (sec ns b : Nat), Taken c 0x0801 false s → s.get TIM_STAT_STATE = 1 →
      stepTarget s mode offset ⟨sec, ns⟩ = some b →
      exec (.timeStep c mode offset sec ns) s = .next (settle (conclude c 0x0801
        (giveResult c 0 0 (stampBytes s.now ++ stampBytes (nsStamp b)) 0 (stepTo b s))))) ∧
    (∀ incr temp ticks : Nat, Taken c 0x0802 false s → inSession s = true → incr < 2 ^ 64 → temp < 2 ^ 64 → ticks < 2 ^ 32 →
      exec (.timeAdj c incr temp ticks) s = .next (settle (finish c 0x0802 resOk (adjustTime incr temp ticks s)))) ∧
    (Taken c 0x0803 false s → inSession s = true →
      exec (.timeSessionClose c) s = .next (settle (finish c 0x0803 resOk (enterHoldover 2 s)))) ∧
    (∀ k mode edge pol evt adj width ns sec period : Nat, Taken c 0x0804 false s → pinArg k mode width ns period = false → edge < 2 → pol < 2 →
      evt < 2 → adj < 2 ^ 16 → width < 2 ^ 32 → sec < 2 ^ 48 → period < 2 ^ 30 →
      exec (.timePinSet c k mode edge pol evt adj width ns sec period) s = .next (settle (finish c 0x0804 resOk
        (setPin k mode edge pol evt adj width ns sec period s)))) ∧
    (∀ q sec ns : Nat, Taken c 0x0805 false s → q < 5 → ns < nsPerSec → sec < 2 ^ 48 → s.get PRT_QMUX_MOVED ≠ q → fenced s q = false →
      exec (.timeWake c q sec ns) s = .next (settle (finish c 0x0805 resOk (setWake q sec ns s)))) ∧
    (∀ q sec ns : Nat, Taken c 0x0805 false s → q < 5 → ns < nsPerSec → sec < 2 ^ 48 → s.get PRT_QMUX_MOVED = q →
      exec (.timeWake c q sec ns) s = .next (settle (finish c 0x0805 resOk (setWake 4 sec ns s)))) ∧
    (∀ q sec ns : Nat, Taken c 0x0805 false s → q < 5 → ns < nsPerSec → sec < 2 ^ 48 → s.get PRT_QMUX_MOVED ≠ q → fenced s q = true →
      exec (.timeWake c q sec ns) s = .next (settle (conclude c 0x0805 (.back s))))

/-- For every state and taken command, on the state with the command's black-box entry: MEM_INIT with a partition that fits and supported DIMMs latches it and
starts the training; MEM_RETRAIN and MEM_SPEED of a channel in service start a pass, or hold the bin change pending; MEM_HBM_REINTEGRATE whose failed
pseudo-channels all pass brings them back; VAR_PAIR_SETUP after MEM_INIT notes partner and witness and enters STATE 1; VAR_PAIR_DISSOLVE dissolves;
VAR_SOLO in STATE 5 takes the whole port range. -/
def Obligations.MemoryAndPairCommandsComplete : Prop :=
  ∀ (s n : State) (c : Cmd),
    (∀ (spill park firkin task : Nat) (mirror : Bool) (l : List Dimms), Taken c 0x0900 false s → n = noteCommand 0x0900 s →
      n.mem.latched = false → partitionOk spill park firkin task = true → popErrors l = [] →
      (mirror = true → ∀ m < 4, n.get MEM_DDR_CFG_MAP_ORDER (2 * m) = n.get MEM_DDR_CFG_MAP_ORDER (2 * m + 1)) →
      exec (.memInit c spill park firkin task mirror l) s = .next (settle (conclude c 0x0900
        (.wait 0 0 (ddrBytes l) (memInit spill park firkin task mirror l n))))) ∧
    (∀ k : Nat, Taken c 0x0901 false s → n = noteCommand 0x0901 s → k < 8 → n.on MEM_DDR_STAT_FENCED k = false → chanBusy n k = false →
      exec (.memRetrain c k) s = .next (settle (conclude c 0x0901 (.wait 0 0 k ((startPass k 2 (n.get MEM_DDR_STAT_BIN k) n).put
        PWR_AGE_CFG_NEED_RETRAIN (withBit (n.get PWR_AGE_CFG_NEED_RETRAIN) k false)))))) ∧
    (∀ k bin : Nat, Taken c 0x0902 false s → n = noteCommand 0x0902 s → k < 8 → bin ≤ 2 → n.on MEM_DDR_STAT_FREQ_PENDING k = false →
      n.on MEM_DDR_STAT_FENCED k = false →
      exec (.memSpeed c k bin) s = .next (settle (conclude c 0x0902 (.wait 0 0 k (requestBin k bin n))))) ∧
    (∀ st passed : Nat, Taken c 0x0903 false s → n = noteCommand 0x0903 s → st < 2 →
      (∀ j < 32, bitOf (n.get MEM_HBM_STAT_PC_FAILED st) j = true → bitOf passed j = true) →
      ∃ t, exec (.memHbmReintegrate c st passed) s = .next (settle (finish c 0x0903 resOk (settleBuffer t))) ∧ t.get MEM_HBM_STAT_PC_FAILED st = 0 ∧
        t.buf.queues = n.buf.queues) ∧
    (∀ fp port da : Nat, Taken c 0x0A00 false s → n = noteCommand 0x0A00 s → fp < 2 ^ 64 → port < 96 → da < 2 ^ 48 → pairState n = 0 →
      n.on MEM_INIT_CFG_DONE = true →
      exec (.varPairSetup c fp port da) s = .next (settle (conclude c 0x0A00 (.wait 0 0 0 (setPairState 1
        ((((n.setReg VAR_PARTNER_ID (BitVec.ofNat 64 fp)).put VAR_WITNESS_PORT port).put VAR_WITNESS_DA da).put VAR_WITNESS_EN 1)))))) ∧
    (Taken c 0x0A01 false s → exec (.varPairDissolve c) s = .next (settle (finish c 0x0A01 resOk (pairDissolve (noteCommand 0x0A01 s))))) ∧
    (Taken c 0x0A02 false s → n = noteCommand 0x0A02 s → pairState n = 5 → exec (.varSolo c) s = .next (settle (finish c 0x0A02 resOk (goSolo n))))

/-- For every state and taken command, on the state with the command's black-box entry: FAULT_SET within the rules of LOCK sets severity and reactions
(ALARM reads 1 at severity 3); FAULT_CLEAR clears PENDING of a source, which is raised again while its condition lasts, or frees a black-box buffer;
FAULT_INJECT with injection enabled and room arms or produces the fault; FENCE and UNIT_RESET act on their unit; REINTEGRATE hands the ports of a quarter
back from Q4, brings a fenced quarter, cluster or express replica back whose self-test passes, and for a channel starts its training; DEVICE_RESET stops
ingress and waits, with its drain limit (10 ms where the argument is 0; its range and its place among the arguments are log entry 123); BB_READ returns entries of a buffer or its sealed image. -/
def Obligations.FaultCommandsComplete : Prop :=
  ∀ (s n : State) (c : Cmd),
    (∀ (i sev : Nat) (fence alarm hand : Bool), Taken c 0x0B00 false s → n = noteCommand 0x0B00 s → faultSetArg n i sev fence hand = false →
      exec (.faultSet c i sev fence alarm hand) s = .next (settle (finish c 0x0B00 resOk (setPins ((((n.put FLT_SRC_CFG_SEVERITY sev i).flag
        FLT_SRC_CFG_FENCE fence i).flag FLT_SRC_CFG_ALARM (alarm || sev == 3) i).flag FLT_SRC_CFG_HANDOVER hand i))))) ∧
    (∀ (i : Nat) (x : State), Taken c 0x0B01 false s → n = noteCommand 0x0B01 s → sourceNamed i = true →
      x = setPins (({ n with faults := { n.faults with pending := Store.erase n.faults.pending i } } : State).put FLT_SRC_STAT_PENDING 0 i) →
      exec (.faultClear c i false) s = .next (settle (finish c 0x0B01 resOk (if stillPresent x i then report i x else x)))) ∧
    (∀ b : Nat, Taken c 0x0B01 false s → n = noteCommand 0x0B01 s → b < 2 →
      exec (.faultClear c b true) s = .next (settle (finish c 0x0B01 resOk (bbRelease b n)))) ∧
    (∀ (kind u : Nat) (tick : Option Stamp), Taken c 0x0B02 false s → n = noteCommand 0x0B02 s → n.on FLT_CTRL_INJECT_EN = true → 1 ≤ kind →
      kind ≤ 8 → u < injectUnits kind → (∀ t, tick = some t → stampOk t = true) → n.faults.injections.length < 16 →
      exec (.faultInject c kind u tick) s = .next (settle (finish c 0x0B02 resOk
        (if (match tick with | none => true | some t => decide (stampNs t ≤ n.nowNs)) then inject kind u n
          else { n with faults := { n.faults with injections := n.faults.injections ++ [⟨kind, u, tick⟩] } })))) ∧
    (∀ u : Nat, Taken c 0x0B03 false s → u < 20 → exec (.fence c u) s = .next (settle (finish c 0x0B03 resOk (fenceUnit u 0 (noteCommand 0x0B03 s))))) ∧
    (∀ (u : Nat) (pass : Bool), Taken c 0x0B04 false s → n = noteCommand 0x0B04 s → u < 5 → n.get PRT_QMUX_MOVED = u → fenced n u = false →
      exec (.reintegrate c u true pass) s = .next (settle (finish c 0x0B04 resOk (handBack u n)))) ∧
    (∀ u : Nat, Taken c 0x0B04 false s → n = noteCommand 0x0B04 s → u < 20 → fenced n u = true → n.power.inReset.contains u = false →
      exec (.reintegrate c u false true) s = .next (settle (conclude c 0x0B04
        (if u < 5 then ok_ (quarterReturns u n)
         else if u < 9 then (if n.fel.handBack.any (fun e => e.2 == u - 5) then .wait 0 0 u n else ok_ (unfence u (setSleep u false false n)))
         else if u < 17 then (if n.mem.latched then .wait 0 0 u (startPass (u - 9) 4 0 (setSleep u false false n))
           else ok_ ((unfence u (setSleep u false false n)).put MEM_DDR_STAT_FENCED 0 (u - 9)))
         else ok_ (unfence u { n with faults := { n.faults with inverted := n.faults.inverted.filter (fun r => r != u - 17) } }))))) ∧
    (∀ u : Nat, Taken c 0x0B05 false s → u < 17 → exec (.unitReset c u) s = .next (settle (finish c 0x0B05 resOk (resetUnit u 0 (noteCommand 0x0B05 s))))) ∧
    (∀ limit : Nat, Taken c 0x0B06 false s → n = noteCommand 0x0B06 s → limit ≤ 1000 →
      exec (.deviceReset ⟨c, limit⟩) s = .next (settle (conclude c 0x0B06 (.wait 0 0 (n.clock + (if limit = 0 then 10 else limit) * 1000000)
        { n with egr := { n.egr with accepting := false } })))) ∧
    (∀ limit : Nat, Taken c 0x0B06 false s → n = noteCommand 0x0B06 s → 1000 < limit →
      exec (.deviceReset ⟨c, limit⟩) s = .next (settle (finish c 0x0B06 (resFail 1) n))) ∧
    (∀ b first m addr : Nat, Taken c 0x0B07 true s → n = noteCommand 0x0B07 s → b < 2 → first < bbSize → first + m ≤ bbSize →
      bitOf (n.get FLT_BB_STAT_SEALED) b = false →
      exec (.bbRead c b first m addr) s = .next (settle (conclude c 0x0B07 (giveResult c addr 0 (bbRead n b (32 * first) (32 * m)) 0 n)))) ∧
    (∀ b first m addr : Nat, Taken c 0x0B07 true s → n = noteCommand 0x0B07 s → b < 2 → first < bbSize → first + m ≤ bbSize →
      bitOf (n.get FLT_BB_STAT_SEALED) b = true →
      exec (.bbRead c b first m addr) s = .next (settle (conclude c 0x0B07 (giveResult c addr 0 (bbHeader n b ++ bbRead n b 0 bbEntryBytes ++
        (List.range 16).map (fun i => Config.sealedByte (bbBuf n b).epoch (bbEntryBytes + i))) 0 n))))

/-- For every state and taken command with operands in range: HKS_PATCH_LOAD of a good image while no patch word is in use applies it; HKS_STATUS, CNT_READ,
CNT_SNAPSHOT and DIAG_LOOKUP return what they name; CNT_CLEAR clears every listed counter; UNIT_REST and UNIT_WAKE of a unit that is not fenced, AGE_MEASURE and
MARGIN_REPLAN while no plan runs have their effect; a sealed authentic entry with an opcode outside the catalogue completes with ARG. -/
def Obligations.ServiceCommandsComplete : Prop :=
  ∀ (s : State) (c : Cmd),
    (∀ (obj : Nat) (x : StagedObj) (m words : List Nat), Taken c 0x0C00 false s → stagedOf s obj = some x → leField x.bytes 0 2 = 1 →
      s.get ASC_MIN_VER_MIN_VER 1 ≤ leField x.bytes 2 2 → m = numbersOf (imageBody x.bytes) 0 4 32 →
      words = numbersOf (imageBody x.bytes) 128 16 (leField x.bytes 4 2) → (imageBody x.bytes).length = 128 + 16 * leField x.bytes 4 2 →
      patchBad s (leField x.bytes 4 2) (leField x.bytes 8 4) m words true = false → s.on HKS_STAT_PATCH_USED = false →
      exec (.hksPatchLoad c obj true true) s = .next (settle (finish c 0x0C00 resOk
        (applyPatch (leField x.bytes 2 2) (leField x.bytes 4 2) m words s)))) ∧
    (∀ addr : Nat, Taken c 0x0C01 true s → exec (.hksStatus c addr) s = .next (settle (conclude c 0x0C01 (giveResult c addr 0
      (leBytes 8 (s.num HKS_STAT) ++ leBytes 8 (s.num HKS_RUN) ++ padTo 6 (s.hks.frames.flatMap (fun x => leBytes 1 x.routine ++ leBytes 1 x.level)))
      0 s)))) ∧
    (∀ (ids : List Nat) (addr : Nat), Taken c 0x0D00 true s → listFits ids = true →
      exec (.cntRead c ids addr) s = .next (settle (conclude c 0x0D00 (giveResult c addr 0
        (ids.zipIdx.flatMap (fun e => counterEntry s (s.nowNs + 10 * e.2) e.1)) 0 s)))) ∧
    (∀ (ids : List Nat) (addr : Nat), Taken c 0x0D01 true s → listFits ids = true →
      exec (.cntSnapshot c ids addr) s = .next (settle (conclude c 0x0D01 (giveResult c addr 0
        (stampBytes s.now ++ zeros 6 ++ ids.flatMap (counterEntry s s.nowNs)) 0 s)))) ∧
    (∀ (obj k : Nat) (x : StagedObj) (ids : List Nat), Taken c 0x0D02 false s → stagedOf s obj = some x → ids = numbersOf x.bytes 0 4 k →
      listFits ids = true → 4 * k ≤ x.bytes.length → ids.any (fun i => counterAt false i = .none) = false →
      exec (.cntClear c obj k) s = .next (settle (finish c 0x0D02 resOk (ids.foldl clearCounter s)))) ∧
    (∀ u : Nat, Taken c 0x0E00 false s → u < 17 → fenced s u = false →
      exec (.unitRest c u) s = .next (settle (finish c 0x0E00 (resWith (if (restUnit u s).1 then 0 else 1)) (restUnit u s).2))) ∧
    (∀ u : Nat, Taken c 0x0E01 false s → u < 17 → fenced s u = false →
      exec (.unitWake c u) s = .next (settle (finish c 0x0E01 resOk (wakeUnit u s)))) ∧
    (∀ readings : List (Nat × Int), Taken c 0x0E02 false s → s.power.planRunning = false →
      exec (.ageMeasure c readings) s = .next (settle (finish c 0x0E02 resOk (measureAll readings s)))) ∧
    (∀ (readings : List (Nat × Int)) (lanes : List (Nat × Nat × Nat)), Taken c 0x0E03 false s → s.power.planRunning = false →
      exec (.marginReplan c readings lanes) s = .next (settle (conclude c 0x0E03 (if (replan false readings lanes s).power.planRunning
        then .wait 0 0 0 (replan false readings lanes s) else ok_ (replan false readings lanes s))))) ∧
    (∀ (table quarter : Nat) (key : List Byte) (addr : Nat) (f : Found), Taken c 0x0F00 true s → f = diagFind s table quarter (padTo 64 key) →
      exec (.diagLookup c table quarter key addr) s = .next (settle (conclude c 0x0F00 (giveResult c addr 0
        (leBytes 8 (diagStatWord f s.drew.freeWord.toNat) ++ leBytes 4 f.place.b0 ++ leBytes 4 f.place.b1 ++ leBytes 8 f.slot ++ padTo 32 f.data ++ zeros 8)
        0 s.drew.drew)))) ∧
    (∀ op : Nat, c.ring < 4 → executes s c op = true → c.sealed = true → c.verdict = 0 → opcodeDefined op = false →
      exec (.undefinedOpcode c op) s = .next (settle (finish c op (resFail 1) s))) ∧
    (∀ op : Nat, c.ring < 4 → executes s c op = true → c.sealed = false → opcodeDefined op = false →
      exec (.undefinedOpcode c op) s = .next (settle (rejectCommand c op 3 s))) ∧
    (∀ op : Nat, c.ring < 4 → executes s c op = false → opcodeDefined op = false → exec (.undefinedOpcode c op) s = .next (settle s))
/-- For every core n that is about to execute it, with task r, destination d and sources a and b: each of ADD, SUB, AND, OR, XOR, SHL, SHR, SAR, ROTL,
MUL, MINU, MAXU, SLTU, SLT and CRCW writes the value that Table 9.7 gives it (addition, subtraction and multiplication modulo 2^64, shifts by the low six
bits) to register d, and the task goes on at its next word after 1 cycle, MUL after 3 and CRCW after 2. -/
def Obligations.FelricRegisterInstructions : Prop :=
  ∀ (s : State) (n d a b : Nat) (r : Running),
    (AboutTo n (.regs 0x01 d a b) r s → exec (.fAdd n d a b) s = .next (settle (proceed n r (nextWord 1 (setGpr d (gpr r a + gpr r b) r)) s))) ∧
    (AboutTo n (.regs 0x02 d a b) r s → exec (.fSub n d a b) s = .next (settle (proceed n r (nextWord 1 (setGpr d (gpr r a - gpr r b) r)) s))) ∧
    (AboutTo n (.regs 0x03 d a b) r s → exec (.fAnd n d a b) s = .next (settle (proceed n r (nextWord 1 (setGpr d (gpr r a &&& gpr r b) r)) s))) ∧
    (AboutTo n (.regs 0x04 d a b) r s → exec (.fOr n d a b) s = .next (settle (proceed n r (nextWord 1 (setGpr d (gpr r a ||| gpr r b) r)) s))) ∧
    (AboutTo n (.regs 0x05 d a b) r s → exec (.fXor n d a b) s = .next (settle (proceed n r (nextWord 1 (setGpr d (gpr r a ^^^ gpr r b) r)) s))) ∧
    (AboutTo n (.regs 0x06 d a b) r s → exec (.fShl n d a b) s = .next (settle (proceed n r (nextWord 1 (setGpr d (gpr r a <<< ((gpr r b).toNat % 64)) r)) s))) ∧
    (AboutTo n (.regs 0x07 d a b) r s → exec (.fShr n d a b) s = .next (settle (proceed n r (nextWord 1 (setGpr d (gpr r a >>> ((gpr r b).toNat % 64)) r)) s))) ∧
    (AboutTo n (.regs 0x08 d a b) r s → exec (.fSar n d a b) s = .next (settle (proceed n r (nextWord 1 (setGpr d ((gpr r a).sshiftRight ((gpr r b).toNat % 64)) r)) s))) ∧
    (AboutTo n (.regs 0x09 d a b) r s → exec (.fRotl n d a b) s = .next (settle (proceed n r (nextWord 1 (setGpr d ((gpr r a).rotateLeft ((gpr r b).toNat % 64)) r)) s))) ∧
    (AboutTo n (.regs 0x0A d a b) r s → exec (.fMul n d a b) s = .next (settle (proceed n r (nextWord 3 (setGpr d (gpr r a * gpr r b) r)) s))) ∧
    (AboutTo n (.regs 0x0B d a b) r s → exec (.fMinu n d a b) s = .next (settle (proceed n r (nextWord 1 (setGpr d (if (gpr r b).toNat < (gpr r a).toNat then gpr r b else gpr r a) r)) s))) ∧
    (AboutTo n (.regs 0x0C d a b) r s → exec (.fMaxu n d a b) s = .next (settle (proceed n r (nextWord 1 (setGpr d (if (gpr r a).toNat < (gpr r b).toNat then gpr r b else gpr r a) r)) s))) ∧
    (AboutTo n (.regs 0x0D d a b) r s → exec (.fSltu n d a b) s = .next (settle (proceed n r (nextWord 1 (setGpr d (if (gpr r a).toNat < (gpr r b).toNat then 1 else 0) r)) s))) ∧
    (AboutTo n (.regs 0x0E d a b) r s → exec (.fSlt n d a b) s = .next (settle (proceed n r (nextWord 1 (setGpr d (if (gpr r a).toInt < (gpr r b).toInt then 1 else 0) r)) s))) ∧
    (AboutTo n (.regs 0x1B d a b) r s → exec (.fCrcw n d a b) s = .next (settle (proceed n r (nextWord 2 (setGpr d (BitVec.ofNat 64 (crc32c (leBytes 8 (gpr r b).toNat) ((gpr r a).toNat % 2 ^ 32))) r)) s)))

/-- For every core n that is about to execute it, with task r, destination d, source a and immediate i of 18 bits: ADDI and LI take the immediate
sign-extended, ANDI, ORI and XORI zero-extended, the shifts by its low six bits, ORH its low 16 bits under the source shifted left by 16, ROTB its mode and
lanes; the result goes to register d, and the task goes on at its next word after one cycle. -/
def Obligations.FelricImmediateInstructions : Prop :=
  ∀ (s : State) (n d a i : Nat) (r : Running),
    (AboutTo n (.imm 0x10 d a i) r s → exec (.fAddi n d a i) s = .next (settle (proceed n r (nextWord 1 (setGpr d (gpr r a + BitVec.ofInt 64 (signedOf 18 i)) r)) s))) ∧
    (AboutTo n (.imm 0x11 d a i) r s → exec (.fAndi n d a i) s = .next (settle (proceed n r (nextWord 1 (setGpr d (gpr r a &&& BitVec.ofNat 64 i) r)) s))) ∧
    (AboutTo n (.imm 0x12 d a i) r s → exec (.fOri n d a i) s = .next (settle (proceed n r (nextWord 1 (setGpr d (gpr r a ||| BitVec.ofNat 64 i) r)) s))) ∧
    (AboutTo n (.imm 0x13 d a i) r s → exec (.fXori n d a i) s = .next (settle (proceed n r (nextWord 1 (setGpr d (gpr r a ^^^ BitVec.ofNat 64 i) r)) s))) ∧
    (AboutTo n (.imm 0x14 d a i) r s → exec (.fShli n d a i) s = .next (settle (proceed n r (nextWord 1 (setGpr d (gpr r a <<< (i % 64)) r)) s))) ∧
    (AboutTo n (.imm 0x15 d a i) r s → exec (.fShri n d a i) s = .next (settle (proceed n r (nextWord 1 (setGpr d (gpr r a >>> (i % 64)) r)) s))) ∧
    (AboutTo n (.imm 0x16 d a i) r s → exec (.fSari n d a i) s = .next (settle (proceed n r (nextWord 1 (setGpr d ((gpr r a).sshiftRight (i % 64)) r)) s))) ∧
    (AboutTo n (.imm 0x17 d a i) r s → exec (.fRotli n d a i) s = .next (settle (proceed n r (nextWord 1 (setGpr d ((gpr r a).rotateLeft (i % 64)) r)) s))) ∧
    (AboutTo n (.imm 0x19 d a i) r s → exec (.fOrh n d a i) s = .next (settle (proceed n r (nextWord 1 (setGpr d ((gpr r a <<< 16) ||| BitVec.ofNat 64 (i % 65536)) r)) s))) ∧
    (AboutTo n (.imm 0x1A d a i) r s → exec (.fRotb n d a i) s = .next (settle (proceed n r (nextWord 1 (setGpr d (rotb (gpr r a) i) r)) s))) ∧
    (AboutTo n (.imm 0x18 d 0 i) r s → exec (.fLi n d i) s = .next (settle (proceed n r (nextWord 1 (setGpr d (BitVec.ofInt 64 (signedOf 18 i)) r)) s)))

/-- For every core n that is about to execute it, with task r: LD whose access is allowed loads its bytes zero-extended, ST stores the low bytes of its
source, after 2 cycles, 6 for the shared banks; a refused access ends the task with its fault, its cycles counted as busy; BR goes ahead by its distance where its condition holds, else
to the next word; CSRR reads; CSRW gives a bank of its own away and of another ends with fault BANK; BWAIT writes 1 once the bank is its own, after
the cycles it waited, 0 after 4096 cycles, waits in between, and ends with fault TIME where its task reaches its cycle limit; NOTE and TARM note their value for the commit, a fifth notice ends with fault NOTE; END commits. -/
def Obligations.FelricOtherInstructions : Prop :=
  ∀ (s : State) (n d a : Nat) (r : Running),
    (∀ space size off v : Nat, AboutTo n (.mem false d a space size off) r s →
      loadFrom s n r space (((gpr r a).toNat + off) % 2 ^ 64) (sizeBytes size) = .value v →
      exec (.fLd n d a space size off) s = .next (settle (proceed n r (nextWord (if space = 3 then 6 else 2) (setGpr d (BitVec.ofNat 64 v) r)) s))) ∧
    (∀ space size off f : Nat, AboutTo n (.mem false d a space size off) r s →
      loadFrom s n r space (((gpr r a).toNat + off) % 2 ^ 64) (sizeBytes size) = .fault f →
      exec (.fLd n d a space size off) s = .next (settle (wordFault n (if space = 3 then 6 else 2) f s))) ∧
    (∀ (space size off : Nat) (s' : State) (r' : Running), AboutTo n (.mem true d a space size off) r s →
      storeTo n r space (((gpr r a).toNat + off) % 2 ^ 64) (leBytes (sizeBytes size) (gpr r d).toNat) s = .inl (s', r') →
      exec (.fSt n d a space size off) s = .next (settle (proceed n r (nextWord (if space = 3 then 6 else 2) r') s'))) ∧
    (∀ space size off f : Nat, AboutTo n (.mem true d a space size off) r s →
      storeTo n r space (((gpr r a).toNat + off) % 2 ^ 64) (leBytes (sizeBytes size) (gpr r d).toNat) s = .inr f →
      exec (.fSt n d a space size off) s = .next (settle (wordFault n (if space = 3 then 6 else 2) f s))) ∧
    (∀ b cond dist : Nat, AboutTo n (.br a b cond dist) r s → brCond cond (gpr r a) (gpr r b) = true →
      exec (.fBr n a b cond dist) s = .next (settle (proceed n r { nextWord 1 r with pc := r.pc + dist } s))) ∧
    (∀ b cond dist : Nat, AboutTo n (.br a b cond dist) r s → brCond cond (gpr r a) (gpr r b) = false →
      exec (.fBr n a b cond dist) s = .next (settle (proceed n r (nextWord 1 r) s))) ∧
    (∀ k : Nat, AboutTo n (.ctl 0x30 d a k) r s →
      exec (.fCsrr n d a k) s = .next (settle (proceed n r (nextWord 1 (setGpr d (readCsr s n r k) r)) s))) ∧
    (∀ b : Nat, b < 32 → AboutTo n (.ctl 0x31 d a (0x100 + b)) r s → s.get FLW_BANK_OWN_OWNER b = n →
      exec (.fCsrw n d a (0x100 + b)) s = .next (settle (proceed n r (nextWord 1 r) (s.put FLW_BANK_OWN_OWNER ((gpr r a).toNat % 128) b)))) ∧
    (∀ b : Nat, b < 32 → AboutTo n (.ctl 0x31 d a (0x100 + b)) r s → s.get FLW_BANK_OWN_OWNER b ≠ n →
      exec (.fCsrw n d a (0x100 + b)) s = .next (settle (wordFault n 1 3 s))) ∧
    (∀ k : Nat, (k < 0x100 ∨ 0x120 ≤ k) → AboutTo n (.ctl 0x31 d a k) r s →
      exec (.fCsrw n d a k) s = .next (settle (proceed n r (nextWord 1 r) s))) ∧
    (∀ (k : Nat) (timeout : Bool), AboutTo n (.ctl 0x32 d a k) r s → s.get FLW_BANK_OWN_OWNER (k % 32) = n →
      r.cycles + (if timeout then 4096 else waited s r) < cycleLimit s →
      exec (.fBwait n d a k timeout) s = .next (settle (proceed n r { nextWord (max 1 (waited s r)) (setGpr d 1 r) with waitAt := none } s))) ∧
    (∀ k : Nat, AboutTo n (.ctl 0x32 d a k) r s → s.get FLW_BANK_OWN_OWNER (k % 32) ≠ n → r.cycles + 4096 < cycleLimit s →
      exec (.fBwait n d a k true) s = .next (settle (proceed n r { nextWord 4096 (setGpr d 0 r) with waitAt := none } s))) ∧
    (∀ k : Nat, AboutTo n (.ctl 0x32 d a k) r s → s.get FLW_BANK_OWN_OWNER (k % 32) ≠ n → r.cycles + waited s r < cycleLimit s →
      exec (.fBwait n d a k false) s =
        .next (settle (if r.waitAt.isSome then s else setRunning n { r with waitAt := some s.clock } s))) ∧
    (∀ (k : Nat) (timeout : Bool), AboutTo n (.ctl 0x32 d a k) r s → cycleLimit s ≤ r.cycles + (if timeout then 4096 else waited s r) →
      exec (.fBwait n d a k timeout) s = .next (settle (wordFault n (if timeout then 4096 else waited s r) 1 s))) ∧
    (∀ k : Nat, AboutTo n (.ctl 0x34 d a k) r s → r.notes.length < 4 →
      exec (.fNote n d a k) s = .next (settle (proceed n r (nextWord 1 { r with notes := r.notes ++ [gpr r a] }) s))) ∧
    (∀ k : Nat, AboutTo n (.ctl 0x34 d a k) r s → 4 ≤ r.notes.length → exec (.fNote n d a k) s = .next (settle (wordFault n 1 5 s))) ∧
    (∀ k : Nat, AboutTo n (.ctl 0x35 d a k) r s →
      exec (.fTarm n d a k) s = .next (settle (proceed n r (nextWord 1 { r with tarm := some (gpr r a) }) s))) ∧
    (∀ result : Nat, AboutTo n (.fin result) r s → exec (.fEnd n result) s = .next (settle (taskCommit n result r s)))

/-- For every task, core and state: after an instruction that goes on as r' the core runs r', every other core its task, FLW_CORE_BUSY of the core has grown by the
cycles that passed, every register at another BAR0 offset and every other part of the state is as it was; register g0 reads 0 whatever is written to it,
a register from g1 to g15 of a full register file reads what is written to it, and a write to one register leaves the others. -/
def Obligations.FelricInstructionFrame : Prop :=
  ∀ (s : State) (n : Nat) (r r' : Running),
    runningOn (proceed n r r' s) n = some r' ∧
    (∀ m, m ≠ n → runningOn (proceed n r r' s) m = runningOn s m) ∧
    (proceed n r r' s).reg FLW_CORE_BUSY n = s.reg FLW_CORE_BUSY n + BitVec.ofNat 64 (r'.cycles - r.cycles) ∧
    (∀ (q : Reg) (i j k : Nat), q.addr i j k ≠ FLW_CORE_BUSY.addr n 0 0 → (proceed n r r' s).reg q i j k = s.reg q i j k) ∧
    proceed n r r' s = { s with regs := (proceed n r r' s).regs, fel := { s.fel with running := Store.set s.fel.running n r' } } ∧
    (∀ v : Word64, gpr (setGpr 0 v r) 0 = 0) ∧
    (∀ (g : Nat) (v : Word64), 1 ≤ g → g < r.regs.length → gpr (setGpr g v r) g = v) ∧
    (∀ (g h : Nat) (v : Word64), g ≠ h → gpr (setGpr g v r) h = gpr r h)

/-- For every Felric instruction x of core n: where the core runs no task, its cluster does not serve or its task's next word is another, the step leaves the
state to settle unchanged; where the word is x and the task has run its cycles, the task ends with fault TIME. -/
def Obligations.FelricOnlyTheNextWordRuns : Prop :=
  ∀ (s : State) (n : Nat) (timeout : Bool) (x : FInstr),
    (runningOn s n = none → felricStep n timeout x s = s) ∧
    (∀ r, runningOn s n = some r → (serves s (5 + n / 16) = false ∨ (r.prog.words[r.pc]?).bind decodeFelric ≠ some x) → felricStep n timeout x s = s) ∧
    (∀ r, runningOn s n = some r → serves s (5 + n / 16) = true → (r.prog.words[r.pc]?).bind decodeFelric = some x →
      clamp 512 8191 (s.get FLW_TASK_CTRL_MAX_CYCLES) ≤ r.cycles → felricStep n timeout x s = taskFault n 1 s)

/-- For every Felric instruction with its opcode of its format, every field within its width and A of LI zero (Tables 9.6 and 9.7), the decoder reads the
instruction from its word: no bit of an encoding is dropped. -/
def Obligations.FelricDecodeOfEncode : Prop :=
  ∀ x : FInstr, x.wf = true → decodeFelric x.encode = some x

/-- For every number w and instruction x, if the decoder reads x from w, then x is well formed, and its word is w: no two words spell one instruction, and no
reserved bit is ignored. -/
def Obligations.FelricEncodeOfDecode : Prop :=
  ∀ (w : Nat) (x : FInstr), decodeFelric w = some x → x.wf = true ∧ x.encode = w

/-- ADD g3, g1, g2; LI g1, −1; a 64-bit LD of the scratchpad at g2 + 8; a BR on equality by 5 words; CSRR g4 of CSR 1; and END 0 have the words that the
field positions of Table 9.6 and the opcodes of Table 9.7 give; a word with opcode 0, one of format A with a low bit set and a branch by 0 words decode to nothing. -/
def Obligations.FelricSampleWords : Prop :=
  decodeFelric 0b00000100110001001000000000000000 = some (.regs 0x01 3 1 2) ∧
  decodeFelric 0b01100000010000111111111111111111 = some (.imm 0x18 1 0 0x3FFFF) ∧
  decodeFelric 0b10000001010010101100000000001000 = some (.mem false 5 2 2 3 8) ∧
  decodeFelric 0b10100000010010000000000000000101 = some (.br 1 2 0 5) ∧
  decodeFelric 0b11000001000000000000000000000001 = some (.ctl 0x30 4 0 1) ∧
  decodeFelric 0b11111100000000000000000000000000 = some (.fin 0) ∧
  decodeFelric 0 = none ∧ decodeFelric 0b00000100110001001000000000000001 = none ∧ decodeFelric 0b10100000010010000000000000000000 = none
/-- For every state from HOST_READY on: an access of wrong size or place is counted and a read of it returns 0; a 4-byte read answers its word and an 8-byte
read of a 64-bit register its value at one instant; a 4-byte write acts on its half and an 8-byte write on the whole register; a doorbell of an enabled ring
whose index lies ahead by at most the ring size, or up to PI, is taken, and another is counted; EN set with good fields starts a ring with both indexes 0,
armed, and EN cleared disables it; a valid mode enables a port from EXPRESS_READY on, and an enabled port is disabled; GO takes a key where no lookup runs,
and its end changes all result registers; and a counter selection is written. -/
def Obligations.RegisterAccessesComplete : Prop :=
  ∀ s : State, barReady s = true →
    (∀ (bar2 : Bool) (off n : Nat) (x : State), badAccess bar2 off n = true → x = s.bump HST_BAD_ACCESS_CNT →
      exec (.bar0AccessDiscarded bar2 off n true) s = .next (settle { x with host := { x.host with answer := 0 } }) ∧
      exec (.bar0AccessDiscarded bar2 off n false) s = .next (settle x)) ∧
    (∀ (req off : Nat) (r : Nat × State), badAccess false off 4 = false → r = readWord req off s →
      exec (.bar0LowWordRead req off 4) s = .next (settle { r.2 with host := { r.2.host with answer := r.1 } })) ∧
    (∀ (req off : Nat) (x : RegRef) (r : Nat × State), badAccess false off 8 = false → wordAt off = .low x → x.reg.wide = true →
      latchPartner x = none → r = readWhole req x s →
      exec (.bar0LowWordRead req off 8) s = .next (settle { r.2 with host := { r.2.host with answer := r.1 } })) ∧
    (∀ (off v : Nat) (x : RegRef), badAccess false off 4 = false → wordAt off = .low x →
      exec (.registerWrite off 4 v) s = .next (settle (writeRef x (2 ^ 32 - 1) (v % 2 ^ 32) s))) ∧
    (∀ (off v : Nat) (x : RegRef), badAccess false off 4 = false → wordAt off = .high x →
      exec (.registerWrite off 4 v) s = .next (settle (writeRef x ((2 ^ 32 - 1) * 2 ^ 32) (v % 2 ^ 32 * 2 ^ 32) s))) ∧
    (∀ (off v : Nat) (x : RegRef), badAccess false off 8 = false → wordAt off = .low x → x.reg.wide = true →
      exec (.registerWrite off 8 v) s = .next (settle (writeRef x (2 ^ 64 - 1) (v % 2 ^ 64) s))) ∧
    (∀ r v : Nat, r < 59 → v < 2 ^ 32 → ringOn s r = true → hostWritten r = true → (v + 2 ^ 32 - s.get HST_RING_IDX_PI r) % 2 ^ 32 ≤ ringSize s r →
      exec (.doorbell r v) s = .next (settle (s.put HST_RING_IDX_PI v r))) ∧
    (∀ (r v : Nat) (x : State), r < 59 → v < 2 ^ 32 → ringOn s r = true → hostWritten r = false →
      (v + 2 ^ 32 - s.get HST_RING_IDX_CI r) % 2 ^ 32 ≤ ringUsed s r → x = s.put HST_RING_IDX_CI v r →
      exec (.doorbell r v) s = .next (settle { x with host := { x.host with armed := x.host.armed.filter (fun y => y != r) ++ [r] } })) ∧
    (∀ r v : Nat, ringOn s r = false → exec (.doorbell r v) s = .next (settle (s.bump HST_DB_ERR_CNT))) ∧
    (∀ (r cfg : Nat) (x y : State), r < 59 → ringOn s r = false → x = ringFields r cfg s → ringCheck x r = true →
      y = ((x.put HST_RING_CFG_CFG_ERR 0 r).put HST_RING_CFG_EN 1 r).setReg HST_RING_IDX 0 r →
      exec (.ringEnable r cfg) s = .next (settle { y with host := { y.host with
        armed := y.host.armed.filter (fun z => z != r) ++ [r], since := Store.erase y.host.since r,
        sinceAt := Store.erase y.host.sinceAt r, cplRoom := Store.erase y.host.cplRoom r,
        tx := y.host.tx.filter (fun z => z.ring != r) } })) ∧
    (∀ (r cfg : Nat) (x : State), r < 59 → ringOn s r = false → x = ringFields r cfg s → ringCheck x r = false →
      exec (.ringEnable r cfg) s = .next (settle (x.put HST_RING_CFG_CFG_ERR 1 r))) ∧
    (∀ r : Nat, r < 59 → ringOn s r = true → (r < 4 ∨ 8 ≤ r) → exec (.ringDisable r) s = .next (settle (s.put HST_RING_CFG_EN 0 r))) ∧
    (∀ (p mode : Nat) (x : State), p < 96 → s.on PRT_MODE_ENABLE p = false → expressReady s = true → inGroup s p = false →
      x = (((s.put PRT_MODE_SPEED (bitsOf mode 3 0) p).put PRT_MODE_FEC (bitsOf mode 5 4) p).put PRT_MODE_AN_EN (bitsOf mode 6 6) p).put
        PRT_MODE_LT_EN (bitsOf mode 7 7) p →
      modeValid (bitsOf mode 3 0) (bitsOf mode 5 4) = true → (6 ≤ bitsOf mode 3 0 → groupValid x p = true) →
      x.on PRT_MODE_ENABLE p = false → expressReady x = true → inGroup x p = false →
      exec (.portEnable p mode) s = .next (settle (preemptStat p (onPort p
        (fun y => { y with enabled := true, fec := bitsOf mode 5 4, an := bitOf mode 6, lt := bitOf mode 7 })
        (((x.put PRT_MODE_ENABLE 1 p).flag PRT_STATUS_MODE_ERR false p).put PRT_STATUS_ACTIVE_SPEED (bitsOf mode 3 0) p))))) ∧
    (∀ p : Nat, p < 96 → s.on PRT_MODE_ENABLE p = true → exec (.portDisable p) s = .next (settle (disablePort p s))) ∧
    (∀ (ctrl : Nat) (x : State), bitOf ctrl 6 = true → s.host.diagPending = none →
      x = s.setReg HST_DIAG_CTRL (BitVec.ofNat 64 (withBits (s.num HST_DIAG_CTRL) 5 0 ctrl)) →
      exec (.diagGo ctrl) s = .next (settle ((({ x with host := { x.host with diagPending := some (x.get HST_DIAG_CTRL_TABLE,
        x.get HST_DIAG_CTRL_QUARTER, (List.range 8).flatMap (fun k => leBytes 8 (x.num HST_DIAG_KEY k))) } } : State).put
        HST_DIAG_CTRL_GO_ERR 0).put HST_DIAG_STAT_READY 0))) ∧
    (∀ (table quarter : Nat) (key : List Byte) (f : Found) (x y : State), s.host.diagPending = some (table, quarter, key) →
      f = diagFind s table quarter key → x = { s.drew with host := { s.host with diagPending := none } } →
      y = (((x.setReg HST_DIAG_STAT (BitVec.ofNat 64 (diagStatWord f (x.get HST_DIAG_STAT_SEQ + 1)))).put HST_DIAG_POS_B0 f.place.b0).put
        HST_DIAG_POS_B1 f.place.b1).put HST_DIAG_LOC_SLOT f.slot →
      exec .diagLookupDone s = .next (settle ((List.range 4).foldl (fun z k => z.setReg HST_DIAG_DATA (BitVec.ofNat 64 (leField f.data (8 * k) 8)) k) y))) ∧
    (∀ b k v : Nat, b < 22 → k < 8 → exec (.cntSelWrite b k v) s = .next (settle (writeSelection b k v s)))

/-- For every requester, offset, size and state, the read of a register answers a next state, and in it everything but the answered value and the latch of
high words is as the end of a step leaves the state before: the state with that answer and that latch put back is the settled state before. -/
def Obligations.ReadsHaveNoSideEffect : Prop :=
  ∀ (s : State) (req off n : Nat), badAccess false off n = false →
    ∃ a l, exec (.bar0LowWordRead req off n) s = .next (settle { s with host := { s.host with answer := a, latch := l } })

/-- For every 64-bit register at offset off and every state from HOST_READY on in which the requester has nothing latched at the register: one 64-bit read answers
the register's value in that state; a low-word read answers its low 32 bits, and after it, in every state from HOST_READY on whose latch is as the low read left
it, the requester's high-word read answers the high 32 bits that the register had at the low read. -/
def Obligations.SplitReadsAreOfOneInstant : Prop :=
  ∀ (s : State) (req off : Nat) (x : RegRef), barReady s = true → wordAt off = .low x → x.reg.wide = true → x.offset = off →
    wordAt (off + 4) = .high x → takeLatch req off s = none →
    (badAccess false off 8 = false →
      ∃ y, exec (.bar0LowWordRead req off 8) s = .next (settle y) ∧ y.host.answer = readRef s x) ∧
    (badAccess false off 4 = false → badAccess false (off + 4) 4 = false →
      ∃ y, exec (.bar0LowWordRead req off 4) s = .next (settle y) ∧ y.host.answer = readRef s x % 2 ^ 32 ∧
        ∀ t : State, barReady t = true → t.host.latch = y.host.latch →
          ∃ z, exec (.bar0LowWordRead req (off + 4) 4) t = .next (settle z) ∧ z.host.answer = readRef s x / 2 ^ 32)

/-- For every state from HOST_READY on, offset, and size n that is not 4 or 8 bytes or does not divide the offset: a write of any value and a read at it change
nothing of their own; the access is counted, once, in HST_BAD_ACCESS_CNT, and a read answers 0, with every other register as before; and an aligned access of 4 or 8
bytes to a register is not counted. -/
def Obligations.MisalignedAccessesAreDiscarded : Prop :=
  ∀ (s : State) (off n : Nat), barReady s = true →
    ((n ≠ 4 ∧ n ≠ 8) ∨ off % n ≠ 0 →
      (∀ v : Nat, exec (.registerWrite off n v) s = .next (settle s)) ∧ (∀ req : Nat, exec (.bar0LowWordRead req off n) s = .next (settle s)) ∧
      (∀ read : Bool, ∃ y, exec (.bar0AccessDiscarded false off n read) s = .next (settle y) ∧
        y.reg HST_BAD_ACCESS_CNT = s.reg HST_BAD_ACCESS_CNT + 1 ∧ (read = true → y.host.answer = 0) ∧
        (∀ (q : Reg) (i j k : Nat), q.addr i j k ≠ HST_BAD_ACCESS_CNT.addr 0 0 0 → y.reg q i j k = s.reg q i j k))) ∧
    ((n = 4 ∨ n = 8) → off % n = 0 → (∃ x, wordAt off = .low x) → ∀ read : Bool, exec (.bar0AccessDiscarded false off n read) s = .next (settle s))

/-- For every state from HOST_READY on, ring r of the 59 and 32-bit value v, a doorbell answers a next state in which the index it writes (PI of a host-written ring, CI of
a device-written one) is v where the ring is enabled and v lies ahead of it by at most the ring size (and, on a device-written ring, not past PI), with
HST_DB_ERR_CNT as before, and otherwise both indexes are as before, with HST_DB_ERR_CNT one higher; the indexes of every other ring are as they were; and
enabling the ring, with fields that pass the checks, sets both of its indexes to 0. -/
def Obligations.DoorbellsAreBounded : Prop :=
  ∀ (s : State) (r v : Nat), barReady s = true → r < 59 → v < 2 ^ 32 →
    (∃ t, exec (.doorbell r v) s = .next (settle t) ∧
      (∀ old d : Nat, old = (if hostWritten r then s.get HST_RING_IDX_PI r else s.get HST_RING_IDX_CI r) → d = (v + 2 ^ 32 - old) % 2 ^ 32 →
        ((ringOn s r = true ∧ d ≤ ringSize s r ∧ (hostWritten r = false → d ≤ ringUsed s r)) →
          (if hostWritten r then t.get HST_RING_IDX_PI r else t.get HST_RING_IDX_CI r) = v ∧ t.reg HST_DB_ERR_CNT = s.reg HST_DB_ERR_CNT) ∧
        ((ringOn s r = false ∨ (if hostWritten r then ringSize s r else ringUsed s r) < d) →
          t.num HST_RING_IDX r = s.num HST_RING_IDX r ∧ t.reg HST_DB_ERR_CNT = s.reg HST_DB_ERR_CNT + 1)) ∧
      (∀ q : Nat, q < 59 → q ≠ r → t.num HST_RING_IDX q = s.num HST_RING_IDX q)) ∧
    (∀ cfg : Nat, ringOn s r = false → ringCheck (ringFields r cfg s) r = true →
      ∃ t, exec (.ringEnable r cfg) s = .next (settle t) ∧ t.get HST_RING_IDX_PI r = 0 ∧ t.get HST_RING_IDX_CI r = 0)

/-- For every state and ring r of the 59: an entry that the device writes advances PI, and one that it accepts advances CI, by one modulo 2^32, and leaves the other index; the position of
index i is i modulo 2^SIZE_LOG2; an enabled ring whose PI is CI plus its size (modulo 2^32) has no room for an entry, and one with fewer entries has; no entry is
unconsumed exactly where PI is CI; and setting EN, while core island C has its supply, with fields that pass the checks answers a next state in which both indexes are 0 and the ring is empty and armed. -/
def Obligations.RingIndexesRunFreely : Prop :=
  ∀ (s : State) (r : Nat), r < 59 →
    (∀ entry slot : List Byte, (ringWrite r entry slot s).get HST_RING_IDX_PI r = (s.get HST_RING_IDX_PI r + 1) % 2 ^ 32 ∧
      (ringWrite r entry slot s).get HST_RING_IDX_CI r = s.get HST_RING_IDX_CI r) ∧
    ((acceptOne r s).get HST_RING_IDX_CI r = (s.get HST_RING_IDX_CI r + 1) % 2 ^ 32 ∧ (acceptOne r s).get HST_RING_IDX_PI r = s.get HST_RING_IDX_PI r) ∧
    (∀ i : Nat, ringPos s r i = i % 2 ^ s.get HST_RING_CFG_SIZE_LOG2 r) ∧
    (s.get HST_RING_IDX_PI r = (s.get HST_RING_IDX_CI r + ringSize s r) % 2 ^ 32 → s.get HST_RING_CFG_SIZE_LOG2 r < 32 → ringRoom s r 1 = false) ∧
    (ringOn s r = true → ringUsed s r < ringSize s r → ringRoom s r 1 = true) ∧
    (ringUsed s r = 0 ↔ s.get HST_RING_IDX_PI r = s.get HST_RING_IDX_CI r) ∧
    (∀ cfg : Nat, barReady s = true → s.power.coreUp = true → ringOn s r = false → ringCheck (ringFields r cfg s) r = true →
      ∃ t, exec (.ringEnable r cfg) s = .next (settle t) ∧ ringOn t r = true ∧ t.get HST_RING_IDX_PI r = 0 ∧ t.get HST_RING_IDX_CI r = 0 ∧
        ringUsed t r = 0 ∧ t.host.armed.contains r = true)

/-- For every state: STATUS, FAULT_READ and BB_READ_BLOCK answer their bytes and change nothing else (the manual does not lay out the bytes of STATUS: they are a free function of what it shows); every other SMBus command acts on the state with its black-box entry: freeze of a live buffer, release, fence, quiet, unquiet and quarter reset of a unit the
device has; the arm byte 0xA5 arms a device reset, the byte 0x5A within 100 ms of it resets the device, and the expiry of the arm, 100 ms after it and not before, ends it. -/
def Obligations.SmbusCommandsComplete : Prop :=
  ∀ s n : State,
    exec .smbusStatus s = .next (settle (smbusAnswer ((List.range 16).map (Config.statusByte (alarmBall s) (s.on FLT_PIN_CTRL_ATTN_PIN)
      (s.num FLT_FENCE_STAT) (s.num FLT_BB_STAT) (pairState s))) s)) ∧
    (∀ i : Nat, i < 512 → exec (.smbusFaultRead i) s =
      .next (settle (smbusAnswer (leBytes 8 (s.num FLT_SRC_CFG i) ++ leBytes 8 (s.num FLT_SRC_STAT i)) s))) ∧
    (∀ b off : Nat, b < 2 → off < 524800 → exec (.bbReadBlock b off) s = .next (settle (smbusAnswer (bbRead s b off 224) s))) ∧
    (∀ (byte m : Nat) (x : State), n = smbusNote 0x04 byte s → n.on FLT_BB_STAT_STOPPED = false → n.faults.collecting = none →
      m = clamp 0 8192 (n.get FLT_BB_CFG_POST_COUNT) → x = setBb n (bbLive n) { bbBuf n (bbLive n) with cause := causeSmbus } →
      exec (.bbFreeze byte) s = .next (settle (if m = 0 then bbClose x else { x with faults := { x.faults with collecting := some m, freezeAt := x.clock } }))) ∧
    (∀ b : Nat, n = smbusNote 0x05 b s → b < 2 → exec (.bbRelease b) s = .next (settle (bbRelease b n))) ∧
    (∀ u : Nat, n = smbusNote 0x10 u s → u < 20 → exec (.smbusFence u) s = .next (settle (fenceUnit u 8 n))) ∧
    (∀ p : Nat, n = smbusNote 0x11 p s → p < 96 → exec (.smbusQuiet p) s = .next (settle (quietPort p n))) ∧
    (∀ p : Nat, n = smbusNote 0x12 p s → p < 96 → exec (.smbusUnquiet p) s = .next (settle (unquietPort p n))) ∧
    (∀ q : Nat, n = smbusNote 0x13 q s → q < 5 → exec (.quarterReset q) s = .next (settle (resetUnit q 8 n))) ∧
    (n = smbusNote 0x14 0xA5 s → exec (.resetArm 0xA5) s = .next (settle { n with faults := { n.faults with resetArmed := true, armedAt := n.clock } })) ∧
    (n = smbusNote 0x15 0x5A s → n.faults.resetArmed = true → n.clock ≤ n.faults.armedAt + 100000000 → exec (.smbusDeviceReset 0x5A) s = .next (settle (fullReset 2 n))) ∧
    (s.faults.armedAt + 100000000 ≤ s.clock →
      exec .resetArmExpiry s = .next (settle { s with faults := { s.faults with resetArmed := false } })) ∧
    (s.clock < s.faults.armedAt + 100000000 → exec .resetArmExpiry s = .next (settle s))

/-- For every state and byte: where the arm does not stand (no arm since the last expiry of 100 ms or reset, or more than 100 ms since it) or the byte is not 0x5A, DEVICE_RESET over SMBus answers a next state whose
host interface, clock, buffer, express path, schedulers, tables, flows, Felric engine, memory controllers, pair, trust anchor, power and HKS are as they
were (the command leaves its black-box entry only). -/
def Obligations.SmbusResetNeedsItsArm : Prop :=
  ∀ (s : State) (byte : Nat), (s.faults.resetArmed = false ∨ s.faults.armedAt + 100000000 < s.clock ∨ byte ≠ 0x5A) →
    ∃ t, exec (.smbusDeviceReset byte) s = .next (settle t) ∧ t.host = s.host ∧ t.time = s.time ∧ t.buf = s.buf ∧ t.xpr = s.xpr ∧ t.egr = s.egr ∧
      t.cls = s.cls ∧ t.flow = s.flow ∧ t.fel = s.fel ∧ t.mem = s.mem ∧ t.pair = s.pair ∧ t.ascor = s.ascor ∧ t.power = s.power ∧ t.hks = s.hks

/-- For every state: the next CMD entry of an enabled ring, with room in the journal, is journaled with Ascor's verdict at the next index, sent to the partner
while mirroring is active, and passed by CI where it may be; the partner's acknowledgement marks the entry; the first accepted command of a ring with nothing
earlier of its family open starts; a running entry that is not authentic completes as a rejection, one with a reserved field set or an undefined opcode with ARG,
every other by its own row alone, and a commit that names another outcome changes nothing (log entry 124); CI passes an entry, which takes effect as accepted, once the partner has it where it must; the oldest held completion is written; and CI
is written to host memory. -/
def Obligations.CommandRingEventsComplete : Prop :=
  ∀ s : State,
    (∀ (r : Nat) (entry : List Byte) (tagOk sigOk certOk : Bool) (held : List JEntry) (index v session : Nat) (b : List Byte) (sealed_ : Bool) (object : Option Nat)
        (e : JEntry) (x y z : State), r < 4 → held = s.host.journal.filter (fun e => !e.tx && e.ring == r && !e.passed) → ringOn s r = true →
      s.on PWR_READY_HOST_READY = true → held.length < ringUsed s r → s.host.journal.length < journalSize → sessionChanges s = false → b = padTo 64 entry →
      v = verdictOf s b tagOk → index = (s.get HST_RING_IDX_CI r + held.length) % 2 ^ 32 → sealed_ = bitOf (leField b 2 1) 0 →
      x = countEvent 21 0x01 0xFFF 1 (if sealed_ && v = 0 then noteCseq b s else s) →
      session = (if sealed_ then (match sessionOf x (leField b 4 4) with | none => 4 | some n => n) else 4) →
      object = (if bitOf (leField b 2 1) 1 || namesObject (leField b 0 2) then some (leField b 16 4) else none) →
      e = ⟨r, index, false, false, leField b 8 8, leField b 0 2, sealed_, session, v, object, false, false, false, false, false, b, sigOk, certOk, none⟩ →
      y = journalStat { x with host := { x.host with journal := x.host.journal ++ [e] } } →
      z = (if mirrorActive y then sendMirror 1 0x02 (leBytes 1 (r + 32 * v) ++ leBytes 4 index) (leBytes 8 e.cseq ++ b) y else y) →
      exec (.cmdFetch r entry ⟨tagOk, sigOk, certOk⟩) s = .next (settle (passJournal r z.host.journal z))) ∧
    (∀ (r i : Nat) (x : State), r < 24 → x = { s with host := { s.host with
        journal := s.host.journal.map (fun e => if e.ring == r && e.index == i then { e with acked := true } else e) } } →
      exec (.partnerJournalAck r i) s = .next (settle (if r < 4 then passJournal r x.host.journal x else passTx r 65536 x))) ∧
    (∀ (ring k : Nat) (e : JEntry), ring < 4 → findIdx? (fun (e : JEntry) => !e.tx && e.ring == ring) s.host.journal 0 = some (k, e) → e.passed = true →
      e.running = false → (s.host.journal.take k).any (fun x => !x.tx && x.passed && x.opcode / 256 == e.opcode / 256) = false →
      cplSpace s ring = true → (e.replay = true → s.on PWR_READY_EXPRESS_READY = true) →
      (e.opcode = 0x0900 → s.on PWR_READY_BULK_READY = true) →
      exec (.commandExecute ring) s =
        .next (settle { s with host := { s.host with journal := s.host.journal.set k { e with running := true } } })) ∧
    (∀ (ring cseq : Nat) (e : JEntry), ring < 4 →
      s.host.journal.find? (fun e => !e.tx && e.ring == ring && e.cseq == cseq && e.running) = some e →
      s.host.waiting.any (fun w => w.ring == ring && w.cseq == cseq) = false →
      (e.verdict ≠ 0 → exec (.commandCommit ring cseq 6 e.verdict 0) s = .next (settle (rejectCommand (cmdOf e) e.opcode e.verdict s))) ∧
      (e.verdict = 0 → (headerReserved e.entry = true ∨ opcodeDefined e.opcode = false) →
        exec (.commandCommit ring cseq 1 0 0) s = .next (settle (finish (cmdOf e) e.opcode (resFail 1) s))) ∧
      (∀ status detail result : Nat, (status, detail, result) ≠ (6, e.verdict, 0) ∨ e.verdict = 0 → (status, detail, result) ≠ (1, 0, 0) ∨
          e.verdict ≠ 0 ∨ (headerReserved e.entry = false ∧ opcodeDefined e.opcode = true) →
        exec (.commandCommit ring cseq status detail result) s = .next (settle s))) ∧
    (∀ (r : Nat) (e : JEntry) (es : List JEntry), e.tx = false → e.ring = r → e.passed = false →
      passJournal r (e :: es) s = (if mirrorActive s && !e.acked then s else passJournal r es (acceptOne r (acceptWork e s)))) ∧
    (∀ (ring k : Nat) (c : Completion), ring < 4 → findIdx? (fun (c : Completion) => c.ring == ring) s.host.completions 0 = some (k, c) →
      ringRoom s (4 + ring) 1 = true →
      exec (.completionWrite ring) s = .next (settle (ringWrite (4 + ring) (leBytes 8 c.cseq ++ leBytes 4 c.result ++ leBytes 1 c.status ++
        leBytes 1 c.detail ++ leBytes 1 (c.ring % 4 + ofBool c.replayed * 4 + ofBool c.resultObj * 8) ++ [0]) []
        { s with host := { s.host with completions := s.host.completions.eraseIdx k } }))) ∧
    (∀ r : Nat, r < 24 → ringOn s r = true → hostWritten r = true → exec (.ciWriteBack r) s = .next (settle { s with host := { s.host with
      ciWritten := Store.set s.host.ciWritten r (s.get HST_RING_IDX_CI r) } }))

/-- For every state: the next PKT_TX descriptor is journaled with its frame, one that fails its checks with status 2 at once; a DIRECT frame is linked into its queue and a PIPELINE
frame handed to its port once the bulk path forwards; the outcome of the first open descriptor is written to TXC; a frame at the head of a host queue, a
returned frame or command, a telemetry message and an event (the overflow event first) are written to their rings while room is; MOD_COUNT entries or MOD_US
signal an armed ring; a function level reset disables every ring; the link trains; a vector unmasked is sent where it was pending; the PKT_TX
entries lost by a reset are reported; at the drain limit every remaining frame is returned; and a session idle for SESSION_IDLE_MIN minutes is closed. -/
def Obligations.PacketRingEventsComplete : Prop :=
  ∀ s x : State,
    (∀ (r index : Nat) (d frame b : List Byte) (slot : TxSlot) (held : List TxSlot), 8 ≤ r → r < 24 →
      held = s.host.tx.filter (fun x => x.ring == r && (x.index + 2 ^ 32 - s.get HST_RING_IDX_CI r) % 2 ^ 32 < 2 ^ 16) →
      index = (s.get HST_RING_IDX_CI r + held.length) % 2 ^ 32 → ringOn s r = true → s.on PWR_READY_HOST_READY = true →
      held.length < ringUsed s r → s.host.journal.length < journalSize → x = countEvent 21 0x01 0xFFF 1 s → b = padTo 64 d →
      slot = ⟨r, index, bitOf (leField b 10 1) 0, bitOf (leField b 10 1) 1,
        if bitOf (leField b 10 1) 2 then some (stampOfBytes (slice b 16 10)) else none, leField b 12 1, leField b 11 1 % 8,
        padTo (leField b 8 2) frame, false, none⟩ →
      (∀ (e : JEntry) (y z : State) (sl : TxSlot),
        e = ⟨r, index, true, slot.direct, 0, 0, false, 4, 0, none, false, false, false, false, false, b, false, false, none⟩ →
        sl = (if txGood x r b then slot else { slot with handed := true, outcome := some (2, x.now) }) →
        y = journalStat { x with host := { x.host with journal := x.host.journal ++ [e], tx := x.host.tx ++ [sl] } } →
        z = (if mirrorActive y then sendMirror 1 0x02 (leBytes 1 r ++ leBytes 4 index) (zeros 8 ++ b) y else y) →
        exec (.pktTxFetch r d frame) s = .next (settle (if txGood x r b then z else passTx r 65536 z)))) ∧
    (∀ (r : Nat) (y : TxSlot) (fr : Frame) (t : State), 8 ≤ r → r < 24 → nextTx s r = some y → y.direct = true → bulkReady s = true → s.egr.accepting = true →
      fr = { freshFrame 96 0 false y.bytes s.now (some (r, y.index)) with ended := true, dispatched := true } →
      linkCopy (8 * y.port + y.queue) { copyFor s s.buf.nextFrame fr (8 * y.port + y.queue) y.bytes 0 0xFFFF with launch := y.launch, cutThrough := false }
        (newFrame fr s) = some t →
      exec (.pktTxDirectLink r) s = .next (settle (passTx r 65536 (handTx y (settleBuffer t))))) ∧
    (∀ (r : Nat) (y : TxSlot), 8 ≤ r → r < 24 → nextTx s r = some y → y.direct = false → bulkReady s = true → s.egr.accepting = true →
      (mirrorActive s && s.host.journal.any (fun e => e.tx && e.ring == r && e.index == y.index && !e.acked)) = false →
      s.get HST_RING_IDX_CI r = y.index → x = passTx r 65536 (handTx y s) →
      exec (.pktTxPipelineHandover r) s = .next (settle (txJournalDone r y.index (onFrame s.buf.nextFrame
        (fun z => { z with stamp := (bulkArrive y.port y.bytes true true (some (r, y.index)) x).now })
        (bulkArrive y.port y.bytes true true (some (r, y.index)) x))))) ∧
    (∀ (r k status : Nat) (y : TxSlot) (at_ : Stamp), 8 ≤ r → r < 24 → findIdx? (fun (x : TxSlot) => x.ring == r) s.host.tx 0 = some (k, y) →
      y.outcome = some (status, at_) → y.handed = true → ringRoom s (r + 16) 1 = true →
      exec (.txcWrite r) s = .next (settle (ringWrite (r + 16) ((if y.tsReq && status = 0 then stampBytes at_ else zeros 10) ++ leBytes 2 y.index ++
        leBytes 1 status ++ zeros 3) [] { s with host := { s.host with tx := s.host.tx.eraseIdx k } }))) ∧
    (∀ (k : Nat) (c : Copy) (rest : List Copy) (f : Frame), k < 16 → (queueOf s (768 + k)).head = c :: rest → frameOf s c.frame = some f →
      f.ended = true → (f.inHbm = false ∨ s.buf.direct.contains (c.frame, 768 + k) = true) →
      ringRoom s (40 + k) (slotCount s (40 + k) f.bytes.length) = true →
      x = writeSlots (40 + k) (4 * ofBool f.bad) (leBytes 1 c.reason ++ leBytes 1 f.port ++ zeros 1 ++ stampBytes f.stamp ++ leBytes 2 c.rule) f.bytes s →
      exec (.pktRxWrite k) s = .next (settle (dropCopy c.frame (setQueue (768 + k) { queueOf s (768 + k) with head := rest }
        { x with buf := { x.buf with direct := x.buf.direct.filter (fun e => e != (c.frame, 768 + k)) } })))) ∧
    (∀ (w : Returned) (rest : List Returned), s.host.exc = w :: rest → ringRoom s 57 (slotCount s 57 w.bytes.length) = true →
      exec .excWrite s = .next (settle (writeSlots 57 (4 * ofBool w.command) (leBytes 1 w.reason ++ leBytes 1 w.port ++ leBytes 1 w.queue ++
        stampBytes w.time ++ leBytes 8 w.cseq) w.bytes { s with host := { s.host with exc := rest } }))) ∧
    (∀ (m : TlmMsg) (rest : List TlmMsg), s.host.tlm = m :: rest → ringRoom s 58 (slotCount s 58 m.bytes.length) = true →
      exec .tlmWrite s = .next (settle (writeSlots 58 (4 * ofBool m.sealed) [] m.bytes { s with host := { s.host with tlm := rest } }))) ∧
    (∀ (e : Event) (rest : List Event), s.host.evtDropped = 0 → s.host.evtFifo = e :: rest → ringRoom s 56 1 = true →
      exec .eventPost s = .next (settle (ringWrite 56 (eventBytes e) [] { s with host := { s.host with evtFifo := rest } }))) ∧
    (s.host.evtDropped ≠ 0 → ringRoom s 56 1 = true → x = ringWrite 56 (eventBytes ⟨0x00F0, 0, s.now, leBytes 8 s.host.evtDropped⟩) [] s →
      exec .eventPost s = .next (settle { x with host := { x.host with evtDropped := 0 } })) ∧
    (∀ r : Nat, r < 59 → s.host.armed.contains r = true → 0 < ringUsed s r → 0 < Store.getD s.host.since r 0 →
      x = sendVector (s.get HST_RING_CFG_VECTOR r) { s with host := { s.host with
        armed := s.host.armed.filter (fun y => y != r), since := Store.erase s.host.since r, sinceAt := Store.erase s.host.sinceAt r } } →
      (Store.getD s.host.sinceAt r 0 + s.get HST_RING_MOD_MOD_US r * 1000 ≤ s.clock → exec (.modUsExpiry r) s = .next (settle x)) ∧
      (s.clock < Store.getD s.host.sinceAt r 0 + s.get HST_RING_MOD_MOD_US r * 1000 → exec (.modUsExpiry r) s = .next (settle s)) ∧
      ((s.get HST_RING_MOD_MOD_COUNT r = 0 ∨ s.get HST_RING_MOD_MOD_US r = 0 ∨ s.get HST_RING_MOD_MOD_COUNT r ≤ Store.getD s.host.since r 0) → exec (.msiXMessage r) s = .next (settle x))) ∧
    (x = (List.range 59).foldl (fun s r => ringDisable r s) s →
      exec (.functionLevelReset false) s = .next (settle { x.bump HST_FLR_CNT with host := { x.host with
        armed := [], since := [], sinceAt := [], vectorMask := List.range 64, vectorPending := [], latch := [] } })) ∧
    (x = ((((List.range 59).foldl (fun s r => ringDisable r s) s).put HST_PCIE_STAT_LINK_UP 0).put HST_PCIE_STAT_SPEED 0).put HST_PCIE_STAT_WIDTH 0 →
      exec (.functionLevelReset true) s = .next (settle { x.bump HST_FLR_CNT with host := { x.host with
        armed := [], since := [], sinceAt := [], vectorMask := List.range 64, vectorPending := [], latch := [] } })) ∧
    (∀ speed width : Nat, 1 ≤ speed → speed ≤ 5 → width ∈ [1, 2, 4, 8] → exec (.pcieLinkTraining speed width) s = .next (settle
      (((s.put HST_PCIE_STAT_SPEED speed).put HST_PCIE_STAT_WIDTH width).put HST_PCIE_STAT_LINK_UP 1))) ∧
    (∀ v : Nat, v < 64 → x = { s with host := { s.host with
        vectorMask := s.host.vectorMask.filter (fun y => y != v), vectorPending := s.host.vectorPending.filter (fun y => y != v) } } →
      exec (.msiXVectorUnmask v) s = .next (settle (if s.host.vectorPending.contains v then sendVector v x else x))) ∧
    (∀ gone : List JEntry, gone = s.host.journal.filter (fun e => e.tx && e.replay) →
      x = { s with host := { s.host with
        journal := s.host.journal.filter (fun e => !(e.tx && e.replay)), lostTx := s.host.lostTx ++ gone.map (fun (e : JEntry) => (e.ring, e.index)) } } →
      ringOn (journalStat (x.bumpBy gone.length HST_TX_LOST_CNT)) 56 = false →
      exec .pktTxLostReport s = .next (settle (journalStat (x.bumpBy gone.length HST_TX_LOST_CNT)))) ∧
    (∀ (gone : List JEntry) (y : State), gone = s.host.journal.filter (fun e => e.tx && e.replay) →
      x = { s with host := { s.host with
        journal := s.host.journal.filter (fun e => !(e.tx && e.replay)), lostTx := s.host.lostTx ++ gone.map (fun (e : JEntry) => (e.ring, e.index)) } } →
      y = journalStat (x.bumpBy gone.length HST_TX_LOST_CNT) → ringOn y 56 = true →
      exec .pktTxLostReport s = .next (settle (y.host.lostTx.foldl (fun s (e : Nat × Nat) => postEvent 0x0014 e.1 (leBytes 4 e.2) s)
        { y with host := { y.host with lostTx := [] } }))) ∧
    (∀ w : Waiting, waitingOf s (fun w => w.opcode == 0x0B06) = some w →
      x = (List.range 96).foldl (fun s p => returnExpress 0x03 p (cutSending p s)) s →
      (w.key ≤ s.clock → exec .drainLimitExpiry s = .next (settle (x.buf.queues.foldl (fun s e => returnQueue 0x03 e.1 s) x))) ∧
      (s.clock < w.key → exec .drainLimitExpiry s = .next (settle s))) ∧
    (∀ (n t : Nat) (y : Session), n < 4 → Store.get? s.ascor.sessions n = some y →
      t = y.used + clamp 1 255 (s.get ASC_CTRL_SESSION_IDLE_MIN) * 60 * nsPerSec →
      (t ≤ s.clock → exec (.sessionIdleExpiry n) s = .next (settle (sessionStat
        { s with ascor := { s.ascor with sessions := Store.set s.ascor.sessions n { y with opened := false } } }))) ∧
      (s.clock < t → exec (.sessionIdleExpiry n) s = .next (settle s)))

/-- For every state: a frame on a receiving port that hits no express stream starts as a bulk frame, on a port that validates as MACsec leaves it, and one
that MACsec discards is refused; the rest of a bulk frame not yet ended ends it, and of an express frame ends it, of a protected one with the check of its ICV; the header descriptor of a frame with its window present goes to its quarter's wake FIFO and wakes it, or is refused where
8192 wait; a serving quarter with room in its release stage takes its oldest descriptor through a pass, and the oldest recirculated one; an inspected frame gets its
verdict from a context; the first releasable descriptor goes to the flow input; a notice at a ring stop is applied and passed on; ageing sweeps the table a period after the last sweep; and an account still
stopped above XON repeats its XOFF once REFRESH_US have passed. -/
def Obligations.IngressEventsComplete : Prop :=
  ∀ s x : State,
    (∀ (p : Nat) (bytes : List Byte) (ended good : Bool), p < 96 → receives s p = true → bulkReady s = true →
      (expressReady s = true → streamHit s p bytes = none) →
      validate s p bytes ended = .clear →
      exec (.frameArrival p bytes ended good) s = .next (settle (bulkArrive p bytes ended good none s))) ∧
    (∀ (p : Nat) (bytes : List Byte) (ended : Bool), protects s p bytes = false → validate s p bytes ended = .clear) ∧
    (∀ (p : Nat) (bytes : List Byte) (ended good replay : Bool), p < 96 → receives s p = true → bulkReady s = true →
      validate s p bytes ended = .discard replay → exec (.frameArrival p bytes ended good) s = .next (settle (secRefuse p replay s))) ∧
    (∀ (p key pn : Nat) (bytes plain : List Byte) (ended good icvOk : Bool), p < 96 → receives s p = true → bulkReady s = true →
      (expressReady s = true → streamHit s p plain = none) → validate s p bytes ended = .valid key pn plain icvOk →
      x = bulkArrive p plain ended (good && icvOk) none s →
      exec (.frameArrival p bytes ended good) s = .next (settle (if ended then secEnds p key pn good icvOk x
        else if x.buf.nextFrame = s.buf.nextFrame then x
        else { x with buf := { x.buf with wires := Store.set x.buf.wires s.buf.nextFrame (p, bytes) } }))) ∧
    (∀ (f : Nat) (rest : List Byte) (good : Bool) (y : Frame), frameOf s f = some y → y.ended = false → wireOf false f s = none →
      exec (.frameEndArrival false f rest good) s = .next (settle (bulkEnd f rest good (chargeRest f (y.bytes.length + rest.length + 4) s)))) ∧
    (∀ (f : Nat) (rest : List Byte) (good : Bool), wireOf true f s = none →
      exec (.frameEndArrival true f rest good) s = .next (settle (expressEnd f rest good s))) ∧
    (∀ (express good : Bool) (f p : Nat) (rest w : List Byte), wireOf express f s = some (p, w) → x = dropWire express f s →
      (∀ (key pn : Nat) (plain : List Byte) (icvOk : Bool), validate x p (w ++ rest) true = .valid key pn plain icvOk →
        exec (.frameEndArrival express f rest good) s = .next (settle (secEnds p key pn good icvOk
          (plainEnd express f (plain.drop (plainSoFar express f x)) (good && icvOk) x)))) ∧
      (∀ replay : Bool, validate x p (w ++ rest) true = .discard replay →
        exec (.frameEndArrival express f rest good) s = .next (settle ((if replay then secFailure p else id) (plainEnd express f [] false x))))) ∧
    (∀ (f q : Nat) (y : Frame), frameOf s f = some y → y.dispatched = false → y.port < 96 → windowPresent s y = true → q = servingQuarter s y.port →
      exec (.headerDescriptorDispatch f) s = .next (settle (if (quarterOf s q).wake.length < 8192
        then wakeUnit q (onQuarter q (fun z => { z with wake := z.wake ++ [f] }) (onFrame f (fun z => { z with dispatched := true }) s))
        else refuseFrame BUF_ADM_REFUSE f s))) ∧
    (∀ (q f : Nat) (rest : List Nat) (y : Frame), q < 5 → serves s q = true → s.faults.incoming.contains q = false →
      (quarterOf s q).release.length < 4096 → (quarterOf s q).wake = f :: rest → x = onQuarter q (fun z => { z with wake := rest }) s →
      frameOf x f = some y →
      exec (.quarterPass q) s = .next (settle (runPass q (newDesc x q f y) (countEvent q 0x01 y.port 1 x)))) ∧
    (∀ (q : Nat) (d : Desc) (rest : List Desc), q < 5 → serves s q = true → (quarterOf s q).recirc = d :: rest →
      exec (.recirculation q) s = .next (settle (runPass q d (countEvent q 0x02 d.port 1 (onQuarter q (fun z => { z with recirc := rest }) s))))) ∧
    (∀ (q n : Nat) (d : Desc) (y : Frame) (im : Image) (r : Nat × Nat), q < 5 → serves s q = true →
      (quarterOf s q).engines.find? (inspectable s) = some d → frameOf s d.frame = some y →
      n = min (inspectWant d) (y.bytes.length - d.rest) → 0 < n → x = s.bump QTR_PAT_FRAME_CNT q →
      (exec (.patternInspection q true) s =
        .next (settle (report (srcQuarter q 5) ((verdictReady q d.frame 0xFFFE x).bump QTR_PAT_FAULT_CNT q)))) ∧
      (Store.get? x.cls.images d.act.patImage = some im →
        r = automatonRun im.words (im.starts.getD d.act.patProg 0) 0 0 ((y.bytes.drop d.rest).take n) →
        exec (.patternInspection q false) s = .next (settle ((verdictReady q d.frame r.1 x).bumpBy r.2 QTR_PAT_BYTE_CNT q)))) ∧
    (∀ (q : Nat) (d : Desc), q < 5 → takeReleased q s = some (d, x) →
      exec (.descriptorRelease q) s = .next (settle { x with flow := { x.flow with input := x.flow.input ++ [d] } })) ∧
    (∀ (q : Nat) (n : Notice) (rest : List Notice), q < 5 → (quarterOf s q).notices = n :: rest → fenced s q = false →
      x = applyNotice q n (onQuarter q (fun z => { z with notices := rest }) s) → fenced (onQuarter q (fun z => { z with notices := rest }) s) q = false →
      exec (.learnNotice q) s = .next (settle (if (q + 1) % 5 = n.origin then x else sendNotice q n x))) ∧
    (∀ q t : Nat, q < 5 → fenced s q = false → s.on QTR_AGE_CTRL_AGE_EN q = true →
      t = (quarterOf s q).agedAt + max 100 (s.get QTR_AGE_CTRL_PERIOD_MS q) * 1000000 →
      (t ≤ s.clock → exec (.l2Age q) s = .next (settle ((quarterOf s q).learned.slots.foldl (fun s e => sweepEntry q e.2 s)
        (onQuarter q (fun z => { z with agedAt := s.clock }) s)))) ∧
      (s.clock < t → exec (.l2Age q) s = .next (settle s))) ∧
    (∀ p i t : Nat, p < 96 → i < 8 → s.buf.xoff.contains (8 * p + i) = true →
      t = Store.getD s.buf.xoffAt (8 * p + i) 0 + clamp 1 4095 (s.get BUF_PFCPROF_W1_REFRESH_US (s.get BUF_PFC_PORT_PROFILE p)) * 1000 →
      (t ≤ s.clock → losslessPrio s p i = true → xonOf s p < pfcAccount s p i → exec (.pfcRefresh p i) s = .next (settle (sendXoff p i s))) ∧
      (s.clock < t → exec (.pfcRefresh p i) s = .next (settle s)))

/-- For every state: the next step of a quarter that is not fenced is applied to its group, counted, and counted as stolen where its slot was; a row of a quarter that differs
from its shadow copy, or a damaged row of an express replica, is put right by the scrubber, counted and reported; the next express step is applied; an insertion by the table engine places the entry, or requests a rehash; a
commit tick takes the first waiting commit of its ring into effect; the swap and the drain of the old profile copy end their commands. -/
def Obligations.TableStepsComplete : Prop :=
  ∀ s x : State,
    (∀ (q : Nat) (stolen : Bool) (y : TStep) (rest : List TStep), q < 5 → (quarterOf s q).steps = y :: rest → fenced s q = false →
      x = (bankStat q y.group ((onQuarter q (fun z =>
        { z with steps := rest, tcam := y.applyTo z.tcam, shadow := y.applyTo z.shadow }) s).bump QTR_TCAM_STEP_CNT q)).flag QTR_TCAM_UPD_BUSY (!rest.isEmpty) q →
      exec (.tcamStep q stolen) s = .next (settle (if stolen then x.bump QTR_TCAM_STEAL_CNT q else x))) ∧
    (∀ (q r g i : Nat) (e : TEntry), q < 5 → r < 3 → fenced s q = false → Store.get? (Store.getD (quarterOf s q).shadow g []) i = some e →
      (Store.get? (Store.getD (quarterOf s q).tcam g []) i ≠ some e →
        exec (.tcamScrub ⟨q, r, g, i⟩ none) s = .next (settle (report (srcQuarter q 4) (((onQuarter q (fun z => { z with
          tcam := Store.put z.tcam g [] (Store.set (Store.getD z.tcam g []) i e) }) s).bump QTR_TCAM_STEP_CNT q).bump QTR_TCAM_SCRUB_FIX_CNT q)))) ∧
      (Store.get? (Store.getD (quarterOf s q).tcam g []) i = some e → exec (.tcamScrub ⟨q, r, g, i⟩ none) s = .next (settle s))) ∧
    (∀ r g i : Nat, r < 3 → (s.xpr.damaged.contains (r, g, i) = true → exec (.tcamScrub ⟨5, r, g, i⟩ none) s = .next (settle (report (srcReplica r 2)
        (({ s with xpr := { s.xpr with damaged := s.xpr.damaged.filter (fun y => y != (r, g, i)) } } : State).bump XPR_TCAM_SCRUB_FIX_CNT)))) ∧
      (s.xpr.damaged.contains (r, g, i) = false → exec (.tcamScrub ⟨5, r, g, i⟩ none) s = .next (settle s))) ∧
    (∀ (q r g i : Nat) (e : Nat × List (Nat × Nat)), q < 6 → r < 3 → exec (.tcamScrub ⟨q, r, g, i⟩ (some e)) s = .next (settle (strikeRow q r g i e s))) ∧
    (∀ (y : TStep) (rest : List TStep), s.xpr.steps = y :: rest → exec .expressTcamStep s = .next (settle
      { s with xpr := { s.xpr with
        steps := rest, tcam := y.applyTo s.xpr.tcam, damaged := s.xpr.damaged.filter (fun z => !(z.2.1 == y.group && z.2.2 == y.dst)) } })) ∧
    (∀ (t q : Nat) (key data : List Byte) (y : CTable), t < 4 → q < 5 → insertBy (tablePlace s q t) (tableOf s q t) key data = some y →
      exec (.cuckooInsertion t q key data) s = .next (settle (setTable q t y s))) ∧
    (∀ (q : Nat) (key data : List Byte), q < 5 → insertBy (tablePlace s q 0) (tableOf s q 0) key data = none →
      exec (.cuckooInsertion 0 q key data) s = .next (settle (rehashRequest q 0 s))) ∧
    (∀ (ring : Nat) (w : Waiting), ring < 4 → waitingOf s (awaitsTick ring) = some w →
      (w.opcode = 0x0201 → exec (.commitTick ring) s = .next (settle (flipEpoch (tickCame w s)))) ∧
      (w.opcode = 0x0406 → exec (.commitTick ring) s = .next (settle (flipProfile (tickCame w s)))) ∧
      (w.opcode = 0x020B → exec (.commitTick ring) s = .next (settle
        (finishWaiting (fun y => y == w) (fun _ => ⟨0, w.detail, 0, false⟩) (flipIndir w.key s)))) ∧
      (w.opcode = 0x020D → exec (.commitTick ring) s = .next (settle
        (finishWaiting (fun y => y == w) (fun _ => ⟨0, w.detail, 0, false⟩) (flipExpress s)))) ∧
      (w.opcode = 0x040C → exec (.commitTick ring) s = .next (settle
        (finishWaiting (fun y => y == w) (fun _ => ⟨0, w.detail, 0, false⟩) (flipLb w.key s))))) ∧
    exec .rulesetSwapComplete s = .next (settle (rulesetEnds s)) ∧
    (s.on FLW_PROF_STAT_DRAINING = true → s.get FLW_PROF_STAT_OLD_REFS = 0 → x = s.put FLW_PROF_STAT_DRAINING 0 →
      exec .profileDrainComplete s = .next (settle (finishWaiting (fun w => w.opcode == 0x0406) (fun _ => resOk)
        (onPolicy (!activeCopy x) (fun _ => policyOf x (activeCopy x)) x))))

/-- For every state: the oldest released descriptor is looked up; a fetch that finds its record in firkin promotes it and drains its queue, one that finds no
record is a miss, and CT data that comes drains the entry; the timer of an entry refuses its descriptors once TIMEOUT_US has passed; a record waiting for its
slot is placed, and is no longer pinned; a write-through lands; the longest dirty record is written back, late or not; an idle record
is demoted; a due sweep visits every slot; a due idle record whose profile asks for no event is deleted; the partner's acknowledgement drains its entry; and a held
port is freed after its time. -/
def Obligations.FlowTableEventsComplete : Prop :=
  ∀ s x : State,
    (∀ (d : Desc) (rest : List Desc), s.flow.input = d :: rest →
      exec .flowLookup s = .next (settle (flowLookup d { s with flow := { s.flow with input := rest } }))) ∧
    (∀ (i : Nat) (e : Pend), Store.get? s.flow.pend i = some e →
      (e.waits = .ctData → exec (.pendingFetchComplete i) s = .next (settle (tierStat (drain i e.created true s)))) ∧
      (∀ f : Nat × Firkin, e.waits = .fetch → firkinOf s e.key = some f → exec (.pendingFetchComplete i) s = .next (settle (tierStat
        (drain i false true (enterGill e.key (fun s x => Profile.sketch (activeProfile s x.profile)) s))))) ∧
      (e.waits = .fetch → firkinOf s e.key = none → s.mem.lost.any (fun y => y.2 == e.key) = false → fetchHeld s e.key = false → tunOf s e.key = none →
        exec (.pendingFetchComplete i) s = .next (settle (tierStat (missed i s)))) ∧
      (e.queue ≠ [] → clamp 20 10000 (s.get FLW_MISS_CTRL_TIMEOUT_US) * 1000 ≤ s.clock - e.since →
        x = setPend i { e with queue := [], ctReady := false, created := false, cause := none } s →
        exec (.missTimeout i) s = .next (settle (report (srcFlow 2) (e.queue.foldl (fun s d => flowRefuse FLW_REFUSE_TMO d s) x)))) ∧
      (e.waits = .partner → exec (.strictAck i) s = .next (settle (tierStat
        (drain i e.created true (ackArrived e.key (s.bump FLW_STRICT_WAIT_CNT))))))) ∧
    (∀ (key : List Byte) (rest : List (List Byte)) (i : Nat) (f : Firkin) (t : State), s.flow.homing = key :: rest →
      x = { s with flow := { s.flow with homing := rest } } → firkinOf x key = some (i, f) → placeTun f x = (t, true) →
      exec .tunInsertion s = .next (settle (tierStat (onFirkin key (fun y => { y with pinned := false }) t)))) ∧
    (landingHeld s = false → exec .writeThroughLand s = .next (settle (tierStat
      (resume (fun e => e.waits = .writeThrough) (fun i s => drain i false false s) (landWriteThrough s))))) ∧
    (∀ (key : List Byte) (t : Nat), s.flow.dirty.find? (fun d => !tunMarked s d.1) = some (key, t) → s.clock - t ≤ wbPeriod s →
      exec .writeBack s = .next (settle (tierStat (writeBack key s)))) ∧
    (∀ (key : List Byte) (t : Nat), s.flow.dirty.find? (fun d => !tunMarked s d.1) = some (key, t) → wbPeriod s < s.clock - t →
      x = s.bump FLW_WB_LATE_CNT → exec .writeBack s = .next (settle (tierStat (writeBack key
        (if x.flow.lateAt = 0 ∨ nsPerSec ≤ x.clock - x.flow.lateAt then report (srcFlow 4) { x with flow := { x.flow with lateAt := x.clock } } else x))))) ∧
    (∀ (key : List Byte) (y : State), copyBusy s key = false →
      y = (if (gillOf s key).any (fun g => idleFor s g.2.lastT (clamp 1 600 (s.get FLW_DEMOTE_CTRL_GILL_IDLE_S))) then evictGill key s else s) →
      exec (.demotion key) s = .next (settle (tierStat (if (gillOf y key).isNone && (firkinOf y key).any
        (fun e => idleFor y e.2.lastT (clamp 60 2000 (y.get FLW_DEMOTE_CTRL_FIRKIN_IDLE_S))) then evictFirkin key y else y)))) ∧
    (∀ keys due : List (List Byte), s.on FLW_AGE_CTRL_AGE_EN = true → s.flow.sweepAt + clamp 15 65535 (s.get FLW_AGE_CTRL_SWEEP_S) * nsPerSec ≤ s.clock →
      keys = s.flow.tun.slots.map (fun e => e.2.key) →
      due = keys.filter (fun k => agesHere s && (s.flow.skipped.contains k || (recordOf s k).any (activeDue s))) →
      x = keys.foldl (fun s k => idleDeletion k s)
        { s with flow := { s.flow with due := s.flow.due.filter (fun k => !due.contains k) ++ due, skipped := [] } } →
      exec .tunSweep s = .next (settle { x with flow := { x.flow with sweptAt := x.nowNs, sweepAt := x.clock } })) ∧
    (s.clock < s.flow.sweepAt + clamp 15 65535 (s.get FLW_AGE_CTRL_SWEEP_S) * nsPerSec → exec .tunSweep s = .next (settle s)) ∧
    (∀ (key : List Byte) (n i : Nat) (y : Slot) (f : Firkin) (e : Pend), tunOf s key = some (n, y) → agesHere s = true → isDue s y = true →
      countedSince s key = false → pendOf s key = none → freePend s = some i → recordOf s key = some f →
      e = ⟨key, [], s.clock, .deletion, false, false, none⟩ →
      (raisesEvent (activeProfile s f.profile) 2 = false → exec (.idleDeletion key) s = .next (settle (finishDeletion i (setPend i e s)))) ∧
      (raisesEvent (activeProfile s f.profile) 2 = true →
        raiseIdle (profProg (activeProfile s f.profile)) f.idleS (if f.lead then key else f.link.getD key) key i s = some x →
        exec (.idleDeletion key) s = .next (settle (setPend i e x)))) ∧
    (∀ (i : Nat) (e : Pend), Store.get? s.flow.pend i = some e → finishDeletion i s = if deletionRoom s e.key
      then afterDeletion i (deleteFlow e.key (some idleReason) (s.bump FLW_AGE_CNT)) else setPend i { e with waits := .exportRoom } s) ∧
    (∀ (i : Nat) (h : HeldPort), s.flow.heldPorts[i]? = some h → h.until_ ≤ s.clock →
      exec (.natPortReuse i) s = .next (settle { s with flow := { s.flow with
        ports := Store.erase s.flow.ports (key3 h.pool h.addr h.port), heldPorts := s.flow.heldPorts.eraseIdx i } }))

/-- For every state: an export queues the record with its reason; a full or overdue batch becomes a message; templates and epochs are sent; a free core of a
serving cluster takes its next task; an on-die list is refilled from its sub-ring in order; the task owed to an entry without queue is dropped with it; a task out of
cycles, or with an uncorrectable error, ends with its fault; a due timer is spent, and raises its task where the profile asks for one; a fenced cluster hands its
map entries over; and an old program version is freed once no task uses it. -/
def Obligations.TelemetryAndTaskEventsComplete : Prop :=
  ∀ s x : State,
    (∀ (key : List Byte) (f : Firkin), recordOf s key = some f → s.flow.due.contains key = true →
      x = { s with flow := { s.flow with due := s.flow.due.filter (fun k => k != key) } } →
      exec (.telemetryExport key 2) s = .next (settle (if 49152 ≤ x.flow.exports.length then report (srcFlow 11)
        (({ x with flow := { x.flow with skipped := x.flow.skipped ++ [key] } } : State).bump FLW_TLM_SKIP_CNT) else exportRecord f 2 x))) ∧
    (∀ (key : List Byte) (reason i : Nat) (e : Pend) (f : Firkin), pendOf s key = some (i, e) → e.waits = .exportRoom → recordOf s key = some f →
      reason = idleReason s f → reason ≠ 2 → exec (.telemetryExport key reason) s = .next (settle (finishDeletion i s))) ∧
    (∀ (n : Nat) (l : List ExportRec) (sets : List Byte), n = batchFits (clamp 512 8192 (s.get FLW_TLM_CTRL_MSG_MAX) - 16) s.flow.exports 0 →
      s.flow.exports ≠ [] → (n < s.flow.exports.length ∨ clamp 1 1000 (s.get FLW_TLM_CTRL_BATCH_US) * 1000 ≤ s.clock - s.flow.batchStart) →
      l = s.flow.exports.take (max 1 n) → sets = ipfixSets l.length l →
      x = { s with flow := { s.flow with
        exports := s.flow.exports.drop (max 1 n), ipfixSeq := (s.flow.ipfixSeq + l.length) % 2 ^ 32, batchStart := s.clock } } →
      exec .exportMessage s = .next (settle (exportRoomCame (sendMessage (ipfixHeader s sets.length s.flow.ipfixSeq ++ sets) x)))) ∧
    ((s.flow.templatesAt = none ∨ ∃ t, s.flow.templatesAt = some t ∧ t + clamp 1 3600 (s.get FLW_TLM_CTRL_TEMPLATE_S) * nsPerSec ≤ s.clock) →
      (s.on FLW_TLM_CTRL_TO_RING || s.on FLW_TLM_CTRL_TO_PORT) = true →
      exec .templateResend s = .next (settle (sendTemplates.templateMessage { s with flow := { s.flow with templatesAt := some s.clock } }))) ∧
    (epochDue s = false → exec .telemetryEpoch s = .next (settle s)) ∧
    (epochDue s = true → x = { s with ascor := { s.ascor with
        tlmEpoch := (s.ascor.tlmEpoch + 1) % 2 ^ 32, tlmCounter := 0, tlmKey := s.free, tlmAt := some s.clock } } →
      exec .telemetryEpoch s = .next (settle (sendTelemetry true (epochRecord x) { x with free := x.free + 24 }))) ∧
    (∀ (n w : Nat) (t : Task) (y z : State) (p : Prog) (v : List Byte), n < 64 → serves s (5 + n / 16) = true → runningOn s n = none →
      nextTaskOf s (n / 16) = some t →
      x = setLists (n / 16) t.prio ((readyList s (n / 16) t.prio).filter (fun y => y != t)) (spillList s (n / 16) t.prio) s →
      p = programOf x t.prog → v = recView x t p → w = (x.nowNs + 2 ^ 32 - t.raiseT) % 2 ^ 32 →
      y = (x.bump FLW_DISP (n / 16) t.prio).bumpBy w FLW_WAIT_SUM (n / 16) t.prio →
      z = (if y.num FLW_WAIT_MAX (n / 16) t.prio < w then y.setReg FLW_WAIT_MAX (BitVec.ofNat 64 w) (n / 16) t.prio else y) →
      exec (.taskDispatch n) s = .next (settle (profileRefs (coreNow n t
        (setRunning n ⟨t, p, 0, List.replicate 16 0, v, evtView x t, [], none, [], 0, leField v 44 1, none⟩ z))))) ∧
    (∀ c l k : Nat, c < 4 → l < 8 → k = 4096 - (readyList s c l).length → exec (.taskSpillRefill c l) s = .next (settle
      (setLists c l (readyList s c l ++ (spillList s c l).take k) ((spillList s c l).drop k) s))) ∧
    (∀ (i : Nat) (e : Pend), Store.get? s.flow.pend i = some e → e.waits = .task true →
      (e.queue = [] → exec (.taskQueueSpace i) s = .next (settle (dropPend i s))) ∧
      (∀ (d : Desc) (rest : List Desc), e.queue = d :: rest → firkinOf s e.key = none → exec (.taskQueueSpace i) s = .next (settle
        (awaitTask 1 (profProg (activeProfile s d.act.profile)) 0 e.key e.key i s))) ∧
      (∀ (d : Desc) (rest : List Desc) (f : Nat × Firkin), e.queue = d :: rest → firkinOf s e.key = some f →
        exec (.taskQueueSpace i) s = .next (settle
          (awaitTask 6 (profProg (activeProfile s f.2.profile)) (stateCode f.2.state) (leadOf s e.key) e.key i s)))) ∧
    (∀ (n : Nat) (r : Running), n < 64 → runningOn s n = some r →
      (cycleLimit s ≤ r.cycles + waited s r → exec (.taskTimeFault n) s = .next (settle (wordFault n (waited s r) 1 s))) ∧
      (r.cycles + waited s r < cycleLimit s → exec (.taskTimeFault n) s = .next (settle s)) ∧
      (x = taskEnd n 2 4 r.task (report (srcCluster (n / 16) 3)
          ((((freeCore n s).bump FLW_TASK_FAULT_CNT).bump FLW_CORE_FAULT n).bump FLW_CORE_TASKS n)) →
        (r.task.kind ≠ 1 ∧ r.task.kind ≠ 4 ∧ r.task.kind ≠ 6 → exec (.taskFault n) s = .next (settle x)) ∧
        (r.task.kind = 4 → exec (.taskFault n) s = .next (settle (idleResult r.task.key 1 x))) ∧
        (r.task.kind = 6 → exec (.taskFault n) s = .next (settle (exceptionResult r.task.pend
          (if x.get FLW_TASK_CTRL_FAULT_ACT = 2 then 2 else 1) x))) ∧
        (r.task.kind = 1 → exec (.taskFault n) s = .next (settle (firstResult r.task.pcopy r.task.pend
          (if x.get FLW_TASK_CTRL_FAULT_ACT = 2 then 2 else 1) id none 0 x))))) ∧
    (∀ (i d k : Nat) (key : List Byte), s.fel.timers[i]? = some (d, key) → d ≤ s.nowNs →
      x = timerStat { s with fel := { s.fel with timers := s.fel.timers.eraseIdx i } } →
      ((∃ f, firkinOf x key = some f ∧ k = f.2.profile) ∨ (firkinOf x key = none ∧ ∃ t, tunOf x key = some t ∧ k = leField t.2.data 46 2)) →
      exec (.timerFire i) s = .next (settle (if raisesEvent (activeProfile x k) 1 then raiseTask 3 (profProg (activeProfile x k)) d key key x else x))) ∧
    (∀ (c : Nat) (mine : List Nat), c < 4 → fenced s (5 + c) = true → (List.range 4).all (fun k => k == c || fenced s (5 + k)) = false →
      mine = (List.range 64).filter (fun i =>
        bitsOf (s.num (if i < 32 then FLW_CLUSTER_MAP_0 else FLW_CLUSTER_MAP_1)) (2 * (i % 32) + 1) (2 * (i % 32)) == c) →
      exec (.clusterLoss c) s = .next (settle (bbNote 4 3 c (clusterLoss c
        { s with fel := { s.fel with handBack := s.fel.handBack ++ mine.map (fun i => (i, c)) } })))) ∧
    (x = programRefs s → x.on FLW_PROG_STAT_DRAINING = true → x.get FLW_PROG_STAT_OLD_REFS = 0 →
      exec .programVersionDrain s = .next (settle (finishWaiting (fun w => w.opcode == 0x0500) (fun _ => resOk) (x.put FLW_PROG_STAT_DRAINING 0))))

/-- For every state and queue: a full assembly (196 cells or copies) and an overdue one are written out; the acknowledgement of a segment takes its frames off
the die; a head below HEAD_LOW reads the oldest acknowledged segment back, which lands behind the head; a multicast copy in HBM is read directly, once; and the next
queue of a port whose hold expired is parked with its event, or stays on die with the park-full event and fault where the area has no room.
At each of the 8 positions of a row of a segment with parity stands what is rebuilt from the other seven. -/
def Obligations.SpillEventsComplete : Prop :=
  (∀ (s : State) (q r p : Nat) (g : Segment), g.parity = true → p < 8 → rebuiltSlot s q g r p = segmentSlot s q g r p) ∧
  ∀ s x : State,
    (∀ q : Nat, q < 784 →
      ((196 ≤ cellsOn s (queueOf s q).asm ∨ 196 ≤ (queueOf s q).asm.length) →
        exec (.segmentWrite q) s = .next (settle (settleBuffer (writeAssembly q s)))) ∧
      (asmOverdue s q = true → exec (.asmFlushExpiry q) s = .next (settle (settleBuffer (writeAssembly q s))) ∧
        exec (.segmentWrite q) s = .next (settle (settleBuffer (writeAssembly q s)))) ∧
      (∀ (n : Nat) (g : Segment), (queueOf s q).segs.find? (fun g => g.number == n && !g.acked) = some g →
        x = setQueue q { queueOf s q with
          segs := (queueOf s q).segs.map (fun h => if h.number == n && !h.acked then { h with acked := true } else h) } s →
        exec (.segmentWriteAck q n) s = .next (settle (settleBuffer (g.copies.foldl (fun s c => onFrame c.frame (fun y => match y.segment with
          | none => y
          | some p => if p.1 = n then { y with inHbm := true, account := 0, pool1 := 0, headroom := 0 } else y) s) x)))) ∧
      (∀ (g : Segment) (rest : List Segment), (queueOf s q).segs = g :: rest → (queueOf s q).parked = false → (queueOf s q).reading = none →
        g.area ≠ .die → g.acked = true → cellsOn s (queueOf s q).head < clamp 256 65535 (s.get BUF_SPILL_CFG_HEAD_LOW) →
        x = setQueue q { queueOf s q with segs := rest, reading := some g } s →
        exec (.readBack q) s = .next (settle (settleBuffer (countEvent 6 0x06 0xFFF 1 (x.bumpBy (rebuilds x g 0 224) BUF_SPILL_REBUILD_CNT))))) ∧
      (∀ (g : Segment) (y : Queue), (queueOf s q).reading = some g → x = freeSegment g s →
        y = { queueOf s q with
          head := (queueOf s q).head ++ g.copies.map (fun c => if carries s g c then { c with res := true, since := s.nowNs } else c)
          reading := none, stalled := false } →
        exec (.readBackLand q) s = .next (settle (settleBuffer (setQueue q (rejoin y) x)))) ∧
      (∀ (c : Copy) (rest : List Copy) (y : Frame), (queueOf s q).head = c :: rest → frameOf s c.frame = some y → y.multicast = true →
        y.inHbm = true → s.buf.direct.contains (c.frame, q) = false →
        (∀ (g : Segment) (n k : Nat), segmentOf s y = some g → y.segment = some (n, k) →
          x = (s.bumpBy (rebuilds s g k c.cells) BUF_SPILL_REBUILD_CNT).bump BUF_MC_DIRECT_CNT →
          exec (.mcDirectRead q) s = .next (settle { x with buf := { s.buf with direct := s.buf.direct ++ [(c.frame, q)] } })) ∧
        (segmentOf s y = none → x = s.bump BUF_MC_DIRECT_CNT →
          exec (.mcDirectRead q) s = .next (settle { x with buf := { s.buf with direct := s.buf.direct ++ [(c.frame, q)] } })))) ∧
    (∀ (p t : Nat) (rest : List Nat) (y : Queue), p < 96 → (portOf s p).toPark = t :: rest → y = queueOf s (8 * p + t) →
      x = onPort p (fun y => { y with toPark := rest }) s →
      (x.buf.parkSegs < parkUsed x + parkNeed x y → exec (.queuePark p) s = .next (settle (holdStat p (raiseAt (srcPort p) 1
        (postEvent 0x0012 p [BitVec.ofNat 8 t] (onPort p (fun z => { z with heldOnDie := z.heldOnDie ++ [t] }) x)))))) ∧
      (∀ z u v w : State, parkUsed x + parkNeed x y ≤ x.buf.parkSegs →
        z = y.head.foldl (fun s c => parkOne (8 * p + t) c s) (setQueue (8 * p + t) { noQueue with parked := true } x) →
        u = setQueue (8 * p + t) { queueOf z (8 * p + t) with segs := (queueOf z (8 * p + t)).segs ++ y.reading.toList ++ y.segs } z →
        v = setQueue (8 * p + t) { queueOf u (8 * p + t) with asm := y.asm.map (fun c => { c with res := false }) } u →
        w = parkTail (8 * p + t) y.asm v →
        exec (.queuePark p) s = .next (settle (holdStat p (settleBuffer (postEvent 0x0011 p [BitVec.ofNat 8 t] (w.put PRT_STATUS_PARKED 1 p)))))))

/-- For every state: a frame on a receiving port is decided once the express path forwards; a recovery instance that a stream with RESET_MS names is reset; a
cell time makes its three iterations and crosses the matches; an oversize frame not yet granted is refused at stage 2, a granted one cut off and stomped; a granted
copy that passes its deadline is returned with code 0x01, an ungranted one refused; a free line starts an express frame first, then resumes a preempted one, then
the bulk selection; the frame on the line ends; a bulk frame is preempted; shapers, policers and meters take their tick; a pause starts and ends; and a
launch time is reached. -/
def Obligations.ExpressAndEgressEventsComplete : Prop :=
  ∀ s x : State,
    (∀ (p : Nat) (bytes : List Byte) (ended good : Bool) (dissent : List Nat), p < 96 → receives s p = true → expressReady s = true →
      (validate s p bytes ended = .clear → exec (.expressDecision p bytes ended good dissent) s = .next (settle (expressDecide p bytes ended good dissent s))) ∧
      (∀ (key pn : Nat) (plain : List Byte) (icvOk : Bool), validate s p bytes ended = .valid key pn plain icvOk →
        (streamHit s p plain).isSome = true → x = expressDecide p plain ended (good && icvOk) dissent s →
        (ended = true → exec (.expressDecision p bytes ended good dissent) s = .next (settle (secEnds p key pn good icvOk x))) ∧
        (ended = false → x.xpr.nextIdent ≠ s.xpr.nextIdent → exec (.expressDecision p bytes ended good dissent) s =
          .next (settle { x with xpr := { x.xpr with wires := Store.set x.xpr.wires s.xpr.nextIdent (p, bytes) } })))) ∧
    (∀ (r : Nat) (e : Nat × Stream) (y : Recovery), r < 16384 →
      s.xpr.streams.find? (fun e => bitOf e.2.entry 182 && bitsOf e.2.entry 205 192 == r && bitsOf e.2.entry 255 240 != 0) = some e →
      Store.get? s.xpr.recovery r = some y → y.passed + bitsOf e.2.entry 255 240 * 1000000 ≤ s.clock →
      exec (.recoveryReset r) s = .next (settle { s with xpr := { s.xpr with recovery := Store.erase s.xpr.recovery r } })) ∧
    (∀ m1 m2 m3 : List (Nat × Nat), m1 = matchRound s (requests s) [] → m2 = m1 ++ matchRound s (requests s) m1 →
      m3 = m2 ++ matchRound s (requests s) m2 →
      x = ((((requests s).map (fun r => r.1)).eraseDups).filter (fun i => !(m3.any (fun m => m.1 == i)))).foldl (fun s i => countEvent 5 0x05 i 1 s) s →
      exec .cellTime s = .next (settle ((m3.drop m1.length).foldl (fun s m => crossCell false m.1 m.2 s)
        (m1.foldl (fun s m => crossCell true m.1 m.2 s) x)))) ∧
    (∀ (ident sdu : Nat) (c : XCopy), (xCopiesOf s ident).find? (fun c => !c.ended) = some c → sdu = streamSdu (streamOf s c.stream).entry → sdu ≠ 0 →
      x = (if (xCopiesOf s ident).any (fun x => !x.granted) then dropUngranted ident (expressRefuse c.stream 2 XPR_SDU_REFUSE_CNT s) else s) →
      exec (.expressOversize ident) s = .next (settle (blockStream c.stream
        (if !(xCopiesOf s ident).any (fun x => x.granted) then x else setCopies (x.xpr.copies.map (fun x =>
          if x.ident == ident then { x with out := x.out.take sdu, ended := true, bad := true } else x)) (x.bump XPR_OVERSIZE_STOMP_CNT))))) ∧
    (∀ (ident e d : Nat) (c : XCopy), e < 96 → s.xpr.copies.find? (fun c => c.ident == ident && c.egress == e) = some c → c.deadline = some d →
      d ≤ s.nowNs → (portOf s e).sending = none → x = dropXCopy ident e s →
      (c.granted = false → exec (.expressDeadline ident e) s = .next (settle (refuseVoq c.ingress x))) ∧
      (c.granted = true → x.power.coreUp = true → exec (.expressDeadline ident e) s =
        .next (settle (raise srcXpLate e 0 ((returnWork ⟨false, 0x01, e, 0xFF, x.now, 0, c.out⟩ x).bump XPR_LATE_CNT)))) ∧
      (c.granted = true → x.power.coreUp = false → exec (.expressDeadline ident e) s = .next (settle (x.bump XPR_LATE_DROP_CNT)))) ∧
    (∀ p : Nat, p < 96 → mayTransmit s p = true → (portOf s p).sending = none →
      (∀ c : XCopy, selectExpress s p = some c → secBlocked s p c.out = false → exec (.egressFrameStart p) s = .next (settle
        (onPort p (fun z => { z with sending := some ⟨true, 8, ⟨c.ident, c.out, 0, none, 0, false, false, !c.ended, 0, 0xFFFF⟩, 0, s.now, false, 0, s.clock,
          (takePn p c.out s).1⟩ }) (takePn p c.out s).2))) ∧
      (∀ y : Sending, selectExpress s p = none → bulkReady s = true → (portOf s p).preempted = some y → resumes s p y = true →
        exec (.egressFrameStart p) s = .next (settle (onPort p (fun z => { z with sending := some { y with since := s.clock }, preempted := none }) s))) ∧
      (∀ (t : Nat) (c : Copy), selectExpress s p = none → bulkReady s = true → (portOf s p).preempted = none → (selectBulk s p).1 = some (t, c) → secBlocked s p c.out = false →
        exec (.egressFrameStart p) s = .next (settle (startBulk p t c (setPort p (selectBulk s p).2 s))))) ∧
    (∀ (p : Nat) (y : Sending), p < 96 → (portOf s p).sending = some y →
      exec (.egressFrameEnd p) s = .next (settle (if y.express then endExpress p y s else endBulk p y s))) ∧
    (∀ (p : Nat) (y : Sending), p < 96 → sendingQueue s p = some y → preemptActive s p = true →
      fragmentLen s p ≤ fragmentSent s p y → y.sent + fragmentSent s p y + 64 ≤ wireLen s p y.copy.out →
      ((selectExpress s p).isSome = true ∨ portGateOpen s p y.queue = false ∨ (portOf s p).held = true) →
      x = onPort p (fun z => { z with
        sending := none, preempted := some { y with preempted := true, sent := y.sent + fragmentSent s p y },
        line := some (((onLine s p y.sec y.copy.out).drop y.sent).take (fragmentSent s p y), false) }) s →
      exec (.preemption p) s = .next (settle (if y.preempted then x else countEvent 7 0x04 p 1 (x.bump SCH_PREEMPT p)))) ∧
    (s.clock < s.egr.shapedAt + 16 → exec .shaperUpdate s = .next (settle s)) ∧
    (s.egr.shapedAt + 16 ≤ s.clock → x = { s with egr := { s.egr with shapedAt := s.egr.shapedAt + 16 } } →
      exec .shaperUpdate s = .next (settle (meterUpdate ((List.range 96).foldl (fun s p =>
        policerUpdate p ((List.range 8).foldl (fun s t => shaperUpdate p t s) s)) x)))) ∧
    (∀ (p : Nat) (pfc : Bool) (times : List (Nat × Nat)) (mine : Nat → List Nat) (timeOf : Nat → Option Nat), p < 96 → x = s.bump SCH_PAUSE_RX p →
      mine = (fun t => (times.filter (fun e => bitOf (x.get SCH_QCFG_PFC_MASK p t) e.1)).map (fun e => e.2)) →
      timeOf = (fun t => if !pfc then (times.head?).map (fun e => e.2) else if (mine t).isEmpty then none else some ((mine t).foldl max 0)) →
      exec (.pauseReceived p pfc times) s = .next (settle (onPort p (fun z => { z with paused := (List.range 8).foldl (fun m t =>
        match timeOf t with
        | none => m
        | some 0 => Store.erase m t
        | some n => Store.set m t (x.clock + (if portRate x p = 0 then 0 else ceilDiv (n * 512000000) (portRate x p)))) z.paused }) x))) ∧
    (∀ p t e : Nat, p < 96 → t < 8 → Store.get? (portOf s p).paused t = some e →
      exec (.pauseExpiry p t) s = .next (settle (if s.clock < e then s else onPort p (fun z => { z with paused := Store.erase z.paused t }) s))) ∧
    (∀ (p t : Nat) (c : Copy) (rest : List Copy) (l : Stamp), p < 96 → t < 8 → (queueOf s (8 * p + t)).head = c :: rest → c.launch = some l →
      stampNs l ≤ s.nowNs → (portOf s p).launched.contains t = false →
      exec (.launchTime p t) s = .next (settle (onPort p (fun z => { z with launched := z.launched ++ [t] }) s)))

/-- For every state: SCH_GCL_POS follows an enabled operational list; an OP 1 entry ahead holds the preemptable MAC and an OP 2 entry releases it; a pending gate
list or stream gate list becomes operational at its start, with its event; a port declares quiet at a closed stretch and asks for rest where every port of its
quarter does; a quiet period ends with a wake request; link down clears LINK_UP and begins the hold; link up clears HOLD, begins verification where it is on and
posts its event; the hold time parks the queues and returns the express frames; verification is tried again, fails after the third try, or succeeds. -/
def Obligations.GateAndLinkEventsComplete : Prop :=
  ∀ (s x : State) (p : Nat), p < 96 →
    (∀ (g : GateList) (e : Nat), Store.get? s.egr.gcl p = some g → g.enable = true →
      e = (entryAt g.entries 0 0 (cycleOffset g s.nowNs) g.cycle).1 →
      exec (.gateEntryChange p) s = .next (settle ((s.put SCH_GCL_POS_ENTRY e p).put SCH_GCL_POS_CYCLES ((s.nowNs - g.start) / max 1 g.cycle + 1) p))) ∧
    (∀ e : Nat, entryAhead s p (s.get SCH_PREEMPT_ADV_HOLD_ADVANCE p) = some e → gateOp e = 1 →
      exec (.setAndHoldMac p) s = .next (settle (onPort p (fun z => { z with held := true }) s))) ∧
    (∀ e : Nat, entryAhead s p (s.get SCH_PREEMPT_ADV_RELEASE_ADVANCE p) = some e → gateOp e = 2 →
      exec (.setAndReleaseMac p) s = .next (settle (onPort p (fun z => { z with held := false }) s))) ∧
    (∀ (g : GateList) (y z w : State), Store.get? s.egr.gclPend p = some g → g.start ≤ s.nowNs →
      x = { s with egr := { s.egr with gcl := Store.set s.egr.gcl p g, gclPend := Store.erase s.egr.gclPend p } } →
      y = (((x.flag SCH_GCL_STAT_OPER_EN g.enable p).put SCH_GCL_STAT_PENDING 0 p).put SCH_GCL_STAT_OPER_LEN g.entries.length p).put
        SCH_GCL_STAT_OPER_CYCLE_NS g.cycle p →
      z = g.entries.zipIdx.foldl (fun s e => s.setReg SCH_GCL_OPER (BitVec.ofNat 64 e.1) p e.2) y →
      w = (if g.enable then gatePosition p z else onPort p (fun y => { y with held := false }) (z.setReg SCH_GCL_POS 0 p)) →
      exec (.gclListStart p) s = .next (settle (postEventAt 0x0032 p (nsStamp g.start) [BitVec.ofNat 8 (ofBool g.past)] w))) ∧
    (∀ (i : Nat) (y : StreamGate) (g : GateList), i < 256 → Store.get? s.xpr.gates i = some y → y.pend = some g → g.start ≤ s.nowNs →
      x = { s with xpr := { s.xpr with gates := Store.set s.xpr.gates i { y with pend := none, oper := some g } } } →
      exec (.sgateListStart i) s = .next (settle (postEventAt 0x0032 (0x100 + i) (nsStamp g.start) [BitVec.ofNat 8 (ofBool g.past)] x))) ∧
    (s.on SCH_WAKE_CFG_WAKE_EN p = true → (listAt (gateLists s p).1 (gateLists s p).2 s.nowNs).isSome = true →
      closedFor s p (clamp 4000 1000000000 (s.get SCH_WAKE_CFG_MIN_GAP_NS p)) = true → x = onPort p (fun z => { z with quiet := true }) s →
      exec (.quietPeriodStart p) s = .next (settle (if plannerRests x (x.get PRT_STATUS_QUARTER p) then restRequest (x.get PRT_STATUS_QUARTER p) x else x))) ∧
    ((portOf s p).quiet = true → exec (.plannedWake p) s =
      .next (settle (wakeUnit (s.get PRT_STATUS_QUARTER p) (onPort p (fun z => { z with quiet := false }) s)))) ∧
    (∀ (cause lasted : Nat) (y z v w : State), (portOf s p).enabled = true → cause % 16 ≠ 0 →
      y = (if bitOf cause 0 then s.put PRT_STATUS_PCS_LOCK 0 p else s) → z = (if bitOf cause 1 then y.put PRT_STATUS_FEC_ALIGN 0 p else y) →
      v = (z.flag PRT_STATUS_LOCAL_FAULT (bitOf cause 2) p).flag PRT_STATUS_REMOTE_FAULT (bitOf cause 3) p →
      ((v.on PRT_STATUS_LINK_UP p = false ∨ lasted < min 1000 (v.get PRT_LINK_DEBOUNCE_DEBOUNCE p)) →
        exec (.linkDown p ⟨cause, lasted⟩) s = .next (settle v)) ∧
      (v.on PRT_STATUS_LINK_UP p = true → min 1000 (v.get PRT_LINK_DEBOUNCE_DEBOUNCE p) ≤ lasted →
        w = preemptStat p (onPort p (fun v => { v with verify := 0, tries := 0 }) (v.put PRT_STATUS_LINK_UP 0 p)) →
        (quieted w p = true → exec (.linkDown p ⟨cause, lasted⟩) s = .next (settle (postEvent 0x0010 p [0] w))) ∧
        (quieted w p = false → x = beginHold p w → exec (.linkDown p ⟨cause, lasted⟩) s =
          .next (settle (if min 100000 (x.get PRT_HOLD_HOLD_TIME p) * 1000 = 0 then holdExpires p x else x))))) ∧
    (∀ (lasted : Nat) (y : State), (portOf s p).enabled = true →
      x = (((s.put PRT_STATUS_PCS_LOCK 1 p).put PRT_STATUS_FEC_ALIGN 1 p).put PRT_STATUS_LOCAL_FAULT 0 p).put PRT_STATUS_REMOTE_FAULT 0 p →
      ((x.on PRT_STATUS_LINK_UP p = true ∨ lasted < min 1000 (x.get PRT_LINK_DEBOUNCE_DEBOUNCE p)) → exec (.linkUp ⟨p, lasted⟩) s = .next (settle x)) ∧
      (x.on PRT_STATUS_LINK_UP p = false → min 1000 (x.get PRT_LINK_DEBOUNCE_DEBOUNCE p) ≤ lasted → y = startVerify p (x.put PRT_STATUS_LINK_UP 1 p) →
        exec (.linkUp ⟨p, lasted⟩) s = .next (settle (postEvent 0x0010 p [1] (if quieted y p then y
          else holdStat p (onPort p (fun z => { z with holdTimer := false, toPark := [], heldOnDie := [] }) y)))))) ∧
    (∀ go : Bool, go = (s.on PRT_STATUS_LINK_UP p && s.on PRT_PREEMPT_PREEMPT_EN p && !s.on PRT_PREEMPT_VERIFY_DIS p) →
      startVerify p s = preemptStat p (onPort p (fun z => { z with
        verify := if go then 1 else 0, tries := if go then 1 else 0, verifySince := if go then s.clock else z.verifySince }) s)) ∧
    ((portOf s p).holdTimer = true → (portOf s p).holdSince + min 100000 (s.get PRT_HOLD_HOLD_TIME p) * 1000 ≤ s.clock →
      x = onPort p (fun z => { z with holdTimer := false, toPark := List.range 8 }) s →
      exec (.holdTimeExpiry p) s = .next (settle (holdStat p (returnExpress 0x01 p x)))) ∧
    (s.clock < (portOf s p).holdSince + min 100000 (s.get PRT_HOLD_HOLD_TIME p) * 1000 → exec (.holdTimeExpiry p) s = .next (settle s)) ∧
    ((portOf s p).verify = 1 →
      (s.clock < (portOf s p).verifySince + max 1 (s.get PRT_PREEMPT_VERIFY_TIME p) * 1000000 → exec (.verifyTimeExpiry p) s = .next (settle s)) ∧
      ((portOf s p).tries < 3 → (portOf s p).verifySince + max 1 (s.get PRT_PREEMPT_VERIFY_TIME p) * 1000000 ≤ s.clock →
        exec (.verifyTimeExpiry p) s = .next (settle (onPort p (fun z => { z with tries := z.tries + 1, verifySince := s.clock }) s))) ∧
      (3 ≤ (portOf s p).tries → (portOf s p).verifySince + max 1 (s.get PRT_PREEMPT_VERIFY_TIME p) * 1000000 ≤ s.clock →
        exec (.verifyTimeExpiry p) s = .next (settle (preemptStat p (onPort p (fun z => { z with verify := 3 }) s)))) ∧
      exec (.verifyResponseReceived p true) s = .next (settle (preemptStat p (onPort p (fun z => { z with verify := 2 }) s))) ∧
      exec (.verifyResponseReceived p false) s = .next (settle s))

/-- For every state: n ticks of TIME pass; the 1PPS pulse, the temporary rate, the servo watchdog (HOLDOVER with reason 1) and a pin's pulse end at their time; the
reference is lost and returns; a PLL loses lock; an edge at a capture pin is captured, or counted where it comes within 100 ns; a pin pulses and a
timed wake fires when due; units are asked to wake, serve again, and rest; a failed wake is reported; the periodic plan runs; a set point moves 5 mV
towards its target, and the transaction is tried again; the hours count, and the power estimates follow. -/
def Obligations.TimeAndPowerEventsComplete : Prop :=
  ∀ s x : State,
    (∀ n : Nat, exec (.timeTick n) s = .next (settle (timeTicks n (monitorTicks n s)))) ∧
    exec .ppsPulseEnd s = .next (settle (if s.clock < s.time.ppsAt + clamp 1 999999 (s.get TIM_CTRL_PPS_WIDTH_US) * 1000 then s
      else { s with time := { s.time with ppsPulse := false } })) ∧
    (s.get TIM_TEMP_TEMP_LEFT = 0 → exec .tempRateEnd s = .next (settle (s.put TIM_STAT_TEMP_ACTIVE 0))) ∧
    (inSession s = true → s.time.watch + clamp 100 60000 (s.get TIM_CTRL_WD_MS) * 1000000 ≤ s.clock →
      exec .servoWatchdogExpiry s = .next (settle (enterHoldover 1 s))) ∧
    (s.power.refPresent = true → x = { s with power := { s.power with refPresent := false, aonOscillator := true } } →
      exec .refLost s = .next (settle (report srcRefLost (x.put TIM_STAT_REF_LOST 1)))) ∧
    (s.power.refPresent = false → x = { s with power := { s.power with refPresent := true, aonOscillator := s.power.unlocked.contains 0 } } →
      exec .refReturn s = .next (settle (x.put TIM_STAT_REF_LOST 0))) ∧
    (∀ p : Nat, p < 4 → s.power.unlocked.contains p = false →
      x = report (srcPllUnlock p) { s with power := { s.power with unlocked := s.power.unlocked ++ [p] } } →
      (p = 0 → exec (.pllUnlock p) s = .next (settle { x with power := { x.power with aonOscillator := true } })) ∧
      (p = 1 → exec (.pllUnlock p) s =
        .next (settle (fullReset ((settleDue settleFuel x).freeWord.toNat % 16) (settleDue settleFuel x).drew))) ∧
      (2 ≤ p → exec (.pllUnlock p) s = .next (settle x))) ∧
    (∀ (k edge : Nat) (t : Stamp) (y z : State), k < 5 → edge < 2 → s.get TIM_PIN_CFG_MODE k = 1 → s.get TIM_PIN_CFG_EDGE k = edge →
      ((pinOf s k).lastEdge = none ∨ ∃ u, (pinOf s k).lastEdge = some u ∧ u + 100 ≤ s.clock) →
      t = adjusted s.now (signedOf 16 (s.get TIM_PIN_CFG_ADJ_PS k)) →
      x = ((s.put TIM_CAP_LO_NS t.ns k).put TIM_CAP_LO_SEC_LO (t.sec % 2 ^ 32) k).put TIM_CAP_HI_SEC_HI (t.sec / 2 ^ 32) k →
      y = (x.flag TIM_CAP_HI_STEP x.time.stepTick k).inc TIM_CAP_HI_CAP_SEQ k → z = onPin k (fun w => { w with lastEdge := some y.clock }) y →
      exec (.pinCapture k edge) s = .next (settle (if z.on TIM_PIN_CFG_EVT_EN k
        then postEventAt 0x0031 k t (leBytes 4 (z.get TIM_CAP_HI_CAP_SEQ k) ++ leBytes 1 (z.get TIM_CAP_HI_STEP k)) z else z))) ∧
    (∀ (k edge u : Nat), k < 5 → edge < 2 → s.get TIM_PIN_CFG_MODE k = 1 → s.get TIM_PIN_CFG_EDGE k = edge → (pinOf s k).lastEdge = some u →
      s.clock < u + 100 → exec (.pinCapture k edge) s = .next (settle (report (srcTime 4) (s.bump TIM_CAP_MISS_CNT)))) ∧
    (∀ k t : Nat, k < 5 → (pinOf s k).next = some t → t ≤ s.nowNs → exec (.pinPulse k) s = .next (settle (onPin k (fun w => { w with
      pulsing := true, startedAt := s.clock
      next := if s.get TIM_PIN_CFG_MODE k = 3 then w.next.map (· + clamp 100 nsPerSec (s.get TIM_PIN_PERIOD_PERIOD_NS k)) else none }) s))) ∧
    (∀ k : Nat, k < 5 → exec (.pinPulseWidthEnd k) s = .next (settle (if s.clock < (pinOf s k).startedAt + s.get TIM_PIN_CFG_WIDTH_NS k then s
      else onPin k (fun w => { w with pulsing := false }) s))) ∧
    (∀ q : Nat, q < 5 → s.on TIM_WAKE_LO_PENDING q = true → wakeDue s (wakeAt s q) = true →
      exec (.timeWakeFire q) s = .next (settle (wakeUnit q (s.put TIM_WAKE_LO_PENDING 0 q)))) ∧
    (∀ u : Nat, u < 17 →
      (resting s u = true → fenced s u = false →
        exec (.unitWakeRequest u) s = .next (settle ((busyNow u (setSleep u false true s)).bump PWR_WAKE_CNT u))) ∧
      (waking s u = true → exec (.wakeComplete u) s = .next (settle (setSleep u false false s))) ∧
      (fenced s u = false → (if u < 5 then reserveRests s u || plannerRests s u else idleDue s u) = true →
        exec (.restRequest u) s = .next (settle (restUnit u s).2)) ∧
      (5 ≤ u → fenced s u = false → autoRests s u = true → unitEmpty s u = true →
        Store.getD s.power.busyAt u 0 + clamp 1 65535 (s.get PWR_REST_CFG_IDLE_US) * 1000 ≤ s.clock →
        exec (.idleRestExpiry u) s = .next (settle (restUnit u s).2)) ∧
      (u < 5 → waking s u = true → exec (.wakeFail u) s = .next (settle (report (srcQuarter u 3) (setSleep u true false s))))) ∧
    (∀ (readings : List (Nat × Int)) (lanes : List (Nat × Nat × Nat)), s.power.planRunning = false →
      x = { s with power := { s.power with ageAt := some s.clock } } →
      (s.power.ageAt = none → s.on PWR_READY_HOST_READY = true → exec (.ageMeasurement readings lanes) s = .next (settle (replan true readings lanes x))) ∧
      (∀ t : Nat, s.power.ageAt = some t → exec (.ageMeasurement readings lanes) s = .next (settle
        (if t + clamp 1 168 (s.get PWR_AGE_CFG_PERIOD_H) * 3600 * nsPerSec ≤ s.clock then replan false readings lanes x else s)))) ∧
    (∀ r cur target : Nat, r < 2 → cur = s.get PWR_AVS_SETPOINT_MV r → target = targetSet s r → cur ≠ target → s.power.avsFailed.contains r = false →
      s.power.railsOut.contains r = false → (∀ t, Store.get? s.power.steppedAt r = some t → t + 20000 ≤ s.clock) →
      x = s.put PWR_AVS_SETPOINT_MV (if cur < target then min (cur + 5) target else max (cur - 5) target) r →
      exec (.setpointStep r true) s = .next (settle { x with power := { s.power with steppedAt := Store.set s.power.steppedAt r s.clock } }) ∧
      exec (.setpointStep r false) s = .next (settle (report srcAvsLink { s with power := { s.power with
        avsFailed := s.power.avsFailed ++ [r], avsAt := Store.set s.power.avsAt r s.clock } }))) ∧
    (∀ r : Nat, r < 2 → s.power.avsFailed.contains r = true → s.power.railsOut.contains r = false →
      Store.getD s.power.avsAt r 0 + 1000000 ≤ s.clock → exec (.avsLinkRetry r true) s = .next (settle (moveSetpoint r
        { s with power := { s.power with avsFailed := s.power.avsFailed.filter (fun j => j != r) } })) ∧
      exec (.avsLinkRetry r false) s = .next (settle { s with power := { s.power with avsAt := Store.set s.power.avsAt r s.clock } })) ∧
    exec .hourCount s = .next (settle (if s.clock < s.power.hourAt + 3600 * nsPerSec then s
      else { s.inc PWR_HOURS_HOURS with power := { s.power with hourAt := s.power.hourAt + 3600 * nsPerSec } })) ∧
    (∀ w0 w1 w2 : Nat, exec (.powerEstimateUpdate w0 w1 w2) s = .next (settle
      (((s.put PWR_ISLAND_W_WATTS w0 0).put PWR_ISLAND_W_WATTS w1 1).put PWR_ISLAND_W_WATTS w2 2)))

/-- For every state: after any number of ticks from a state whose nanoseconds are below 10^9 they are below 10^9, so that every time the device takes of its clock
is a valid timestamp, as it is after every step of the clock to a time; and with no temporary rate, a + b ticks give the same SEC, NS and FRAC as a ticks and
then b. -/
def Obligations.TimeStaysAValidStamp : Prop :=
  (∀ (s : State) (n : Nat), s.time.ns < nsPerSec → (timeTicks n s).time.ns < nsPerSec ∧ stampOk (timeTicks n s).now = true) ∧
  (∀ n : Nat, stampOk (nsStamp n) = true) ∧
  (∀ (s : State) (a b : Nat), s.time.ns < nsPerSec → s.time.frac < fracUnit → s.time.sec < 2 ^ 48 → s.get TIM_TEMP_TEMP_LEFT = 0 →
    (timeTicks (a + b) s).time.sec = (timeTicks b (timeTicks a s)).time.sec ∧
    (timeTicks (a + b) s).time.ns = (timeTicks b (timeTicks a s)).time.ns ∧
    (timeTicks (a + b) s).time.frac = (timeTicks b (timeTicks a s)).time.frac)

/-- For every state: a source of Table 21.3 that occurs is raised; the attention pulse ends; a freeze closes or collects; a closed buffer is sealed and its epoch
prepared; a takeover's self-test brings the quarter in or fences it; a quarter's failure is reported; a bank is copied to its spare; a due injection is
produced; output of a fenced unit is counted; RESET_N resets the device; a start-up stage sets its bit after the earlier ones; a replayed command starts; a core
reset runs; a rail falls and returns; a temperature is met; the reset of a unit ends; a health kick is taken, or missed; and a device of a pair ceases. -/
def Obligations.FaultEventsComplete : Prop :=
  ∀ s x : State,
    (∀ src detail value : Nat, src < 512 → (sourceInfo src).isSome = true →
      exec (.faultOccurrence src detail value) s = .next (settle (raise src detail value s))) ∧
    exec .attnPulseEnd s = .next (settle (if s.clock < s.faults.attnUntil then s else setPins { s with faults := { s.faults with attnPulse := false } })) ∧
    (∀ cause m : Nat, (cause < 512 ∨ cause = 0x1000 ∨ cause = 0x2000) → s.on FLT_BB_STAT_STOPPED = false → s.faults.collecting = none →
      m = clamp 0 8192 (s.get FLT_BB_CFG_POST_COUNT) → x = setBb s (bbLive s) { bbBuf s (bbLive s) with cause := cause } →
      exec (.freeze cause) s = .next (settle (if m = 0 then bbClose x
        else { x with faults := { x.faults with collecting := some m, freezeAt := x.clock } }))) ∧
    (s.faults.collecting.isSome = true → exec .postFreezeEnd s = .next (settle
      (if s.clock < s.faults.freezeAt + clamp 1 10000 (s.get FLT_BB_CFG_POST_US) * 1000 then s else bbClose s))) ∧
    (∀ b : Nat, b < 2 → (bbBuf s b).sealDue = true → s.on PWR_READY_AON_READY = true →
      (s.on ASC_STAT_ENROLL = false → x = setBb s b { bbBuf s b with sealDue := false, epoch := 0 } → x.on ASC_STAT_ENROLL = false →
        exec (.bbSealComplete b) s = .next (settle (x.put FLT_BB_STAT_SEALED (withBit (x.get FLT_BB_STAT_SEALED) b true)))) ∧
      (∀ y : State, s.on ASC_STAT_ENROLL = true → s.ascor.bbEpochReady = true → x = setBb s b { bbBuf s b with sealDue := false, epoch := s.ascor.bbEpoch } →
        y = x.put FLT_BB_STAT_SEALED (withBit (x.get FLT_BB_STAT_SEALED) b true) →
        exec (.bbSealComplete b) s = .next (settle { y.bump ASC_SEAL_CNT with ascor := { y.ascor with bbEpochReady := false } }))) ∧
    (s.ascor.bbEpochReady = false → s.faults.bbA.sealDue = false → s.faults.bbB.sealDue = false → exec .bbEpoch s = .next (settle
      { s with ascor := { s.ascor with bbEpoch := (s.ascor.bbEpoch + 1) % 2 ^ 32, bbEpochReady := true } })) ∧
    (∀ (q : Nat) (passed : Bool) (y z : State), q < 5 → s.faults.incoming.contains q = true → resting s q = false → waking s q = false →
      x = { s with faults := { s.faults with incoming := s.faults.incoming.filter (fun j => j != q) } } →
      y = (if q = 4 then x.put PRT_QMUX_BUSY 0 else x) → z = (if y.faults.incoming.isEmpty then y.put FLT_QTR_STAT_TAKEOVER 0 else y) →
      exec (.qtrTakeover q false) s = .next (settle (fenceUnit q 0 z)) ∧
      (passed = true → exec (.qtrTakeover q passed) s = .next (settle
        (if y.faults.incoming.isEmpty then bbNote 4 2 q (z.bump FLT_TAKEOVER_CNT) else z)))) ∧
    (∀ q i : Nat, q < 5 → i < 4 → exec (.quarterFailure q i) s = .next (settle (report (srcQuarter q i) s))) ∧
    (∀ a : Nat, a < 14 →
      (s.faults.spareUsed.contains a = true → exec (.spareBankCopy a) s = .next (settle (report srcSpareExhausted s))) ∧
      (s.faults.spareUsed.contains a = false → s.faults.spareCopy.contains a = false →
        exec (.spareBankCopy a) s = .next (settle { s with faults := { s.faults with spareCopy := s.faults.spareCopy ++ [a] } })) ∧
      (s.faults.spareCopy.contains a = true → x = s.bump FLT_SPARE_CNT → exec (.spareCopyComplete a) s = .next (settle
        { x with faults := { s.faults with spareCopy := s.faults.spareCopy.filter (fun y => y != a), spareUsed := s.faults.spareUsed ++ [a] } }))) ∧
    (∀ (k : Nat) (y : Injection),
      findIdx? (fun (x : Injection) => match x.tick with | none => true | some t => stampNs t ≤ s.nowNs) s.faults.injections 0 = some (k, y) →
      exec .injectionFire s = .next (settle (inject y.kind y.unit
        { s with faults := { s.faults with injections := s.faults.injections.eraseIdx k } }))) ∧
    (∀ u : Nat, u < 20 → (fenced s u = true ∨ (u < 17 ∧ (s.power.inReset.contains u = true ∨ resting s u = true ∨ s.power.coreUp = false))) →
      exec (.fenceViolation u) s = .next (settle (report srcFenceViol (s.bump FLT_FENCE_VIOL u)))) ∧
    exec .resetN s = .next (settle (fullReset 1 s)) ∧
    (∀ (valid copyB : Bool) (ver : Nat) (words : List Nat) (matches_ : List (Nat × Nat)),
      (s.on PWR_READY_AON_READY = false → s.power.aonLost = false → x = s.put PWR_READY_AON_READY 1 →
        exec (.startupStage 1 valid copyB ver words matches_) s = .next (settle { x with power := { s.power with aonOscillator := !s.power.refPresent } })) ∧
      (s.on PWR_READY_AON_READY = true → s.on PWR_READY_HOST_READY = false → s.power.coreUp = true → s.power.unlocked.contains 2 = false →
        exec (.startupStage 2 false copyB ver words matches_) s =
          .next (settle ((report (srcAscor 2) (s.put ASC_STAT_NO_PATCH 1)).put PWR_READY_HOST_READY 1)) ∧
        exec (.startupStage 2 true copyB ver [] matches_) s = .next (settle ((((s.put ASC_STAT_BOOT_OK 1).flag ASC_STAT_BOOT_COPY copyB).put
          ASC_STAT_NO_PATCH 0).put PWR_READY_HOST_READY 1))) ∧
      (s.on PWR_READY_HOST_READY = true → s.on PWR_READY_EXPRESS_READY = false → s.power.ageAt.isSome = true → s.power.planRunning = false →
        exec (.startupStage 3 valid copyB ver words matches_) s = .next (settle (s.put PWR_READY_EXPRESS_READY 1))) ∧
      (s.on PWR_READY_HOST_READY = true → s.on PWR_READY_EXPRESS_READY = true → s.on PWR_READY_BULK_READY = false → s.power.coreUp = true →
        x = drawFlowKeys (((List.range 4).foldl (fun s t => (List.range 5).foldl (fun r q => r.setReg QTR_HASH_SEED s.freeWord q t) s.drew) s).put PWR_READY_BULK_READY 1) →
        x.mem.latched = false → exec (.startupStage 4 valid copyB ver words matches_) s = .next (settle x))) ∧
    (∀ ring : Nat, ring < 4 → s.host.journal.any (fun e => !e.tx && e.ring == ring && e.replay) = true →
      exec (.journalReplay ring) s = .next (settle (startCommand ring s))) ∧
    (∀ byCommand : Bool, exec (.coreReset byCommand) s = .next (settle (coreReset (if byCommand then 5 else 4) s))) ∧
    (∀ r : Nat, r < 11 →
      (s.power.railsOut.contains r = false →
        x = { s with power := { s.power with railsOut := s.power.railsOut ++ [r], aonLost := s.power.aonLost || r == 2 } } →
        exec (.railFall r) s = .next (settle (if bulkRails.contains r then coreDown (report (srcSupply 0) x)
          else report (srcSupply (if r = 2 || r = 10 then 2 else 1)) x))) ∧
      (s.power.railsOut.contains r = true → x = { s with power := { s.power with railsOut := s.power.railsOut.filter (fun y => y != r) } } →
        exec (.railReturn r) s = .next (settle (if bulkRails.contains r && bulkSupplied x
          then coreReset 4 { x with power := { x.power with coreUp := !x.power.hot } } else x)))) ∧
    (∀ t : Nat,
      (s.power.hot = true → t ≤ 100 → exec (.tempCrit t) s = .next (settle { s with power := { s.power with hot := false, coreUp := bulkSupplied s } })) ∧
      (s.power.hot = false → 100 ≤ t → t < 115 → exec (.tempCrit t) s = .next (settle (report srcTempHigh s))) ∧
      (s.power.hot = false → 115 ≤ t → x = settleDue settleFuel (report srcTempCrit (report srcTempHigh s)) →
        exec (.tempCrit t) s = .next (settle (coreDown (coreReset 4 { x with power := { x.power with hot := true } }))))) ∧
    (∀ u : Nat, u < 17 → s.power.inReset.contains u = true → exec (.unitResetEnd u) s = .next (settle (setSleep u true false
      { s with power := { s.power with inReset := s.power.inReset.filter (fun j => j != u) } }))) ∧
    (∀ d : Nat, d < 3 →
      exec (.healthKick d) s = .next (settle { s with pair := { s.pair with kicks := Store.set s.pair.kicks d s.clock } }) ∧
      (Store.getD s.pair.kicks d 0 + clamp 500 10000 (s.get VAR_TIMING2_KICK_NS) ≤ s.clock →
        exec (.healthKickMissed d) s = .next (settle (cease (report (srcHealthKick d) s))))) ∧
    (s.pair.ceased = false → 2 ≤ pairState s → pairState s ≤ 4 → exec .failSilentCessation s =
      .next (settle ((List.range 96).foldl (fun s p => quietPort p s) { s with pair := { s.pair with ceased := true } })))

/-- For every state: a corrected HBM error is counted and a rebuilt one rebuilds, failing its pseudo-channel past the threshold; a failed pseudo-channel is noted once;
a DDR5 error is logged and, corrected in a located device, may mark it; scrub corrections are counted; a refresh falls due or is postponed; the hottest DIMM is
read; the most urgent request issues; a step of a rank begins and ends, with the oscillator's eye; a training pass and a resilvering end; a channel is
fenced; a pending bin change applies on an idle channel. -/
def Obligations.MemoryEventsComplete : Prop :=
  ∀ s x : State,
    (∀ st pc : Nat, st < 2 → pc < 32 →
      exec (.hbmEccError st pc false) s = .next (settle (s.bump MEM_HBM_CE_CNT st)) ∧
      (x = report (srcStack st 2) (s.bump MEM_HBM_UE_CNT st) → rebuildBlocked x st pc = true →
        exec (.hbmEccError st pc true) s = .next (settle (x.bump MEM_HBM_LOST_CNT st))) ∧
      (∀ (y z : State) (l : List Nat), x = report (srcStack st 2) (s.bump MEM_HBM_UE_CNT st) → rebuildBlocked x st pc = false →
        y = report (srcStack st 6) (x.bump MEM_HBM_REBUILD_CNT st) →
        l = (Store.getD y.mem.rebuilds (32 * st + pc) []).filter (fun t => y.clock < t + nsPerSec) ++ [y.clock] →
        z = { y with mem := { y.mem with rebuilds := Store.set y.mem.rebuilds (32 * st + pc) (l.drop (l.length - 256)) } } →
        exec (.hbmEccError st pc true) s = .next (settle (if clamp 1 255 (z.get MEM_HBM_CFG_FAIL_THRESH st) < l.length then pcFails st pc z else z))) ∧
      exec (.pcFailed st pc) s = .next (settle (pcFails st pc s))) ∧
    (∀ (k dev sc bg ba rank row col : Nat) (y : State), k < 8 →
      x = (((((s.put MEM_DDR_ERR_LOG_VALID 1 k).flag MEM_DDR_ERR_LOG_UE false k).put MEM_DDR_ERR_LOG_SC sc k).put MEM_DDR_ERR_LOG_BG bg k).put
        MEM_DDR_ERR_LOG_BA ba k).put MEM_DDR_ERR_LOG_RANK rank k →
      y = (((x.put MEM_DDR_ERR_LOG_ROW row k).put MEM_DDR_ERR_LOG_COL col k).put MEM_DDR_ERR_LOG_DEVICE dev k).bump MEM_DDR_CE_CNT k →
      (20 ≤ dev → exec (.ddrEccError k false dev sc bg ba rank row col) s = .next (settle y)) ∧
      (∀ z : State, dev < 20 → z = onChan k (fun w => { w with marks := Store.upd w.marks dev 0 (· + 1) }) y →
        exec (.ddrEccError k false dev sc bg ba rank row col) s = .next (settle (
          if Store.getD (chanOf z k).marks dev 0 < clamp 1 255 (z.get MEM_DDR_CFG_MARK_THRESH k) || z.on MEM_DDR_STAT_MARKED k then z
          else report (srcChannel k 2) ((z.put MEM_DDR_STAT_MARKED 1 k).put MEM_DDR_STAT_MARKED_DEV dev k))))) ∧
    (∀ (m n : Nat) (last : Bool), m < 10 → exec (.patrolScrub m n last) s = .next (settle (if m < 8
      then (if last then onChan m (fun w => { w with marks := [] }) (s.bumpBy n MEM_DDR_SCRUB_FIX_CNT m) else s.bumpBy n MEM_DDR_SCRUB_FIX_CNT m)
      else s.bumpBy n MEM_HBM_CE_CNT (m - 8)))) ∧
    (∀ k bank n due : Nat, k < 8 → n = Store.getD (chanOf s k).owed bank 0 →
      due = Store.getD (chanOf s k).refreshed bank 0 + (if 85 < s.get MEM_DDR_STAT_DIMM_TEMP_C k then 1950 else 3900) →
      (s.clock < due → ∀ overdue : Bool, exec (.refresh k bank overdue) s = .next (settle s)) ∧
      (due ≤ s.clock → x = onChan k (fun w => { w with refreshed := Store.set w.refreshed bank s.clock }) s →
        (n < 4 → exec (.refresh k bank true) s = .next (settle
          ((onChan k (fun w => { w with owed := Store.put w.owed bank 0 (n + 1) }) x).bump MEM_DDR_REF_POSTPONE_CNT k))) ∧
        (4 ≤ n → exec (.refresh k bank true) s = .next (settle (countEvent (13 + k) 0x06 0xFFF 1 x))) ∧
        exec (.refresh k bank false) s =
          .next (settle (countEvent (13 + k) 0x06 0xFFF (n + 1) (onChan k (fun w => { w with owed := Store.erase w.owed bank }) x))))) ∧
    (∀ k t : Nat, k < 8 → x = s.put MEM_DDR_STAT_DIMM_TEMP_C t k →
      exec (.dimmTempRead k t) s = .next (settle (if 95 < t then report (srcChannel k 3) x else x))) ∧
    (∀ (m : Nat) (waiting : List MemReq) (r : MemReq), m < 72 → chooseRequest s m waiting = some r → (8 ≤ m ∨ (chanOf s m).neighbours = []) →
      exec (.memoryRequestIssue m waiting) s = .next (settle (issueRequest.issue m r s))) ∧
    (∀ k rank : Nat, k < 8 →
      (chanBusy s k = false → x = onChan k (fun w => { w with stepping := w.stepping ++ [rank] }) s →
        exec (.zqCalibration k rank true) s = .next (settle x) ∧ (∀ eye : Nat, exec (.oscillatorReading k rank true eye) s = .next (settle x))) ∧
      (x = onChan k (fun w => { w with stepping := w.stepping.filter (fun r => r != rank) }) s →
        exec (.zqCalibration k rank false) s = .next (settle x) ∧ (∀ eye : Nat, exec (.oscillatorReading k rank false eye) s =
          .next (settle { x with power := { x.power with eyePs := Store.set x.power.eyePs k eye } })))) ∧
    (∀ (k eye : Nat) (passed : Bool), k < 8 → x = passEnds k passed { s with power := { s.power with eyePs := Store.set s.power.eyePs k eye } } →
      exec (.trainingPassComplete k passed eye) s = .next (settle (channelReturns k passed (planAfterPass k x)))) ∧
    (∀ k : Nat, k < 8 →
      exec (.resilver k) s = .next (settle (channelReturns k true (resilverDone k s))) ∧
      exec (.channelFenced k) s = .next (settle (fenceUnit (9 + k) 0 s)) ∧
      (s.on MEM_DDR_STAT_FREQ_PENDING k = true → chanBusy s k = false → exec (.binChangeApply k) s =
        .next (settle (startPass k 3 (s.get MEM_DDR_STAT_PEND_BIN k) (s.put MEM_DDR_STAT_FREQ_PENDING 0 k)))))

/-- For every state: a framer that hunts takes a fitting header as candidate, in PRESYNC its fourth good header brings SYNC, in SYNC its seventh bad one loses it; a
defect and RDI are noted; a lane rejoins striping after 1 ms free of defects; a multiframe whose check fits gives its overhead; a container from a fenced
partner or with a bad ICV is counted and discarded, and a good one is joined in order; a lane with nothing to send sends a fill container, and one at its
turn a container; a container past RETX_NS is sent again; and the keys of containers and of the witness roll. -/
def Obligations.LaneEventsComplete : Prop :=
  ∀ s x : State,
    (∀ (k b : Nat) (h : List Byte), k < 4 →
      (s.get VAR_LANE_STAT_FRAMER k = 0 → b % 8 = 0 → (varLane s k).pos ≤ b → headerFits h = true →
        exec (.laneFrameHeader k b h) s = .next (settle (setFramer k 1 (onLane k (fun l => { l with pos := b, good := 1 }) s)))) ∧
      (s.get VAR_LANE_STAT_FRAMER k = 1 → b = (varLane s k).pos + 4096 → headerFits h = true → (varLane s k).good = 3 →
        x = onLane k (fun l => { l with pos := b, good := l.good + 1, bad := 0 }) s →
        exec (.laneFrameHeader k b h) s = .next (settle (setFramer k 2 x))) ∧
      (s.get VAR_LANE_STAT_FRAMER k = 1 → b = (varLane s k).pos + 4096 → headerFits h = false → exec (.laneFrameHeader k b h) s =
        .next (settle (setFramer k 0 (onLane k (fun l => { l with pos := l.pos - 4096 * (l.good - 1) + 8 }) s)))) ∧
      (s.get VAR_LANE_STAT_FRAMER k = 2 → b = (varLane s k).pos + 4096 → headerFits h = true → x = onLane k (fun l => { l with pos := b, bad := 0 }) s →
        exec (.laneFrameHeader k b h) s = .next (settle (takeHeader k h x))) ∧
      (s.get VAR_LANE_STAT_FRAMER k = 2 → b = (varLane s k).pos + 4096 → headerFits h = false →
        x = onLane k (fun l => { l with taken := false, mfNext := if l.aligned then (l.mfNext + 1) % 64 else l.mfNext })
          ((onLane k (fun l => { l with pos := b, bad := (varLane s k).bad + 1 }) s).bump VAR_HDR_ERR k) →
        exec (.laneFrameHeader k b h) s = .next (settle (if (varLane s k).bad = 6 then setFramer k 0 x else x)))) ∧
    (∀ t : LaneTx, (t.jc ≠ 0 → nextJc t = 0) ∧ (t.jc = 0 → t.fifo < 16 → nextJc t = 1) ∧ (t.jc = 0 → 48 < t.fifo → nextJc t = 2) ∧
      (16 ≤ t.fifo → t.fifo ≤ 48 → nextJc t = 0)) ∧
    (∀ k : Nat, sourceReady s = true →
      (varLane (startLaneFrame k s) k).tx.jc = nextJc (varLane s k).tx ∧ (varLane (startLaneFrame k s) k).tx.room = payloadLen (nextJc (varLane s k).tx)) ∧
    (nextPointer 4072 3 = 6 ∧ ∀ len p : Nat, nextPointer len p = (512 - (len - 8 * p) % 512) % 512 / 8) ∧
    (∀ k n : Nat, k < 4 →
      exec (.laneDefect k 1 n) s = .next (settle (setDefect k 1 (n != 0) s)) ∧ exec (.laneDefect k 6 n) s = .next (settle (degWindow k n s)) ∧
      (∀ code : Nat, 2 ≤ code → code ≤ 5 → exec (.laneDefect k code n) s = .next (settle s))) ∧
    (∀ (k : Nat) (on : Bool), k < 4 → s.on VAR_LANE_STAT_RDI_RX k = !on → x = laneEvent k (s.flag VAR_LANE_STAT_RDI_RX on k) →
      exec (.rdiReceived k on) s = .next (settle (if on then report (srcLane k 2) (leaveStripe k x) else x))) ∧
    (∀ k : Nat, k < 4 → (varLane s k).defects = [] → (varLane s k).freeSince + 1000000 ≤ s.clock → bitOf (s.get VAR_LANE_CFG_LANE_EN) k = true →
      s.on VAR_LANE_STAT_RDI_RX k = false → s.get VAR_LANE_STAT_FRAMER k = 2 → exec (.laneRejoin k) s = .next (settle (setStripe k true s))) ∧
    (∀ (k : Nat) (oh : List Byte) (y z : State), k < 4 → oh = (varLane s k).overhead → oh.length = 128 → crc16 (oh.take 126) = beField oh 126 2 →
      x = onLane k (fun l => { l with overhead := [] }) s → y = { x with pair := { x.pair with partnerState := leField oh 9 1, heard := x.clock } } →
      z = (if leField oh 8 1 = (varLane s k).sender then y else report (srcLane k 1) y) →
      (syncLane z ≠ some k → exec (.multiframe k) s = .next (settle (onLane k (fun l =>
        { l with echo := some (stampNs (stampOfBytes (slice oh 10 10)), (varLane s k).mfStart) }) z))) ∧
      (∀ (ofs : Int) (w : State), syncLane z = some k →
        ofs = (((stampNs (stampOfBytes (slice oh 30 10)) : Int) - (stampNs (stampOfBytes (slice oh 20 10)) : Int)) +
          ((stampNs (stampOfBytes (slice oh 10 10)) : Int) - ((varLane s k).mfStart : Int))) / 2 →
        w = z.put TIM_PAIR_OFS_NS (signedCode 32 (clampInt (-(2 ^ 31 : Nat)) ((2 ^ 31 - 1 : Nat) : Int) ofs)) →
        exec (.multiframe k) s = .next (settle (onLane k (fun l => { l with echo := some (stampNs (stampOfBytes (slice oh 10 10)), (varLane s k).mfStart) })
          (if w.get TIM_PAIR_OFS_MAX_NS < ofs.natAbs then report (srcTime 2) w else w))))) ∧
    (∀ (k : Nat) (bytes : List Byte) (icvOk : Bool), k < 4 → laneTakes s k = false → exec (.containerReceive ⟨k, bytes⟩ icvOk) s = .next (settle s)) ∧
    (∀ (k : Nat) (bytes : List Byte) (icvOk : Bool), k < 4 → laneTakes s k = true → x = { s with pair := { s.pair with heard := s.clock } } → (pairState x = 5 ∨ pairState x = 6) →
      exec (.containerReceive ⟨k, bytes⟩ icvOk) s = .next (settle (report (srcPair 8) (x.bump VAR_FENCE_VIOL_CNT)))) ∧
    (∀ (k : Nat) (bytes : List Byte) (m : List (List Byte)) (y : State), k < 4 → laneTakes s k = true → x = { s with pair := { s.pair with heard := s.clock } } → 1 ≤ pairState x →
      pairState x ≤ 4 → y = takeAck (beField bytes 4 4) (beField bytes 8 2) x → bitOf (beField bytes 12 1) 0 = false →
      (!bitOf (beField bytes 12 1) 1 && (bitOf (beField bytes 12 1) 2 != (y.pair.recvEpoch % 2 == 1))) = false →
      0 ≤ seqDiff (beField bytes 0 4) y.pair.rxNext → Store.get? y.pair.early (beField bytes 0 4) = none →
      seqDiff (beField bytes 0 4) y.pair.rxNext < ((applyRoom - y.pair.applyQueue.length : Nat) : Int) →
      m = splitMessages 60 (slice bytes 16 (min 480 (beField bytes 10 2))) →
      exec (.containerReceive ⟨k, bytes⟩ true) s = .next (settle (acceptContainers 256
        { y with pair := { y.pair with early := Store.set y.pair.early (beField bytes 0 4) m } }))) ∧
    (∀ (k n : Nat) (y z : State), k < 4 → bitOf (s.get VAR_LANE_CFG_LANE_EN) k = true → x = laneBlocks k n s →
      (sourceReady x = false → exec (.containerSend ⟨k, n⟩) s = .next (settle x)) ∧
      (sourceReady x = true → y = countEvent 10 0x01 k 1 x →
        (∀ (q : Nat) (rest : List Nat) (c : SentContainer), (varLane y k).tx.queue.filter (fun q => y.pair.sent.any (fun c => c.seq == q)) = q :: rest →
          z = onLane k (fun l => { l with tx := { l.tx with queue := rest } }) y → z.pair.sent.find? (fun c => c.seq == q) = some c →
          exec (.containerSend ⟨k, n⟩) s = .next (settle (giveLane k (containerBytes z q (containerFlags c) c.messages) z))) ∧
        ((varLane y k).tx.queue.filter (fun q => y.pair.sent.any (fun c => c.seq == q)) = [] →
          z = onLane k (fun l => { l with tx := { l.tx with queue := [] } }) y →
          ((outOrder z = [] ∨ turnLane z ≠ some k) → exec (.containerSend ⟨k, n⟩) s = .next (settle (sendFill k z))) ∧
          (outOrder z ≠ [] → turnLane z = some k → z.pair.sent.length < 16384 → seqDiff z.pair.nextSeq z.pair.acked ≤ (z.pair.credit : Int) →
            exec (.containerSend ⟨k, n⟩) s = .next (settle (sendContainer k z)))))) ∧
    (∀ (seq k : Nat) (c : SentContainer) (l : List SentContainer), lightLane s = some k → s.pair.sent.find? (fun c => c.seq == seq) = some c →
      sourceReady s = true → c.sentAt + clamp 1000 65535 (s.get VAR_TIMING2_RETX_NS) ≤ s.clock →
      l = s.pair.sent.map (fun x => if x.seq = seq then { x with lane := k, sentAt := s.clock, due := false, again := true } else x) →
      x = { s with pair := { s.pair with sent := l } } →
      exec (.retransmission seq) s = .next (settle (queueOn k seq (countEvent 10 0x02 k 1 (x.bump VAR_RETX_CNT))))) ∧
    exec .containerKeyRoll s = .next (settle (report (srcPair 10)
      { s with pair := { s.pair with sendKey := s.free, sendEpoch := s.pair.sendEpoch + 1 }, free := s.free + 1 })) ∧
    (s.pair.witSendSeq ≠ 2 ^ 32 - 1 → exec .witnessKeyRoll s = .next (settle s)) ∧
    (s.pair.witSendSeq = 2 ^ 32 - 1 → exec .witnessKeyRoll s = .next (settle (report (srcPair 10)
      { s with pair := { s.pair with witSendKey := s.free, witSendSeq := 0 }, free := s.free + 1 })))

/-- For every state: a heartbeat that is due is sent; the front message of the apply queue is applied by its TYPE, and the queue moves on; a witness frame is sent
and received; a silent link with a live witness suspends a mirroring pair, a silent witness with a live link is reported, and both silent go solo or stop; the
link returns in STATE 4; a takeover applies the queue and takes the partner's commands over; SOLO_HOLD_MS ends in the whole port range; authentication that
fails ends the set-up; and bulk synchronisation sends the next record, and ends in STATE 3. -/
def Obligations.PairEventsComplete : Prop :=
  ∀ s x : State,
    (∀ m : List Byte, 1 ≤ pairState s → pairState s ≤ 4 → s.pair.ceased = false →
      s.pair.hbSent + clamp 250 10000 (s.get VAR_TIMING_HB_NS) ≤ s.clock →
      m = mirrorMessage 0x01 [] (leBytes 8 (s.pair.hbSeq + 1) ++ leBytes 4 (healthWord s) ++ leBytes 1 (pairState s) ++ zeros 11) →
      exec (.heartbeat false) s = .next (settle
        { s with pair := { s.pair with out := s.pair.out ++ [(0, m)], hbSeq := s.pair.hbSeq + 1, hbSent := s.clock } })) ∧
    (∀ (m : List Byte) (r : List (List (List Byte)) × Nat) (y : State), frontMessage s.pair.applyQueue = some m → r = dropFront s.pair.applyQueue →
      x = applyMessage m s → y = { x with pair := { x.pair with applyQueue := r.1, applied := x.pair.applied + r.2 } } →
      (leField m 0 1 = 0x01 → exec (.heartbeat true) s = .next (settle y)) ∧
      (leField m 0 1 = 0x02 → exec .journalMsg s = .next (settle y)) ∧
      (leField m 0 1 = 0x03 → exec .jdone s = .next (settle y)) ∧
      (leField m 0 1 = 0x10 → exec .createMsg s = .next (settle y)) ∧
      (leField m 0 1 = 0x11 → exec .stateMsg s = .next (settle y)) ∧
      (leField m 0 1 = 0x12 → exec .pdata s = .next (settle y)) ∧
      (leField m 0 1 = 0x13 → exec .deleteMsg s = .next (settle y)) ∧
      (leField m 0 1 = 0x14 → exec .ckpt s = .next (settle y)) ∧
      (leField m 0 1 = 0x15 → exec .syncrec s = .next (settle y)) ∧
      (leField m 0 1 = 0x16 → m.length ≤ 48 → exec .recfetch s = .next (settle y)) ∧
      (leField m 0 1 = 0x16 → 48 < m.length → exec .recordMsg s = .next (settle y))) ∧
    (1 ≤ pairState s → pairState s ≤ 4 → s.pair.ceased = false → s.on VAR_WITNESS_EN = true → s.pair.witSendSeq ≠ 2 ^ 32 - 1 →
      s.pair.witSent + clamp 500 10000 (s.get VAR_TIMING_WIT_NS) ≤ s.clock → exec (.witnessFrame none) s = .next (settle
        { s with pair := { s.pair with witSendSeq := s.pair.witSendSeq + 1, witSent := s.clock } })) ∧
    (∀ (bytes : List Byte) (tag : Nat), exec (.witnessFrame (some (bytes, tag))) s = .next (settle (takeWitness bytes tag s))) ∧
    (s.pair.hbHeard + clamp 1000 60000 (s.get VAR_TIMING_LINK_MISS_NS) ≤ s.clock → x = s.put VAR_STAT_LINK_ALIVE 0 →
      (x.on VAR_STAT_WIT_ALIVE = false → exec .linkSilent s = .next (settle (bothSilent x))) ∧
      (x.on VAR_STAT_WIT_ALIVE = true → pairState x = 1 → exec .linkSilent s = .next (settle (setupFails x))) ∧
      (x.on VAR_STAT_WIT_ALIVE = true → (pairState x = 2 ∨ pairState x = 3) → exec .linkSilent s =
        .next (settle (releasePartnerWaits (report (srcPair 0) ((setPairState 4 x).bump VAR_SUSPEND_CNT)))))) ∧
    (s.pair.witHeard + clamp 2000 60000 (s.get VAR_TIMING_WIT_MISS_NS) ≤ s.clock → x = s.put VAR_STAT_WIT_ALIVE 0 →
      (x.on VAR_STAT_LINK_ALIVE = false → exec .witnessSilent s = .next (settle (bothSilent x))) ∧
      (x.on VAR_STAT_LINK_ALIVE = true → 1 ≤ pairState x → pairState x ≤ 4 → exec .witnessSilent s = .next (settle (report (srcPair 1) x)))) ∧
    (pairState s = 4 → s.on VAR_STAT_LINK_ALIVE = true →
      x = { s with pair := { s.pair with syncKeys := allKeys s, syncTotal := (allKeys s).length } } →
      exec .linkBack s = .next (settle ((setPairState 2 x).put VAR_STAT_SYNC_PCT 0))) ∧
    (∀ (y : State) (l : List JEntry), pairState s = 5 → x = applyAll (applyCount s + 1) s →
      y = { x with pair := { x.pair with applyQueue := [], applied := x.pair.received } } →
      l = ((List.range 4).flatMap (fun r => y.pair.journal.filter (fun e => e.ring == r))).map replayEntry →
      (∀ z : State, z = { y with pair := { y.pair with journal := [] }, host := { y.host with journal := y.host.journal ++ l } } →
        exec .pairTakeover s = .next (settle (z.bumpBy l.length VAR_REPLAY_CNT)))) ∧
    (∀ ms : Nat, ms = clamp 0 60000 (s.get VAR_TIMING2_SOLO_HOLD_MS) → ms ≠ 0 → s.pair.heard + ms * 1000000 ≤ s.clock →
      exec .soloHoldExpiry s = .next (settle (goSolo s))) ∧
    (∀ (partner : Nat) (holds : Bool), pairState s = 1 → exec (.mutualAuthentication false partner holds) s = .next (settle (setupFails s))) ∧
    (∀ (partner own : Nat) (holds join : Bool) (y z : State), pairState s = 1 → s.num VAR_PARTNER_ID = partner → (holds && !(allKeys s).isEmpty) = false →
      own = s.num ASC_ID_FP → join = joins own partner (!(allKeys s).isEmpty) holds →
      x = setPairHalf (if own < partner then 1 else 2) (s.flag VAR_STAT_JOINER join) →
      y = { x with
        pair := { x.pair with
          sendKey := x.free, recvKey := x.free + 1, witSendKey := x.free + 2, witRecvKey := x.free + 3,
          syncKeys := if join then [] else allKeys s, syncTotal := if join then 0 else (allKeys s).length },
        free := x.free + 4 } →
      z = (if join then drawFlowKeys y else y.put VAR_STAT_COVERED 1) →
      exec (.mutualAuthentication true partner holds) s =
        .next (settle (finishWaiting (fun w => w.opcode == 0x0A00) (fun _ => resOk) (setPairState 2 z)))) ∧
    (∀ (key : List Byte) (rest : List (List Byte)) (pct : Nat), pairState s = 2 → s.pair.syncKeys = key :: rest →
      pct = (if s.pair.syncTotal = 0 then 100 else (s.pair.syncTotal - rest.length) * 100 / s.pair.syncTotal) →
      x = ({ s with pair := { s.pair with syncKeys := rest } } : State).put VAR_STAT_SYNC_PCT pct →
      exec .bulkSync s = .next (settle (if keyHeld x key then sendMirror 3 0x15 [] ((fullRecord x key).take 256) x else x))) ∧
    (pairState s = 2 → s.pair.syncKeys = [] → syncAcked s = true → s.on VAR_STAT_COVERED = true →
      exec .bulkSync s = .next (settle (setPairState 3 (s.put VAR_STAT_SYNC_PCT 100))))

/-- For every state: a running routine fetches its word, from the ROM or from the patch that matches, counts a corrected error, runs a word whose reserved
fields are zero and is abandoned on a reserved one, on a double-bit error and outside the address space; the response of its read comes in; at a trap point with a
higher level waiting and fewer than three frames the routine is saved; with no routine running the last frame is restored where no higher level waits; a request
waits and starts an idle engine, or cancels; a level 0 routine gives way after 10 µs; and a late routine is abandoned. -/
def Obligations.HksEventsComplete : Prop :=
  ∀ (s t : State) (x y : HksRun),
    (s.hks.running = some x →
      (∀ w err : Nat, err < 3 → trapDue s = true → exec (.hksMicroword w err) s = .next (settle (microTrap s))) ∧
      (∀ w err : Nat, err < 3 → trapDue s = false → turnOver s = true → exec (.hksMicroword w err) s = .next (settle (roundRobin s))) ∧
      (∀ w err : Nat, err < 3 → trapDue s = false → turnOver s = false → 0x10400 ≤ x.pc → exec (.hksMicroword w err) s = .next (settle (abandonRoutine s))) ∧
      (∀ w : Nat, trapDue s = false → turnOver s = false → x.pc < 0x10400 → patchSource s x.pc = none →
        exec (.hksMicroword w 2) s = .next (settle (abandonRoutine (report (srcHks 0) s))) ∧
        (wordReserved (w % 2 ^ 128) = true → exec (.hksMicroword w 0) s = .next (settle (abandonRoutine s))) ∧
        (wordReserved (w % 2 ^ 128) = false → exec (.hksMicroword w 0) s = .next (settle (runWord (w % 2 ^ 128) false x s)) ∧
          exec (.hksMicroword w 1) s = .next (settle (runWord (w % 2 ^ 128) false x (s.bump HKS_ECC_FIX_CNT))))) ∧
      (∀ w a v : Nat, trapDue s = false → turnOver s = false → x.pc < 0x10400 → patchSource s x.pc = some a → Store.get? s.hks.patch a = some v → wordReserved v = false →
        exec (.hksMicroword w 0) s = .next (settle (runWord v true x s))) ∧
      (∀ (i rw : Nat) (bytes : List Byte) (inProgress : Bool) (inserted : Option Bool), x.reads[i]? = some rw →
        y = (List.range 8).foldl (fun y j => hksSet y ((rw + j) % 32) (leField bytes (8 * j) 8)) x →
        exec (.hksMemResponse 0 i bytes inProgress inserted) s = .next (settle (setHks { s.hks with
          running := some { y with reads := y.reads.eraseIdx i, inProgress := inProgress, inserted := inserted.getD y.inserted } } s))) ∧
      (nextWaiting s.hks.waiting = some y → x.trapPoint = true → x.level < y.level → s.hks.frames.length < 3 →
        exec .microTrap s = .next (settle (setHks { s.hks with
          running := some y, frames := x :: s.hks.frames, waiting := dropRun y s.hks.waiting } (s.bump HKS_TRAP_CNT)))) ∧
      (s.hks.waiting.find? (fun y => y.level == 0) = some y → x.level = 0 → x.trapPoint = true → 10000 ≤ x.turn →
        exec .hksRoundRobinYield s = .next (settle (setHks { s.hks with
          running := some y, waiting := dropRun y s.hks.waiting ++ [{ x with turn := 0, trapPoint := false }] } s))) ∧
      (t = raiseAt (srcHks 1) x.routine (({ resolveMarks x s with hks := { (resolveMarks x s).hks with running := none } } : State).bump HKS_ABANDON_CNT) →
        x.routine ≠ 0x13 → x.routine ≠ 0x20 → x.routine ≠ 0x31 → exec .hksAbandon s = .next (settle (startNext
          (finishWaiting (fun w => (routineCommands x.routine).contains w.opcode) (fun _ => resFail 0x0D) t)))) ∧
      ((routineTicks s x.routine).getD 0 + nsPerSec ≤ x.ran → exec .hksRoutineLate s = .next (settle (abandonRoutine (report (srcHks 3) s))))) ∧
    (∀ rest : List HksRun, s.hks.running = none → s.hks.frames = x :: rest →
      (s.hks.waiting.any (fun z => x.level < z.level) = false →
        exec .trapFrameRestore s = .next (settle (setHks { s.hks with running := some x, frames := rest } s))) ∧
      (s.hks.waiting.any (fun z => x.level < z.level) = true → exec .trapFrameRestore s = .next (settle (startNext s)))) ∧
    (∀ r level : Nat, routineLevel r = some level → s.power.coreUp = true →
      (t = { s with free := s.free + 32 } → exec (.hksRoutineRequest r false) s = .next (settle (startNext { t with hks := { s.hks with
        running := s.hks.running.map (fun y => if y.level < level then { y with trapPoint := false } else y),
        waiting := s.hks.waiting ++ [freshRoutine s r level] } }))) ∧
      exec (.hksRoutineRequest r true) s = .next (settle (setHks { s.hks with
        running := s.hks.running.map (fun x => if x.routine = r then { x with cancel := true } else x),
        frames := s.hks.frames.map (fun x => if x.routine = r then { x with cancel := true } else x),
        waiting := s.hks.waiting.map (fun x => if x.routine = r then { x with cancel := true } else x) } s)))

/-- For every timestamp with seconds below 2^48 and nanoseconds of 0 to 999,999,999: its bytes in memory are 10, the little-endian value of bytes 0 to 3 is the
nanoseconds and that of bytes 4 to 9 the seconds, the value of all 10 has the seconds in bits 79 to 32 and the nanoseconds in bits 31 to 0, with bits 31 and
30 zero, and the bytes read back as the timestamp. -/
def Obligations.StampsTakeTenBytes : Prop :=
  ∀ t : Stamp, t.sec < 2 ^ 48 → t.ns ≤ 999999999 →
    (stampBytes t).length = 10 ∧ leField (stampBytes t) 0 4 = t.ns ∧ leField (stampBytes t) 4 6 = t.sec ∧
    bitsOf (leNat (stampBytes t)) 79 32 = t.sec ∧ bitsOf (leNat (stampBytes t)) 31 0 = t.ns ∧ bitsOf (leNat (stampBytes t)) 31 30 = 0 ∧
    stampOfBytes (stampBytes t) = t

/-- For every state, ring and entry of at least one byte that the device writes at index i: at the ring's position i mod size stands an entry of the same length whose
last byte has, in bit 7, 1 in the first pass over the ring (i below the size), 0 in the second, and 1 − ((i >> SIZE_LOG2) mod 2) in every pass, with the other
bits of that byte and all other bytes as given; and every other position of the ring is as before. -/
def Obligations.EntriesCarryTheirPhase : Prop :=
  ∀ (s : State) (r i lg p : Nat) (entry slot : List Byte), entry ≠ [] → i = s.get HST_RING_IDX_PI r → lg = s.get HST_RING_CFG_SIZE_LOG2 r →
    p = i % 2 ^ lg →
    (∃ e, Store.get? (ringWrite r entry slot s).host.entries (key2 r p) = some e ∧ e.length = entry.length ∧
      leField e (entry.length - 1) 1 / 128 = 1 - (i >>> lg) % 2 ∧
      (i < 2 ^ lg → leField e (entry.length - 1) 1 / 128 = 1) ∧
      (2 ^ lg ≤ i → i < 2 * 2 ^ lg → leField e (entry.length - 1) 1 / 128 = 0) ∧
      leField e (entry.length - 1) 1 % 128 = leField entry (entry.length - 1) 1 % 128 ∧
      (∀ j : Nat, j + 1 < entry.length → e[j]? = entry[j]?)) ∧
    (∀ q : Nat, q < 2 ^ 32 → p < 2 ^ 32 → q ≠ p →
      Store.get? (ringWrite r entry slot s).host.entries (key2 r q) = Store.get? s.host.entries (key2 r q))

/-- For every state: an event posted while fewer than 4096 wait waits as the last with the TIME of its posting, and nothing is dropped; one that finds 4096 waiting is
dropped, counted in HST_EVT_DROP_CNT and in the number that the next overflow event reports, and those that wait stay; so never more than 4096 wait after a
post. While the EVT ring has room and events were dropped, the next entry written is the overflow event with their number, before the waiting events, and the
number starts afresh. -/
def Obligations.EventsWaitBounded : Prop :=
  ∀ (s : State) (typ source : Nat) (data : List Byte),
    (s.host.evtFifo.length < 4096 →
      (postEvent typ source data s).host.evtFifo = s.host.evtFifo ++ [⟨typ, source, s.now, padTo 16 data⟩] ∧
      (postEvent typ source data s).host.evtDropped = s.host.evtDropped ∧
      (postEvent typ source data s).reg HST_EVT_DROP_CNT = s.reg HST_EVT_DROP_CNT) ∧
    (4096 ≤ s.host.evtFifo.length →
      (postEvent typ source data s).host.evtFifo = s.host.evtFifo ∧
      (postEvent typ source data s).host.evtDropped = s.host.evtDropped + 1 ∧
      (postEvent typ source data s).reg HST_EVT_DROP_CNT = s.reg HST_EVT_DROP_CNT + 1) ∧
    (s.host.evtFifo.length ≤ 4096 → (postEvent typ source data s).host.evtFifo.length ≤ 4096) ∧
    (ringRoom s 56 1 = true → s.host.evtDropped ≠ 0 →
      ∃ t e, exec .eventPost s = .next (settle t) ∧ t.host.evtDropped = 0 ∧ t.host.evtFifo = s.host.evtFifo ∧
        Store.get? t.host.entries (key2 56 (ringPos s 56 (s.get HST_RING_IDX_PI 56))) = some e ∧ leField e 0 2 = 0x00F0 ∧
        leField e 14 8 = s.host.evtDropped % 2 ^ 64)

/-- For every state in which recording goes on and no freeze collects: an entry written is the last of the live buffer, with the TIME and the number of its writing; the
number of entries written rises by one; the buffer keeps the newest of its entries and never more than 16,384; the other buffer and everything outside
the fault block and the registers is as before. While recording is stopped an entry is only counted as lost. -/
def Obligations.BlackBoxKeepsTheNewest : Prop :=
  ∀ (s : State) (kind source flags cls u detail v : Nat),
    (s.on FLT_BB_STAT_STOPPED = false → s.faults.collecting = none → ∀ (t : State) (old : BbBuffer), t = bbEntry kind source flags cls u detail v s →
      old = bbBuf s (bbLive s) →
      ∃ e : BbEntry, e.kind = kind ∧ e.source = source ∧ e.cls = cls ∧ e.unit = u ∧ e.detail = detail ∧ e.value = v ∧ e.time = s.now ∧
        e.seq = s.get FLT_BB_STAT_SEQ ∧
        (bbBuf t (bbLive s)).entries = (old.entries ++ [e]).drop (old.entries.length + 1 - 16384) ∧ (bbBuf t (bbLive s)).written = old.written + 1 ∧
        (old.entries.length ≤ 16384 → (bbBuf t (bbLive s)).entries.length ≤ 16384) ∧ bbBuf t (1 - bbLive s) = bbBuf s (1 - bbLive s) ∧
        t.host = s.host ∧ t.ascor = s.ascor ∧ t.time = s.time ∧ t.power = s.power ∧ t.counters = s.counters ∧ t.pair = s.pair ∧ t.buf = s.buf ∧
        t.xpr = s.xpr ∧ t.egr = s.egr ∧ t.cls = s.cls ∧ t.flow = s.flow ∧ t.fel = s.fel ∧ t.mem = s.mem ∧ t.hks = s.hks ∧ t.free = s.free ∧
        t.pending = s.pending) ∧
    (s.on FLT_BB_STAT_STOPPED = true → bbEntry kind source flags cls u detail v s = s.bump FLT_BB_LOST_CNT)

/-- For every state and arriving frame whose window is present and whose quarter's wake FIFO holds 8192 descriptors: its dispatch answers a next state (the end of a step of
t) in which BUF_ADM_REFUSE of its ingress port was raised by one before its cells were freed, the frame is no longer held, every other frame is, no quarter
has changed, and nothing has been linked into a queue. -/
def Obligations.FullWakeFifoRefuses : Prop :=
  ∀ (s : State) (f : Nat) (y : Frame), frameOf s f = some y → y.dispatched = false → y.port < 96 → windowPresent s y = true →
    8192 ≤ (quarterOf s (servingQuarter s y.port)).wake.length →
    ∃ u t, exec (.headerDescriptorDispatch f) s = .next (settle t) ∧ t = freeFrame f u ∧
      u.reg BUF_ADM_REFUSE y.port = s.reg BUF_ADM_REFUSE y.port + 1 ∧ u.buf = s.buf ∧ frameOf t f = none ∧
      (∀ g : Nat, g ≠ f → frameOf t g = frameOf s g) ∧ t.cls = s.cls ∧ t.buf.queues = s.buf.queues

/-- For every state, instance of one of the registers named and value whose mask covers a writable bit: where the parts (the minimum of each of the 768 queues, the
headroom of each lossless priority of each port, the spill reserve, and pools 0 and 1), with the value taken, sum to more than 655,360 cells, the write changes
nothing but CFG_ERR, which it sets; else the register takes the value and CFG_ERR is 0. The reset values sum to exactly 655,360. -/
def Obligations.BufferPartsStayWithinTheCells : Prop :=
  (∀ (s t : State) (x : RegRef) (m v value parts : Nat),
    x.reg ∈ [BUF_POOL_CFG, BUF_SPILL_CFG, BUF_QPROF, BUF_PFCPROF_W0, BUF_PFCPROF_W1, BUF_QMAP, BUF_PFC_PORT] → m &&& x.reg.rw ≠ 0 →
    value = ((s.num x.reg x.i x.j x.k &&& ((m &&& x.reg.rw) ^^^ (2 ^ 64 - 1))) ||| (v &&& (m &&& x.reg.rw))) →
    t = s.setReg x.reg (BitVec.ofNat 64 value) x.i x.j x.k →
    parts = ((List.range 768).map (fun q => t.get BUF_QPROF_MIN (queueProfile t q))).sum +
      ((List.range 96).map (fun p => ((List.range 8).filter (fun i => bitOf (t.get BUF_PFC_PORT_LOSSLESS p) i)).length *
        t.get BUF_PFCPROF_W1_HDRM (t.get BUF_PFC_PORT_PROFILE p))).sum + clamp 4096 131072 (t.get BUF_SPILL_CFG_SPILL_RES) +
      t.get BUF_POOL_CFG_POOL0_SIZE + t.get BUF_POOL_CFG_POOL1_SIZE →
    (655360 < parts → writeRef x m v s = s.put BUF_RESERVE_STAT_CFG_ERR 1) ∧
    (parts ≤ 655360 → writeRef x m v s =
      settleBuffer ((t.put BUF_RESERVE_STAT_CFG_ERR 0).put BUF_RESERVE_STAT_RESERVED (parts - t.get BUF_POOL_CFG_POOL0_SIZE - t.get BUF_POOL_CFG_POOL1_SIZE)))) ∧
  ((List.range 768).map (fun q => State.reset.get BUF_QPROF_MIN (queueProfile State.reset q))).sum +
    clamp 4096 131072 (State.reset.get BUF_SPILL_CFG_SPILL_RES) + State.reset.get BUF_POOL_CFG_POOL0_SIZE +
    State.reset.get BUF_POOL_CFG_POOL1_SIZE = 655360 ∧ (∀ p : Nat, p < 96 → State.reset.get BUF_PFC_PORT_LOSSLESS p = 0)

/-- In the state right after reset the clock is at SEC 0, NS 0 with INCR nominal and VALID 0; no start-up stage is ready; every ring is disabled; every port is
disabled with OVERHEAD 20 and a hold time of 1000; the reserve rests; MAX_CYCLES is 4096, TIMEOUT_US 200, HB_NS 1000, LINK_MISS_NS 4000, WIT_MISS_NS 5000 and
OFS_MAX_NS 1000; the pair state is 0; no command waits, the journal, the event FIFO, the buffer and the flow tiers are empty, and no fault is pending. -/
def Obligations.ResetLeavesTheSpecValues : Prop :=
  State.reset.time.sec = 0 ∧ State.reset.time.ns = 0 ∧ State.reset.num TIM_INCR = 2 ^ 32 ∧ State.reset.on TIM_STAT_VALID = false ∧
  State.reset.num PWR_READY % 32 = 0 ∧
  (∀ r : Nat, r < 59 → State.reset.on HST_RING_CFG_EN r = false) ∧
  (∀ p : Nat, p < 96 → State.reset.on PRT_MODE_ENABLE p = false ∧ State.reset.get SCH_PORT_CFG_OVERHEAD p = 20 ∧
    State.reset.get PRT_HOLD_HOLD_TIME p = 1000) ∧
  (∀ q : Nat, q < 5 → State.reset.on QTR_SLEEP_CTRL_RESERVE_REST q = true) ∧
  State.reset.get FLW_TASK_CTRL_MAX_CYCLES = 4096 ∧ State.reset.get FLW_MISS_CTRL_TIMEOUT_US = 200 ∧ State.reset.get VAR_TIMING_HB_NS = 1000 ∧
  State.reset.get VAR_TIMING_LINK_MISS_NS = 4000 ∧ State.reset.get VAR_TIMING_WIT_MISS_NS = 5000 ∧ State.reset.get TIM_PAIR_OFS_MAX_NS = 1000 ∧
  pairState State.reset = 0 ∧ State.reset.pending = [] ∧ State.reset.host.journal = [] ∧ State.reset.host.evtFifo = [] ∧
  State.reset.buf.queues = [] ∧ State.reset.buf.frames = [] ∧ State.reset.flow.firkin = [] ∧ State.reset.flow.tun.slots = [] ∧
  State.reset.faults.pending = []
end

