-- ==== Sys2Proof/Laws/Bits.lean ====
section
/-! SUPPORT. What the bit fields do: a field read after it is written, another field, and the bound of a word. -/

namespace Sys2Proof.Machine

theorem bitsOf_split (v hi lo : Nat) (h : lo ≤ hi) :
    v = v / 2 ^ (hi + 1) * 2 ^ (hi + 1) + bitsOf v hi lo * 2 ^ lo + v % 2 ^ lo := by
  unfold bitsOf
  have e : 2 ^ (hi + 1) = 2 ^ lo * 2 ^ (hi + 1 - lo) := by rw [← pow_add]; congr 1; omega
  have h1 := Nat.div_add_mod v (2 ^ lo)
  have h2 := Nat.div_add_mod (v / 2 ^ lo) (2 ^ (hi + 1 - lo))
  have h3 : v / 2 ^ lo / 2 ^ (hi + 1 - lo) = v / 2 ^ (hi + 1) := by rw [Nat.div_div_eq_div_mul, ← e]
  rw [h3] at h2
  calc v = 2 ^ lo * (v / 2 ^ lo) + v % 2 ^ lo := h1.symm
    _ = 2 ^ lo * (2 ^ (hi + 1 - lo) * (v / 2 ^ (hi + 1)) + v / 2 ^ lo % 2 ^ (hi + 1 - lo)) + v % 2 ^ lo := by rw [h2]
    _ = _ := by rw [e]; ring

/-- What a word is with a field replaced: the bits above, the new field, the bits below. -/
theorem withBits_eq (v hi lo x : Nat) (h : lo ≤ hi) :
    withBits v hi lo x = v / 2 ^ (hi + 1) * 2 ^ (hi + 1) + x % 2 ^ (hi + 1 - lo) * 2 ^ lo + v % 2 ^ lo := by
  have e := bitsOf_split v hi lo h
  unfold withBits
  omega

theorem field_lt (x hi lo : Nat) (h : lo ≤ hi) (r : Nat) (hr : r < 2 ^ lo) : x % 2 ^ (hi + 1 - lo) * 2 ^ lo + r < 2 ^ (hi + 1) := by
  have e : 2 ^ (hi + 1) = 2 ^ (hi + 1 - lo) * 2 ^ lo := by rw [← pow_add]; congr 1; omega
  have hx : x % 2 ^ (hi + 1 - lo) < 2 ^ (hi + 1 - lo) := Nat.mod_lt _ (by positivity)
  rw [e]
  nlinarith

/-- A field read after it is written. -/
theorem bitsOf_withBits_same (v hi lo x : Nat) (h : lo ≤ hi) : bitsOf (withBits v hi lo x) hi lo = x % 2 ^ (hi + 1 - lo) := by
  rw [withBits_eq v hi lo x h]
  unfold bitsOf
  have hl : v % 2 ^ lo < 2 ^ lo := Nat.mod_lt _ (by positivity)
  have e : 2 ^ (hi + 1) = 2 ^ (hi + 1 - lo) * 2 ^ lo := by rw [← pow_add]; congr 1; omega
  have : v / 2 ^ (hi + 1) * 2 ^ (hi + 1) + x % 2 ^ (hi + 1 - lo) * 2 ^ lo + v % 2 ^ lo
      = v % 2 ^ lo + (v / 2 ^ (hi + 1) * 2 ^ (hi + 1 - lo) + x % 2 ^ (hi + 1 - lo)) * 2 ^ lo := by
    rw [e]; ring
  rw [this, Nat.add_mul_div_right _ _ (by positivity), Nat.div_eq_of_lt hl, Nat.zero_add, Nat.mul_add_mod_self_right, Nat.mod_mod]

/-- A field that lies below the field written. -/
theorem bitsOf_withBits_below (v hi lo x h' l' : Nat) (h : lo ≤ hi) (hl : l' ≤ h') (hb : h' < lo) :
    bitsOf (withBits v hi lo x) h' l' = bitsOf v h' l' := by
  have key : ∀ a : Nat, bitsOf a h' l' = (a % 2 ^ lo) / 2 ^ l' % 2 ^ (h' + 1 - l') := by
    intro a
    unfold bitsOf
    have e : 2 ^ lo = 2 ^ l' * 2 ^ (lo - l') := by rw [← pow_add]; congr 1; omega
    rw [e, Nat.mod_mul_right_div_self, Nat.mod_mod_of_dvd _ (pow_dvd_pow 2 (by omega))]
  rw [key, key, withBits_eq v hi lo x h]
  have e : 2 ^ (hi + 1) = 2 ^ (hi + 1 - lo) * 2 ^ lo := by rw [← pow_add]; congr 1; omega
  have : v / 2 ^ (hi + 1) * 2 ^ (hi + 1) + x % 2 ^ (hi + 1 - lo) * 2 ^ lo + v % 2 ^ lo
      = (v / 2 ^ (hi + 1) * 2 ^ (hi + 1 - lo) + x % 2 ^ (hi + 1 - lo)) * 2 ^ lo + v % 2 ^ lo := by rw [e]; ring
  rw [this, Nat.mul_add_mod_self_right, Nat.mod_mod]

/-- A field that lies above the field written. -/
theorem bitsOf_withBits_above (v hi lo x h' l' : Nat) (h : lo ≤ hi) (hb : hi < l') :
    bitsOf (withBits v hi lo x) h' l' = bitsOf v h' l' := by
  have key : ∀ a : Nat, a / 2 ^ l' = a / 2 ^ (hi + 1) / 2 ^ (l' - (hi + 1)) := by
    intro a
    rw [Nat.div_div_eq_div_mul, ← pow_add]
    congr 2
    omega
  have hw : withBits v hi lo x / 2 ^ (hi + 1) = v / 2 ^ (hi + 1) := by
    rw [withBits_eq v hi lo x h, Nat.add_assoc, Nat.mul_comm, Nat.mul_add_div (by positivity)]
    rw [Nat.div_eq_of_lt (field_lt x hi lo h (v % 2 ^ lo) (Nat.mod_lt _ (by positivity)))]
    omega
  unfold bitsOf
  rw [key, key v, hw]

/-- A word stays within a bound above the field. -/
theorem withBits_lt (v hi lo x w : Nat) (h : lo ≤ hi) (hw : hi < w) (hv : v < 2 ^ w) : withBits v hi lo x < 2 ^ w := by
  rw [withBits_eq v hi lo x h]
  have hf := field_lt x hi lo h (v % 2 ^ lo) (Nat.mod_lt _ (by positivity))
  have e : 2 ^ w = 2 ^ (w - (hi + 1)) * 2 ^ (hi + 1) := by rw [← pow_add]; congr 1; omega
  have hq : v / 2 ^ (hi + 1) < 2 ^ (w - (hi + 1)) := by
    rw [Nat.div_lt_iff_lt_mul (by positivity), ← e]; exact hv
  have hm := Nat.mul_le_mul_right (2 ^ (hi + 1)) (Nat.succ_le_of_lt hq)
  rw [Nat.succ_mul] at hm
  rw [e]
  omega

/-- A list cut or filled to n bytes has n bytes. -/
theorem padTo_length (n : Nat) (bs : List Byte) : (padTo n bs).length = n := by
  unfold padTo zeros
  rw [List.length_take, List.length_append, List.length_replicate]
  omega

/-- A slice of n bytes has n bytes. -/
theorem slice_length (bs : List Byte) (i n : Nat) : (slice bs i n).length = n := padTo_length n _

end Sys2Proof.Machine
end

