-- ==== Sys2Proof/Laws/Store.lean ====
section
/-! SUPPORT. What the sparse tables do: a read after a write, and that every operation keeps the keys rising. -/

namespace Sys2Proof.Machine

variable {α : Type}

theorem Store.get?_set_same (m : Store α) (n : Nat) (v : α) : Store.get? (Store.set m n v) n = some v := by
  induction m with
  | nil => simp [Store.set, Store.get?]
  | cons e m ih =>
    obtain ⟨k, w⟩ := e
    simp only [Store.set]
    split
    · simp [Store.get?]
    · split
      · simp [Store.get?]
      · rename_i h
        simp [Store.get?, Ne.symm h, ih]

theorem Store.get?_set_other (m : Store α) (n k : Nat) (v : α) (h : k ≠ n) : Store.get? (Store.set m n v) k = Store.get? m k := by
  induction m with
  | nil => simp [Store.set, Store.get?, Ne.symm h]
  | cons e m ih =>
    obtain ⟨j, w⟩ := e
    simp only [Store.set]
    split
    · simp [Store.get?, Ne.symm h]
    · split
      · rename_i hj
        subst hj
        simp [Store.get?, Ne.symm h]
      · simp [Store.get?, ih]

theorem Store.get?_erase_same (m : Store α) (n : Nat) : Store.get? (Store.erase m n) n = none := by
  induction m with
  | nil => simp [Store.erase, Store.get?]
  | cons e m ih =>
    obtain ⟨k, w⟩ := e
    by_cases h : k = n
    · simpa [Store.erase, h] using ih
    · simp only [Store.erase] at ih ⊢
      simp [h, Store.get?, ih]

theorem Store.get?_erase_other (m : Store α) (n k : Nat) (h : k ≠ n) : Store.get? (Store.erase m n) k = Store.get? m k := by
  induction m with
  | nil => simp [Store.erase, Store.get?]
  | cons e m ih =>
    obtain ⟨j, w⟩ := e
    simp only [Store.erase] at ih ⊢
    by_cases hj : j = n
    · subst hj
      simpa [Store.get?, Ne.symm h] using ih
    · simp [hj, Store.get?, ih]

/-- The value read after a write, at every key. -/
theorem Store.getD_set (m : Store α) (n k : Nat) (v d : α) : Store.getD (Store.set m n v) k d = if k = n then v else Store.getD m k d := by
  split
  · rename_i h
    simp [h, Store.getD, Store.get?_set_same]
  · rename_i h
    simp [Store.getD, Store.get?_set_other m n k v h]

/-- The value read after an erasure, at every key. -/
theorem Store.getD_erase (m : Store α) (n k : Nat) (d : α) : Store.getD (Store.erase m n) k d = if k = n then d else Store.getD m k d := by
  split
  · rename_i h
    simp [h, Store.getD, Store.get?_erase_same]
  · rename_i h
    simp [Store.getD, Store.get?_erase_other m n k h]

/-- The value read after a write in canonical form, at the key written and with the default of another key. -/
theorem Store.getD_put_same [DecidableEq α] (m : Store α) (n : Nat) (d v : α) : Store.getD (Store.put m n d v) n d = v := by
  unfold Store.put
  split
  · rename_i h
    simp [h, Store.getD_erase]
  · simp [Store.getD_set]

theorem Store.getD_put_other [DecidableEq α] (m : Store α) (n k : Nat) (d v x : α) (h : k ≠ n) :
    Store.getD (Store.put m n d v) k x = Store.getD m k x := by
  unfold Store.put
  split <;> simp [Store.getD_erase, Store.getD_set, h]

/-- Every key of a table is above a bound. -/
def Store.above (b : Nat) (m : Store α) : Prop := ∀ e ∈ m, b < e.1

theorem Store.sorted_cons (k : Nat) (w : α) (m : Store α) :
    Store.sorted ((k, w) :: m) = true ↔ Store.above k m ∧ Store.sorted m = true := by
  induction m generalizing k w with
  | nil => simp [Store.sorted, Store.above]
  | cons e m ih =>
    obtain ⟨j, x⟩ := e
    simp only [Store.sorted, Bool.and_eq_true, decide_eq_true_eq]
    constructor
    · rintro ⟨h, hs⟩
      refine ⟨?_, hs⟩
      intro e he
      rcases List.mem_cons.mp he with rfl | he
      · exact h
      · exact Nat.lt_trans h (((ih j x).mp hs).1 e he)
    · rintro ⟨h, hs⟩
      exact ⟨h (j, x) (List.mem_cons_self ..), hs⟩

theorem Store.above_set (b : Nat) (m : Store α) (n : Nat) (v : α) (h : b < n) (hm : Store.above b m) : Store.above b (Store.set m n v) := by
  induction m with
  | nil => simpa [Store.set, Store.above] using h
  | cons e m ih =>
    obtain ⟨k, w⟩ := e
    have hm' : Store.above b m := fun e he => hm e (List.mem_cons_of_mem _ he)
    have hk : b < k := hm (k, w) (List.mem_cons_self ..)
    simp only [Store.set]
    split
    · intro e he
      rcases List.mem_cons.mp he with rfl | he
      · exact h
      · exact hm e he
    · split
      · intro e he
        rcases List.mem_cons.mp he with rfl | he
        · exact h
        · exact hm' e he
      · intro e he
        rcases List.mem_cons.mp he with rfl | he
        · exact hk
        · exact ih hm' e he

/-- A write keeps the keys rising. -/
theorem Store.sorted_set (m : Store α) (n : Nat) (v : α) (h : Store.sorted m = true) : Store.sorted (Store.set m n v) = true := by
  induction m with
  | nil => simp [Store.set, Store.sorted]
  | cons e m ih =>
    obtain ⟨k, w⟩ := e
    obtain ⟨ha, hs⟩ := (Store.sorted_cons k w m).mp h
    simp only [Store.set]
    split
    · rename_i hn
      refine (Store.sorted_cons n v _).mpr ⟨?_, h⟩
      intro e he
      rcases List.mem_cons.mp he with rfl | he
      · exact hn
      · exact Nat.lt_trans hn (ha e he)
    · rename_i hn
      split
      · rename_i he
        subst he
        exact (Store.sorted_cons n v m).mpr ⟨ha, hs⟩
      · rename_i he
        exact (Store.sorted_cons k w _).mpr ⟨Store.above_set k m n v (by omega) ha, ih hs⟩

/-- A filter keeps the keys rising. -/
theorem Store.sorted_filter (m : Store α) (p : Nat × α → Bool) (h : Store.sorted m = true) :
    Store.sorted (List.filter p m : Store α) = true := by
  induction m with
  | nil => simpa using h
  | cons e m ih =>
    obtain ⟨k, w⟩ := e
    obtain ⟨ha, hs⟩ := (Store.sorted_cons k w m).mp h
    rw [List.filter_cons]
    split
    · exact (Store.sorted_cons k w _).mpr ⟨fun e he => ha e (List.mem_of_mem_filter he), ih hs⟩
    · exact ih hs

/-- An erasure keeps the keys rising. -/
theorem Store.sorted_erase (m : Store α) (n : Nat) (h : Store.sorted m = true) : Store.sorted (Store.erase m n) = true :=
  Store.sorted_filter m _ h

/-- An update keeps the keys rising. -/
theorem Store.sorted_upd (m : Store α) (n : Nat) (d : α) (f : α → α) (h : Store.sorted m = true) : Store.sorted (Store.upd m n d f) = true :=
  Store.sorted_set m n _ h

/-- A write in canonical form keeps the keys rising. -/
theorem Store.sorted_put [DecidableEq α] (m : Store α) (n : Nat) (d v : α) (h : Store.sorted m = true) :
    Store.sorted (Store.put m n d v) = true := by
  unfold Store.put
  split
  · exact Store.sorted_erase m n h
  · exact Store.sorted_set m n v h

end Sys2Proof.Machine
end

