-- ==== Sys2Proof/Laws/Registers.lean ====
section
/-! SUPPORT. What the register operations do: a register or field read after a write, and the order of the listed registers. -/

namespace Sys2Proof.Machine

/-- A register read after it is written. -/
@[simp] theorem State.reg_setReg_same (s : State) (r : Reg) (v : Word64) (i j k : Nat) : (s.setReg r v i j k).reg r i j k = v :=
  Store.getD_put_same ..

/-- A register at another address. -/
theorem State.reg_setReg_other (s : State) (r r' : Reg) (v : Word64) (i j k i' j' k' : Nat) (h : r'.addr i' j' k' ≠ r.addr i j k) :
    (s.setReg r v i j k).reg r' i' j' k' = s.reg r' i' j' k' :=
  Store.getD_put_other _ _ _ _ _ _ h

/-- The number of a register read after a field of it is written. -/
theorem State.num_put_same (s : State) (f : Fld) (v i j k : Nat) (h : f.lo ≤ f.hi) (hw : f.hi < 64) :
    (s.put f v i j k).num f.reg i j k = withBits (s.num f.reg i j k) f.hi f.lo v := by
  unfold State.put State.num
  rw [State.reg_setReg_same, BitVec.toNat_ofNat]
  exact Nat.mod_eq_of_lt (withBits_lt _ _ _ _ 64 h hw (BitVec.isLt _))

/-- A field read after it is written. -/
theorem State.get_put_same (s : State) (f : Fld) (v i j k : Nat) (h : f.lo ≤ f.hi) (hw : f.hi < 64) :
    (s.put f v i j k).get f i j k = v % 2 ^ (f.hi + 1 - f.lo) := by
  unfold State.get
  rw [State.num_put_same s f v i j k h hw, bitsOf_withBits_same _ _ _ _ h]

/-- Another field of the register written. -/
theorem State.get_put_field (s : State) (f g : Fld) (v i j k : Nat) (hr : g.reg = f.reg) (h : f.lo ≤ f.hi) (hw : f.hi < 64)
    (hg : g.lo ≤ g.hi) (hd : g.hi < f.lo ∨ f.hi < g.lo) : (s.put f v i j k).get g i j k = s.get g i j k := by
  unfold State.get
  rw [hr, State.num_put_same s f v i j k h hw]
  rcases hd with hd | hd
  · exact bitsOf_withBits_below _ _ _ _ _ _ h hg hd
  · exact bitsOf_withBits_above _ _ _ _ _ _ h hd

/-- A field of a register at another address. -/
theorem State.get_put_other (s : State) (f g : Fld) (v i j k i' j' k' : Nat) (h : g.reg.addr i' j' k' ≠ f.reg.addr i j k) :
    (s.put f v i j k).get g i' j' k' = s.get g i' j' k' := by
  unfold State.get State.num State.put
  rw [State.reg_setReg_other _ _ _ _ _ _ _ _ _ _ h]

/-- A one-bit field read after it is set from a condition. -/
theorem State.on_flag_same (s : State) (f : Fld) (b : Bool) (i j k : Nat) (h : f.lo = f.hi) (hw : f.hi < 64) :
    (s.flag f b i j k).on f i j k = b := by
  unfold State.on State.flag
  rw [State.get_put_same _ _ _ _ _ _ (by omega) hw]
  have : f.hi + 1 - f.lo = 1 := by omega
  rw [this]
  cases b <;> rfl

/-- A counter read after it is raised. -/
theorem State.reg_bumpBy_same (s : State) (n : Nat) (r : Reg) (i j k : Nat) :
    (s.bumpBy n r i j k).reg r i j k = s.reg r i j k + BitVec.ofNat 64 n := State.reg_setReg_same ..

/-- The listed registers stay in order. -/
theorem State.setReg_sorted (s : State) (r : Reg) (v : Word64) (i j k : Nat) (h : Store.sorted s.regs = true) :
    Store.sorted (s.setReg r v i j k).regs = true := Store.sorted_put _ _ _ _ h

/-- No listed register holds its reset value at the address written. -/
theorem State.setReg_unlisted (s : State) (r : Reg) (i j k : Nat) :
    Store.get? (s.setReg r (BitVec.ofNat 64 (r.resetAt i j)) i j k).regs (r.addr i j k) = none := by
  unfold State.setReg Store.put
  simp [Store.get?_erase_same]

end Sys2Proof.Machine
end

