-- ==== Sys2Proof/Laws/State.lean ====
section
/-! SUPPORT. What the register writes, the counters and the drawing of free values leave as it was: one lemma for each field of the state. -/

namespace Sys2Proof.Machine

/-! ### setReg -/
@[simp] theorem State.setReg_free (s : State) (r : Reg) (v : Word64) (i j k : Nat) : (s.setReg r v i j k).free = s.free := rfl
@[simp] theorem State.setReg_host (s : State) (r : Reg) (v : Word64) (i j k : Nat) : (s.setReg r v i j k).host = s.host := rfl
@[simp] theorem State.setReg_ascor (s : State) (r : Reg) (v : Word64) (i j k : Nat) : (s.setReg r v i j k).ascor = s.ascor := rfl
@[simp] theorem State.setReg_faults (s : State) (r : Reg) (v : Word64) (i j k : Nat) : (s.setReg r v i j k).faults = s.faults := rfl
@[simp] theorem State.setReg_time (s : State) (r : Reg) (v : Word64) (i j k : Nat) : (s.setReg r v i j k).time = s.time := rfl
@[simp] theorem State.setReg_power (s : State) (r : Reg) (v : Word64) (i j k : Nat) : (s.setReg r v i j k).power = s.power := rfl
@[simp] theorem State.setReg_counters (s : State) (r : Reg) (v : Word64) (i j k : Nat) : (s.setReg r v i j k).counters = s.counters := rfl
@[simp] theorem State.setReg_pair (s : State) (r : Reg) (v : Word64) (i j k : Nat) : (s.setReg r v i j k).pair = s.pair := rfl
@[simp] theorem State.setReg_buf (s : State) (r : Reg) (v : Word64) (i j k : Nat) : (s.setReg r v i j k).buf = s.buf := rfl
@[simp] theorem State.setReg_xpr (s : State) (r : Reg) (v : Word64) (i j k : Nat) : (s.setReg r v i j k).xpr = s.xpr := rfl
@[simp] theorem State.setReg_egr (s : State) (r : Reg) (v : Word64) (i j k : Nat) : (s.setReg r v i j k).egr = s.egr := rfl
@[simp] theorem State.setReg_cls (s : State) (r : Reg) (v : Word64) (i j k : Nat) : (s.setReg r v i j k).cls = s.cls := rfl
@[simp] theorem State.setReg_flow (s : State) (r : Reg) (v : Word64) (i j k : Nat) : (s.setReg r v i j k).flow = s.flow := rfl
@[simp] theorem State.setReg_fel (s : State) (r : Reg) (v : Word64) (i j k : Nat) : (s.setReg r v i j k).fel = s.fel := rfl
@[simp] theorem State.setReg_mem (s : State) (r : Reg) (v : Word64) (i j k : Nat) : (s.setReg r v i j k).mem = s.mem := rfl
@[simp] theorem State.setReg_hks (s : State) (r : Reg) (v : Word64) (i j k : Nat) : (s.setReg r v i j k).hks = s.hks := rfl
@[simp] theorem State.setReg_pending (s : State) (r : Reg) (v : Word64) (i j k : Nat) : (s.setReg r v i j k).pending = s.pending := rfl

/-! ### put -/
@[simp] theorem State.put_free (s : State) (f : Fld) (v i j k : Nat) : (s.put f v i j k).free = s.free := rfl
@[simp] theorem State.put_host (s : State) (f : Fld) (v i j k : Nat) : (s.put f v i j k).host = s.host := rfl
@[simp] theorem State.put_ascor (s : State) (f : Fld) (v i j k : Nat) : (s.put f v i j k).ascor = s.ascor := rfl
@[simp] theorem State.put_faults (s : State) (f : Fld) (v i j k : Nat) : (s.put f v i j k).faults = s.faults := rfl
@[simp] theorem State.put_time (s : State) (f : Fld) (v i j k : Nat) : (s.put f v i j k).time = s.time := rfl
@[simp] theorem State.put_power (s : State) (f : Fld) (v i j k : Nat) : (s.put f v i j k).power = s.power := rfl
@[simp] theorem State.put_counters (s : State) (f : Fld) (v i j k : Nat) : (s.put f v i j k).counters = s.counters := rfl
@[simp] theorem State.put_pair (s : State) (f : Fld) (v i j k : Nat) : (s.put f v i j k).pair = s.pair := rfl
@[simp] theorem State.put_buf (s : State) (f : Fld) (v i j k : Nat) : (s.put f v i j k).buf = s.buf := rfl
@[simp] theorem State.put_xpr (s : State) (f : Fld) (v i j k : Nat) : (s.put f v i j k).xpr = s.xpr := rfl
@[simp] theorem State.put_egr (s : State) (f : Fld) (v i j k : Nat) : (s.put f v i j k).egr = s.egr := rfl
@[simp] theorem State.put_cls (s : State) (f : Fld) (v i j k : Nat) : (s.put f v i j k).cls = s.cls := rfl
@[simp] theorem State.put_flow (s : State) (f : Fld) (v i j k : Nat) : (s.put f v i j k).flow = s.flow := rfl
@[simp] theorem State.put_fel (s : State) (f : Fld) (v i j k : Nat) : (s.put f v i j k).fel = s.fel := rfl
@[simp] theorem State.put_mem (s : State) (f : Fld) (v i j k : Nat) : (s.put f v i j k).mem = s.mem := rfl
@[simp] theorem State.put_hks (s : State) (f : Fld) (v i j k : Nat) : (s.put f v i j k).hks = s.hks := rfl
@[simp] theorem State.put_pending (s : State) (f : Fld) (v i j k : Nat) : (s.put f v i j k).pending = s.pending := rfl

/-! ### flag -/
@[simp] theorem State.flag_free (s : State) (f : Fld) (b : Bool) (i j k : Nat) : (s.flag f b i j k).free = s.free := rfl
@[simp] theorem State.flag_host (s : State) (f : Fld) (b : Bool) (i j k : Nat) : (s.flag f b i j k).host = s.host := rfl
@[simp] theorem State.flag_ascor (s : State) (f : Fld) (b : Bool) (i j k : Nat) : (s.flag f b i j k).ascor = s.ascor := rfl
@[simp] theorem State.flag_faults (s : State) (f : Fld) (b : Bool) (i j k : Nat) : (s.flag f b i j k).faults = s.faults := rfl
@[simp] theorem State.flag_time (s : State) (f : Fld) (b : Bool) (i j k : Nat) : (s.flag f b i j k).time = s.time := rfl
@[simp] theorem State.flag_power (s : State) (f : Fld) (b : Bool) (i j k : Nat) : (s.flag f b i j k).power = s.power := rfl
@[simp] theorem State.flag_counters (s : State) (f : Fld) (b : Bool) (i j k : Nat) : (s.flag f b i j k).counters = s.counters := rfl
@[simp] theorem State.flag_pair (s : State) (f : Fld) (b : Bool) (i j k : Nat) : (s.flag f b i j k).pair = s.pair := rfl
@[simp] theorem State.flag_buf (s : State) (f : Fld) (b : Bool) (i j k : Nat) : (s.flag f b i j k).buf = s.buf := rfl
@[simp] theorem State.flag_xpr (s : State) (f : Fld) (b : Bool) (i j k : Nat) : (s.flag f b i j k).xpr = s.xpr := rfl
@[simp] theorem State.flag_egr (s : State) (f : Fld) (b : Bool) (i j k : Nat) : (s.flag f b i j k).egr = s.egr := rfl
@[simp] theorem State.flag_cls (s : State) (f : Fld) (b : Bool) (i j k : Nat) : (s.flag f b i j k).cls = s.cls := rfl
@[simp] theorem State.flag_flow (s : State) (f : Fld) (b : Bool) (i j k : Nat) : (s.flag f b i j k).flow = s.flow := rfl
@[simp] theorem State.flag_fel (s : State) (f : Fld) (b : Bool) (i j k : Nat) : (s.flag f b i j k).fel = s.fel := rfl
@[simp] theorem State.flag_mem (s : State) (f : Fld) (b : Bool) (i j k : Nat) : (s.flag f b i j k).mem = s.mem := rfl
@[simp] theorem State.flag_hks (s : State) (f : Fld) (b : Bool) (i j k : Nat) : (s.flag f b i j k).hks = s.hks := rfl
@[simp] theorem State.flag_pending (s : State) (f : Fld) (b : Bool) (i j k : Nat) : (s.flag f b i j k).pending = s.pending := rfl

/-! ### bumpBy -/
@[simp] theorem State.bumpBy_free (s : State) (n : Nat) (r : Reg) (i j k : Nat) : (s.bumpBy n r i j k).free = s.free := rfl
@[simp] theorem State.bumpBy_host (s : State) (n : Nat) (r : Reg) (i j k : Nat) : (s.bumpBy n r i j k).host = s.host := rfl
@[simp] theorem State.bumpBy_ascor (s : State) (n : Nat) (r : Reg) (i j k : Nat) : (s.bumpBy n r i j k).ascor = s.ascor := rfl
@[simp] theorem State.bumpBy_faults (s : State) (n : Nat) (r : Reg) (i j k : Nat) : (s.bumpBy n r i j k).faults = s.faults := rfl
@[simp] theorem State.bumpBy_time (s : State) (n : Nat) (r : Reg) (i j k : Nat) : (s.bumpBy n r i j k).time = s.time := rfl
@[simp] theorem State.bumpBy_power (s : State) (n : Nat) (r : Reg) (i j k : Nat) : (s.bumpBy n r i j k).power = s.power := rfl
@[simp] theorem State.bumpBy_counters (s : State) (n : Nat) (r : Reg) (i j k : Nat) : (s.bumpBy n r i j k).counters = s.counters := rfl
@[simp] theorem State.bumpBy_pair (s : State) (n : Nat) (r : Reg) (i j k : Nat) : (s.bumpBy n r i j k).pair = s.pair := rfl
@[simp] theorem State.bumpBy_buf (s : State) (n : Nat) (r : Reg) (i j k : Nat) : (s.bumpBy n r i j k).buf = s.buf := rfl
@[simp] theorem State.bumpBy_xpr (s : State) (n : Nat) (r : Reg) (i j k : Nat) : (s.bumpBy n r i j k).xpr = s.xpr := rfl
@[simp] theorem State.bumpBy_egr (s : State) (n : Nat) (r : Reg) (i j k : Nat) : (s.bumpBy n r i j k).egr = s.egr := rfl
@[simp] theorem State.bumpBy_cls (s : State) (n : Nat) (r : Reg) (i j k : Nat) : (s.bumpBy n r i j k).cls = s.cls := rfl
@[simp] theorem State.bumpBy_flow (s : State) (n : Nat) (r : Reg) (i j k : Nat) : (s.bumpBy n r i j k).flow = s.flow := rfl
@[simp] theorem State.bumpBy_fel (s : State) (n : Nat) (r : Reg) (i j k : Nat) : (s.bumpBy n r i j k).fel = s.fel := rfl
@[simp] theorem State.bumpBy_mem (s : State) (n : Nat) (r : Reg) (i j k : Nat) : (s.bumpBy n r i j k).mem = s.mem := rfl
@[simp] theorem State.bumpBy_hks (s : State) (n : Nat) (r : Reg) (i j k : Nat) : (s.bumpBy n r i j k).hks = s.hks := rfl
@[simp] theorem State.bumpBy_pending (s : State) (n : Nat) (r : Reg) (i j k : Nat) : (s.bumpBy n r i j k).pending = s.pending := rfl

/-! ### bump -/
@[simp] theorem State.bump_free (s : State) (r : Reg) (i j k : Nat) : (s.bump r i j k).free = s.free := rfl
@[simp] theorem State.bump_host (s : State) (r : Reg) (i j k : Nat) : (s.bump r i j k).host = s.host := rfl
@[simp] theorem State.bump_ascor (s : State) (r : Reg) (i j k : Nat) : (s.bump r i j k).ascor = s.ascor := rfl
@[simp] theorem State.bump_faults (s : State) (r : Reg) (i j k : Nat) : (s.bump r i j k).faults = s.faults := rfl
@[simp] theorem State.bump_time (s : State) (r : Reg) (i j k : Nat) : (s.bump r i j k).time = s.time := rfl
@[simp] theorem State.bump_power (s : State) (r : Reg) (i j k : Nat) : (s.bump r i j k).power = s.power := rfl
@[simp] theorem State.bump_counters (s : State) (r : Reg) (i j k : Nat) : (s.bump r i j k).counters = s.counters := rfl
@[simp] theorem State.bump_pair (s : State) (r : Reg) (i j k : Nat) : (s.bump r i j k).pair = s.pair := rfl
@[simp] theorem State.bump_buf (s : State) (r : Reg) (i j k : Nat) : (s.bump r i j k).buf = s.buf := rfl
@[simp] theorem State.bump_xpr (s : State) (r : Reg) (i j k : Nat) : (s.bump r i j k).xpr = s.xpr := rfl
@[simp] theorem State.bump_egr (s : State) (r : Reg) (i j k : Nat) : (s.bump r i j k).egr = s.egr := rfl
@[simp] theorem State.bump_cls (s : State) (r : Reg) (i j k : Nat) : (s.bump r i j k).cls = s.cls := rfl
@[simp] theorem State.bump_flow (s : State) (r : Reg) (i j k : Nat) : (s.bump r i j k).flow = s.flow := rfl
@[simp] theorem State.bump_fel (s : State) (r : Reg) (i j k : Nat) : (s.bump r i j k).fel = s.fel := rfl
@[simp] theorem State.bump_mem (s : State) (r : Reg) (i j k : Nat) : (s.bump r i j k).mem = s.mem := rfl
@[simp] theorem State.bump_hks (s : State) (r : Reg) (i j k : Nat) : (s.bump r i j k).hks = s.hks := rfl
@[simp] theorem State.bump_pending (s : State) (r : Reg) (i j k : Nat) : (s.bump r i j k).pending = s.pending := rfl

/-! ### inc -/
@[simp] theorem State.inc_free (s : State) (f : Fld) (i j k : Nat) : (s.inc f i j k).free = s.free := rfl
@[simp] theorem State.inc_host (s : State) (f : Fld) (i j k : Nat) : (s.inc f i j k).host = s.host := rfl
@[simp] theorem State.inc_ascor (s : State) (f : Fld) (i j k : Nat) : (s.inc f i j k).ascor = s.ascor := rfl
@[simp] theorem State.inc_faults (s : State) (f : Fld) (i j k : Nat) : (s.inc f i j k).faults = s.faults := rfl
@[simp] theorem State.inc_time (s : State) (f : Fld) (i j k : Nat) : (s.inc f i j k).time = s.time := rfl
@[simp] theorem State.inc_power (s : State) (f : Fld) (i j k : Nat) : (s.inc f i j k).power = s.power := rfl
@[simp] theorem State.inc_counters (s : State) (f : Fld) (i j k : Nat) : (s.inc f i j k).counters = s.counters := rfl
@[simp] theorem State.inc_pair (s : State) (f : Fld) (i j k : Nat) : (s.inc f i j k).pair = s.pair := rfl
@[simp] theorem State.inc_buf (s : State) (f : Fld) (i j k : Nat) : (s.inc f i j k).buf = s.buf := rfl
@[simp] theorem State.inc_xpr (s : State) (f : Fld) (i j k : Nat) : (s.inc f i j k).xpr = s.xpr := rfl
@[simp] theorem State.inc_egr (s : State) (f : Fld) (i j k : Nat) : (s.inc f i j k).egr = s.egr := rfl
@[simp] theorem State.inc_cls (s : State) (f : Fld) (i j k : Nat) : (s.inc f i j k).cls = s.cls := rfl
@[simp] theorem State.inc_flow (s : State) (f : Fld) (i j k : Nat) : (s.inc f i j k).flow = s.flow := rfl
@[simp] theorem State.inc_fel (s : State) (f : Fld) (i j k : Nat) : (s.inc f i j k).fel = s.fel := rfl
@[simp] theorem State.inc_mem (s : State) (f : Fld) (i j k : Nat) : (s.inc f i j k).mem = s.mem := rfl
@[simp] theorem State.inc_hks (s : State) (f : Fld) (i j k : Nat) : (s.inc f i j k).hks = s.hks := rfl
@[simp] theorem State.inc_pending (s : State) (f : Fld) (i j k : Nat) : (s.inc f i j k).pending = s.pending := rfl

/-! ### dec -/
@[simp] theorem State.dec_free (s : State) (f : Fld) (i j k : Nat) : (s.dec f i j k).free = s.free := rfl
@[simp] theorem State.dec_host (s : State) (f : Fld) (i j k : Nat) : (s.dec f i j k).host = s.host := rfl
@[simp] theorem State.dec_ascor (s : State) (f : Fld) (i j k : Nat) : (s.dec f i j k).ascor = s.ascor := rfl
@[simp] theorem State.dec_faults (s : State) (f : Fld) (i j k : Nat) : (s.dec f i j k).faults = s.faults := rfl
@[simp] theorem State.dec_time (s : State) (f : Fld) (i j k : Nat) : (s.dec f i j k).time = s.time := rfl
@[simp] theorem State.dec_power (s : State) (f : Fld) (i j k : Nat) : (s.dec f i j k).power = s.power := rfl
@[simp] theorem State.dec_counters (s : State) (f : Fld) (i j k : Nat) : (s.dec f i j k).counters = s.counters := rfl
@[simp] theorem State.dec_pair (s : State) (f : Fld) (i j k : Nat) : (s.dec f i j k).pair = s.pair := rfl
@[simp] theorem State.dec_buf (s : State) (f : Fld) (i j k : Nat) : (s.dec f i j k).buf = s.buf := rfl
@[simp] theorem State.dec_xpr (s : State) (f : Fld) (i j k : Nat) : (s.dec f i j k).xpr = s.xpr := rfl
@[simp] theorem State.dec_egr (s : State) (f : Fld) (i j k : Nat) : (s.dec f i j k).egr = s.egr := rfl
@[simp] theorem State.dec_cls (s : State) (f : Fld) (i j k : Nat) : (s.dec f i j k).cls = s.cls := rfl
@[simp] theorem State.dec_flow (s : State) (f : Fld) (i j k : Nat) : (s.dec f i j k).flow = s.flow := rfl
@[simp] theorem State.dec_fel (s : State) (f : Fld) (i j k : Nat) : (s.dec f i j k).fel = s.fel := rfl
@[simp] theorem State.dec_mem (s : State) (f : Fld) (i j k : Nat) : (s.dec f i j k).mem = s.mem := rfl
@[simp] theorem State.dec_hks (s : State) (f : Fld) (i j k : Nat) : (s.dec f i j k).hks = s.hks := rfl
@[simp] theorem State.dec_pending (s : State) (f : Fld) (i j k : Nat) : (s.dec f i j k).pending = s.pending := rfl

/-! ### drew -/
@[simp] theorem State.drew_regs (s : State) : (s.drew).regs = s.regs := rfl
@[simp] theorem State.drew_host (s : State) : (s.drew).host = s.host := rfl
@[simp] theorem State.drew_ascor (s : State) : (s.drew).ascor = s.ascor := rfl
@[simp] theorem State.drew_faults (s : State) : (s.drew).faults = s.faults := rfl
@[simp] theorem State.drew_time (s : State) : (s.drew).time = s.time := rfl
@[simp] theorem State.drew_power (s : State) : (s.drew).power = s.power := rfl
@[simp] theorem State.drew_counters (s : State) : (s.drew).counters = s.counters := rfl
@[simp] theorem State.drew_pair (s : State) : (s.drew).pair = s.pair := rfl
@[simp] theorem State.drew_buf (s : State) : (s.drew).buf = s.buf := rfl
@[simp] theorem State.drew_xpr (s : State) : (s.drew).xpr = s.xpr := rfl
@[simp] theorem State.drew_egr (s : State) : (s.drew).egr = s.egr := rfl
@[simp] theorem State.drew_cls (s : State) : (s.drew).cls = s.cls := rfl
@[simp] theorem State.drew_flow (s : State) : (s.drew).flow = s.flow := rfl
@[simp] theorem State.drew_fel (s : State) : (s.drew).fel = s.fel := rfl
@[simp] theorem State.drew_mem (s : State) : (s.drew).mem = s.mem := rfl
@[simp] theorem State.drew_hks (s : State) : (s.drew).hks = s.hks := rfl
@[simp] theorem State.drew_pending (s : State) : (s.drew).pending = s.pending := rfl

/-! ### Groups of fields replaced -/
@[simp] theorem State.with_host_reg (s : State) (x : HostSide) (r : Reg) (i j k : Nat) : ({ s with host := x } : State).reg r i j k = s.reg r i j k := rfl
@[simp] theorem State.with_host_get (s : State) (x : HostSide) (f : Fld) (i j k : Nat) : ({ s with host := x } : State).get f i j k = s.get f i j k := rfl
@[simp] theorem State.with_host_on (s : State) (x : HostSide) (f : Fld) (i j k : Nat) : ({ s with host := x } : State).on f i j k = s.on f i j k := rfl
@[simp] theorem State.with_ascor_reg (s : State) (x : AscorSide) (r : Reg) (i j k : Nat) : ({ s with ascor := x } : State).reg r i j k = s.reg r i j k := rfl
@[simp] theorem State.with_ascor_get (s : State) (x : AscorSide) (f : Fld) (i j k : Nat) : ({ s with ascor := x } : State).get f i j k = s.get f i j k := rfl
@[simp] theorem State.with_ascor_on (s : State) (x : AscorSide) (f : Fld) (i j k : Nat) : ({ s with ascor := x } : State).on f i j k = s.on f i j k := rfl
@[simp] theorem State.with_faults_reg (s : State) (x : FaultSide) (r : Reg) (i j k : Nat) : ({ s with faults := x } : State).reg r i j k = s.reg r i j k := rfl
@[simp] theorem State.with_faults_get (s : State) (x : FaultSide) (f : Fld) (i j k : Nat) : ({ s with faults := x } : State).get f i j k = s.get f i j k := rfl
@[simp] theorem State.with_faults_on (s : State) (x : FaultSide) (f : Fld) (i j k : Nat) : ({ s with faults := x } : State).on f i j k = s.on f i j k := rfl
@[simp] theorem State.with_time_reg (s : State) (x : TimeSide) (r : Reg) (i j k : Nat) : ({ s with time := x } : State).reg r i j k = s.reg r i j k := rfl
@[simp] theorem State.with_time_get (s : State) (x : TimeSide) (f : Fld) (i j k : Nat) : ({ s with time := x } : State).get f i j k = s.get f i j k := rfl
@[simp] theorem State.with_time_on (s : State) (x : TimeSide) (f : Fld) (i j k : Nat) : ({ s with time := x } : State).on f i j k = s.on f i j k := rfl
@[simp] theorem State.with_power_reg (s : State) (x : PowerSide) (r : Reg) (i j k : Nat) : ({ s with power := x } : State).reg r i j k = s.reg r i j k := rfl
@[simp] theorem State.with_power_get (s : State) (x : PowerSide) (f : Fld) (i j k : Nat) : ({ s with power := x } : State).get f i j k = s.get f i j k := rfl
@[simp] theorem State.with_power_on (s : State) (x : PowerSide) (f : Fld) (i j k : Nat) : ({ s with power := x } : State).on f i j k = s.on f i j k := rfl
@[simp] theorem State.with_counters_reg (s : State) (x : CounterSide) (r : Reg) (i j k : Nat) : ({ s with counters := x } : State).reg r i j k = s.reg r i j k := rfl
@[simp] theorem State.with_counters_get (s : State) (x : CounterSide) (f : Fld) (i j k : Nat) : ({ s with counters := x } : State).get f i j k = s.get f i j k := rfl
@[simp] theorem State.with_counters_on (s : State) (x : CounterSide) (f : Fld) (i j k : Nat) : ({ s with counters := x } : State).on f i j k = s.on f i j k := rfl
@[simp] theorem State.with_pair_reg (s : State) (x : PairSide) (r : Reg) (i j k : Nat) : ({ s with pair := x } : State).reg r i j k = s.reg r i j k := rfl
@[simp] theorem State.with_pair_get (s : State) (x : PairSide) (f : Fld) (i j k : Nat) : ({ s with pair := x } : State).get f i j k = s.get f i j k := rfl
@[simp] theorem State.with_pair_on (s : State) (x : PairSide) (f : Fld) (i j k : Nat) : ({ s with pair := x } : State).on f i j k = s.on f i j k := rfl
@[simp] theorem State.with_buf_reg (s : State) (x : BufferSide) (r : Reg) (i j k : Nat) : ({ s with buf := x } : State).reg r i j k = s.reg r i j k := rfl
@[simp] theorem State.with_buf_get (s : State) (x : BufferSide) (f : Fld) (i j k : Nat) : ({ s with buf := x } : State).get f i j k = s.get f i j k := rfl
@[simp] theorem State.with_buf_on (s : State) (x : BufferSide) (f : Fld) (i j k : Nat) : ({ s with buf := x } : State).on f i j k = s.on f i j k := rfl
@[simp] theorem State.with_xpr_reg (s : State) (x : ExpressSide) (r : Reg) (i j k : Nat) : ({ s with xpr := x } : State).reg r i j k = s.reg r i j k := rfl
@[simp] theorem State.with_xpr_get (s : State) (x : ExpressSide) (f : Fld) (i j k : Nat) : ({ s with xpr := x } : State).get f i j k = s.get f i j k := rfl
@[simp] theorem State.with_xpr_on (s : State) (x : ExpressSide) (f : Fld) (i j k : Nat) : ({ s with xpr := x } : State).on f i j k = s.on f i j k := rfl
@[simp] theorem State.with_egr_reg (s : State) (x : EgressSide) (r : Reg) (i j k : Nat) : ({ s with egr := x } : State).reg r i j k = s.reg r i j k := rfl
@[simp] theorem State.with_egr_get (s : State) (x : EgressSide) (f : Fld) (i j k : Nat) : ({ s with egr := x } : State).get f i j k = s.get f i j k := rfl
@[simp] theorem State.with_egr_on (s : State) (x : EgressSide) (f : Fld) (i j k : Nat) : ({ s with egr := x } : State).on f i j k = s.on f i j k := rfl
@[simp] theorem State.with_cls_reg (s : State) (x : ClassSide) (r : Reg) (i j k : Nat) : ({ s with cls := x } : State).reg r i j k = s.reg r i j k := rfl
@[simp] theorem State.with_cls_get (s : State) (x : ClassSide) (f : Fld) (i j k : Nat) : ({ s with cls := x } : State).get f i j k = s.get f i j k := rfl
@[simp] theorem State.with_cls_on (s : State) (x : ClassSide) (f : Fld) (i j k : Nat) : ({ s with cls := x } : State).on f i j k = s.on f i j k := rfl
@[simp] theorem State.with_flow_reg (s : State) (x : FlowSide) (r : Reg) (i j k : Nat) : ({ s with flow := x } : State).reg r i j k = s.reg r i j k := rfl
@[simp] theorem State.with_flow_get (s : State) (x : FlowSide) (f : Fld) (i j k : Nat) : ({ s with flow := x } : State).get f i j k = s.get f i j k := rfl
@[simp] theorem State.with_flow_on (s : State) (x : FlowSide) (f : Fld) (i j k : Nat) : ({ s with flow := x } : State).on f i j k = s.on f i j k := rfl
@[simp] theorem State.with_fel_reg (s : State) (x : FelricSide) (r : Reg) (i j k : Nat) : ({ s with fel := x } : State).reg r i j k = s.reg r i j k := rfl
@[simp] theorem State.with_fel_get (s : State) (x : FelricSide) (f : Fld) (i j k : Nat) : ({ s with fel := x } : State).get f i j k = s.get f i j k := rfl
@[simp] theorem State.with_fel_on (s : State) (x : FelricSide) (f : Fld) (i j k : Nat) : ({ s with fel := x } : State).on f i j k = s.on f i j k := rfl
@[simp] theorem State.with_mem_reg (s : State) (x : MemSide) (r : Reg) (i j k : Nat) : ({ s with mem := x } : State).reg r i j k = s.reg r i j k := rfl
@[simp] theorem State.with_mem_get (s : State) (x : MemSide) (f : Fld) (i j k : Nat) : ({ s with mem := x } : State).get f i j k = s.get f i j k := rfl
@[simp] theorem State.with_mem_on (s : State) (x : MemSide) (f : Fld) (i j k : Nat) : ({ s with mem := x } : State).on f i j k = s.on f i j k := rfl
@[simp] theorem State.with_hks_reg (s : State) (x : HksSide) (r : Reg) (i j k : Nat) : ({ s with hks := x } : State).reg r i j k = s.reg r i j k := rfl
@[simp] theorem State.with_hks_get (s : State) (x : HksSide) (f : Fld) (i j k : Nat) : ({ s with hks := x } : State).get f i j k = s.get f i j k := rfl
@[simp] theorem State.with_hks_on (s : State) (x : HksSide) (f : Fld) (i j k : Nat) : ({ s with hks := x } : State).on f i j k = s.on f i j k := rfl

end Sys2Proof.Machine
end

