-- ==== Sys2Proof/Laws/Outcome.lean ====
section
/-! SUPPORT. What a step, an outcome, the end of a step and the execution of a catalogue command can be. -/

namespace Sys2Proof.Machine

/-- A step takes the command at the front of the queue. -/
theorem step_cons (s : State) (c : Instr) (rest : List Instr) (h : s.pending = c :: rest) :
    step s = exec c { s with pending := rest } := by
  unfold step
  rw [h]

/-- On an empty queue the block idles. -/
theorem step_nil (s : State) (h : s.pending = []) : step s = .next s := by
  unfold step
  rw [h]

@[simp] theorem within_true (s : State) : within true s = .next (settle s) := rfl

/-- An event of a part of the device has its effect where the part exists, and no other outcome than a next state or the fault. -/
theorem within_cases (b : Bool) (s : State) :
    (b = true ∧ within b s = .next (settle s)) ∨ (b = false ∧ within b s = .fault .noSuchUnit) := by
  cases b
  · exact .inr ⟨rfl, rfl⟩
  · exact .inl ⟨rfl, rfl⟩

/-- A next state of such an event is the settled effect. -/
theorem within_next (b : Bool) (s t : State) (h : within b s = .next t) : b = true ∧ t = settle s := by
  cases b
  · simp [within] at h
  · simp only [within_true, Host.Outcome.next.injEq] at h
    exact ⟨rfl, h.symm⟩

/-- An event of a part that exists answers a next state. -/
theorem within_some {b : Bool} {s : State} (h : b = true) : ∃ t, within b s = .next t := by
  subst h
  exact ⟨_, rfl⟩

/-- A command that the device carries out answers a next state. -/
theorem ok_some {s : State} : ∃ t, ok s = .next t := ⟨_, rfl⟩

theorem ok_next (s t : State) (h : ok s = .next t) : t = settle s := by
  simp only [ok, Host.Outcome.next.injEq] at h
  exact h.symm

/-- What a step leaves owed at its end: nothing (R429). -/
theorem settle_due (s : State) : (settle s).faults.due = [] := rfl

/-- A catalogue command whose turn has come is rejected, refused for its form or its stage, or has its own effect (R390, R371, R8, R461). -/
theorem command_cases (c : Cmd) (op : Nat) (u : Bool) (body : State → Answer) (s : State) (h0 : executes s c op = true) :
    (rejection c u ≠ 0 ∧ command c op u body s = rejectCommand c op (rejection c u) s) ∨
    (rejection c u = 0 ∧ c.partnerLocal = true ∧ command c op u body s = finish c op (resFail 0x0C) s) ∨
    (rejection c u = 0 ∧ c.partnerLocal = false ∧ c.reserved = true ∧ command c op u body s = finish c op (resFail 1) s) ∨
    (rejection c u = 0 ∧ c.partnerLocal = false ∧ c.reserved = false ∧ stageReached s (stageNeeded op) = false ∧
      command c op u body s = finish c op (resFail 3) s) ∨
    (rejection c u = 0 ∧ c.partnerLocal = false ∧ c.reserved = false ∧ stageReached s (stageNeeded op) = true ∧
      command c op u body s = conclude c op (body (noteCommand op s))) := by
  unfold command
  rw [h0]
  by_cases h1 : rejection c u = 0
  · cases h2 : c.partnerLocal <;> cases h3 : c.reserved <;> (cases h4 : stageReached s (stageNeeded op) <;> simp [h1])
  · simp [h1]

/-- A command whose turn has not come changes nothing (R22, R415). -/
theorem command_idle (c : Cmd) (op : Nat) (u : Bool) (body : State → Answer) (s : State) (h0 : executes s c op = false) :
    command c op u body s = s := by
  simp [command, h0]

/-- A command that has its own effect: in its turn, authentic, for this device, of good form, its stage reached. -/
theorem command_own (c : Cmd) (op : Nat) (u : Bool) (body : State → Answer) (s : State)
    (h0 : executes s c op = true) (h1 : rejection c u = 0) (h2 : c.partnerLocal = false) (h3 : c.reserved = false) (h4 : stageReached s (stageNeeded op) = true) :
    command c op u body s = conclude c op (body (noteCommand op s)) := by
  simp [command, h0, h1, h2, h3, h4]

/-- A command that the device executes: its own effect, concluded and settled. -/
theorem taken_runs {c : Cmd} {op : Nat} {u : Bool} {body : State → Answer} {s : State} (h : Taken c op u s) :
    within (decide (c.ring < 4)) (command c op u body s) = .next (settle (conclude c op (body (noteCommand op s)))) := by
  obtain ⟨h0, hx, h1, h2, h3, h4⟩ := h
  simp [h0, command_own c op u body s hx h1 h2 h3 h4]

/-- A command that the device executes and that completes at once. -/
theorem taken_done {i : Instr} {c : Cmd} {op : Nat} {u : Bool} {body : State → Answer} {s t : State} {r : Res} (h : Taken c op u s)
    (hi : exec i s = within (decide (c.ring < 4)) (command c op u body s)) (hb : body (noteCommand op s) = .done r t) :
    exec i s = .next (settle (finish c op r t)) := by
  rw [hi, taken_runs h, hb]
  rfl

@[simp] theorem conclude_done (c : Cmd) (op : Nat) (r : Res) (s : State) : conclude c op (.done r s) = finish c op r s := rfl

/-- Outside families 0x09 to 0x0B a command leaves no black-box entry of its own. -/
theorem noteCommand_other (op : Nat) (s : State) (h : op / 256 < 9 ∨ 11 < op / 256) : noteCommand op s = s := by
  unfold noteCommand
  split
  · simp_all
    omega
  · rfl

/-- A command of another family that the device executes, by its answer. -/
theorem taken_concludes {i : Instr} {c : Cmd} {op : Nat} {u : Bool} {body : State → Answer} {s : State} {a : Answer} (h : Taken c op u s)
    (hi : exec i s = within (decide (c.ring < 4)) (command c op u body s)) (hn : op / 256 < 9 ∨ 11 < op / 256) (hb : body s = a) :
    exec i s = .next (settle (conclude c op a)) := by
  rw [hi, taken_runs h, noteCommand_other _ _ hn, hb]

end Sys2Proof.Machine
end

