-- ==== Sys2Proof/Laws/Completion.lean ====
section
/-! SUPPORT. What the completion of a command can change: the held completions, the journal, registers, the session's receipts, the free
values and the messages to the partner. -/

namespace Sys2Proof.Machine

/-- HST_JOURNAL_STAT follows the journal, and nothing else changes. -/
theorem journalStat_eq (s : State) : ∃ r, journalStat s = { s with regs := r } := ⟨_, rfl⟩

/-- A receipt changes Ascor and draws free values. -/
theorem addReceipt_eq (n ident cseq op st : Nat) (s : State) : ∃ a f, addReceipt n ident cseq op st s = { s with ascor := a, free := f } := by
  unfold addReceipt
  split
  · exact ⟨s.ascor, s.free, rfl⟩
  · split
    · exact ⟨s.ascor, s.free, rfl⟩
    · exact ⟨_, _, rfl⟩

/-- A mirror message changes what waits for the partner. -/
theorem sendMirror_eq (cls typ : Nat) (spec body : List Byte) (s : State) : ∃ p, sendMirror cls typ spec body s = { s with pair := p } := by
  unfold sendMirror
  split
  · exact ⟨s.pair, rfl⟩
  · exact ⟨_, rfl⟩

/-- A counter raised changes the registers. -/
theorem bump_eq (s : State) (r : Reg) (i j k : Nat) : ∃ m, s.bump r i j k = { s with regs := m } := ⟨_, rfl⟩

/-- Everything that a completion can change. -/
theorem complete_eq (ring cseq op : Nat) (sealed : Bool) (n : Nat) (replayed : Bool) (r : Res) (s : State) :
    ∃ m a f p, complete ring cseq op sealed n replayed r s =
      { s with
        host := { s.host with
          completions := s.host.completions ++ [⟨ring, cseq, r.result, r.status, r.detail, replayed, r.object⟩],
          journal := journalDrop (fun e => !e.tx && e.ring == ring && e.cseq == cseq) s.host.journal },
        regs := m, ascor := a, free := f, pair := p } := by
  have h1 : ∀ x : State, ∃ m a f, (if sealed then addReceipt n (leField (entryOf s ring cseq) 4 4) cseq op r.status (journalStat x) else journalStat x) =
      { x with regs := m, ascor := a, free := f } := by
    intro x
    obtain ⟨m, h⟩ := journalStat_eq x
    cases sealed
    · exact ⟨m, x.ascor, x.free, h⟩
    · obtain ⟨a, f, h'⟩ := addReceipt_eq n (leField (entryOf s ring cseq) 4 4) cseq op r.status { x with regs := m }
      exact ⟨m, a, f, by rw [h]; exact h'⟩
  have h2 : ∀ x : State, ∃ m p, sendMirror 1 0x03 (leBytes 1 ring) (leBytes 8 cseq) (if replayed then x.bump HST_REPLAY_CNT else x) =
      { x with regs := m, pair := p } := by
    intro x
    cases replayed
    · obtain ⟨p, h⟩ := sendMirror_eq 1 0x03 (leBytes 1 ring) (leBytes 8 cseq) x
      exact ⟨x.regs, p, h⟩
    · obtain ⟨p, h⟩ := sendMirror_eq 1 0x03 (leBytes 1 ring) (leBytes 8 cseq) (x.bump HST_REPLAY_CNT)
      exact ⟨_, p, h⟩
  let x0 : State := { s with host := { s.host with
    completions := s.host.completions ++ [⟨ring, cseq, r.result, r.status, r.detail, replayed, r.object⟩],
    journal := journalDrop (fun e => !e.tx && e.ring == ring && e.cseq == cseq) s.host.journal } }
  obtain ⟨m, a, f, h3⟩ := h1 x0
  obtain ⟨m', p, h4⟩ := h2 (if sealed then addReceipt n (leField (entryOf s ring cseq) 4 4) cseq op r.status (journalStat x0) else journalStat x0)
  refine ⟨m', a, f, p, ?_⟩
  have h5 : complete ring cseq op sealed n replayed r s = sendMirror 1 0x03 (leBytes 1 ring) (leBytes 8 cseq)
      (if replayed then (if sealed then addReceipt n (leField (entryOf s ring cseq) 4 4) cseq op r.status (journalStat x0) else journalStat x0).bump HST_REPLAY_CNT
        else (if sealed then addReceipt n (leField (entryOf s ring cseq) 4 4) cseq op r.status (journalStat x0) else journalStat x0)) := rfl
  rw [h5, h4, h3]

end Sys2Proof.Machine
end

