-- ==== Sys2Proof/Laws/Segments.lean ====
section
/-! SUPPORT. Lemmas about the layout of a segment (R250): XOR of slots is commutative, associative and its own inverse on slots of 256
bytes, which every data slot is. -/

namespace Sys2Proof.Machine

theorem xorBytes_comm (a b : List Byte) : xorBytes a b = xorBytes b a := by
  unfold xorBytes; rw [List.zipWith_comm]; congr; funext x y; exact BitVec.xor_comm _ _

theorem xorBytes_assoc : ∀ a b c : List Byte, xorBytes (xorBytes a b) c = xorBytes a (xorBytes b c)
  | [], _, _ => by simp [xorBytes]
  | _ :: _, [], _ => by simp [xorBytes]
  | _ :: _, _ :: _, [] => by simp [xorBytes]
  | x :: a, y :: b, z :: c => by
    have := xorBytes_assoc a b c
    simp only [xorBytes, List.zipWith_cons_cons] at this ⊢
    rw [this, BitVec.xor_assoc]

theorem xorBytes_left_comm (a b c : List Byte) : xorBytes a (xorBytes b c) = xorBytes b (xorBytes a c) := by
  rw [← xorBytes_assoc, ← xorBytes_assoc, xorBytes_comm a b]

@[simp] theorem length_xorBytes (a b : List Byte) : (xorBytes a b).length = min a.length b.length := List.length_zipWith

@[simp] theorem length_padTo (n : Nat) (bs : List Byte) : (padTo n bs).length = n := by
  simp [padTo, zeros]; try omega

theorem xorBytes_self : ∀ a : List Byte, xorBytes a a = zeros a.length
  | [] => rfl
  | x :: a => by
    have := xorBytes_self a
    simp only [xorBytes, zeros, List.zipWith_cons_cons, BitVec.xor_self, List.length_cons, List.replicate_succ] at this ⊢
    rw [this]; rfl

theorem zeros_xorBytes : ∀ a : List Byte, xorBytes (zeros a.length) a = a
  | [] => rfl
  | x :: a => by
    have := zeros_xorBytes a
    simp only [xorBytes, zeros, List.zipWith_cons_cons, List.length_cons, List.replicate_succ] at this ⊢
    rw [this]; simp

/-- A slot XORed twice falls out. -/
theorem xorBytes_cancel (a b : List Byte) (h : a.length = b.length) : xorBytes a (xorBytes a b) = b := by
  rw [← xorBytes_assoc, xorBytes_self, h, zeros_xorBytes]

@[simp] theorem length_dataSlot (s : State) (q : Nat) (g : Segment) (k : Nat) : (dataSlot s q g k).length = 256 := by
  unfold dataSlot; split <;> exact length_padTo _ _

/-- The parity position of a row is one of its eight. -/
theorem parityPos_lt (r : Nat) : parityPos r < 8 := by unfold parityPos; omega

end Sys2Proof.Machine
end

