-- ==== Sys2Proof/Laws/Shared.lean ====
section
/-! SUPPORT. What each shared operation can change, once: events, black-box entries, fault occurrences, counters, ring entries. -/

namespace Sys2Proof.Machine

/-- A replaced black-box buffer changes the fault side. -/
theorem setBb_eq (s : State) (b : Nat) (x : BbBuffer) : ∃ f, setBb s b x = { s with faults := f } := by
  unfold setBb
  split <;> exact ⟨_, rfl⟩

/-- Two states that differ in registers and fault side only. -/
theorem setBb_resetArmed (s : State) (b : Nat) (x : BbBuffer) : (setBb s b x).faults.resetArmed = s.faults.resetArmed := by
  unfold setBb
  split <;> rfl

/-- A field written changes the registers. -/
theorem State.put_ex (s : State) (f : Fld) (v i j k : Nat) : ∃ m, s.put f v i j k = { s with regs := m } := ⟨_, rfl⟩

/-- A field raised changes the registers. -/
theorem State.inc_ex (s : State) (f : Fld) (i j k : Nat) : ∃ m, s.inc f i j k = { s with regs := m } := ⟨_, rfl⟩

/-- A counter raised changes the registers. -/
theorem State.bumpBy_ex (s : State) (n : Nat) (r : Reg) (i j k : Nat) : ∃ m, s.bumpBy n r i j k = { s with regs := m } := ⟨_, rfl⟩

/-- A fold of operations that change registers changes registers. -/
theorem foldl_regs {α : Type} (f : State → α → State) (h : ∀ s a, ∃ r, f s a = { s with regs := r }) (l : List α) (s : State) :
    ∃ r, l.foldl f s = { s with regs := r } := by
  induction l generalizing s with
  | nil => exact ⟨s.regs, rfl⟩
  | cons a l ih =>
    obtain ⟨r, h1⟩ := h s a
    obtain ⟨r', h2⟩ := ih (f s a)
    exact ⟨r', by rw [List.foldl_cons, h2, h1]⟩

/-- The status of the staging store changes the registers. -/
theorem stageStat_eq (s : State) : ∃ r, stageStat s = { s with regs := r } := ⟨_, rfl⟩

/-- A staged object changes the store and the registers. -/
theorem setStaged_eq (n : Nat) (bs : List Byte) (s : State) :
    ∃ r, setStaged n bs s = { s with ascor := { s.ascor with staged := Store.set s.ascor.staged n ⟨bs, Config.digest bs⟩ }, regs := r } := by
  unfold setStaged
  obtain ⟨r, h⟩ := stageStat_eq { s with ascor := { s.ascor with staged := Store.set s.ascor.staged n ⟨bs, Config.digest bs⟩ } }
  exact ⟨r, h⟩

/-- The status of the sessions changes the registers. -/
theorem sessionStat_eq (s : State) : ∃ r, sessionStat s = { s with regs := r } := by
  refine foldl_regs _ (fun s n => ?_) _ s
  generalize Store.getD s.ascor.sessions n _ = x
  exact ⟨_, rfl⟩

/-- A recorded entry changes the registers and the fault side (R446). -/
theorem bbRecord_eq (e : BbEntry) (s : State) : ∃ m f, bbRecord e s = { s with regs := m, faults := f } ∧ f.resetArmed = s.faults.resetArmed := by
  unfold bbRecord
  simp only
  generalize hb : bbPush (bbBuf s (bbLive s)) _ = x
  have hr := setBb_resetArmed s (bbLive s) x
  obtain ⟨f, h⟩ := setBb_eq s (bbLive s) x
  obtain ⟨m, h'⟩ := State.inc_ex (setBb s (bbLive s) x) FLT_BB_STAT_SEQ 0 0 0
  rw [h] at hr
  exact ⟨m, f, by rw [h', h], hr⟩

/-- The close of a buffer changes the registers and the fault side (R447). -/
theorem bbClose_eq (s : State) : ∃ m f, bbClose s = { s with regs := m, faults := f } ∧ f.resetArmed = s.faults.resetArmed := by
  unfold bbClose
  simp only
  obtain ⟨m, f, h, hr⟩ := bbRecord_eq ⟨s.now, 0, 9, ofBool (alarmPin s) * 4 + (if (bbBuf s (bbLive s)).cause = causeSmbus then 8 else 0), 0, 0, 0, 0,
    (bbBuf s (bbLive s)).cause⟩ s
  rw [h]
  generalize hx : ({ bbBuf ({ s with regs := m, faults := f } : State) (bbLive s) with
    sealDue := ({ s with regs := m, faults := f } : State).on ASC_CTRL_SEAL_BB } : BbBuffer) = x
  have h2 := setBb_resetArmed { s with regs := m, faults := f } (bbLive s) x
  obtain ⟨f1, h1⟩ := setBb_eq { s with regs := m, faults := f } (bbLive s) x
  rw [h1] at h2 ⊢
  generalize hv : (_ ||| _ : Nat) = v
  obtain ⟨m1, h3⟩ := State.put_ex ({ s with regs := m, faults := f1 } : State) FLT_BB_STAT_CLOSED v 0 0 0
  rw [h3]
  split
  · obtain ⟨m2, h4⟩ := State.put_ex ({ s with regs := m1, faults := { f1 with collecting := none } } : State) FLT_BB_STAT_STOPPED 1 0 0 0
    exact ⟨m2, { f1 with collecting := none }, h4, h2.trans hr⟩
  · obtain ⟨m2, h4⟩ := State.put_ex ({ s with regs := m1, faults := { f1 with collecting := none } } : State) FLT_BB_STAT_LIVE (1 - bbLive s) 0 0 0
    have h6 := setBb_resetArmed { s with regs := m2, faults := { f1 with collecting := none } } (1 - bbLive s) ⟨[], 0, 0, 0, false⟩
    obtain ⟨f2, h5⟩ := setBb_eq { s with regs := m2, faults := { f1 with collecting := none } } (1 - bbLive s) ⟨[], 0, 0, 0, false⟩
    rw [h5] at h6
    exact ⟨m2, f2, by rw [← h5, ← h4], h6.trans (h2.trans hr)⟩

/-- A black-box entry changes the registers and the fault side (R446, R447). -/
theorem bbEntry_eq (kind source flags cls u detail v : Nat) (s : State) :
    ∃ m f, bbEntry kind source flags cls u detail v s = { s with regs := m, faults := f } ∧ f.resetArmed = s.faults.resetArmed := by
  unfold bbEntry
  split
  · obtain ⟨m, h⟩ := State.bumpBy_ex s 1 FLT_BB_LOST_CNT 0 0 0
    exact ⟨m, s.faults, h, rfl⟩
  · obtain ⟨m, f, h, hr⟩ := bbRecord_eq ⟨s.now, source, kind, flags + ofBool (alarmPin s) * 4, cls, u, 0, detail, v⟩ s
    simp only [h]
    split
    · exact ⟨m, f, rfl, hr⟩
    · rename_i n _
      split
      · obtain ⟨m', f', h', hr'⟩ := bbClose_eq { s with regs := m, faults := f }
        exact ⟨m', f', h', hr'.trans hr⟩
      · exact ⟨m, { f with collecting := some (n - 1) }, rfl, hr⟩

/-- Counted events change the registers. -/
theorem countEvent_eq (b code qual amount : Nat) (s : State) : ∃ m, countEvent b code qual amount s = { s with regs := m } := by
  have h : ∀ (l : List Nat) (x : State), (∃ m, x = { s with regs := m }) →
      ∃ m, l.foldl (fun s k => if selAdmits s b k code qual then s.bumpBy amount CNT_VAL b k else s) x = { s with regs := m } := by
    intro l
    induction l with
    | nil => exact fun x hx => hx
    | cons k ks ih =>
      intro x hx
      obtain ⟨m, rfl⟩ := hx
      refine ih _ ?_
      simp only
      by_cases hs : selAdmits { s with regs := m } b k code qual = true
      · rw [if_pos hs]
        exact State.bumpBy_ex { s with regs := m } amount CNT_VAL b k 0
      · rw [if_neg hs]
        exact ⟨m, rfl⟩
  exact h _ _ ⟨s.regs, rfl⟩

/-- The pins change the registers. -/
theorem setPins_eq (s : State) : ∃ m, setPins s = { s with regs := m } := ⟨_, rfl⟩

/-- A posted event waits, or is dropped and counted; the FIFO never holds more than its 4096 events (R423). -/
theorem postEvent_eq (typ source : Nat) (data : List Byte) (s : State) :
    ∃ m f d, postEvent typ source data s = { s with regs := m, host := { s.host with evtFifo := f, evtDropped := d } } ∧
      (s.host.evtFifo.length ≤ evtFifoSize → f.length ≤ evtFifoSize) := by
  unfold postEvent
  split
  · rename_i h
    exact ⟨s.regs, _, s.host.evtDropped, rfl, fun _ => by simp; omega⟩
  · exact ⟨_, s.host.evtFifo, _, rfl, id⟩

/-- An entry written to a ring: registers and the host's rings change (R411). -/
theorem ringWrite_eq (r : Nat) (entry slot : List Byte) (s : State) :
    ∃ m e l c t, ringWrite r entry slot s =
      { s with regs := m, host := { s.host with entries := e, slots := l, since := c, sinceAt := t } } := by
  unfold ringWrite
  simp only
  generalize Store.set s.host.entries _ _ = e
  generalize (if slot.isEmpty then s.host.slots else Store.set s.host.slots _ slot) = l
  generalize Store.upd s.host.since r 0 _ = c
  generalize (if 0 < Store.getD s.host.since r 0 then s.host.sinceAt else Store.set s.host.sinceAt r s.clock) = t
  generalize hx : ({ s with host := { s.host with entries := e, slots := l, since := c, sinceAt := t } } : State) = x
  obtain ⟨m, h1⟩ := State.put_ex x HST_RING_IDX_PI (s.get HST_RING_IDX_PI r + 1) r 0 0
  rw [h1]
  obtain ⟨m', h2⟩ := State.bumpBy_ex { x with regs := m } 1 HST_RING_CNT r 0 0
  obtain ⟨m'', h3⟩ := countEvent_eq 9 0x02 r 1 (({ x with regs := m } : State).bump HST_RING_CNT r)
  refine ⟨m'', e, l, c, t, ?_⟩
  rw [h3]
  unfold State.bump
  rw [h2, ← hx]

end Sys2Proof.Machine
end

