-- ==== Sys2Proof/Tests/States.lean ====
section
/-! SUPPORT. The small states that the tests use: what reset leaves, with the start-up stages reached and a few parts set up. -/

namespace Sys2Proof.Tests
set_option Elab.async false
open Sys2Proof.Machine

/-- The state after reset with every start-up stage reached and the core rails up. -/
def ready : State := { State.reset.setReg PWR_READY 31 with power := { State.reset.power with coreUp := true } }

/-- A sealed command of session 0 on CMD0, and an unsealed one. -/
def sealed1 : Cmd := ⟨0, 7, true, 0, 0, false, false, false⟩
def plain1 : Cmd := ⟨0, 7, false, 4, 0, false, false, false⟩

/-- The state in which the journal holds command c with opcode op, accepted and begun. -/
def held (c : Cmd) (op : Nat) (s : State) : State :=
  { s with host := { s.host with journal := s.host.journal ++ [⟨c.ring, 0, false, false, c.cseq, op, c.sealed, c.session, c.verdict, none, true, true,
      true, false, c.replayed, zeros 64, true, true, none⟩] } }

/-- The state in which a catalogue command's turn has come. -/
def inTurn (i : Instr) (s : State) : State :=
  match i.catalogue with
  | none => s
  | some (c, op, _) => if executes s c op then s else held c op s

/-- The state a command leaves in its turn; the state itself where it stops. -/
def after (i : Instr) (s : State) : State := match exec i (inTurn i s) with | .next t => t | .fault _ => s | .refused _ => s

/-- Whether a command answers a next state. -/
def runs (i : Instr) (s : State) : Bool := match exec i (inTurn i s) with | .next _ => true | .fault _ => false | .refused _ => false

/-- STATUS, DETAIL and RESULT of the first completion that a command leaves, if it leaves one. -/
def outcome (i : Instr) (s : State) : Option (Nat × Nat × Nat) :=
  (after i s).host.completions.head?.map (fun c => (c.status, c.detail, c.result))

/-- Object 0 of the store holds the bytes. -/
def staged (bs : List Byte) (s : State) : State :=
  { s with ascor := { s.ascor with staged := [(0, ⟨bs, Config.digest bs⟩)] } }

/-- A signed image: a header of 64 bytes with its kind and version and further bytes, a body, and a signature block that gives its length. -/
def signedImage (kind ver : Nat) (header body : List Byte) : List Byte :=
  padTo 64 (leBytes 2 kind ++ leBytes 2 ver ++ header) ++ body ++ leBytes 4 (64 + body.length) ++ zeros 504

/-- A command executes in its turn. -/
theorem test_held : executes (held sealed1 0x0100 ready) sealed1 0x0100 = true ∧ executes ready sealed1 0x0100 = false := by decide +kernel

/-- The object staged by the helper is the one a command finds. -/
theorem test_staged (bs : List Byte) (s : State) : stagedOf (staged bs s) 0 = some ⟨bs, Config.digest bs⟩ := rfl

end Sys2Proof.Tests
end

