-- ==== Sys2Proof/Tests/Catalogue.lean ====
section
/-! SUPPORT. For every command of the catalogue: a concrete state and operands that meet the hypotheses of its statement, with the outcome
(STATUS, DETAIL, RESULT) that the spec gives it there. -/

namespace Sys2Proof.Tests
set_option Elab.async false
open Sys2Proof.Machine

/-- An enrolled device with a session 0 open. -/
def enrolled : State :=
  { (ready.put ASC_STAT_ENROLL 1) with ascor := { ready.ascor with
      opKeys := [0], challenge := some (zeros 32, 0), sessions := [(0, ⟨true, false, 2047, 5, none, none, [], 0, 0⟩)] } }

theorem test_ascIdGet : Taken sealed1 0x0100 true (held sealed1 0x0100 ready) ∧ freeObject (held sealed1 0x0100 ready) 512 = some 0 ∧ outcome (.ascIdGet sealed1) (held sealed1 0x0100 ready) = some (0, 0, 0) := by
  unfold Taken; decide +kernel

/-- An unenrolled device whose challenge is drawn, with the object of an enrollment. -/
def toEnroll : State := staged (zeros 224) { ready with ascor := { ready.ascor with challenge := some (zeros 32, 0) } }

theorem test_ascEnroll : Taken sealed1 0x0101 true (held sealed1 0x0101 toEnroll) ∧ (held sealed1 0x0101 toEnroll).on ASC_STAT_ENROLL = false ∧ challengeValid (slice (zeros 224) 96 32) (held sealed1 0x0101 toEnroll) = true ∧
    (stagedOf (held sealed1 0x0101 toEnroll) 0).isSome = true ∧ runs (.ascEnroll sealed1 0 true) (held sealed1 0x0101 toEnroll) = true := by
  unfold Taken; decide +kernel

theorem test_ascSessionOpen : Taken plain1 0x0102 true (held plain1 0x0102 (staged (zeros 300) enrolled)) ∧ (held plain1 0x0102 (staged (zeros 300) enrolled)).on ASC_STAT_ENROLL = true ∧
    operatorFp (held plain1 0x0102 (staged (zeros 300) enrolled)) = some (beField (zeros 300) 128 8) ∧ freeSession (held plain1 0x0102 (staged (zeros 300) enrolled)) = some 1 ∧
    runs (.ascSessionOpen plain1 0 true false) (held plain1 0x0102 (staged (zeros 300) enrolled)) = true := by
  unfold Taken; decide +kernel

theorem test_ascSessionClose : Taken sealed1 0x0103 false (held sealed1 0x0103 enrolled) ∧ (Store.get? (held sealed1 0x0103 enrolled).ascor.sessions 0).map (fun x => x.opened) = some true ∧
    outcome (.ascSessionClose sealed1 0) (held sealed1 0x0103 enrolled) = some (0, 0, 0) := by
  unfold Taken; decide +kernel

theorem test_ascStage : Taken plain1 0x0104 true (held plain1 0x0104 ready) ∧ freeObject (held plain1 0x0104 ready) 3 = some 0 ∧ lockedBy (held plain1 0x0104 ready) 0 7 0 = false ∧
    outcome (.ascStage plain1 (zeros 3) 0x1000) (held plain1 0x0104 ready) = some (0, 0, 0) := by
  unfold Taken; decide +kernel

theorem test_ascStageRead : Taken plain1 0x0105 true (held plain1 0x0105 (staged (zeros 3) ready)) ∧ (stagedOf (held plain1 0x0105 (staged (zeros 3) ready)) 0).isSome = true ∧
    Store.get? (after (.ascStageRead plain1 0 0x1000) (staged [1, 2] ready)).host.buffers 0x1000 = some [1, 2] := by
  unfold Taken; decide +kernel

theorem test_ascStageFree : Taken sealed1 0x0106 true (held sealed1 0x0106 (staged (zeros 3) ready)) ∧ (stagedOf (held sealed1 0x0106 (staged (zeros 3) ready)) 0).isSome = true ∧
    lockedBy (held sealed1 0x0106 (staged (zeros 3) ready)) 0 7 0 = false ∧ outcome (.ascStageFree sealed1 0) (held sealed1 0x0106 (staged (zeros 3) ready)) = some (0, 0, 0) := by
  unfold Taken; decide +kernel

theorem test_ascReceiptRead : Taken plain1 0x0107 true (held plain1 0x0107 enrolled) ∧ ((held plain1 0x0107 enrolled).ascor.sessions.find? (fun e => e.2.ident == 5)).isSome = true ∧
    outcome (.ascReceiptRead plain1 5 0x1000) (held plain1 0x0107 enrolled) = some (0, 0, 0) := by
  unfold Taken; decide +kernel

theorem test_ascOpRotate : Taken sealed1 0x0108 false (held sealed1 0x0108 (staged (zeros 224) enrolled)) ∧ enrolled.ascor.opKeys.length < 4 ∧
    challengeValid (slice (zeros 224) 96 32) (held sealed1 0x0108 (staged (zeros 224) enrolled)) = true ∧
    runs (.ascOpRotate sealed1 0 true) (held sealed1 0x0108 (staged (zeros 224) enrolled)) = true := by
  unfold Taken; decide +kernel

theorem test_ascMinVerSet : Taken sealed1 0x0109 false (held sealed1 0x0109 ready) ∧ (held sealed1 0x0109 ready).get ASC_MIN_VER_MIN_VER 5 < 65535 ∧ (held sealed1 0x0109 ready).get ASC_MIN_VER_RAISES_LEFT 5 ≠ 0 ∧
    outcome (.ascMinVerSet sealed1 5 65535) (held sealed1 0x0109 ready) = some (0, 0, 0) ∧ (outcome (.ascMinVerSet sealed1 6 1) (held sealed1 0x0109 ready)).map (fun x => x.1) = some 1 := by
  unfold Taken; decide +kernel

/-- FLT_CTRL is a register with SG bits and no command of its own. -/
theorem test_ascRegWrite : Taken sealed1 0x010A false (held sealed1 0x010A ready) ∧ refAt (FLT_CTRL.addr 0 0 0) = some ⟨FLT_CTRL, 0, 0, 0⟩ ∧ FLT_CTRL.sg ≠ 0 ∧
    ownCommand.contains FLT_CTRL = false ∧
    outcome (.ascRegWrite sealed1 (FLT_CTRL.addr 0 0 0) 1 1) (held sealed1 0x010A ready) = some (0, 0, 0) := by
  unfold Taken; decide +kernel

/-- A key object of kind 1 with wrap counter 0. -/
def keyObject : List Byte := leBytes 4 1 ++ zeros 68

theorem test_macsecSaInstall : Taken sealed1 0x0110 false (held sealed1 0x0110 (staged keyObject enrolled)) ∧ saNamed 95 63 1 3 = true ∧ keyObject.length = 72 ∧
    leField keyObject 0 4 = 1 ∧ (Store.get? enrolled.ascor.sessions 0).map (fun x => x.lastWrap) = some none ∧
    Store.get? enrolled.ascor.macsec (saKey 95 63 1 3) = none ∧ saChannels enrolled 95 127 < 64 ∧
    outcome (.macsecSaInstall sealed1 95 63 1 3 1 2 3 0 true) (held sealed1 0x0110 (staged keyObject enrolled)) = some (0, 0, 0) := by
  unfold Taken; decide +kernel

theorem test_macsecSaDelete : Taken sealed1 0x0111 false (held sealed1 0x0111 ready) ∧ saNamed 0 0 0 0 = true ∧ saNamed 96 0 0 0 = false ∧
    outcome (.macsecSaDelete sealed1 0 0 0 0) (held sealed1 0x0111 ready) = some (0, 0, 0) := by
  unfold Taken; decide +kernel

theorem test_macsecPortSet : Taken sealed1 0x0112 false (held sealed1 0x0112 ready) ∧ outcome (.macsecPortSet sealed1 95 true false 2) (held sealed1 0x0112 ready) = some (0, 0, 0) ∧
    (outcome (.macsecPortSet sealed1 95 true false 3) (held sealed1 0x0112 ready)).map (fun x => x.1) = some 1 := by
  unfold Taken; decide +kernel

/-- R390: an unsealed entry of class S, and a sealed one that its verdict turns away. -/
theorem test_rejections : rejection plain1 false ≠ 0 ∧ rejection { sealed1 with verdict := 2 } true = 2 ∧ rejection plain1 true = 0 ∧
    (Instr.ascMinVerSet plain1 1 1).catalogue = some (plain1, 0x0109, false) ∧
    runs (.ascMinVerSet plain1 1 1) ready = true := by
  decide +kernel

/-- R371, R8, R461: a replayed partner-local command, an entry with a reserved field set, a command before its stage. -/
theorem test_refusedForms : (outcome (.memRetrain { sealed1 with partnerLocal := true } 0) ready).map (fun x => x.1) = some 0x0C ∧
    (outcome (.memRetrain { sealed1 with reserved := true } 0) ready).map (fun x => x.1) = some 1 ∧
    stageReached State.reset (stageNeeded 0x0901) = false ∧ (outcome (.memRetrain sealed1 0) State.reset).map (fun x => x.1) = some 3 := by
  decide +kernel

-- Classification

/-- A graph of no states and rows, kind 3, version 1. -/
def graphImage : List Byte := signedImage 3 1 [] []

theorem test_parserLoad : Taken sealed1 0x0200 false (held sealed1 0x0200 (staged graphImage ready)) ∧ leField graphImage 0 2 = 3 ∧
    ready.get ASC_MIN_VER_MIN_VER 3 ≤ leField graphImage 2 2 ∧ (imageBody graphImage).length = 16 * 0 + 12 * 0 ∧
    outcome (.parserLoad sealed1 0 0 0 true) (held sealed1 0x0200 (staged graphImage ready)) = some (0, 31, 0) := by
  unfold Taken; decide +kernel

theorem test_rulesetCommit : Taken sealed1 0x0201 false (held sealed1 0x0201 ready) ∧ ((after (.rulesetCommit sealed1) (held sealed1 0x0201 ready)).host.waiting.map (fun w => w.opcode)) = [0x0201] := by
  unfold Taken; decide +kernel

/-- A TCAM entry of one unit of the width code of group 0, with VALID, priority 5 and no condition. -/
def tcamObject (w : Nat) : List Byte := leBytes 8 (1 + 2 * w + 5 * 2 ^ 16) ++ zeros (40 * widthUnits w)

/-- A state with bank 0 of every quarter enabled in group 0. -/
def oneBank : State := (List.range 5).foldl (fun s q => s.put QTR_TCAM_BANK_ENABLE 1 q 0) ready

theorem test_tcamInsert : Taken sealed1 0x0202 false (held sealed1 0x0202 (staged (tcamObject 0) oneBank)) ∧ bufferFits (groupWidth oneBank 0 0) (tcamObject 0) = true ∧
    referenceQuarter oneBank = 0 ∧ bitOf (leField (tcamObject 0) 0 8) 0 = true ∧ freeHandle (quarterOf oneBank 0).tcam 0 0x6000 = some 0 ∧
    planInsert (Store.getD (quarterOf oneBank 0).tcam 0 []) (groupSize oneBank 0 0) (bitsOf (leField (tcamObject 0) 0 8) 16 5) = some ([], 0) ∧
    ((after (.tcamInsert sealed1 0 0) (held sealed1 0x0202 (staged (tcamObject 0) oneBank))).host.waiting.map (fun w => w.result)) = [0] := by
  unfold Taken; decide +kernel

theorem test_tcamInsert_express : Taken sealed1 0x0202 false (held sealed1 0x0202 (staged (tcamObject 1) ready)) ∧ chainWidth (xprChain ready) = 1 ∧ 3 < chainGroups (xprChain ready) ∧
    bufferFits 1 (tcamObject 1) = true ∧ freeHandle ready.xpr.tcam 0x7000 0x7800 = some 0x7000 ∧
    planInsert (Store.getD ready.xpr.tcam 3 []) 512 (bitsOf (leField (tcamObject 1) 0 8) 16 5) = some ([], 0) ∧
    ((after (.tcamInsert sealed1 0 (8 + 3)) (held sealed1 0x0202 (staged (tcamObject 1) ready))).xpr.steps.length) = 1 := by
  unfold Taken; decide +kernel

/-- A state in which group 0 of quarter 0 holds entry 9 with handle 4. -/
def oneEntry : State :=
  onQuarter 0 (fun x => { x with tcam := [(0, [(9, entryOfBytes 1 4 (tcamObject 0))])] }) (staged (tcamObject 0) oneBank)

theorem test_tcamDelete_update_read : Taken sealed1 0x0203 false (held sealed1 0x0203 oneEntry) ∧ Taken sealed1 0x0204 false (held sealed1 0x0204 oneEntry) ∧ Taken plain1 0x0205 true (held plain1 0x0205 oneEntry) ∧
    (handleGroup (tablesOf oneEntry 4) 4).map (fun e => (e.1, e.2.1, e.2.2.width, e.2.2.prio)) = some (0, 9, 0, bitsOf (leField (tcamObject 0) 0 8) 16 5) ∧
    bufferFits 0 (tcamObject 0) = true ∧ ((after (.tcamDelete sealed1 4) oneEntry).host.waiting.map (fun w => w.opcode)) = [0x0203] ∧
    (Store.get? (after (.tcamRead plain1 4 64) oneEntry).host.buffers 64).map (fun b => leField b 48 4) = some 9 := by
  unfold Taken; decide +kernel

theorem test_actionWrite : Taken sealed1 0x0206 false (held sealed1 0x0206 (staged (zeros 32) ready)) ∧ bitsOf (leNat (zeros 32)) 88 73 ≤ 4095 ∧
    bitsOf (leNat (zeros 32)) 255 89 = 0 ∧ outcome (.actionWrite sealed1 0 65535) (held sealed1 0x0206 (staged (zeros 32) ready)) = some (0, 31, 0) := by
  unfold Taken; decide +kernel

/-- A pattern image of one word: a state of kind 2 that follows itself. -/
def patternImage : List Byte := signedImage 4 1 [] (leBytes 8 2)

theorem test_patLoad : Taken sealed1 0x0207 false (held sealed1 0x0207 (staged patternImage ready)) ∧ leField patternImage 0 2 = 4 ∧
    ready.get ASC_MIN_VER_MIN_VER 4 ≤ leField patternImage 2 2 ∧ (imageBody patternImage).length = 8 ∧
    numbersOf (imageBody patternImage) 0 8 1 = [2] ∧ imageGood ⟨[2], List.replicate 16 0⟩ = true ∧ (∀ q < 5, 1 ≤ ready.num QTR_PAT_FREE_WORDS q) ∧
    leastBelow (fun n => (Store.get? ready.cls.images n).isNone) 64 = some 0 ∧
    outcome (.patLoad sealed1 0 (List.replicate 16 0) true) (held sealed1 0x0207 (staged patternImage ready)) = some (0, 31, 0) := by
  unfold Taken; decide +kernel

theorem test_patFree : Taken sealed1 0x0208 false (held sealed1 0x0208 { ready with cls := { ready.cls with images := [(2, ⟨[], []⟩)] } }) ∧
    imageNamed (held sealed1 0x0208 { ready with cls := { ready.cls with images := [(2, ⟨[], []⟩)] } }) 2 = false ∧
    (outcome (.patFree sealed1 2) (held sealed1 0x0208 { ready with cls := { ready.cls with images := [(2, ⟨[], []⟩)] } })).map (fun x => x.1) = some 0 := by
  unfold Taken; decide +kernel

theorem test_hashGroupSet : Taken sealed1 0x0209 false (held sealed1 0x0209 ready) ∧ outcome (.hashGroupSet sealed1 255 3 7 12 true false) (held sealed1 0x0209 ready) = some (0, 31, 0) ∧
    (outcome (.hashGroupSet sealed1 255 3 7 13 true false) (held sealed1 0x0209 ready)).map (fun x => x.1) = some 1 := by
  unfold Taken; decide +kernel

theorem test_indirWrite : Taken sealed1 0x020A false (held sealed1 0x020A (staged (leBytes 4 5) ready)) ∧ (numbersOf (leBytes 4 5) 0 4 1).all memberGood = true ∧
    outcome (.indirWrite sealed1 0 255 4095) (held sealed1 0x020A (staged (leBytes 4 5) ready)) = some (0, 31, 0) ∧
    (outcome (.indirWrite sealed1 0 255 4096) (held sealed1 0x020A (staged (leBytes 4 5) ready))).map (fun x => x.1) = some 1 := by
  unfold Taken; decide +kernel

theorem test_indirCommit : Taken sealed1 0x020B false (held sealed1 0x020B ready) ∧ ((after (.indirCommit sealed1 255) (held sealed1 0x020B ready)).host.waiting.map (fun w => w.key)) = [255] := by
  unfold Taken; decide +kernel

theorem test_xprByteclassWrite : Taken sealed1 0x020C false (held sealed1 0x020C ready) ∧ outcome (.xprByteclassWrite sealed1 31 255 (2 ^ 20 - 1)) (held sealed1 0x020C ready) = some (0, 7, 0) ∧
    (outcome (.xprByteclassWrite sealed1 32 0 0) (held sealed1 0x020C ready)).map (fun x => x.1) = some 1 := by
  unfold Taken; decide +kernel

theorem test_xprTcamCommit : Taken sealed1 0x020D false (held sealed1 0x020D ready) ∧ ((after (.xprTcamCommit sealed1) (held sealed1 0x020D ready)).host.waiting.map (fun w => w.detail)) = [7] := by
  unfold Taken; decide +kernel

-- Forwarding tables

theorem test_l2Add : Taken sealed1 0x0300 false (held sealed1 0x0300 ready) ∧ l2Named 4095 (2 ^ 48 - 1) = true ∧ l2Named 4096 0 = false ∧
    cannotPlace (held sealed1 0x0300 ready) 0 (l2Key 1 (beBytes 6 2)) (zeros 32) = [] := by
  unfold Taken; decide +kernel

theorem test_l2Del : Taken sealed1 0x0301 false (held sealed1 0x0301 ready) ∧ outcome (.l2Del sealed1 1 2) (held sealed1 0x0301 ready) = some (0, 31, 0) := by
  unfold Taken; decide +kernel

theorem test_l2Flush : Taken sealed1 0x0302 false (held sealed1 0x0302 ready) ∧ outcome (.l2Flush sealed1 none none true) (held sealed1 0x0302 ready) = some (0, 31, 0) := by
  unfold Taken; decide +kernel

theorem test_l2Read : Taken plain1 0x0303 true (held plain1 0x0303 ready) ∧ Store.get? (after (.l2Read plain1 4 1 2 64) (held plain1 0x0303 ready)).host.buffers 64 = some (zeros 32) := by
  unfold Taken; decide +kernel

/-- A state with an exact-match entry, kind 4, and route instance 7 with length 24 for IPv4. -/
def routed : State :=
  let s := (tableInsert 0 1 (exactKey 4 8191 (beBytes 16 (2 ^ 128 - 1))) (leBytes 2 9) ready).1
  { s with cls := { s.cls with routes := [(7, ⟨2 ^ 24, 0, true⟩)] } }

theorem test_emAdd_emDel : Taken sealed1 0x0304 false (held sealed1 0x0304 ready) ∧ exactNamed 4 8191 (2 ^ 128 - 1) = true ∧ exactNamed 2 1 0 = false ∧
    (tableInsert (referenceQuarter (held sealed1 0x0304 ready)) 1 (exactKey 4 8191 (beBytes (exactBytes 4) (2 ^ 128 - 1))) (leBytes 2 9) (held sealed1 0x0304 ready)).2 = true ∧
    outcome (.emAdd sealed1 4 8191 (2 ^ 128 - 1) 65535) (held sealed1 0x0304 ready) = some (0, 31, 0) ∧
    outcome (.emDel sealed1 4 8191 (2 ^ 128 - 1)) routed = some (0, 31, 1) ∧ outcome (.emDel sealed1 4 8191 0) routed = some (0, 31, 0) := by
  unfold Taken; decide +kernel

/-- The state after a prefix 10.1.2.0/24 was added to instance 7. -/
def prefixed : State := after (.routeAdd sealed1 7 false 24 0x0A010200 5) routed

theorem test_routeAdd_routeDel : Taken sealed1 0x0306 false (held sealed1 0x0306 routed) ∧ prefixNamed routed 7 false 24 0x0A010200 = true ∧
    prefixNamed routed 7 false 24 0x0A010201 = false ∧ prefixNamed routed 7 false 23 0x0A010200 = false ∧
    (addPrefix (tablePlace routed 0 2) 7 24 5 (beBytes 4 0x0A010200) (instLens routed 7 false) (tableOf routed 0 2)).isSome = true ∧
    prefixed.host.completions.map (fun c => c.status) = [0] ∧ Taken sealed1 0x0307 false (held sealed1 0x0307 prefixed) ∧
    ((tableLookup prefixed 0 2 (prefixKey 7 24 (beBytes 4 0x0A010200))).map isPrefix) = some true ∧
    ((after (.routeDel sealed1 7 false 24 0x0A010200) prefixed).host.completions.map (fun c => c.result)) = [0, 1] ∧
    (tableLookup prefixed 0 2 (prefixKey 7 24 (beBytes 4 0x0A010300))).isNone = true := by
  unfold Taken; decide +kernel

theorem test_rtWrite : Taken sealed1 0x0308 false (held sealed1 0x0308 routed) ∧ instHolds (held sealed1 0x0308 routed) 9 = false ∧ (routeInst (held sealed1 0x0308 routed) 7).filter4 = 2 ^ 24 ∧
    outcome (.rtWrite sealed1 7 (2 ^ 24) 0 false) (held sealed1 0x0308 routed) = some (0, 31, 0) := by
  unfold Taken; decide +kernel

theorem test_vrfMapWrite : Taken sealed1 0x030A false (held sealed1 0x030A ready) ∧ outcome (.vrfMapWrite sealed1 4095 8191) (held sealed1 0x030A ready) = some (0, 31, 0) ∧
    ((after (.vrfMapWrite { sealed1 with cseq := 8 } 4095 8191) (after (.rulesetCommit sealed1) (held sealed1 0x030A ready))).host.waiting.map (fun w => w.opcode)) = [0x0201, 0x030A] := by
  unfold Taken; decide +kernel

theorem test_vlanWrite : Taken sealed1 0x030B false (held sealed1 0x030B ready) ∧ outcome (.vlanWrite sealed1 4095 4095 4095 255 true 16383) (held sealed1 0x030B ready) = some (0, 31, 0) := by
  unfold Taken; decide +kernel

theorem test_nhWrite : Taken sealed1 0x030C false (held sealed1 0x030C ready) ∧ outcome (.nhWrite sealed1 65535 0) (held sealed1 0x030C ready) = some (0, 31, 0) ∧
    (outcome (.nhWrite sealed1 65535 (2 ^ 127)) (held sealed1 0x030C ready)).map (fun x => x.1) = some 1 := by
  unfold Taken; decide +kernel

theorem test_rtFree : Taken sealed1 0x0309 false (held sealed1 0x0309 routed) ∧ vrfNames (held sealed1 0x0309 routed) 9 = false ∧ outcome (.rtFree sealed1 9) (held sealed1 0x0309 routed) = some (0, 31, 0) := by
  unfold Taken; decide +kernel

theorem test_tableRehash : Taken sealed1 0x030D false (held sealed1 0x030D ready) ∧
    ((liveQuarters (held sealed1 0x030D ready)).foldl (fun (x : Option State) q => x.bind (rehashOne 0 (held sealed1 0x030D ready).freeWord.toNat q)) (some (held sealed1 0x030D ready))).isSome = true ∧
    runs (.tableRehash sealed1 0 31) (held sealed1 0x030D ready) = true := by
  unfold Taken; decide +kernel

theorem test_mcastWrite : Taken sealed1 0x030E false (held sealed1 0x030E (staged (zeros 32) ready)) ∧ bitsOf (leNat (zeros 32)) 103 102 = 0 ∧
    bitsOf (leNat (zeros 32)) 255 184 = 0 ∧ outcome (.mcastWrite sealed1 0 16383) (held sealed1 0x030E (staged (zeros 32) ready)) = some (0, 31, 0) := by
  unfold Taken; decide +kernel

theorem test_rmacWrite : Taken sealed1 0x030F false (held sealed1 0x030F ready) ∧ outcome (.rmacWrite sealed1 255 (2 ^ 48 - 1) true) (held sealed1 0x030F ready) = some (0, 31, 0) ∧
    Store.get? (after (.rmacWrite sealed1 255 77 true) (held sealed1 0x030F ready)).cls.macs 255 = some 77 := by
  unfold Taken; decide +kernel

end Sys2Proof.Tests
end

