-- ==== Sys2Proof/Tests/Commands.lean ====
section
/-! SUPPORT. For every command of flows, the Felric engine, express streams, ports, time, memory, the pair, faults and services: a concrete
state and operands that meet the hypotheses of its statement, with the outcome that the spec gives it there. -/

namespace Sys2Proof.Tests
set_option Elab.async false
open Sys2Proof.Machine

-- Flows

/-- A firkin copy of the flow whose key is all zeros, not homed, of profile 3. -/
def flow0 : Firkin :=
  ⟨zeros 40, none, 1, true, 3, zeros 16, 0, 0, 0xFFFF, 0, 0, 0, 0, 0, 0, none, 1, 0, 30, zeros 16, ⟨0, 0⟩, true, false, false, true⟩

/-- A state that knows one flow. -/
def oneFlow : State := { ready with flow := { ready.flow with firkin := [(0, flow0)] } }

theorem test_flowRead : Taken plain1 0x0400 true (held plain1 0x0400 ready) ∧ recordOf (held plain1 0x0400 ready) (padTo 40 []) = none ∧ recordOf oneFlow (padTo 40 []) = some flow0 ∧
    Store.get? (after (.flowRead plain1 [] 64) (held plain1 0x0400 ready)).host.buffers 64 = some (zeros 513) := by
  unfold Taken; decide +kernel

theorem test_flowDelete : Taken sealed1 0x0401 false (held sealed1 0x0401 oneFlow) ∧ recordOf (held sealed1 0x0401 oneFlow) (padTo 40 []) = some flow0 ∧
    outcome (.flowDelete sealed1 []) ready = some (0, 0, 0) ∧ runs (.flowDelete sealed1 []) (held sealed1 0x0401 oneFlow) = true := by
  unfold Taken; decide +kernel

theorem test_flowFlush : Taken sealed1 0x0402 false (held sealed1 0x0402 ready) ∧ outcome (.flowFlush sealed1 4095) oneFlow = some (0, 0, 0) ∧
    (outcome (.flowFlush sealed1 4096) oneFlow).map (fun x => x.1) = some 1 := by
  unfold Taken; decide +kernel

theorem test_flowReprofile : Taken sealed1 0x0403 false (held sealed1 0x0403 oneFlow) ∧ outcome (.flowReprofile sealed1 3 4095) (held sealed1 0x0403 oneFlow) = some (0, 0, 1) := by
  unfold Taken; decide +kernel

theorem test_flowRekey : Taken sealed1 0x0404 false (held sealed1 0x0404 ready) ∧ pairState (held sealed1 0x0404 ready) = 0 ∧ (held sealed1 0x0404 ready).flow.rekey = none ∧
    runs (.flowRekey sealed1) (held sealed1 0x0404 ready) = true ∧
    (outcome (.flowRekey sealed1) { ready with flow := (rekeyStart 0 0 ready).flow }).map (fun x => x.1) = some 4 := by
  unfold Taken; decide +kernel

theorem test_profileWrite : Taken sealed1 0x0405 false (held sealed1 0x0405 (staged (zeros 32) ready)) ∧ bitsOf (leNat (zeros 32)) 255 224 = 0 ∧
    Profile.lb (leNat (zeros 32)) = false ∧ outcome (.profileWrite sealed1 0 4095) (held sealed1 0x0405 (staged (zeros 32) ready)) = some (0, 0, 0) := by
  unfold Taken; decide +kernel

theorem test_profileCommit : Taken sealed1 0x0406 false (held sealed1 0x0406 ready) ∧ ((after (.profileCommit sealed1) (held sealed1 0x0406 ready)).host.waiting.map (fun w => w.opcode)) = [0x0406] := by
  unfold Taken; decide +kernel

theorem test_otMapWrite : Taken sealed1 0x0407 false (held sealed1 0x0407 (staged (zeros 136) ready)) ∧
    ((numbersOf (zeros 136) 0 8 17).take 16).any (fun r => bitsOf r 63 36 != 0) = false ∧ bitsOf ((numbersOf (zeros 136) 0 8 17).getD 16 0) 63 9 = 0 ∧
    outcome (.otMapWrite sealed1 0 63) (held sealed1 0x0407 (staged (zeros 136) ready)) = some (0, 0, 0) := by
  unfold Taken; decide +kernel

theorem test_natPoolWrite : Taken sealed1 0x0408 false (held sealed1 0x0408 (staged (leBytes 32 3) ready)) ∧ bitOf (leNat (leBytes 32 3)) 3 = false ∧
    bitsOf (leNat (leBytes 32 3)) 15 13 = 0 ∧ bitsOf (leNat (leBytes 32 3)) 127 80 = 0 ∧ bitOf (poolOf ready 1023) 0 = false ∧
    poolAddrs (leNat (leBytes 32 3)) ≤ 16384 ∧
    outcome (.natPoolWrite sealed1 0 1023) (held sealed1 0x0408 (staged (leBytes 32 3) ready)) = some (0, 0, 0) := by
  unfold Taken; decide +kernel

theorem test_natPoolRead : Taken plain1 0x0409 true (held plain1 0x0409 ready) ∧ Store.get? (after (.natPoolRead plain1 1023 64) (held plain1 0x0409 ready)).host.buffers 64 = some (zeros 36) := by
  unfold Taken; decide +kernel

theorem test_lbServiceWrite : Taken sealed1 0x040A false (held sealed1 0x040A ready) ∧ outcome (.lbServiceWrite sealed1 1023 (2 ^ 32 - 1) 12) (held sealed1 0x040A ready) = some (0, 0, 0) ∧
    (outcome (.lbServiceWrite sealed1 1023 0 13) (held sealed1 0x040A ready)).map (fun x => x.1) = some 1 := by
  unfold Taken; decide +kernel

theorem test_lbIndirWrite : Taken sealed1 0x040B false (held sealed1 0x040B (staged (leBytes 2 5) ready)) ∧
    outcome (.lbIndirWrite sealed1 0 1023 4095) (held sealed1 0x040B (staged (leBytes 2 5) ready)) = some (0, 0, 0) ∧
    (outcome (.lbIndirWrite sealed1 0 1023 4096) (held sealed1 0x040B (staged (leBytes 2 5) ready))).map (fun x => x.1) = some 1 := by
  unfold Taken; decide +kernel

theorem test_lbIndirCommit : Taken sealed1 0x040C false (held sealed1 0x040C ready) ∧ ((after (.lbIndirCommit sealed1 1023) (held sealed1 0x040C ready)).host.waiting.map (fun w => w.key)) = [1023] := by
  unfold Taken; decide +kernel

theorem test_lbMemberWrite : Taken sealed1 0x040D false (held sealed1 0x040D (staged (zeros 32) ready)) ∧ bitOf (leNat (zeros 32)) 15 = false ∧
    bitsOf (leNat (zeros 32)) 79 72 = 0 ∧ bitsOf (leNat (zeros 32)) 127 96 = 0 ∧
    outcome (.lbMemberWrite sealed1 0 65535) (held sealed1 0x040D (staged (zeros 32) ready)) = some (0, 0, 0) := by
  unfold Taken; decide +kernel

theorem test_lbMemberRead : Taken plain1 0x040E true (held plain1 0x040E ready) ∧ runs (.lbMemberRead plain1 65535 64) (held plain1 0x040E ready) = true := by
  unfold Taken; decide +kernel

-- The Felric engine

/-- A program image for slot 1: one word, END 0. -/
def progImage : List Byte := signedImage 2 1 (leBytes 1 1 ++ leBytes 1 0 ++ leBytes 2 1 ++ zeros 4) (leBytes 4 0xFC000000)

theorem test_progLoad : Taken sealed1 0x0500 false (held sealed1 0x0500 (staged progImage ready)) ∧ leField progImage 0 2 = 2 ∧ ready.get ASC_MIN_VER_MIN_VER 2 ≤ leField progImage 2 2 ∧
    progHeader ready progImage = true ∧ programOk (leField progImage 5 1) (numbersOf progImage 64 4 (leField progImage 6 2)) = true ∧
    outcome (.progLoad sealed1 0 true) (held sealed1 0x0500 (staged progImage ready)) = some (0, 0, 0) := by
  unfold Taken; decide +kernel

/-- A state with a program in slot 1. -/
def loaded : State := { ready with fel := { ready.fel with progs := [(1, ⟨1, 0, 0, [0xFC000000]⟩)] } }

theorem test_progUnload : Taken sealed1 0x0501 false (held sealed1 0x0501 loaded) ∧ (Store.get? (held sealed1 0x0501 loaded).fel.progs 1).isSome = true ∧ profileNames (held sealed1 0x0501 loaded).flow.policy0 1 = false ∧
    profileNames (held sealed1 0x0501 loaded).flow.policy1 1 = false ∧ outcome (.progUnload sealed1 1) (held sealed1 0x0501 loaded) = some (0, 0, 0) ∧
    (outcome (.progUnload sealed1 0) (held sealed1 0x0501 loaded)).map (fun x => x.1) ≠ some 0 := by
  unfold Taken; decide +kernel

/-- A task posted by the host, of cluster 0, with TASK_ID 9. -/
def posted : Task := ⟨7, 1, false, 1, 0, false, false, 9, 9, none, 0, 0, 0, 5, zeros 40, zeros 40, 0⟩

/-- A state in which the posted task is queued, and one in which core 0 runs it. -/
def queued : State := { loaded with fel := { loaded.fel with ready := [(1, [posted])] } }
def running0 (p : Prog) : Running := ⟨posted, p, 0, List.replicate 16 0, zeros 256, zeros 64, [], none, [], 0, 0, none⟩
def onCore (r : Running) : State := { loaded with fel := { loaded.fel with running := [(0, r)] } }

theorem test_taskPost : Taken sealed1 0x0502 false (held sealed1 0x0502 loaded) ∧ runs (.taskPost sealed1 1 5 []) (held sealed1 0x0502 loaded) = true := by
  unfold Taken; decide +kernel

theorem test_taskCancel : Taken sealed1 0x0503 false (held sealed1 0x0503 queued) ∧ (held sealed1 0x0503 queued).fel.running.any (fun e => e.2.task.ident == 9) = false ∧
    (List.range 4).any (fun l => (queuedTasks (held sealed1 0x0503 queued) l).any (fun t => t.ident == 9 && t.kind == 7)) = true ∧
    outcome (.taskCancel sealed1 9) (held sealed1 0x0503 queued) = some (0, 0, 0) ∧ outcome (.taskCancel sealed1 9) (onCore (running0 ⟨1, 0, 0, []⟩)) = some (0x0B, 0, 0) := by
  unfold Taken; decide +kernel

theorem test_bankOwnSet : Taken sealed1 0x0504 false (held sealed1 0x0504 ready) ∧ outcome (.bankOwnSet sealed1 31 0x7F) (held sealed1 0x0504 ready) = some (0, 0, 0) ∧
    outcome (.bankOwnSet sealed1 31 0x41) (held sealed1 0x0504 ready) = some (0, 0, 0) ∧ (outcome (.bankOwnSet sealed1 31 0x42) (held sealed1 0x0504 ready)).map (fun x => x.1) = some 1 := by
  unfold Taken; decide +kernel

theorem test_bankRead : Taken sealed1 0x0505 false (held sealed1 0x0505 ready) ∧ outcome (.bankRead sealed1 31 (262144 - 64)) (held sealed1 0x0505 ready) = some (0, 0, 0) ∧
    (outcome (.bankRead sealed1 31 (262144 - 63)) (held sealed1 0x0505 ready)).map (fun x => x.1) = some 1 := by
  unfold Taken; decide +kernel

-- Express streams and gates, ports, parked queues

theorem test_streamWrite : Taken sealed1 0x0600 false (held sealed1 0x0600 (staged (leBytes 48 1) ready)) ∧ streamReserved 1 = false ∧ streamArg ready 16383 1 = false ∧
    (streamEgress 1).any (overCommitted ready 16383 1) = false ∧ outcome (.streamWrite sealed1 0 16383) (held sealed1 0x0600 (staged (leBytes 48 1) ready)) = some (0, 0, 0) := by
  unfold Taken; decide +kernel

theorem test_streamWrite_clear : Taken sealed1 0x0600 false (held sealed1 0x0600 (staged (zeros 48) ready)) ∧ streamReserved (leNat (zeros 48)) = false ∧
    bitOf (leNat (zeros 48)) 0 = false ∧ outcome (.streamWrite sealed1 0 0) (held sealed1 0x0600 (staged (zeros 48) ready)) = some (0, 0, 0) := by
  unfold Taken; decide +kernel

theorem test_streamRead : Taken plain1 0x0601 true (held plain1 0x0601 ready) ∧
    (Store.get? (after (.streamRead plain1 16383 64) (held plain1 0x0601 ready)).host.buffers 64).map (fun b => b.length) = some 104 := by
  unfold Taken; decide +kernel

theorem test_streamUnblock : Taken sealed1 0x0602 false (held sealed1 0x0602 ready) ∧ outcome (.streamUnblock sealed1 16383) (held sealed1 0x0602 ready) = some (0, 0, 0) := by
  unfold Taken; decide +kernel

theorem test_sgateWrite : Taken sealed1 0x0603 false (held sealed1 0x0603 (staged (leBytes 4 1000) ready)) ∧
    (numbersOf (leBytes 4 1000) 0 4 1).any (fun e => bitsOf e 31 25 != 0) = false ∧
    outcome (.sgateWrite sealed1 0 255 1 999999999 1000 true) (held sealed1 0x0603 (staged (leBytes 4 1000) ready)) = some (0, 0, 0) ∧
    (outcome (.sgateWrite sealed1 0 255 1 1000000000 1000 true) (held sealed1 0x0603 (staged (leBytes 4 1000) ready))).map (fun x => x.1) = some 1 := by
  unfold Taken; decide +kernel

/-- A gate list of one entry of 1000 ns, cycle 1000 ns, base 1 ms. -/
def list1 : GateList := ⟨[1000], 1000000, 1000, true, 1000000, false⟩
def gated : State := { ready with xpr := { ready.xpr with gates := [(255, ⟨some list1, none, none⟩)] } }

theorem test_sgateCommit : Taken sealed1 0x0604 false (held sealed1 0x0604 gated) ∧ (Store.get? (held sealed1 0x0604 gated).xpr.gates 255).bind (fun g => g.admin) = some list1 ∧
    listOk 64 (nsStamp list1.base) list1.cycle list1.entries (fun e => 32 ≤ bitsOf e 23 0) = true ∧ outcome (.sgateCommit sealed1 255) (held sealed1 0x0604 gated) = some (0, 0, 0) ∧
    listStart 1000000 1000 0 = (1000000, false) ∧ listStart 0 1000 2500 = (4000, true) := by
  unfold Taken; decide +kernel

/-- Port 95 with an admin list of one entry of 1000 ns and a cycle of 1000 ns. -/
def admin95 : State := ((ready.put SCH_GCL_CFG_ADMIN_LEN 1 95).put SCH_GCL_CFG_ADMIN_CYCLE_NS 1000 95).setReg SCH_GCL_ADMIN 1000 95 0

theorem test_gclCommit : Taken sealed1 0x0605 false (held sealed1 0x0605 admin95) ∧ (held sealed1 0x0605 admin95).get SCH_GCL_CFG_ADMIN_LEN 95 ≤ 1024 ∧
    listOk 1024 ⟨0, 0⟩ ((held sealed1 0x0605 admin95).get SCH_GCL_CFG_ADMIN_CYCLE_NS 95) (adminEntries (held sealed1 0x0605 admin95) 95) (fun e => 32 ≤ gateInterval e && gateOp e ≤ 2) = true ∧
    outcome (.gclCommit sealed1 95) (held sealed1 0x0605 admin95) = some (0, 0, 0) ∧ (outcome (.gclCommit sealed1 96) (held sealed1 0x0605 admin95)).map (fun x => x.1) = some 1 := by
  unfold Taken; decide +kernel

theorem test_gclCancel : Taken sealed1 0x0606 false (held sealed1 0x0606 { ready with egr := { ready.egr with gclPend := [(95, list1)] } }) ∧
    outcome (.gclCancel sealed1 95) (held sealed1 0x0606 { ready with egr := { ready.egr with gclPend := [(95, list1)] } }) = some (0, 0, 0) := by
  unfold Taken; decide +kernel

theorem test_gclStatus : Taken sealed1 0x0607 false (held sealed1 0x0607 ready) ∧ outcome (.gclStatus sealed1 95) (held sealed1 0x0607 ready) = some (0, 0, 0) ∧
    (after (.gclStatus sealed1 95) ((held sealed1 0x0607 ready).put SCH_GCL_STAT_STEPPED 1 95)).on SCH_GCL_STAT_STEPPED 95 = false := by
  unfold Taken; decide +kernel

theorem test_portQuiet_portUnquiet : Taken sealed1 0x0700 false (held sealed1 0x0700 ready) ∧ Taken sealed1 0x0701 false (held sealed1 0x0701 ready) ∧
    outcome (.portQuiet sealed1 95) ready = some (0, 0, 0) ∧ outcome (.portUnquiet sealed1 95) ready = some (0, 0, 0) ∧
    (outcome (.portQuiet sealed1 96) ready).map (fun x => x.1) = some 1 := by
  unfold Taken; decide +kernel

/-- Queue 767 parked, with no frame. -/
def parkedQ : State := { ready with buf := { ready.buf with queues := [(767, { noQueue with parked := true })] } }

theorem test_parked : Taken sealed1 0x0702 false (held sealed1 0x0702 parkedQ) ∧ Taken sealed1 0x0703 false (held sealed1 0x0703 parkedQ) ∧ Taken sealed1 0x0704 false (held sealed1 0x0704 parkedQ) ∧
    (queueOf parkedQ 767).parked = true ∧ outcome (.parkRelease sealed1 767 0) parkedQ = some (0, 0, 0) ∧
    outcome (.parkReturn sealed1 767) parkedQ = some (0, 0, 0) ∧ outcome (.parkDiscard sealed1 767) parkedQ = some (0, 0, 0) := by
  unfold Taken; decide +kernel

-- Time

/-- A servo session in STATE 1. -/
def servo : State := ready.put TIM_STAT_STATE 1

theorem test_timeSession : Taken sealed1 0x0800 false (held sealed1 0x0800 ready) ∧ servo.get TIM_STAT_STATE = 1 ∧ inSession servo = true ∧ Taken sealed1 0x0803 false (held sealed1 0x0803 servo) ∧
    runs (.timeSessionClose sealed1) servo = true := by
  unfold Taken; decide +kernel

theorem test_timeStep : Taken sealed1 0x0801 false (held sealed1 0x0801 servo) ∧ stepTarget (held sealed1 0x0801 servo) 1 0 ⟨2 ^ 48 - 1, 999999999⟩ = some ((2 ^ 48 - 1) * 10 ^ 9 + 999999999) ∧
    stepTarget (held sealed1 0x0801 servo) 0 (-1) ⟨0, 0⟩ = none ∧ runs (.timeStep sealed1 1 0 7 5) (held sealed1 0x0801 servo) = true := by
  unfold Taken; decide +kernel

theorem test_timeAdj : Taken sealed1 0x0802 false (held sealed1 0x0802 servo) ∧ (after (.timeAdj sealed1 (2 ^ 32 + 1) (2 ^ 32) (2 ^ 32 - 1)) (held sealed1 0x0802 servo)).num TIM_INCR = 2 ^ 32 + 1 ∧
    (after (.timeAdj sealed1 (2 ^ 32 + 1) (2 ^ 32) (2 ^ 32 - 1)) (held sealed1 0x0802 servo)).get TIM_TEMP_TEMP_LEFT = 2 ^ 32 - 1 := by
  unfold Taken; decide +kernel

theorem test_timePinSet : Taken sealed1 0x0804 false (held sealed1 0x0804 ready) ∧ pinArg 3 3 8 999999999 100 = false ∧ pinArg 4 1 0 0 0 = false ∧ pinArg 4 2 0 0 0 = true ∧
    pinArg 3 3 7 0 100 = true ∧ pinArg 3 3 8 0 99 = true ∧ outcome (.timePinSet sealed1 3 3 0 0 0 0 8 999999999 0 100) (held sealed1 0x0804 ready) = some (0, 0, 0) := by
  unfold Taken; decide +kernel

theorem test_timeWake : Taken sealed1 0x0805 false (held sealed1 0x0805 ready) ∧ (held sealed1 0x0805 ready).get PRT_QMUX_MOVED ≠ 3 ∧ fenced (held sealed1 0x0805 ready) 3 = false ∧
    outcome (.timeWake sealed1 3 1 0) (held sealed1 0x0805 ready) = some (0, 0, 0) ∧ (after (.timeWake sealed1 3 1 0) (held sealed1 0x0805 ready)).on TIM_WAKE_LO_PENDING 3 = true ∧
    (after (.timeWake sealed1 3 1 0) ((held sealed1 0x0805 ready).put PRT_QMUX_MOVED 3)).on TIM_WAKE_LO_PENDING 4 = true ∧
    outcome (.timeWake sealed1 3 1 0) ((held sealed1 0x0805 ready).put FLT_FENCE_STAT_FENCED 8) = some (0x0A, 0, 0) := by
  unfold Taken; decide +kernel

-- Memory and the pair

/-- Eight channels of one supported DIMM. -/
def dimms8 : List Dimms := List.replicate 8 ⟨1, 32, 1, false, false, true⟩

theorem test_memInit : Taken sealed1 0x0900 false (held sealed1 0x0900 ready) ∧ (noteCommand 0x0900 (held sealed1 0x0900 ready)).mem.latched = false ∧ partitionOk 16 2 4 20 = true ∧
    partitionOk 33 0 1 15 = false ∧ popErrors dimms8 = [] ∧ popErrors (dimms8.set 3 ⟨1, 32, 1, true, false, true⟩) = [3] ∧
    ((after (.memInit sealed1 16 2 4 20 false dimms8) (held sealed1 0x0900 ready)).host.waiting.map (fun w => w.opcode)) = [0x0900] := by
  unfold Taken; decide +kernel

theorem test_memRetrain : Taken sealed1 0x0901 false (held sealed1 0x0901 ready) ∧ (noteCommand 0x0901 (held sealed1 0x0901 ready)).on MEM_DDR_STAT_FENCED 7 = false ∧ chanBusy (noteCommand 0x0901 (held sealed1 0x0901 ready)) 7 = false ∧
    (after (.memRetrain sealed1 7) (held sealed1 0x0901 ready)).on MEM_DDR_STAT_TRAINING 7 = true := by
  unfold Taken; decide +kernel

theorem test_memSpeed : Taken sealed1 0x0902 false (held sealed1 0x0902 ready) ∧ (noteCommand 0x0902 (held sealed1 0x0902 ready)).on MEM_DDR_STAT_FREQ_PENDING 7 = false ∧
    (after (.memSpeed sealed1 7 2) (held sealed1 0x0902 ready)).on MEM_DDR_STAT_TRAINING 7 = true ∧ (outcome (.memSpeed sealed1 7 3) (held sealed1 0x0902 ready)).map (fun x => x.1) = some 1 := by
  unfold Taken; decide +kernel

theorem test_memHbmReintegrate : Taken sealed1 0x0903 false (held sealed1 0x0903 (ready.put MEM_HBM_STAT_PC_FAILED 4 1)) ∧
    outcome (.memHbmReintegrate sealed1 1 4) (held sealed1 0x0903 (ready.put MEM_HBM_STAT_PC_FAILED 4 1)) = some (0, 0, 0) := by
  unfold Taken; decide +kernel

/-- A device whose memory is initialised. -/
def memReady : State := ready.put MEM_INIT_CFG_DONE 1

theorem test_varPairSetup : Taken sealed1 0x0A00 false (held sealed1 0x0A00 memReady) ∧ pairState (noteCommand 0x0A00 (held sealed1 0x0A00 memReady)) = 0 ∧
    (noteCommand 0x0A00 (held sealed1 0x0A00 memReady)).on MEM_INIT_CFG_DONE = true ∧ ((after (.varPairSetup sealed1 (2 ^ 64 - 1) 95 (2 ^ 48 - 1)) (held sealed1 0x0A00 memReady)).num VAR_PARTNER_ID) = 2 ^ 64 - 1 := by
  unfold Taken; decide +kernel

theorem test_varPairDissolve_varSolo : Taken sealed1 0x0A01 false (held sealed1 0x0A01 ready) ∧ Taken sealed1 0x0A02 false (held sealed1 0x0A02 (ready.put VAR_STAT_STATE 5)) ∧
    pairState (noteCommand 0x0A02 (ready.put VAR_STAT_STATE 5)) = 5 ∧ runs (.varPairDissolve sealed1) ready = true ∧
    outcome (.varSolo sealed1) (ready.put VAR_STAT_STATE 5) = some (0, 0, 0) := by
  unfold Taken; decide +kernel

-- Faults and resets

theorem test_faultSet : Taken sealed1 0x0B00 false (held sealed1 0x0B00 ready) ∧ faultSetArg (noteCommand 0x0B00 (held sealed1 0x0B00 ready)) srcRefLost 3 false false = false ∧
    faultSetArg (held sealed1 0x0B00 ready) srcRefLost 4 false false = true ∧ (after (.faultSet sealed1 srcRefLost 3 false false false) (held sealed1 0x0B00 ready)).on FLT_SRC_CFG_ALARM srcRefLost = true := by
  unfold Taken; decide +kernel

theorem test_faultClear : Taken sealed1 0x0B01 false (held sealed1 0x0B01 ready) ∧ sourceNamed srcRefLost = true ∧ outcome (.faultClear sealed1 srcRefLost false) (held sealed1 0x0B01 ready) = some (0, 0, 0) ∧
    (after (.faultClear sealed1 srcRefLost false) { (held sealed1 0x0B01 ready) with faults := { (held sealed1 0x0B01 ready).faults with pending := [(srcRefLost, 0)] } }).faults.pending = [] ∧ outcome (.faultClear sealed1 1 true) (held sealed1 0x0B01 ready) = some (0, 0, 0) := by
  unfold Taken; decide +kernel

theorem test_faultInject : Taken sealed1 0x0B02 false (held sealed1 0x0B02 (ready.put FLT_CTRL_INJECT_EN 1)) ∧ (noteCommand 0x0B02 (held sealed1 0x0B02 (ready.put FLT_CTRL_INJECT_EN 1))).on FLT_CTRL_INJECT_EN = true ∧
    7 < injectUnits 7 ∧ stampOk ⟨1, 0⟩ = true ∧
    (after (.faultInject sealed1 7 7 (some ⟨1, 0⟩)) (held sealed1 0x0B02 (ready.put FLT_CTRL_INJECT_EN 1))).faults.injections = [⟨7, 7, some ⟨1, 0⟩⟩] := by
  unfold Taken; decide +kernel

theorem test_fence : Taken sealed1 0x0B03 false (held sealed1 0x0B03 ready) ∧ fenced (after (.fence sealed1 19) (held sealed1 0x0B03 ready)) 19 = true ∧
    (outcome (.fence sealed1 20) (held sealed1 0x0B03 ready)).map (fun x => x.1) = some 1 := by
  unfold Taken; decide +kernel

theorem test_reintegrate : Taken sealed1 0x0B04 false (held sealed1 0x0B04 (ready.put FLT_FENCE_STAT_FENCED (2 ^ 19))) ∧ fenced (noteCommand 0x0B04 (held sealed1 0x0B04 (ready.put FLT_FENCE_STAT_FENCED (2 ^ 19)))) 19 = true ∧
    (noteCommand 0x0B04 ready).power.inReset.contains 19 = false ∧ runs (.reintegrate sealed1 19 false true) (held sealed1 0x0B04 (ready.put FLT_FENCE_STAT_FENCED (2 ^ 19))) = true := by
  unfold Taken; decide +kernel

theorem test_reintegrate_back : Taken sealed1 0x0B04 false (held sealed1 0x0B04 (ready.put PRT_QMUX_MOVED 2)) ∧ (noteCommand 0x0B04 (held sealed1 0x0B04 (ready.put PRT_QMUX_MOVED 2))).get PRT_QMUX_MOVED = 2 ∧
    fenced (noteCommand 0x0B04 (held sealed1 0x0B04 (ready.put PRT_QMUX_MOVED 2))) 2 = false ∧ outcome (.reintegrate sealed1 2 true true) (held sealed1 0x0B04 (ready.put PRT_QMUX_MOVED 2)) = some (0, 0, 0) := by
  unfold Taken; decide +kernel

theorem test_unitReset : Taken sealed1 0x0B05 false (held sealed1 0x0B05 ready) ∧ outcome (.unitReset sealed1 8) (held sealed1 0x0B05 ready) = some (0, 0, 0) ∧
    (outcome (.unitReset sealed1 17) (held sealed1 0x0B05 ready)).map (fun x => x.1) = some 1 := by
  unfold Taken; decide +kernel

theorem test_deviceReset : Taken sealed1 0x0B06 false (held sealed1 0x0B06 ready) ∧ runs (.deviceReset ⟨sealed1, 1000⟩) (held sealed1 0x0B06 ready) = true := by
  unfold Taken; decide +kernel

theorem test_bbRead : Taken plain1 0x0B07 true (held plain1 0x0B07 ready) ∧ bitOf ((noteCommand 0x0B07 (held plain1 0x0B07 ready)).get FLT_BB_STAT_SEALED) 1 = false ∧
    bitOf ((noteCommand 0x0B07 ((held plain1 0x0B07 ready).put FLT_BB_STAT_SEALED 2)).get FLT_BB_STAT_SEALED) 1 = true ∧
    (Store.get? (after (.bbRead plain1 1 (bbSize - 1) 1 64) (held plain1 0x0B07 ready)).host.buffers 64).map (fun b => b.length) = some 32 ∧
    (outcome (.bbRead plain1 1 bbSize 0 64) (held plain1 0x0B07 ready)).map (fun x => x.1) = some 1 := by
  unfold Taken; decide +kernel

-- HKS, counters, power, single lookups

/-- A patch image of one word: END, with its match table off. -/
def patchImage (w : Nat) : List Byte := signedImage 1 1 (leBytes 2 1 ++ zeros 2 ++ leBytes 4 0) (zeros 128 ++ leBytes 16 w)

theorem test_hksPatchLoad : Taken sealed1 0x0C00 false (held sealed1 0x0C00 (staged (patchImage 0) ready)) ∧ leField (patchImage 0) 0 2 = 1 ∧
    ready.get ASC_MIN_VER_MIN_VER 1 ≤ leField (patchImage 0) 2 2 ∧ (imageBody (patchImage 0)).length = 128 + 16 * leField (patchImage 0) 4 2 ∧
    patchBad ready (leField (patchImage 0) 4 2) (leField (patchImage 0) 8 4) (numbersOf (imageBody (patchImage 0)) 0 4 32)
      (numbersOf (imageBody (patchImage 0)) 128 16 1) true = false ∧ ready.on HKS_STAT_PATCH_USED = false ∧
    outcome (.hksPatchLoad sealed1 0 true true) (held sealed1 0x0C00 (staged (patchImage 0) ready)) = some (0, 0, 0) := by
  unfold Taken; decide +kernel

theorem test_hksStatus : Taken plain1 0x0C01 true (held plain1 0x0C01 ready) ∧ (Store.get? (after (.hksStatus plain1 64) (held plain1 0x0C01 ready)).host.buffers 64).map (fun b => b.length) = some 22 := by
  unfold Taken; decide +kernel

theorem test_cntRead_cntSnapshot : Taken plain1 0x0D00 true (held plain1 0x0D00 ready) ∧ Taken plain1 0x0D01 true (held plain1 0x0D01 ready) ∧ listFits [HST_DB_ERR_CNT.addr 0 0 0] = true ∧
    listFits [] = false ∧ listFits (List.replicate 256 0) = true ∧ listFits (List.replicate 257 0) = false ∧
    outcome (.cntRead plain1 [HST_DB_ERR_CNT.addr 0 0 0] 64) ready = some (0, 0, 0) ∧ outcome (.cntSnapshot plain1 [HST_DB_ERR_CNT.addr 0 0 0] 64) ready = some (0, 0, 0) := by
  unfold Taken; decide +kernel

theorem test_cntClear : Taken sealed1 0x0D02 false (held sealed1 0x0D02 (staged (leBytes 4 (HST_DB_ERR_CNT.addr 0 0 0)) (ready.bump HST_DB_ERR_CNT))) ∧
    [HST_DB_ERR_CNT.addr 0 0 0].any (fun i => counterAt false i = .none) = false ∧ (ready.bump HST_DB_ERR_CNT).num HST_DB_ERR_CNT = 1 ∧
    (after (.cntClear sealed1 0 1) (held sealed1 0x0D02 (staged (leBytes 4 (HST_DB_ERR_CNT.addr 0 0 0)) (ready.bump HST_DB_ERR_CNT)))).num HST_DB_ERR_CNT = 0 := by
  unfold Taken; decide +kernel

theorem test_unitRest_unitWake : Taken sealed1 0x0E00 false (held sealed1 0x0E00 ready) ∧ Taken sealed1 0x0E01 false (held sealed1 0x0E01 ready) ∧ fenced ready 16 = false ∧
    outcome (.unitRest sealed1 16) ready = some (0, 0, 0) ∧ outcome (.unitWake sealed1 16) ready = some (0, 0, 0) ∧
    (outcome (.unitWake sealed1 17) ready).map (fun x => x.1) = some 1 := by
  unfold Taken; decide +kernel

theorem test_ageMeasure_marginReplan : Taken sealed1 0x0E02 false (held sealed1 0x0E02 ready) ∧ Taken sealed1 0x0E03 false (held sealed1 0x0E03 ready) ∧ ready.power.planRunning = false ∧
    outcome (.ageMeasure sealed1 []) ready = some (0, 0, 0) ∧ runs (.marginReplan sealed1 [] []) ready = true := by
  unfold Taken; decide +kernel

theorem test_diagLookup : Taken plain1 0x0F00 true (held plain1 0x0F00 ready) ∧ runs (.diagLookup plain1 1 0 [] 64) (held plain1 0x0F00 ready) = true := by
  unfold Taken; decide +kernel

theorem test_undefinedOpcode : opcodeDefined 0x010B = false ∧ opcodeDefined 0x0112 = true ∧ opcodeDefined 0x1000 = false ∧
    outcome (.undefinedOpcode sealed1 0x1000) (held sealed1 0x1000 ready) = some (1, 0, 0) := by
  decide +kernel

end Sys2Proof.Tests
end

