-- ==== Sys2Proof/Tests/Devices.lean ====
section
/-! SUPPORT. For the events of the clock, power, faults, resets, memory, the pair and HKS, and for the rules on stamps, entries, events and the
black box: concrete states and operands that meet the hypotheses of their statements, with what the spec says they do there. -/

namespace Sys2Proof.Tests
set_option Elab.async false
open Sys2Proof.Machine

/-- Ticks of 1 ns that have passed. -/
def passed (n : Nat) (s : State) : State := { s with time := { s.time with ticks := s.time.ticks + n } }

-- Time and power

/-- R293: with INCR nominal each tick is one nanosecond, and seconds carry. -/
theorem test_timeTick : (after (.timeTick 3) { ready with time := { ready.time with ns := 999999998 } }).time.ns = 1 ∧
    (after (.timeTick 3) { ready with time := { ready.time with ns := 999999998 } }).time.sec = 1 := by
  decide +kernel

theorem test_clockEnds : (after .ppsPulseEnd (passed 999999000 { ready with time := { ready.time with ppsPulse := true } })).time.ppsPulse = false ∧
    (after .ppsPulseEnd { ready with time := { ready.time with ppsPulse := true } }).time.ppsPulse = true ∧ ready.get TIM_TEMP_TEMP_LEFT = 0 ∧
    (after .tempRateEnd (ready.put TIM_STAT_TEMP_ACTIVE 1)).on TIM_STAT_TEMP_ACTIVE = false ∧ inSession (ready.put TIM_STAT_STATE 2) = true ∧
    clamp 100 60000 (ready.get TIM_CTRL_WD_MS) * 1000000 ≤ (passed (6 * 10 ^ 10) ready).clock ∧
    runs .servoWatchdogExpiry (passed (6 * 10 ^ 10) (ready.put TIM_STAT_STATE 2)) = true := by
  decide +kernel

theorem test_references : ready.power.refPresent = true ∧ runs .refLost ready = true ∧
    (after .refReturn { ready.put TIM_STAT_REF_LOST 1 with power := { ready.power with refPresent := false } }).on TIM_STAT_REF_LOST = false ∧
    ready.power.unlocked.contains 3 = false ∧ (List.range 4).all (fun p => runs (.pllUnlock p) ready) = true ∧ runs (.pllUnlock 4) ready = false := by
  decide +kernel

/-- Pin 4 captures a rising edge, once within 100 ns. -/
def capture : State := (ready.put TIM_PIN_CFG_MODE 1 4).put TIM_PIN_CFG_EDGE 1 4

theorem test_pinCapture : capture.get TIM_PIN_CFG_MODE 4 = 1 ∧ capture.get TIM_PIN_CFG_EDGE 4 = 1 ∧ (pinOf capture 4).lastEdge = none ∧
    (after (.pinCapture 4 1) capture).get TIM_CAP_HI_CAP_SEQ 4 = 1 ∧ (after (.pinCapture 4 0) capture).get TIM_CAP_HI_CAP_SEQ 4 = 0 ∧
    runs (.pinCapture 4 1) (onPin 4 (fun x => { x with lastEdge := some 0 }) (passed 99 capture)) = true ∧
    (after (.pinCapture 4 1) (onPin 4 (fun x => { x with lastEdge := some 0 }) (passed 100 capture))).get TIM_CAP_HI_CAP_SEQ 4 = 1 := by
  decide +kernel

theorem test_pinPulse : (pinOf (after (.pinPulse 0) (onPin 0 (fun x => { x with next := some 0 }) (ready.put TIM_PIN_CFG_MODE 2 0))) 0).pulsing = true ∧
    (pinOf (after (.pinPulseWidthEnd 0) (passed (10 ^ 9) (onPin 0 (fun x => { x with pulsing := true }) ready))) 0).pulsing = false ∧
    (pinOf (after (.pinPulseWidthEnd 0) (onPin 0 (fun x => { x with pulsing := true }) (ready.put TIM_PIN_CFG_WIDTH_NS 100 0))) 0).pulsing = true ∧ runs (.pinPulse 5) ready = false := by
  decide +kernel

theorem test_timeWakeFire : (ready.put TIM_WAKE_LO_PENDING 1 4).on TIM_WAKE_LO_PENDING 4 = true ∧ wakeDue ready (wakeAt (ready.put TIM_WAKE_LO_PENDING 1 4) 4) = true ∧
    (after (.timeWakeFire 4) (ready.put TIM_WAKE_LO_PENDING 1 4)).on TIM_WAKE_LO_PENDING 4 = false := by
  decide +kernel

/-- Unit u resting, or waking. -/
def rests (u : Nat) : State := setSleep u true false ready
def wakes (u : Nat) : State := setSleep u false true ready

theorem test_sleep : resting (rests 16) 16 = true ∧ fenced (rests 16) 16 = false ∧ waking (after (.unitWakeRequest 16) (rests 16)) 16 = true ∧
    (after (.unitWakeRequest 16) (rests 16)).num PWR_WAKE_CNT 16 = 1 ∧ waking (wakes 16) 16 = true ∧
    waking (after (.wakeComplete 16) (wakes 16)) 16 = false ∧ waking (wakes 4) 4 = true ∧ runs (.wakeFail 4) (wakes 4) = true := by
  decide +kernel

theorem test_restRequests : autoRests (ready.put PWR_REST_CFG_DDR_AUTO 255) 16 = true ∧ unitEmpty ready 16 = true ∧ reserveRests ready 4 = true ∧
    runs (.restRequest 4) ready = true ∧ runs (.restRequest 16) (ready.put PWR_REST_CFG_DDR_AUTO 255) = true ∧
    idleDue (ready.put PWR_REST_CFG_DDR_AUTO 255) 16 = false ∧ idleDue (passed (65535 * 1000) (ready.put PWR_REST_CFG_DDR_AUTO 255)) 16 = true ∧
    resting (after (.idleRestExpiry 16) (passed (65535 * 1000) (ready.put PWR_REST_CFG_DDR_AUTO 255))) 16 = true ∧
    resting (after (.idleRestExpiry 16) (ready.put PWR_REST_CFG_DDR_AUTO 255)) 16 = false ∧ runs (.restRequest 17) ready = false := by
  decide +kernel

/-- Rail 1 is to fall from its set point to 600 mV in steps of 5 mV. -/
def stepping : State := { ready with power := { ready.power with targets := [(1, 600)] } }

theorem test_setpoints : ready.power.planRunning = false ∧ runs (.ageMeasurement [] []) ready = true ∧ targetSet stepping 1 = 600 ∧
    stepping.get PWR_AVS_SETPOINT_MV 1 ≠ 600 ∧ (after (.setpointStep 1 true) stepping).get PWR_AVS_SETPOINT_MV 1 = stepping.get PWR_AVS_SETPOINT_MV 1 - 5 ∧
    runs (.setpointStep 1 false) stepping = true ∧
    (after (.setpointStep 1 true) (after (.setpointStep 1 true) stepping)).get PWR_AVS_SETPOINT_MV 1 = stepping.get PWR_AVS_SETPOINT_MV 1 - 5 ∧
    (after (.setpointStep 1 true) (passed 20000 (after (.setpointStep 1 true) stepping))).get PWR_AVS_SETPOINT_MV 1 = stepping.get PWR_AVS_SETPOINT_MV 1 - 10 ∧
    (after (.avsLinkRetry 1 true) (passed 1000000 { stepping with power := { stepping.power with avsFailed := [1] } })).power.avsFailed = [] ∧
    (after (.avsLinkRetry 1 false) (passed 1000000 { stepping with power := { stepping.power with avsFailed := [1] } })).power.avsFailed = [1] := by
  decide +kernel

theorem test_hours_estimates : (after .hourCount ready).get PWR_HOURS_HOURS = ready.get PWR_HOURS_HOURS ∧
    (after .hourCount (passed (3600 * 10 ^ 9) ready)).get PWR_HOURS_HOURS = ready.get PWR_HOURS_HOURS + 1 ∧ (after (.powerEstimateUpdate 1 2 3) ready).get PWR_ISLAND_W_WATTS 2 = 3 := by decide +kernel

-- Faults, black box, takeovers, start-up, resets

theorem test_faultOccurrence : (sourceInfo srcRefLost).isSome = true ∧ (after (.faultOccurrence srcRefLost 1 2) ready).faults.pending.map (fun e => e.1) = [srcRefLost] ∧
    runs (.faultOccurrence 512 0 0) ready = false := by
  decide +kernel

theorem test_attnPulseEnd : (after .attnPulseEnd { ready with faults := { ready.faults with attnPulse := true } }).faults.attnPulse = false := by decide +kernel

theorem test_freeze : ready.on FLT_BB_STAT_STOPPED = false ∧ ready.faults.collecting = none ∧ (after (.freeze 0x1000) (ready.put FLT_BB_CFG_POST_COUNT 8192)).faults.collecting = some 8192 ∧
    (after (.freeze 0x1000) (ready.put FLT_BB_CFG_POST_COUNT 0)).faults.collecting = none ∧
    (after .postFreezeEnd (passed (10 ^ 7) { ready with faults := { ready.faults with collecting := some 5 } })).faults.collecting = none ∧
    (after .postFreezeEnd { ready with faults := { ready.faults with collecting := some 5 } }).faults.collecting = some 5 := by
  decide +kernel

/-- Buffer 1 is closed and waits for its seal. -/
def sealing : State := { ready with faults := { ready.faults with bbB := { ready.faults.bbB with sealDue := true } } }

theorem test_bbSeal : (bbBuf sealing 1).sealDue = true ∧ sealing.on PWR_READY_AON_READY = true ∧ sealing.on ASC_STAT_ENROLL = false ∧
    bitOf ((after (.bbSealComplete 1) sealing).get FLT_BB_STAT_SEALED) 1 = true ∧
    bitOf ((after (.bbSealComplete 1) { sealing.put ASC_STAT_ENROLL 1 with ascor := { ready.ascor with bbEpochReady := true } }).get FLT_BB_STAT_SEALED) 1 = true ∧
    (after .bbEpoch ready).ascor.bbEpochReady = true ∧ ready.ascor.bbEpochReady = false := by
  decide +kernel

theorem test_qtrTakeover : (after (.qtrTakeover 2 true) { ready with faults := { ready.faults with incoming := [2] } }).faults.incoming = [] ∧
    resting { ready with faults := { ready.faults with incoming := [2] } } 2 = false ∧ runs (.qtrTakeover 2 false) { ready with faults := { ready.faults with incoming := [2] } } = true ∧
    runs (.quarterFailure 4 3) ready = true ∧ runs (.quarterFailure 4 4) ready = false := by
  decide +kernel

theorem test_spareBanks : (after (.spareBankCopy 13) ready).faults.spareCopy = [13] ∧
    (after (.spareCopyComplete 13) { ready with faults := { ready.faults with spareCopy := [13] } }).faults.spareUsed = [13] ∧
    runs (.spareBankCopy 13) { ready with faults := { ready.faults with spareUsed := [13] } } = true ∧ runs (.spareBankCopy 14) ready = false := by
  decide +kernel

theorem test_injectionFire : (after .injectionFire { ready with faults := { ready.faults with injections := [⟨2, 13, some ⟨0, 0⟩⟩] } }).faults.injections = [] := by decide +kernel

theorem test_fenceViolation : fenced (ready.put FLT_FENCE_STAT_FENCED (2 ^ 19)) 19 = true ∧
    runs (.fenceViolation 19) (ready.put FLT_FENCE_STAT_FENCED (2 ^ 19)) = true ∧ runs (.fenceViolation 20) ready = false := by
  decide +kernel

theorem test_resetN : (after .resetN ready).get PWR_READY_LAST_RESET = 1 ∧ barReady (after .resetN ready) = false := by decide +kernel

/-- The stages of start-up, each after the ones before it. -/
def stage (bits : Nat) : State := { State.reset.setReg PWR_READY (BitVec.ofNat 64 bits) with power := { State.reset.power with coreUp := true } }

theorem test_startupStage : (after (.startupStage 1 true false 1 [] []) (stage 0)).on PWR_READY_AON_READY = true ∧
    (after (.startupStage 2 true true 1 [] []) (stage 1)).on PWR_READY_HOST_READY = true ∧ runs (.startupStage 2 false true 1 [] []) (stage 1) = true ∧
    (after (.startupStage 3 true true 1 [] []) (stage 3)).on PWR_READY_EXPRESS_READY = false ∧
    (after (.startupStage 3 true true 1 [] []) { stage 3 with power := { (stage 3).power with ageAt := some 0 } }).on PWR_READY_EXPRESS_READY = true ∧ runs (.startupStage 4 true true 1 [] []) (stage 7) = true ∧
    (stage 7).on PWR_READY_BULK_READY = false ∧ (stage 0).power.aonLost = false := by
  decide +kernel

theorem test_journalReplay : ({ ready with host := { ready.host with journal := [⟨3, 0, false, false, 9, 0x0D00, false, 4, 0, none, false, true, false, false, true, zeros 64, true, true, none⟩] } } : State).host.journal.any
      (fun e => !e.tx && e.ring == 3 && e.replay) = true ∧
    runs (.journalReplay 3) { ready with host := { ready.host with journal := [⟨3, 0, false, false, 9, 0x0D00, false, 4, 0, none, false, true, false, false, true, zeros 64, true, true, none⟩] } } = true := by
  decide +kernel

theorem test_coreReset : runs (.coreReset true) ready = true ∧ runs (.coreReset false) ready = true := by decide +kernel

theorem test_rails : runs (.railFall 0) ready = true ∧ runs (.railFall 10) ready = true ∧ runs (.railFall 11) ready = false ∧
    (after (.railReturn 10) { ready with power := { ready.power with railsOut := [10] } }).power.railsOut = [] := by
  decide +kernel

theorem test_tempCrit : (after (.tempCrit 100) { ready with power := { ready.power with hot := true } }).power.hot = false ∧ ready.power.hot = false ∧
    runs (.tempCrit 114) ready = true ∧ runs (.tempCrit 115) ready = true := by
  decide +kernel

theorem test_unitResetEnd : (after (.unitResetEnd 16) { ready with power := { ready.power with inReset := [16] } }).power.inReset = [] := by decide +kernel

theorem test_health : Store.getD (after (.healthKick 2) (passed 77 ready)).pair.kicks 2 0 = 77 ∧
    clamp 500 10000 (ready.get VAR_TIMING2_KICK_NS) ≤ (passed 10000 ready).clock ∧ runs (.healthKickMissed 2) (passed 10000 ready) = true ∧
    runs (.healthKickMissed 3) ready = false ∧ pairState (ready.put VAR_STAT_STATE 4) = 4 ∧ (after .failSilentCessation (ready.put VAR_STAT_STATE 4)).pair.ceased = true := by
  decide +kernel

-- Memory controllers

theorem test_hbmErrors : (after (.hbmEccError 1 31 false) ready).num MEM_HBM_CE_CNT 1 = 1 ∧ runs (.hbmEccError 1 31 true) ready = true ∧
    rebuildBlocked (ready.put MEM_HBM_STAT_PC_FAILED 8 1) 1 31 = true ∧ rebuildBlocked ready 1 31 = false ∧ runs (.pcFailed 1 31) ready = true ∧
    runs (.hbmEccError 2 0 false) ready = false := by
  decide +kernel

theorem test_ddrEccError : (after (.ddrEccError 7 false 20 0 0 0 0 0 0) ready).num MEM_DDR_CE_CNT 7 = 1 ∧
    (Store.getD (chanOf (after (.ddrEccError 7 false 19 0 0 0 0 0 0) ready) 7).marks 19 0) = 1 := by
  decide +kernel

theorem test_patrolScrub_refresh : (after (.patrolScrub 7 3 true) ready).num MEM_DDR_SCRUB_FIX_CNT 7 = 3 ∧ (after (.patrolScrub 9 3 false) ready).num MEM_HBM_CE_CNT 1 = 3 ∧
    (after (.refresh 7 5 true) ready).num MEM_DDR_REF_POSTPONE_CNT 7 = 0 ∧
    (after (.refresh 7 5 true) (passed 3900 ready)).num MEM_DDR_REF_POSTPONE_CNT 7 = 1 ∧
    (after (.refresh 7 5 true) (passed 1950 (ready.put MEM_DDR_STAT_DIMM_TEMP_C 86 7))).num MEM_DDR_REF_POSTPONE_CNT 7 = 1 ∧
    (chanOf (after (.refresh 7 5 false) (passed 3900 ready)) 7).owed = [] ∧
    (after (.dimmTempRead 7 95) ready).get MEM_DDR_STAT_DIMM_TEMP_C 7 = 95 ∧ runs (.dimmTempRead 7 96) ready = true := by
  decide +kernel

theorem test_memoryRequestIssue : chooseRequest ready 71 [⟨0, 0, false, true, 0, 0, 0, false⟩] = some ⟨0, 0, false, true, 0, 0, 0, false⟩ ∧
    runs (.memoryRequestIssue 71 [⟨0, 0, false, true, 0, 0, 0, false⟩]) ready = true ∧ runs (.memoryRequestIssue 72 []) ready = false := by
  decide +kernel

theorem test_steps : chanBusy ready 7 = false ∧ (chanOf (after (.zqCalibration 7 1 true) ready) 7).stepping = [1] ∧
    (Store.getD (after (.oscillatorReading 7 1 false 42) ready).power.eyePs 7 0) = 42 := by
  decide +kernel

theorem test_passes : runs (.trainingPassComplete 7 true 42) (startPass 7 2 0 ready) = true ∧ runs (.resilver 7) (ready.put MEM_DDR_STAT_RESILVER 1 7) = true ∧
    runs (.channelFenced 7) ready = true ∧ (after (.binChangeApply 7) (ready.put MEM_DDR_STAT_FREQ_PENDING 1 7)).on MEM_DDR_STAT_TRAINING 7 = true := by
  decide +kernel

-- Lanes and containers

/-- A header of 14 zero bytes with its HCRC. -/
def header0 : List Byte := zeros 14 ++ beBytes 2 (crc16 (zeros 14))
def framer (n : Nat) (f : Lane → Lane) : State := (onLane 3 (fun l => f { l with defects := [] }) ready).put VAR_LANE_STAT_FRAMER n 3

/-- R344's check value, and a header that fits. -/
theorem test_crc16 : crc16 [0x31, 0x32, 0x33, 0x34, 0x35, 0x36, 0x37, 0x38, 0x39] = 0x29B1 ∧ headerFits header0 = true ∧ headerFits (header0.set 15 0xAA) = false := by decide +kernel

theorem test_laneFrameHeader : (after (.laneFrameHeader 3 8 header0) ready).get VAR_LANE_STAT_FRAMER 3 = 1 ∧
    (after (.laneFrameHeader 3 4096 header0) (framer 1 (fun l => { l with good := 3 }))).get VAR_LANE_STAT_FRAMER 3 = 2 ∧
    (after (.laneFrameHeader 3 4096 (header0.set 15 0xAA)) (framer 2 (fun l => { l with bad := 6 }))).get VAR_LANE_STAT_FRAMER 3 = 0 ∧
    (after (.laneFrameHeader 3 4096 (header0.set 15 0xAA)) (framer 2 id)).num VAR_HDR_ERR 3 = 1 ∧ runs (.laneFrameHeader 3 4096 header0) (framer 2 id) = true := by
  decide +kernel

theorem test_laneDefect : runs (.laneDefect 3 1 1) ready = true ∧ runs (.laneDefect 3 6 1) ready = true ∧ runs (.laneDefect 3 2 1) ready = true ∧ runs (.laneDefect 4 1 1) ready = false := by
  decide +kernel

theorem test_rdi : ready.on VAR_LANE_STAT_RDI_RX 3 = false ∧ (after (.rdiReceived 3 false) (ready.put VAR_LANE_STAT_RDI_RX 1 3)).on VAR_LANE_STAT_RDI_RX 3 = false ∧
    runs (.rdiReceived 3 true) ready = true := by
  decide +kernel

theorem test_laneRejoin : (varLane (framer 2 id) 3).defects = [] ∧ (varLane (framer 2 id) 3).freeSince + 1000000 ≤ (passed 1000000 (framer 2 id)).clock ∧
    bitOf ((framer 2 id).get VAR_LANE_CFG_LANE_EN) 3 = true ∧ (framer 2 id).on VAR_LANE_STAT_RDI_RX 3 = false ∧ runs (.laneRejoin 3) (passed 1000000 (framer 2 id)) = true := by
  decide +kernel

/-- A multiframe overhead for lane 3 whose check fits. -/
def overhead3 : List Byte := patch (zeros 126) 8 [3] ++ beBytes 2 (crc16 (patch (zeros 126) 8 [3]))

theorem test_multiframe : overhead3.length = 128 ∧ crc16 (overhead3.take 126) = beField overhead3 126 2 ∧ syncLane (onLane 3 (fun l => { l with overhead := overhead3 }) ready) ≠ some 3 ∧
    (varLane (after (.multiframe 3) (onLane 3 (fun l => { l with overhead := overhead3, sender := 3 }) ready)) 3).overhead = [] ∧
    (after (.multiframe 3) (onLane 3 (fun l => { l with overhead := overhead3, sender := 3 }) ready)).faults.pending = [] := by
  decide +kernel

/-- A container with sequence number 1 and no message; and a paired device. -/
def container1 : List Byte := beBytes 4 1 ++ zeros 492
def paired (n : Nat) : State := ready.put VAR_STAT_STATE n

/-- Lane 3 of a paired device in SYNC, within a frame whose payload is taken. -/
def laned (n : Nat) : State := (onLane 3 (fun l => { l with taken := true }) (paired n)).put VAR_LANE_STAT_FRAMER 2 3

theorem test_containerReceive : laneTakes (laned 6) 3 = true ∧ laneTakes (paired 6) 3 = false ∧ pairState (laned 6) = 6 ∧
    runs (.containerReceive ⟨3, container1⟩ true) (laned 6) = true ∧ pairState (laned 3) = 3 ∧
    bitOf (beField container1 12 1) 0 = false ∧ (takeAck 0 0 (laned 3)).pair.recvEpoch % 2 = 0 ∧ bitOf (beField container1 12 1) 2 = false ∧
    0 ≤ seqDiff 1 (laned 3).pair.rxNext ∧ Store.get? (laned 3).pair.early 1 = none ∧
    seqDiff 1 (laned 3).pair.rxNext < ((applyRoom - (laned 3).pair.applyQueue.length : Nat) : Int) ∧
    (after (.containerReceive ⟨3, container1⟩ true) (laned 3)).pair.rxNext = 2 ∧ (after (.containerReceive ⟨3, container1⟩ true) (paired 3)).pair.rxNext = 1 := by
  decide +kernel

theorem test_containerSend : sourceReady (paired 3) = true ∧ bitOf ((paired 3).get VAR_LANE_CFG_LANE_EN) 3 = true ∧ outOrder (paired 3) = [] ∧
    (after (.containerSend ⟨3, 1⟩) (paired 3)).pair.fillSeq = (paired 3).pair.fillSeq + 1 ∧
    (varLane (after (.containerSend ⟨3, 0⟩) (paired 3)) 3).tx.fifo = 512 := by
  decide +kernel

/-- R350: a frame that starts with fewer than 16 bytes in the FIFO has JC 1, one with more than 48 JC 2, and no two justifications follow each other. -/
theorem test_justification : (varLane (startLaneFrame 3 (paired 3)) 3).tx.jc = 1 ∧ (varLane (startLaneFrame 3 (startLaneFrame 3 (paired 3))) 3).tx.jc = 0 ∧
    (varLane (startLaneFrame 3 (onLane 3 (fun l => { l with tx := { l.tx with fifo := 56 } }) (paired 3))) 3).tx.room = 4080 := by
  decide +kernel

/-- R349's example: with JC 0 and pointer 3 the next is 6. -/
theorem test_pointer : nextPointer (payloadLen 0) 3 = 6 := by decide +kernel

/-- A container that was sent on lane 3 at time 0. -/
def sent1 : State := { (paired 3).put VAR_LANE_STAT_IN_STRIPE 1 3 with pair := { ready.pair with sent := [⟨5, [], 3, 0, false, 0, false, false⟩] } }

theorem test_retransmission : lightLane sent1 = some 3 ∧ sent1.pair.sent.find? (fun c => c.seq == 5) = some ⟨5, [], 3, 0, false, 0, false, false⟩ ∧
    clamp 1000 65535 (sent1.get VAR_TIMING2_RETX_NS) ≤ (passed 65535 sent1).clock ∧ (after (.retransmission 5) (passed 65535 sent1)).num VAR_RETX_CNT = 1 ∧
    runs .containerKeyRoll ready = true ∧ runs .witnessKeyRoll { ready with pair := { ready.pair with witSendSeq := 2 ^ 32 - 1 } } = true := by
  decide +kernel

-- The pair

theorem test_heartbeat : (paired 3).pair.ceased = false ∧ clamp 250 10000 ((paired 3).get VAR_TIMING_HB_NS) ≤ (passed 10000 (paired 3)).clock ∧
    (after (.heartbeat false) (passed 10000 (paired 3))).pair.hbSeq = 1 := by
  decide +kernel

/-- The apply queue holds one message of a TYPE. -/
def applying (m : List Byte) : State := { paired 3 with pair := { ready.pair with applyQueue := [[m]] } }

theorem test_messages : frontMessage (applying (leBytes 64 0x01)).pair.applyQueue = some (leBytes 64 0x01) ∧ leField (leBytes 64 0x01) 0 1 = 0x01 ∧
    (after (.heartbeat true) (applying (leBytes 64 0x01))).pair.applied = 1 ∧ (after .journalMsg (applying (leBytes 96 0x02))).pair.applied = 1 ∧
    (after .jdone (applying (leBytes 64 0x03))).pair.applied = 1 ∧ runs .createMsg (applying (leBytes 512 0x10)) = true ∧ runs .stateMsg (applying (leBytes 320 0x11)) = true ∧
    runs .pdata (applying (leBytes 320 0x12)) = true ∧ runs .deleteMsg (applying (leBytes 64 0x13)) = true ∧ runs .ckpt (applying (leBytes 320 0x14)) = true ∧
    runs .syncrec (applying (leBytes 320 0x15)) = true ∧ runs .recfetch (applying (leBytes 48 0x16)) = true ∧ runs .recordMsg (applying (leBytes 320 0x16)) = true := by
  decide +kernel

theorem test_witness : (passed 10000 ((paired 3).put VAR_WITNESS_EN 1)).on VAR_WITNESS_EN = true ∧
    clamp 500 10000 ((paired 3).get VAR_TIMING_WIT_NS) ≤ (passed 10000 (paired 3)).clock ∧
    (after (.witnessFrame none) (passed 10000 ((paired 3).put VAR_WITNESS_EN 1))).pair.witSendSeq = 1 ∧ runs (.witnessFrame (some (zeros 64, 0))) (paired 3) = true := by
  decide +kernel

theorem test_silence : clamp 1000 60000 (ready.get VAR_TIMING_LINK_MISS_NS) ≤ (passed 60000 ready).clock ∧
    clamp 2000 60000 (ready.get VAR_TIMING_WIT_MISS_NS) ≤ (passed 60000 ready).clock ∧ runs .linkSilent (passed 60000 (paired 3)) = true ∧
    runs .linkSilent (passed 60000 ((paired 3).put VAR_STAT_WIT_ALIVE 1)) = true ∧ runs .linkSilent (passed 60000 ((paired 1).put VAR_STAT_WIT_ALIVE 1)) = true ∧
    runs .witnessSilent (passed 60000 (paired 3)) = true ∧ runs .witnessSilent (passed 60000 ((paired 3).put VAR_STAT_LINK_ALIVE 1)) = true := by
  decide +kernel

theorem test_linkBack : ((paired 4).put VAR_STAT_LINK_ALIVE 1).on VAR_STAT_LINK_ALIVE = true ∧ pairState (after .linkBack ((paired 4).put VAR_STAT_LINK_ALIVE 1)) = 2 ∧
    (after .linkBack ((paired 4).put VAR_STAT_LINK_ALIVE 1)).host.evtFifo.map (fun e => e.typ) = [0x0040] := by
  decide +kernel

theorem test_takeover_solo : runs .pairTakeover (paired 5) = true ∧ clamp 0 60000 ((ready.put VAR_TIMING2_SOLO_HOLD_MS 60000).get VAR_TIMING2_SOLO_HOLD_MS) = 60000 ∧
    runs .soloHoldExpiry (passed (6 * 10 ^ 10) ((paired 5).put VAR_TIMING2_SOLO_HOLD_MS 60000)) = true := by
  decide +kernel

theorem test_authentication : pairState (paired 1) = 1 ∧ runs (.mutualAuthentication false 5 true) (paired 1) = true ∧ (paired 1).num VAR_PARTNER_ID = 0 ∧
    runs (.mutualAuthentication true 0 false) (paired 1) = true ∧ joins 1 2 false true = true ∧ joins 2 1 false false = true ∧ joins 2 1 true false = false := by
  decide +kernel

theorem test_bulkSync : syncAcked (paired 2) = true ∧ (after .bulkSync { paired 2 with pair := { ready.pair with syncKeys := [zeros 40], syncTotal := 2 } }).get VAR_STAT_SYNC_PCT = 100 ∧
    pairState (after .bulkSync ((paired 2).put VAR_STAT_COVERED 1)) = 3 := by
  decide +kernel

-- HKS

/-- A routine of level 1 at word 5, of level 0, and a state that runs one. -/
def routine (r level : Nat) (trap : Bool) : HksRun :=
  ⟨r, level, 5, List.replicate 31 0, false, false, false, 0, [], [7], [], false, false, false, trap, false, 10000, 0⟩
def hks (x : Option HksRun) (frames waiting : List HksRun) : State := { ready with hks := { ready.hks with running := x, frames := frames, waiting := waiting } }

theorem test_hksMicroword : patchSource (hks (some (routine 3 1 false)) [] []) 5 = none ∧ wordReserved 0 = false ∧ wordReserved (2 ^ 84) = true ∧ wordReserved (13 * 2 ^ 5) = true ∧
    (after (.hksMicroword 0 0) (hks (some (routine 3 1 false)) [] [])).hks.running.map (fun x => x.pc) = some 6 ∧
    (after (.hksMicroword (2 ^ 84) 0) (hks (some (routine 3 1 false)) [] [])).hks.running = none ∧
    runs (.hksMicroword 0 1) (hks (some (routine 3 1 false)) [] []) = true ∧ runs (.hksMicroword 0 2) (hks (some (routine 3 1 false)) [] []) = true ∧
    (after (.hksMicroword 0 0) (hks (some { routine 3 1 false with pc := 0x10400 }) [] [])).hks.running = none := by
  decide +kernel

/-- A patch word at address 9 of the patch RAM. -/
theorem test_hksMicroword_patched : patchSource { hks (some { routine 3 1 false with pc := 0x10009 }) [] [] with hks := { (hks (some { routine 3 1 false with pc := 0x10009 }) [] []).hks with
    patch := [(9, 0)] } } 0x10009 = some 9 ∧ runs (.hksMicroword 0 0) { hks (some { routine 3 1 false with pc := 0x10009 }) [] [] with hks := { (hks (some { routine 3 1 false with pc := 0x10009 }) [] []).hks with
    patch := [(9, 0)] } } = true := by
  decide +kernel

theorem test_hksMemResponse : (routine 3 1 false).reads[0]? = some 7 ∧
    (after (.hksMemResponse 0 0 (leBytes 64 5) true none) (hks (some (routine 3 1 false)) [] [])).hks.running.map (fun x => (x.reads, x.inProgress)) = some ([], true) := by
  decide +kernel

theorem test_microTrap : nextWaiting [routine 0x20 3 false] = some (routine 0x20 3 false) ∧
    (after .microTrap (hks (some (routine 3 1 true)) [] [routine 0x20 3 false])).hks.running.map (fun x => x.routine) = some 0x20 ∧
    (after .microTrap (hks (some (routine 3 1 true)) [] [routine 0x20 3 false])).hks.frames.length = 1 ∧
    (after .trapFrameRestore (hks none [routine 3 1 true] [])).hks.running.map (fun x => x.routine) = some 3 ∧
    (after .trapFrameRestore (hks none [routine 3 1 true] [routine 0x20 3 false])).hks.running.map (fun x => x.routine) = some 0x20 := by
  decide +kernel

theorem test_hksRequests : routineLevel 0x22 = some 3 ∧ routineLevel 0x14 = some 0 ∧ routineLevel 0x15 = none ∧
    (hks none [] []).power.coreUp = true ∧ runs (.hksRoutineRequest 0x22 false) (hks none [] []) = true ∧
    (after (.hksRoutineRequest 3 true) (hks (some (routine 3 1 true)) [] [])).hks.running.map (fun x => x.cancel) = some true ∧
    trapDue (hks (some (routine 3 1 false)) [] []) = false ∧ turnOver (hks (some (routine 3 1 false)) [] []) = false ∧
    turnOver (hks (some (routine 0x11 0 true)) [] [routine 0x12 0 false]) = true ∧
    (after .hksRoundRobinYield (hks (some (routine 0x11 0 true)) [] [routine 0x12 0 false])).hks.running.map (fun x => x.routine) = some 0x12 := by
  decide +kernel

theorem test_hksAbandon : (after .hksAbandon (hks (some (routine 3 1 false)) [] [])).hks.running = none ∧
    (routineTicks ready 3).getD 0 + nsPerSec ≤ ({ routine 3 1 false with ran := 10 ^ 12 } : HksRun).ran ∧ runs .hksRoutineLate (hks (some { routine 3 1 false with ran := 10 ^ 12 }) [] []) = true := by
  decide +kernel

-- Stamps, entries, events, the black box, buffer parts

theorem test_stamps : stampBytes ⟨2 ^ 48 - 1, 999999999⟩ = [0xFF, 0xC9, 0x9A, 0x3B, 0xFF, 0xFF, 0xFF, 0xFF, 0xFF, 0xFF] ∧ stampOk (nsStamp (10 ^ 9)) = true ∧
    stampOk ⟨0, 10 ^ 9⟩ = false ∧ (ready.time.ns < nsPerSec ∧ ready.time.frac < fracUnit) := by
  decide +kernel

/-- R411: the entries of three passes over a ring of 64 entries. -/
theorem test_phase : [0, 63, 64, 127, 128].map (fun i => (Store.get? (ringWrite 4 [0, 0x7F] [] ((ready.put HST_RING_CFG_SIZE_LOG2 6 4).put HST_RING_IDX_PI i 4)).host.entries
    (key2 4 (i % 64))).map (fun e => leField e 1 1)) = [some 0xFF, some 0xFF, some 0x7F, some 0x7F, some 0xFF] := by
  decide +kernel

/-- A posted event waits with its TIME; with 4096 waiting it is dropped and counted. -/
theorem test_postEvent : (postEvent 0x0010 3 [1] ready).host.evtFifo = [⟨0x0010, 3, ⟨0, 0⟩, padTo 16 [1]⟩] ∧
    (postEvent 0x0010 3 [1] { ready with host := { ready.host with evtFifo := List.replicate 4096 ⟨1, 0, ⟨0, 0⟩, []⟩ } }).host.evtDropped = 1 := by
  decide +kernel

theorem test_blackBox : ready.on FLT_BB_STAT_STOPPED = false ∧ ready.faults.collecting = none ∧ (ready.put FLT_BB_STAT_STOPPED 1).on FLT_BB_STAT_STOPPED = true ∧
    (bbBuf (bbEntry 1 2 3 4 5 6 7 ready) (bbLive ready)).entries.map (fun e => (e.kind, e.detail, e.value)) = [(1, 6, 7)] ∧
    (bbEntry 1 2 3 4 5 6 7 (ready.put FLT_BB_STAT_STOPPED 1)).num FLT_BB_LOST_CNT = 1 := by
  decide +kernel

/-- R242: one cell more than the buffer has sets CFG_ERR and changes nothing else. -/
theorem test_bufferParts : (writeRef ⟨BUF_POOL_CFG, 0, 0, 0⟩ (2 ^ 64 - 1) (ready.num BUF_POOL_CFG + 1) ready).on BUF_RESERVE_STAT_CFG_ERR = true ∧
    (writeRef ⟨BUF_POOL_CFG, 0, 0, 0⟩ (2 ^ 64 - 1) (ready.num BUF_POOL_CFG + 1) ready).num BUF_POOL_CFG = ready.num BUF_POOL_CFG ∧
    (2 ^ 64 - 1) &&& BUF_POOL_CFG.rw ≠ 0 ∧
    (writeRef ⟨BUF_POOL_CFG, 0, 0, 0⟩ (2 ^ 64 - 1) (ready.num BUF_POOL_CFG - 1) ready).num BUF_POOL_CFG = ready.num BUF_POOL_CFG - 1 := by
  decide +kernel

/-- R123's check value. -/
theorem test_crc32c : crc32c [0x31, 0x32, 0x33, 0x34, 0x35, 0x36, 0x37, 0x38, 0x39] 0 = 0xE3069283 := by decide +kernel

end Sys2Proof.Tests
end

