-- ==== Sys2Proof/Tests/Interface.lean ====
section
/-! SUPPORT. For the register accesses, the SMBus commands and the events of the rings: concrete states and operands that meet the hypotheses
of their statements, with what the spec says they do there. -/

namespace Sys2Proof.Tests
set_option Elab.async false
open Sys2Proof.Machine

/-- The state with ring r enabled, its SIZE_LOG2 and its two indexes. -/
def ring (r lg pi ci : Nat) (s : State) : State :=
  (((s.put HST_RING_CFG_EN 1 r).put HST_RING_CFG_SIZE_LOG2 lg r).put HST_RING_IDX_PI pi r).put HST_RING_IDX_CI ci r

/-- Ticks of 1 ns that have passed. -/
def later (n : Nat) (s : State) : State := { s with time := { s.time with ticks := s.time.ticks + n } }

-- Registers

theorem test_bar0AccessDiscarded : barReady ready = true ∧ badAccess false 2 4 = true ∧ badAccess false 0 2 = true ∧ badAccess true 0 8 = true ∧
    badAccess false (HST_DB_ERR_CNT.addr 0 0 0) 4 = false ∧ (after (.bar0AccessDiscarded false 2 4 true) ready).num HST_BAD_ACCESS_CNT = 1 ∧
    (after (.bar0AccessDiscarded false 2 4 true) { ready with host := { ready.host with answer := 9 } }).host.answer = 0 := by
  decide +kernel

theorem test_bar0LowWordRead : badAccess false (TIM_INCR.addr 0 0 0) 4 = false ∧ badAccess false (TIM_INCR.addr 0 0 0) 8 = false ∧
    wordAt (TIM_INCR.addr 0 0 0) = .low ⟨TIM_INCR, 0, 0, 0⟩ ∧ TIM_INCR.wide = true ∧ latchPartner ⟨TIM_INCR, 0, 0, 0⟩ = none ∧
    (after (.bar0LowWordRead 1 (TIM_INCR.addr 0 0 0) 8) ready).host.answer = 2 ^ 32 ∧
    (after (.bar0LowWordRead 1 (TIM_INCR.addr 0 0 0) 4) ready).host.answer = 0 := by
  decide +kernel

/-- R11 at TIM_NOW: the low word read first, the high word of the same instant after it, and both words of a wide register. -/
theorem test_splitRead : barReady ready = true ∧ wordAt (TIM_INCR.addr 0 0 0 + 4) = .high ⟨TIM_INCR, 0, 0, 0⟩ ∧ takeLatch 1 (TIM_INCR.addr 0 0 0) ready = none ∧
    badAccess false (TIM_INCR.addr 0 0 0 + 4) 4 = false ∧
    (after (.bar0LowWordRead 1 (TIM_INCR.addr 0 0 0 + 4) 4) ((after (.bar0LowWordRead 1 (TIM_INCR.addr 0 0 0) 4) ready).setReg TIM_INCR 5)).host.answer = 1 ∧
    (after (.bar0LowWordRead 2 (TIM_INCR.addr 0 0 0 + 4) 4) ((after (.bar0LowWordRead 1 (TIM_INCR.addr 0 0 0) 4) ready).setReg TIM_INCR 5)).host.answer = 0 := by
  decide +kernel

theorem test_registerWrite : wordAt (HST_DIAG_KEY.addr 7 0 0) = .low ⟨HST_DIAG_KEY, 7, 0, 0⟩ ∧ wordAt (HST_DIAG_KEY.addr 7 0 0 + 4) = .high ⟨HST_DIAG_KEY, 7, 0, 0⟩ ∧
    badAccess false (HST_DIAG_KEY.addr 7 0 0 + 4) 4 = false ∧ HST_DIAG_KEY.wide = true ∧
    (after (.registerWrite (HST_DIAG_KEY.addr 7 0 0) 8 (2 ^ 64 - 1)) ready).num HST_DIAG_KEY 7 = 2 ^ 64 - 1 ∧
    (after (.registerWrite (HST_DIAG_KEY.addr 7 0 0 + 4) 4 3) ready).num HST_DIAG_KEY 7 = 3 * 2 ^ 32 := by
  decide +kernel

/-- A read-only counter ignores a write. -/
theorem test_registerWrite_readOnly : (after (.registerWrite (HST_DB_ERR_CNT.addr 0 0 0) 4 77) ready).num HST_DB_ERR_CNT = 0 := by decide +kernel

theorem test_doorbell : ringOn (ring 0 6 0 0 ready) 0 = true ∧ hostWritten 23 = true ∧ hostWritten 24 = false ∧ ringSize (ring 0 6 0 0 ready) 0 = 64 ∧
    (after (.doorbell 0 64) (ring 0 6 0 0 ready)).get HST_RING_IDX_PI 0 = 64 ∧ (after (.doorbell 0 65) (ring 0 6 0 0 ready)).get HST_RING_IDX_PI 0 = 0 ∧
    (after (.doorbell 0 65) (ring 0 6 0 0 ready)).num HST_DB_ERR_CNT = 1 ∧ (after (.doorbell 58 1) ready).num HST_DB_ERR_CNT = 1 := by
  decide +kernel

/-- A device-written ring: CI moves up to PI, not past it, and the ring is armed. -/
theorem test_doorbell_deviceWritten : (after (.doorbell 58 2) (ring 58 6 2 0 ready)).get HST_RING_IDX_CI 58 = 2 ∧
    (after (.doorbell 58 2) (ring 58 6 2 0 ready)).host.armed = [58] ∧ (after (.doorbell 58 3) (ring 58 6 2 0 ready)).get HST_RING_IDX_CI 58 = 0 := by
  decide +kernel

theorem test_ringEnable : ringOn ready 56 = false ∧ ringCheck (ringFields 56 8 ready) 56 = true ∧ ringCheck (ringFields 56 7 ready) 56 = false ∧
    ringCheck (ringFields 56 17 ready) 56 = false ∧ ringOn (after (.ringEnable 56 16) ready) 56 = true ∧
    (after (.ringEnable 56 7) ready).on HST_RING_CFG_CFG_ERR 56 = true := by
  decide +kernel

theorem test_ringDisable : ringOn (ring 58 6 0 0 ready) 58 = true ∧ ringOn (after (.ringDisable 58) (ring 58 6 0 0 ready)) 58 = false := by decide +kernel

/-- Port 95 in mode 1 (1 Gb/s); a group mode on a port that is no multiple of 4 is refused. -/
theorem test_portEnable : ready.on PRT_MODE_ENABLE 95 = false ∧ expressReady ready = true ∧ inGroup ready 95 = false ∧ modeValid 1 0 = true ∧
    modeValid 1 1 = false ∧ modeValid 7 3 = true ∧ modeValid 8 3 = false ∧ groupValid ready 92 = true ∧ groupValid ready 93 = false ∧
    (after (.portEnable 95 1) ready).on PRT_MODE_ENABLE 95 = true ∧ (portOf (after (.portEnable 95 1) ready) 95).enabled = true ∧
    (portOf (after (.portEnable 93 0x36) ready) 93).enabled = false := by
  decide +kernel

theorem test_portDisable : (ready.put PRT_MODE_ENABLE 1 95).on PRT_MODE_ENABLE 95 = true ∧
    (after (.portDisable 95) (ready.put PRT_MODE_ENABLE 1 95)).on PRT_MODE_ENABLE 95 = false := by
  decide +kernel

theorem test_diagGo : bitOf 0x41 6 = true ∧ ready.host.diagPending = none ∧
    (after (.diagGo 0x41) ready).host.diagPending.map (fun x => (x.1, x.2.1)) = some ((ready.setReg HST_DIAG_CTRL 0x01).get HST_DIAG_CTRL_TABLE,
      (ready.setReg HST_DIAG_CTRL 0x01).get HST_DIAG_CTRL_QUARTER) ∧
    (after .diagLookupDone { ready with host := { ready.host with diagPending := some (1, 0, zeros 64) } }).host.diagPending = none := by
  decide +kernel

theorem test_cntSelWrite : runs (.cntSelWrite 21 7 5) ready = true ∧ runs (.cntSelWrite 22 0 5) ready = false ∧ runs (.cntSelWrite 21 8 5) ready = false := by
  decide +kernel

-- SMBus

theorem test_smbusReads : runs .smbusStatus ready = true ∧ (after (.smbusFaultRead 511) ready).faults.smbus.length = 16 ∧
    (after (.bbReadBlock 1 524799) ready).faults.smbus.length = 224 ∧ runs (.smbusFaultRead 512) ready = false ∧ runs (.bbReadBlock 2 0) ready = false := by
  decide +kernel

/-- A freeze over SMBus while recording goes on; with POST_COUNT 0 the buffer closes at once. -/
theorem test_bbFreeze : (smbusNote 0x04 1 ready).on FLT_BB_STAT_STOPPED = false ∧ (smbusNote 0x04 1 ready).faults.collecting = none ∧
    runs (.bbFreeze 1) ready = true ∧ runs (.bbFreeze 1) (ready.put FLT_BB_CFG_POST_COUNT 0) = true ∧ runs (.bbRelease 1) ready = true := by
  decide +kernel

theorem test_smbusUnits : fenced (after (.smbusFence 19) ready) 19 = true ∧ runs (.smbusQuiet 95) ready = true ∧
    runs (.smbusUnquiet 95) ready = true ∧ runs (.quarterReset 4) ready = true := by
  decide +kernel

/-- R450: the reset happens only after its arm, with its byte; the arm ends. -/
theorem test_smbusReset : (after (.resetArm 0xA5) ready).faults.resetArmed = true ∧ (after (.resetArm 0xA4) ready).faults.resetArmed = false ∧
    (smbusNote 0x15 0x5A (after (.resetArm 0xA5) ready)).faults.resetArmed = true ∧ barReady (after (.smbusDeviceReset 0x5A) ready) = true ∧
    (after .resetArmExpiry (after (.resetArm 0xA5) ready)).faults.resetArmed = true ∧
    (after .resetArmExpiry (later (100000000) (after (.resetArm 0xA5) ready))).faults.resetArmed = false ∧ ready.faults.resetArmed = false := by
  decide +kernel

theorem test_smbusReset_armed : (after (.smbusDeviceReset 0x5A) (after (.resetArm 0xA5) ready)).get PWR_READY_LAST_RESET = 2 := by decide +kernel

-- Command rings

/-- The entry of CNT_READ, unsealed, with CSEQ 9. -/
def entry9 : List Byte := leBytes 2 0x0D00 ++ zeros 6 ++ leBytes 8 9 ++ zeros 48

/-- CMD0 enabled with one entry waiting, and with that entry journaled, passed, and running. -/
def cmdRing : State := ring 0 6 1 0 (ring 4 6 0 0 ready)
def journaled (passed running : Bool) : JEntry := ⟨0, 0, false, false, 9, 0x0D00, false, 4, 0, none, false, passed, running, false, false, entry9, true, true, none⟩
def withJournal (e : JEntry) : State := { cmdRing with host := { cmdRing.host with journal := [e] } }

theorem test_cmdFetch : ringOn cmdRing 0 = true ∧ cmdRing.on PWR_READY_HOST_READY = true ∧ 0 < ringUsed cmdRing 0 ∧ cmdRing.host.journal.length < journalSize ∧
    (after (.cmdFetch 0 entry9 ⟨true, true, true⟩) cmdRing).host.journal.map (fun e => (e.cseq, e.verdict, e.passed)) = [(9, 0, true)] ∧
    (after (.cmdFetch 0 entry9 ⟨true, true, true⟩) cmdRing).get HST_RING_IDX_CI 0 = 1 := by
  decide +kernel

theorem test_partnerJournalAck : (after (.partnerJournalAck 0 0) (withJournal (journaled false false))).host.journal.map (fun e => e.acked) = [true] ∧
    runs (.partnerJournalAck 24 0) ready = false := by
  decide +kernel

theorem test_commandExecute : findIdx? (fun (e : JEntry) => !e.tx && e.ring == 0) (withJournal (journaled true false)).host.journal 0 = some (0, journaled true false) ∧
    cplSpace (withJournal (journaled true false)) 0 = true ∧
    (after (.commandExecute 0) (withJournal (journaled true false))).host.journal.map (fun e => e.running) = [true] := by
  decide +kernel

/-- A running entry whose verdict turns it away (reason 2), and one with a reserved header bit set. -/
def rejected : JEntry := { journaled true true with verdict := 2 }
def odd : JEntry := { journaled true true with entry := entry9.set 2 0x80 }

theorem test_commandCommit : (withJournal rejected).host.journal.find? (fun e => !e.tx && e.ring == 0 && e.cseq == 9 && e.running) = some rejected ∧
    (complete 0 9 0x0D00 false 0 false ⟨6, 2, 0, false⟩ (withJournal rejected)).host.completions.map (fun c => (c.cseq, c.status, c.detail)) = [(9, 6, 2)] ∧
    (complete 0 9 0x0D00 false 0 false ⟨6, 2, 0, false⟩ (withJournal rejected)).host.journal = [] ∧ runs (.commandCommit 0 9 6 2 0) (withJournal rejected) = true ∧
    (commitCommand 0 9 (1, 0, 0) (withJournal odd)).host.completions.map (fun c => (c.cseq, c.status)) = [(9, 1)] ∧
    (after (.commandCommit 0 9 0 0 0) (withJournal (journaled true true))).host.completions = [] := by
  decide +kernel

/-- A state with one completion held for CPL0. -/
def heldDone : State := { cmdRing with host := { cmdRing.host with completions := [⟨0, 9, 3, 1, 2, false, false⟩] } }

theorem test_completionWrite : findIdx? (fun (c : Completion) => c.ring == 0) heldDone.host.completions 0 = some (0, ⟨0, 9, 3, 1, 2, false, false⟩) ∧
    ringRoom heldDone 4 1 = true ∧ (after (.completionWrite 0) heldDone).host.completions = [] ∧
    Store.get? (after (.completionWrite 0) heldDone).host.entries (key2 4 0) =
      some (leBytes 8 9 ++ leBytes 4 3 ++ leBytes 1 1 ++ leBytes 1 2 ++ leBytes 1 0 ++ leBytes 1 0x80) := by
  decide +kernel

theorem test_ciWriteBack : Store.get? (after (.ciWriteBack 0) (ring 0 6 5 5 ready)).host.ciWritten 0 = some 5 ∧ ringOn (ring 0 6 5 5 ready) 0 = true := by
  decide +kernel

-- Packet rings

/-- A PKT_TX descriptor of 60 bytes: DIRECT to queue 0 of port 1, or to the pipeline. -/
def txDesc (flags : Nat) : List Byte := zeros 8 ++ leBytes 2 60 ++ leBytes 1 flags ++ zeros 1 ++ leBytes 1 1 ++ zeros 51
def txRing : State := (ring 8 6 1 0 (ring 24 6 0 0 ready)).put HST_RING_CFG_DIRECT_EN 1 8
def txSlot (direct handed : Bool) (o : Option (Nat × Stamp)) : TxSlot := ⟨8, 0, direct, false, none, 1, 0, zeros 60, handed, o⟩
def withSlot (x : TxSlot) : State := { txRing with host := { txRing.host with tx := [x] } }

theorem test_pktTxFetch : ringOn txRing 8 = true ∧ 0 < ringUsed txRing 8 ∧ txGood txRing 8 (padTo 64 (txDesc 1)) = true ∧
    txGood txRing 8 (padTo 64 (txDesc 8)) = false ∧ (after (.pktTxFetch 8 (txDesc 1) (zeros 60)) txRing).host.tx.map (fun x => (x.direct, x.outcome)) = [(true, none)] ∧
    (after (.pktTxFetch 8 (txDesc 8) (zeros 60)) txRing).host.tx.map (fun x => x.outcome.map (fun y => y.1)) = [some 2] := by
  decide +kernel

theorem test_pktTxDirectLink : nextTx (withSlot (txSlot true false none)) 8 = some (txSlot true false none) ∧ bulkReady ready = true ∧
    (queueOf (after (.pktTxDirectLink 8) (withSlot (txSlot true false none))) 8).head.length = 1 := by
  decide +kernel

theorem test_pktTxPipelineHandover : nextTx (withSlot (txSlot false false none)) 8 = some (txSlot false false none) ∧ mirrorActive (withSlot (txSlot false false none)) = false ∧
    (withSlot (txSlot false false none)).get HST_RING_IDX_CI 8 = 0 ∧
    (after (.pktTxPipelineHandover 8) (withSlot (txSlot false false none))).buf.frames.map (fun e => e.2.port) = [1] := by
  decide +kernel

theorem test_txcWrite : ringRoom (withSlot (txSlot true true (some (0, ⟨5, 6⟩)))) 24 1 = true ∧
    findIdx? (fun (x : TxSlot) => x.ring == 8) (withSlot (txSlot true true (some (0, ⟨5, 6⟩)))).host.tx 0 = some (0, txSlot true true (some (0, ⟨5, 6⟩))) ∧
    Store.get? (after (.txcWrite 8) (withSlot (txSlot true true (some (0, ⟨5, 6⟩))))).host.entries (key2 24 0) = some (zeros 13 ++ zeros 2 ++ leBytes 1 0x80) := by
  decide +kernel

/-- A frame of 60 bytes that waits in host queue 15 (queue 783 of the buffer). -/
def frame1 : Frame := { freshFrame 1 0 false (zeros 60) ⟨0, 0⟩ none with ended := true, refs := 1 }
def copy1 : Copy := ⟨4, zeros 60, 1, none, 0, true, false, false, 0x20, 0xFFFF⟩
def hostQueued : State :=
  { ring 55 6 0 0 (ready.put HST_RING_CFG_SLOT_LOG2 8 55) with buf := { ready.buf with
      frames := [(4, frame1)], nextFrame := 5, queues := [(783, { noQueue with head := [copy1] })] } }

theorem test_pktRxWrite : (queueOf hostQueued (768 + 15)).head = [copy1] ∧ frameOf hostQueued 4 = some frame1 ∧
    ringRoom hostQueued (40 + 15) (slotCount hostQueued (40 + 15) 60) = true ∧ (after (.pktRxWrite 15) hostQueued).buf.frames = [] ∧
    (after (.pktRxWrite 15) hostQueued).get HST_RING_IDX_PI 55 = 1 := by
  decide +kernel

/-- A returned frame, a telemetry message and an event that wait for their rings. -/
def rings3 : State := ring 57 6 0 0 (ring 58 6 0 0 (ring 56 8 0 0 ((ready.put HST_RING_CFG_SLOT_LOG2 8 57).put HST_RING_CFG_SLOT_LOG2 8 58)))
def waiting3 : State := { rings3 with host := { rings3.host with
  exc := [⟨false, 2, 1, 0, ⟨0, 0⟩, 0, zeros 60⟩], tlm := [⟨false, zeros 60⟩], evtFifo := [⟨0x0010, 3, ⟨0, 0⟩, zeros 16⟩] } }

theorem test_writes : ringRoom waiting3 57 (slotCount waiting3 57 60) = true ∧ ringRoom waiting3 58 (slotCount waiting3 58 60) = true ∧ ringRoom waiting3 56 1 = true ∧
    (after .excWrite waiting3).host.exc = [] ∧ (after .tlmWrite waiting3).host.tlm = [] ∧ (after .eventPost waiting3).host.evtFifo = [] ∧
    (Store.get? (after .eventPost waiting3).host.entries (key2 56 0)).map (fun e => leField e 0 2) = some 0x0010 := by
  decide +kernel

/-- R423: the overflow event first, with the number of the dropped. -/
theorem test_eventPost_overflow : (after .eventPost { waiting3 with host := { waiting3.host with evtDropped := 3 } }).host.evtDropped = 0 ∧
    (Store.get? (after .eventPost { waiting3 with host := { waiting3.host with evtDropped := 3 } }).host.entries (key2 56 0)).map
      (fun e => (leField e 0 2, leField e 14 8)) = some (0x00F0, 3) := by
  decide +kernel

/-- Moderation of ring 4: MOD_COUNT entries signal it, or MOD_US. -/
def moderated : State := { ring 4 6 2 0 (ready.put HST_RING_MOD_MOD_COUNT 2 4) with host := { ready.host with armed := [4], since := [(4, 2)] } }

theorem test_moderation : moderated.host.armed.contains 4 = true ∧ 0 < ringUsed moderated 4 ∧ Store.getD moderated.host.since 4 0 = 2 ∧
    moderated.get HST_RING_MOD_MOD_COUNT 4 = 2 ∧ (after (.modUsExpiry 4) moderated).host.armed = [] ∧ (after (.msiXMessage 4) moderated).host.armed = [] := by
  decide +kernel

theorem test_functionLevelReset : (after (.functionLevelReset false) (ring 4 6 0 0 ready)).num HST_FLR_CNT = 1 ∧
    ringOn (after (.functionLevelReset false) (ring 4 6 0 0 ready)) 4 = false := by
  decide +kernel

theorem test_pcieLinkTraining : (after (.pcieLinkTraining 5 8) ready).get HST_PCIE_STAT_WIDTH = 8 ∧ (after (.pcieLinkTraining 5 8) ready).on HST_PCIE_STAT_LINK_UP = true := by
  decide +kernel

theorem test_msiXVectorUnmask : (after (.msiXVectorUnmask 63) ready).host.vectorMask.contains 63 = false ∧ runs (.msiXVectorUnmask 64) ready = false := by
  decide +kernel

/-- A PKT_TX entry of the journal that a reset left behind is reported and counted. -/
theorem test_pktTxLostReport : ringOn ready 56 = false ∧
    (after .pktTxLostReport (withJournal { journaled true false with ring := 8, tx := true, replay := true })).host.lostTx = [(8, 0)] := by
  decide +kernel

/-- A drain for DEVICE_RESET, and a session that was idle. -/
def drains : State := { ready with host := { ready.host with waiting := [⟨0, 7, 0x0B06, true, 0, false, 0, 0, 0⟩] } }

theorem test_drainLimitExpiry : draining drains = true ∧ runs .drainLimitExpiry drains = true := by decide +kernel

def idling : State := { ready with ascor := { ready.ascor with sessions := [(3, ⟨true, false, 2047, 5, none, none, [], 0, 0⟩)] } }

theorem test_sessionIdleExpiry : (Store.get? (after (.sessionIdleExpiry 3) (later (3600 * 24 * 10 ^ 9) idling)).ascor.sessions 3).map (fun x => x.opened) = some false ∧
    (Store.get? (after (.sessionIdleExpiry 3) idling).ascor.sessions 3).map (fun x => x.opened) = some true := by
  decide +kernel

end Sys2Proof.Tests
end

