-- ==== Sys2Proof/Tests/Traffic.lean ====
section
/-! SUPPORT. For the events of frames, quarters, tables, flows, spill, the express path and the ports: concrete states and operands that meet
the hypotheses of their statements, with what the spec says they do there. -/

namespace Sys2Proof.Tests
set_option Elab.async false
open Sys2Proof.Machine

/-- A second later; n ns later. -/
def late (s : State) : State := { s with time := { s.time with ticks := s.time.ticks + 10 ^ 9 } }
def lapse (n : Nat) (s : State) : State := { s with time := { s.time with ticks := s.time.ticks + n } }

/-- Port p enabled with its link up at 1 Gb/s, on a device whose quarters, clusters and channels are awake. -/
def linked (p : Nat) : State :=
  let s := { ready with regs := [] }
  let s := ((((s.setReg PWR_READY 31).put PRT_MODE_ENABLE 1 p).put PRT_STATUS_LINK_UP 1 p).put PRT_STATUS_ACTIVE_SPEED 1 p).put QTR_SLEEP_CTRL_RESERVE_REST 0
  onPort p (fun x => { x with enabled := true }) s

/-- A whole frame of 60 bytes from port 3, and a copy of it. -/
def frame3 : Frame := { freshFrame 3 0 false (zeros 60) ⟨0, 0⟩ none with ended := true, refs := 1 }
def part3 : Frame := { freshFrame 3 0 false (zeros 20) ⟨0, 0⟩ none with ended := false }
def copy3 : Copy := ⟨4, zeros 60, 1, none, 0, true, false, false, 0, 0xFFFF⟩
def holds (f : Frame) (s : State) : State := { s with buf := { s.buf with frames := [(4, f)], nextFrame := 5 } }
def desc3 : Desc := newDesc ready 0 4 frame3

-- MACsec on the line

/-- Port 3 protects its frames, with one receive association that expects packet number pn, and one transmit association. -/
def secured (pn : Nat) : State :=
  let s := (linked 3).put PRT_MACSEC_CTRL_MACSEC_EN 1 3
  { s with ascor := { s.ascor with macsec := [(saKey 3 0 0 0, ⟨0, pn, 0, true, 7⟩), (saKey 3 0 1 0, ⟨0, 1, 0, true, 8⟩)] } }

/-- A protected frame of AN 0 and SCI 0 with a packet number, as long as its SecTAG and ICV make it. -/
def wire3 (pn : Nat) : List Byte :=
  [0, 0, 0, 0, 0, 0, 0, 0, 0, 0, 0, 0, 0x88, 0xE5, if 16 ≤ tagBytes then 0x20 else 0, 0] ++ beBytes 4 pn ++ zeros 8 ++ zeros Config.macsecBytes

/-- Its fields, whatever the length of its SecTAG. -/
theorem wire3_tag (pn : Nat) : beField (wire3 pn) 12 2 = 0x88E5 ∧ beField (wire3 pn) 14 1 = (if 16 ≤ tagBytes then 0x20 else 0) ∧ beField (wire3 pn) 20 8 = 0 ∧
    12 + Config.macsecBytes ≤ (wire3 pn).length := by
  refine ⟨?_, ?_, ?_, by simp [wire3, zeros, beBytes]; omega⟩ <;> by_cases h : 16 ≤ tagBytes <;> simp only [wire3, h, if_true, if_false] <;> rfl

/-- Its association is found, whether or not its tag holds an SCI. -/
theorem wire3_found (n pn : Nat) : rxSa (secured n) 3 (wire3 pn) = some (saKey 3 0 0 0, ⟨0, n, 0, true, 7⟩) := by
  unfold rxSa
  rw [(wire3_tag pn).2.1, (wire3_tag pn).2.2.1]
  by_cases h : 16 ≤ tagBytes <;> simp [h, secured, saKey, bitOf]

/-- A protected frame is valid under its association where its packet number is not behind the replay window, and else is discarded as a replay. -/
theorem test_wire3 (n pn : Nat) (e : Bool) : ∃ plain icvOk, validate (secured n) 3 (wire3 pn) e =
    if fullPn n (beField (wire3 pn) 16 4) + (Config.replayWindow 3).toNat < n then .discard true
    else .valid (saKey 3 0 0 0) (fullPn n (beField (wire3 pn) 16 4)) plain icvOk := by
  obtain ⟨h1, h2, -, h4⟩ := wire3_tag pn
  have hp : protects (secured n) 3 (wire3 pn) = true := by
    have ha : (secured n).on PRT_MACSEC_CTRL_MACSEC_EN 3 = (secured 0).on PRT_MACSEC_CTRL_MACSEC_EN 3 := rfl
    have hc : (secured 0).on PRT_MACSEC_CTRL_MACSEC_EN 3 = true := by decide +kernel
    simp [protects, ha, hc, h1]
  have ht : bitOf (beField (wire3 pn) 14 1) 5 = decide (16 ≤ tagBytes) := by rw [h2]; by_cases h : 16 ≤ tagBytes <;> simp [h] <;> decide
  unfold validate
  rw [hp, h1, wire3_found, ht]
  simp only [Bool.not_true, Nat.not_lt.mpr h4, bne_self_eq_false, decide_false, Bool.false_or, Bool.false_eq_true, if_false]
  exact ⟨_, _, rfl⟩

/-- A frame with packet number 1 where 0 is expected is valid; one far behind the expected number is a replay whatever the window. -/
theorem test_replay : (∃ plain icvOk, validate (secured 0) 3 (wire3 1) true = .valid (saKey 3 0 0 0) 1 plain icvOk) ∧
    validate (secured (2 ^ 33 - 1)) 3 (wire3 (2 ^ 31)) true = .discard true := by
  refine ⟨?_, ?_⟩
  · obtain ⟨x, y, h⟩ := test_wire3 0 1 true
    have hn : fullPn 0 (beField (wire3 1) 16 4) = 1 := by decide +kernel
    exact ⟨x, y, by rw [h, hn]; simp⟩
  · obtain ⟨x, y, h⟩ := test_wire3 (2 ^ 33 - 1) (2 ^ 31) true
    have hw := (Config.replayWindow 3).isLt
    have hn : fullPn (2 ^ 33 - 1) (beField (wire3 (2 ^ 31)) 16 4) = 2 ^ 32 + 2 ^ 31 := by decide +kernel
    rw [h, hn, if_pos (by omega)]

theorem test_validate : validate (linked 3) 3 (zeros 60) true = .clear ∧ validate (secured 0) 3 (zeros 60) true = .discard false ∧
    protects (secured 0) 3 (zeros 60) = true ∧ secBlocked (linked 3) 3 (zeros 60) = false ∧ secBlocked (secured 0) 3 (zeros 60) = false ∧
    (takePn 3 (zeros 60) (secured 0)).1 = some (saKey 3 0 1 0, 1) ∧ runs (.frameArrival 3 (zeros 60) true true) (secured 0) = true := by
  decide +kernel

-- Arrival and quarters

theorem test_frameArrival : receives (linked 3) 3 = true ∧ bulkReady (linked 3) = true ∧ streamHit (linked 3) 3 (zeros 60) = none ∧
    receives ready 3 = false ∧ (after (.frameArrival 3 (zeros 60) true true) (linked 3)).buf.frames.map (fun e => (e.2.port, e.2.ended)) = [(3, true)] ∧
    (after (.frameArrival 3 (zeros 60) true true) ready).buf.frames = [] := by
  decide +kernel

/-- A protected frame of which 20 bytes of the line have arrived, and its rest. -/
def wired (n pn : Nat) : State := { holds part3 (secured n) with buf := { (holds part3 (secured n)).buf with wires := [(4, (3, (wire3 pn).take 20))] } }

theorem test_wired : wireOf false 4 (wired 0 1) = some (3, (wire3 1).take 20) ∧
    (∃ plain icvOk, validate (dropWire false 4 (wired 0 1)) 3 ((wire3 1).take 20 ++ (wire3 1).drop 20) true = .valid (saKey 3 0 0 0) 1 plain icvOk) ∧
    validate (dropWire false 4 (wired (2 ^ 33 - 1) (2 ^ 31))) 3 ((wire3 (2 ^ 31)).take 20 ++ (wire3 (2 ^ 31)).drop 20) true = .discard true := by
  rw [List.take_append_drop, List.take_append_drop]
  exact ⟨rfl, test_replay.1, test_replay.2⟩

theorem test_frameEndArrival : frameOf (holds part3 (linked 3)) 4 = some part3 ∧ wireOf false 4 (holds part3 (linked 3)) = none ∧
    wireOf true 4 (holds part3 (linked 3)) = none ∧
    (after (.frameEndArrival false 4 (zeros 40) true) (holds part3 (linked 3))).buf.frames.map (fun e => (e.2.bytes.length, e.2.ended, e.2.bad)) = [(60, true, false)] ∧
    runs (.frameEndArrival true 4 (zeros 40) true) (linked 3) = true := by
  decide +kernel

theorem test_headerDescriptorDispatch : frameOf (holds frame3 (linked 3)) 4 = some frame3 ∧ windowPresent (linked 3) frame3 = true ∧ servingQuarter (linked 3) 3 = 0 ∧
    windowPresent (linked 3) part3 = false ∧
    (quarterOf (after (.headerDescriptorDispatch 4) (holds frame3 (linked 3))) 0).wake = [4] ∧ servingQuarter ((linked 3).put PRT_QMUX_MOVED 0) 3 = 4 := by
  decide +kernel

/-- R44: the wake FIFO is full. -/
def fullWake : State := onQuarter 0 (fun x => { x with wake := List.replicate 8192 9 }) (holds frame3 (linked 3))

theorem test_fullWake : 8192 ≤ (quarterOf fullWake (servingQuarter fullWake 3)).wake.length ∧ (after (.headerDescriptorDispatch 4) fullWake).buf.frames = [] ∧
    (after (.headerDescriptorDispatch 4) fullWake).num BUF_ADM_REFUSE 3 = 1 := by
  decide +kernel

theorem test_quarterPass : serves (linked 3) 0 = true ∧ frame3.dispatched = false ∧ fullWake.faults.incoming = [] ∧ (quarterOf (onQuarter 0 (fun x => { x with wake := [4] }) (holds frame3 (linked 3))) 0).wake = [4] ∧
    frameOf (onQuarter 0 (fun x => { x with wake := [4] }) (holds frame3 (linked 3))) 4 = some frame3 ∧ (linked 3).faults.incoming = [] ∧
    (quarterOf (after (.quarterPass 0) (onQuarter 0 (fun x => { x with wake := [4] }) (holds frame3 (linked 3)))) 0).wake = [] := by
  decide +kernel

theorem test_recirculation : (quarterOf (onQuarter 0 (fun x => { x with recirc := [desc3] }) (holds frame3 (linked 3))) 0).recirc = [desc3] ∧
    (quarterOf (after (.recirculation 0) (onQuarter 0 (fun x => { x with recirc := [desc3] }) (holds frame3 (linked 3)))) 0).recirc = [] := by
  decide +kernel

/-- A descriptor that waits for its inspection, of one byte, with image 2. -/
def inspecting : Desc := { desc3 with act := { desc3.act with inspect := true, patImage := 2, patLen := 0 } }
def inspects : State :=
  onQuarter 0 (fun x => { x with engines := [inspecting], release := [inspecting] })
    { holds frame3 (linked 3) with cls := { (linked 3).cls with images := [(2, ⟨[2], List.replicate 16 0⟩)] } }

theorem test_patternInspection : (quarterOf inspects 0).engines = [inspecting] ∧ inspectable inspects inspecting = true ∧ frameOf inspects 4 = some frame3 ∧
    inspectWant inspecting = 1 ∧ frame3.bytes.length - inspecting.rest = 60 ∧
    (Store.get? inspects.cls.images inspecting.act.patImage).isSome = true ∧
    ((quarterOf (after (.patternInspection 0 false) inspects) 0).engines.isEmpty && (quarterOf (after (.patternInspection 0 false) inspects) 0).release.all (fun d => d.ready)) = true ∧ runs (.patternInspection 0 true) inspects = true := by
  decide +kernel

theorem test_descriptorRelease : (takeReleased 0 (onQuarter 0 (fun x => { x with release := [{ desc3 with ready := true }] }) (linked 3))).isSome = true ∧
    (after (.descriptorRelease 0) (onQuarter 0 (fun x => { x with release := [{ desc3 with ready := true }] }) (linked 3))).flow.input.length = 1 := by
  decide +kernel

/-- A notice of a move at quarter 1. -/
def noticed : State := onQuarter 1 (fun x => { x with notices := [⟨3, zeros 8, 5, 7, 0⟩] }) ready

theorem test_learnNotice : (quarterOf noticed 1).notices = [⟨3, zeros 8, 5, 7, 0⟩] ∧ fenced noticed 1 = false ∧
    fenced (applyNotice 1 ⟨3, zeros 8, 5, 7, 0⟩ (onQuarter 1 (fun z => { z with notices := [] }) noticed)) 1 = false ∧
    (after (.learnNotice 1) noticed).cls.quarters.map (fun e => (e.1, e.2.notices.length, e.2.learned.slots.length)) = [(1, 0, 1), (2, 1, 0)] := by
  decide +kernel

theorem test_l2Age : (late (ready.put QTR_AGE_CTRL_AGE_EN 1 4)).on QTR_AGE_CTRL_AGE_EN 4 = true ∧
    (quarterOf (after (.l2Age 4) (lapse (2 * 10 ^ 11) (ready.put QTR_AGE_CTRL_AGE_EN 1 4))) 4).agedAt = 2 * 10 ^ 11 ∧
    (quarterOf (after (.l2Age 4) (lapse 1000 (ready.put QTR_AGE_CTRL_AGE_EN 1 4))) 4).agedAt = 0 ∧ runs (.l2Age 4) (ready.put QTR_AGE_CTRL_AGE_EN 1 4) = true ∧ runs (.l2Age 5) ready = false := by
  decide +kernel

theorem test_pfcRefresh : ({ ready with buf := { ready.buf with xoff := [767] } } : State).buf.xoff.contains (8 * 95 + 7) = true ∧
    runs (.pfcRefresh 95 7) { ready with buf := { ready.buf with xoff := [767] } } = true ∧
    clamp 1 4095 (ready.get BUF_PFCPROF_W1_REFRESH_US (ready.get BUF_PFC_PORT_PROFILE 95)) * 1000 ≤ (late ready).clock ∧
    (after (.pfcRefresh 95 7) (late { ready with buf := { ready.buf with xoff := [767] } })).buf.xoff = [] ∧
    (after (.pfcRefresh 95 7) { ready with buf := { ready.buf with xoff := [767] } }).buf.xoff = [767] ∧ runs (.pfcRefresh 95 8) ready = false := by
  decide +kernel

-- Tables and commits

/-- A step that writes an entry into group 0 at place 3. -/
def step1 : TStep := ⟨0, none, 3, some ⟨1, [(0, 0)], 9⟩, 0, 7⟩

theorem test_tcamStep : fenced ready 2 = false ∧ (after (.tcamStep 2 true) (onQuarter 2 (fun x => { x with steps := [step1] }) ready)).num QTR_TCAM_STEP_CNT 2 = 1 ∧
    (after (.tcamStep 2 true) (onQuarter 2 (fun x => { x with steps := [step1] }) ready)).num QTR_TCAM_STEAL_CNT 2 = 1 ∧
    (after (.tcamStep 2 false) (onQuarter 2 (fun x => { x with steps := [step1] }) ready)).num QTR_TCAM_STEAL_CNT 2 = 0 ∧
    (handleGroup (quarterOf (after (.tcamStep 2 true) (onQuarter 2 (fun x => { x with steps := [step1] }) ready)) 2).tcam 9).map (fun e => (e.1, e.2.1)) = some (0, 3) := by
  decide +kernel

/-- An express row that a parity error has struck in replica 1, and a row of quarter 4 that differs from its shadow. -/
def struck : State := tcamScrub 5 1 0 3 (some (0, [])) { ready with xpr := { ready.xpr with tcam := [(0, [(3, ⟨1, [(0, 0)], 9⟩)])] } }
def struck4 : State := tcamScrub 4 0 2 7 (some (1, [(5, 0)])) ready

theorem test_tcamScrub : struck.xpr.damaged = [(1, 0, 3)] ∧ runs (.tcamScrub ⟨5, 1, 0, 3⟩ none) struck = true ∧
    (after (.tcamScrub ⟨5, 2, 0, 3⟩ none) struck).xpr.damaged = [(1, 0, 3)] ∧ (after (.tcamScrub ⟨5, 1, 0, 3⟩ none) ready).num XPR_TCAM_SCRUB_FIX_CNT = 0 ∧
    (Store.getD (quarterOf struck4 4).tcam 2 []).length = 1 ∧ (Store.getD (quarterOf struck4 4).shadow 2 []).length = 0 ∧ fenced struck4 4 = false ∧
    runs (.tcamScrub ⟨4, 0, 2, 7⟩ none) struck4 = true ∧ runs (.tcamScrub ⟨6, 0, 0, 0⟩ none) ready = false := by
  decide +kernel

theorem test_expressTcamStep : (after .expressTcamStep { ready with xpr := { ready.xpr with steps := [step1] } }).xpr.steps = [] ∧
    (handleGroup (after .expressTcamStep { ready with xpr := { ready.xpr with steps := [step1] } }).xpr.tcam 9).map (fun e => e.2.1) = some 3 := by
  decide +kernel

theorem test_cuckooInsertion : (insertBy (tablePlace ready 4 0) (tableOf ready 4 0) (zeros 8) (zeros 32)).isSome = true ∧
    (tableLookup (after (.cuckooInsertion 0 4 (zeros 8) (zeros 32)) ready) 4 0 (zeros 8)).isSome = true ∧ runs (.cuckooInsertion 4 0 [] []) ready = false := by
  decide +kernel

/-- A commit that waits on ring 0. -/
def committing (op key : Nat) : State := { ready with host := { ready.host with waiting := [⟨0, 7, op, true, 0, false, 0, 31, key⟩] } }

theorem test_commitTick : (waitingOf (committing 0x0201 0) (awaitsTick 0)).isSome = true ∧ (waitingOf (committing 0x020B 5) (awaitsTick 0)).map (fun w => w.key) = some 5 ∧
    runs (.commitTick 0) (committing 0x0201 0) = true ∧ runs (.commitTick 0) (committing 0x0406 0) = true ∧
    ((after (.commitTick 0) (committing 0x020B 5)).host.completions.map (fun c => (c.status, c.detail))) = [(0, 31)] ∧
    ((after (.commitTick 0) (committing 0x020D 0)).host.completions.map (fun c => c.status)) = [0] ∧
    ((after (.commitTick 0) (committing 0x040C 5)).host.completions.map (fun c => c.status)) = [0] := by
  decide +kernel

theorem test_commitEnds : runs .rulesetSwapComplete ready = true ∧ (ready.put FLW_PROF_STAT_DRAINING 1).on FLW_PROF_STAT_DRAINING = true ∧
    (ready.put FLW_PROF_STAT_DRAINING 1).get FLW_PROF_STAT_OLD_REFS = 0 ∧
    (after .profileDrainComplete (ready.put FLW_PROF_STAT_DRAINING 1)).on FLW_PROF_STAT_DRAINING = false := by
  decide +kernel

-- Flow tables

theorem test_flowLookup : runs .flowLookup { holds frame3 (linked 3) with flow := { ready.flow with input := [desc3] } } = true := by decide +kernel

/-- A homed firkin copy of the flow with the all-zero key, and a pending entry of it. -/
def firkin0 : Firkin :=
  ⟨zeros 40, some 0, 1, true, 3, zeros 16, 0, 0, 0xFFFF, 0, 0, 0, 0, 0, 0, none, 1, 0, 30, zeros 16, ⟨0, 0⟩, true, false, false, false⟩
def pending (w : Wait) (q : List Desc) : State :=
  { holds frame3 (linked 3) with flow := { ready.flow with firkin := [(0, firkin0)], pend := [(5, ⟨zeros 40, q, 0, w, false, false, none⟩)] } }

theorem test_pendingFetch : firkinOf (pending .fetch []) (zeros 40) = some (0, firkin0) ∧ runs (.pendingFetchComplete 5) (pending .fetch []) = true ∧
    runs (.pendingFetchComplete 5) (pending .ctData []) = true ∧
    firkinOf { pending .fetch [] with flow := { (pending .fetch []).flow with firkin := [] } } (zeros 40) = none ∧
    tunOf { pending .fetch [] with flow := { (pending .fetch []).flow with firkin := [] } } (zeros 40) = none ∧
    fetchHeld { pending .fetch [] with flow := { (pending .fetch []).flow with firkin := [] } } (zeros 40) = false := by
  decide +kernel

theorem test_missTimeout : clamp 20 10000 ((pending .fetch [desc3]).get FLW_MISS_CTRL_TIMEOUT_US) * 1000 = 200000 ∧ 200000 ≤ (late (pending .fetch [desc3])).clock ∧
    runs (.missTimeout 5) (late (pending .fetch [desc3])) = true ∧ (Store.get? (pending .partner []).flow.pend 5).map (fun e => e.waits) = some .partner ∧
    runs (.strictAck 5) (pending .partner []) = true := by
  decide +kernel

/-- R165: a record that waits for its slot. -/
def homing : State := { ready with flow := { ready.flow with firkin := [(0, { firkin0 with slot := none, pinned := true })], homing := [zeros 40] } }

theorem test_tunInsertion : firkinOf homing (zeros 40) = some (0, { firkin0 with slot := none, pinned := true }) ∧ runs .tunInsertion homing = true := by decide +kernel

theorem test_landing : landingHeld ready = false ∧ runs .writeThroughLand ready = true ∧
    ({ pending .fetch [] with flow := { (pending .fetch []).flow with dirty := [(zeros 40, 0)] } } : State).flow.dirty.find? (fun d => !tunMarked ready d.1) = some (zeros 40, 0) ∧
    runs .writeBack { pending .fetch [] with flow := { (pending .fetch []).flow with dirty := [(zeros 40, 0)] } } = true ∧
    wbPeriod ready < (late ready).clock ∧ ({ ready with flow := { ready.flow with lateAt := 1 } } : State).flow.lateAt ≠ 0 := by
  decide +kernel

/-- R168: an idle record whose gill copy goes. -/
def idle0 : State :=
  late { pending .fetch [] with flow := { (pending .fetch []).flow with pend := [], gill := [(0, ⟨zeros 40, false, 0, 0, 0, 0, 0, 0, false⟩)] }, time := { ready.time with sec := 1500, ticks := 1500 * 10 ^ 9 } }

theorem test_demotion : (gillOf idle0 (zeros 40)).any (fun g => idleFor idle0 g.2.lastT (clamp 1 600 (idle0.get FLW_DEMOTE_CTRL_GILL_IDLE_S))) = true ∧ firkinOf idle0 (zeros 40) = some (0, firkin0) ∧ copyBusy idle0 (zeros 40) = false ∧
    idleFor idle0 0 (clamp 1 600 (idle0.get FLW_DEMOTE_CTRL_GILL_IDLE_S)) = true ∧ ((gillOf idle0 (zeros 40)).toList ++ (firkin0.link.bind (gillOf idle0)).toList).length = 1 ∧
    runs (.demotion (zeros 40)) idle0 = true := by
  decide +kernel

theorem test_tunSweep : (ready.put FLW_AGE_CTRL_AGE_EN 1).on FLW_AGE_CTRL_AGE_EN = true ∧ (ready.put FLW_AGE_CTRL_AGE_EN 1).flow.sweptAt = 0 ∧
    runs .tunSweep (ready.put FLW_AGE_CTRL_AGE_EN 1) = true ∧
    (after .tunSweep (lapse (10 ^ 14) (ready.put FLW_AGE_CTRL_AGE_EN 1))).flow.sweepAt = 10 ^ 14 ∧ (after .tunSweep (late (ready.put FLW_AGE_CTRL_AGE_EN 1))).flow.sweepAt = 0 := by
  decide +kernel

/-- A homed record that idles after one second, seen at time 0. -/
def due0 : State :=
  { pending .fetch [] with flow := { (pending .fetch []).flow with pend := [], tun := ⟨[(0, ⟨0, zeros 40, patch (zeros 512) 88 (leBytes 4 1), false⟩)], 0, 0⟩ }, time := { ready.time with sec := 1500, ticks := 1500 * 10 ^ 9 } }

theorem test_idleDeletion : (tunOf due0 (zeros 40)).map (fun e => e.1) = some 0 ∧ agesHere due0 = true ∧
    isDue due0 ⟨0, zeros 40, patch (zeros 512) 88 (leBytes 4 1), false⟩ = true ∧ countedSince due0 (zeros 40) = false ∧ pendOf due0 (zeros 40) = none ∧
    deletionRoom due0 (zeros 40) = true ∧ freePend due0 = some 0 ∧ recordOf due0 (zeros 40) = some firkin0 ∧
    raisesEvent (activeProfile due0 firkin0.profile) 2 = false ∧ runs (.idleDeletion (zeros 40)) due0 = true := by
  decide +kernel

theorem test_natPortReuse : (after (.natPortReuse 0) { ready with flow := { ready.flow with ports := [(key3 1 2 3, 1)], heldPorts := [⟨1, 2, 3, 0⟩] } }).flow.ports = [] := by
  decide +kernel

-- Telemetry and tasks

/-- A record whose active export is due, and one whose deletion waits for the export queue. -/
def exporting (due : List (List Byte)) : State := { pending .exportRoom [] with flow := { (pending .exportRoom []).flow with due := due } }

theorem test_telemetry : recordOf (exporting [zeros 40]) (zeros 40) = some firkin0 ∧ (exporting [zeros 40]).flow.due.contains (zeros 40) = true ∧
    (after (.telemetryExport (zeros 40) 2) (exporting [zeros 40])).flow.due = [] ∧ (pendOf (exporting []) (zeros 40)).map (fun e => e.2.waits) = some .exportRoom ∧
    (after (.telemetryExport (zeros 40) (idleReason (exporting []) firkin0)) (exporting [])).flow.pend = [] ∧ idleReason (exporting []) firkin0 ≠ 2 ∧
    epochDue ready = false ∧ epochDue (ready.put FLW_TLM_CTRL_SEAL 1) = true ∧ ready.flow.templatesAt = none ∧
    (after .templateResend (ready.put FLW_TLM_CTRL_TO_RING 1)).flow.templatesAt = some 0 ∧
    batchFits 496 [⟨256, zeros 20⟩] 0 = 1 ∧
    clamp 1 1000 (ready.get FLW_TLM_CTRL_BATCH_US) * 1000 ≤ (late ready).clock ∧
    runs .exportMessage (late { ready with flow := { ready.flow with exports := [⟨256, zeros 20⟩] } }) = true ∧ runs .templateResend ready = true ∧
    runs .telemetryEpoch ready = true := by
  decide +kernel

/-- A posted task of cluster 0 at level 1, queued; and running on core 0. -/
def task9 : Task := ⟨7, 1, false, 1, 0, false, false, 9, 9, none, 0, 0, 0, 5, zeros 40, zeros 40, 0⟩
def run9 (words : List Nat) : Running := ⟨task9, ⟨1, 0, 0, words⟩, 0, List.replicate 16 0, zeros 256, zeros 64, [], none, [], 0, 0, none⟩
def tasked : State := { linked 3 with fel := { ready.fel with ready := [(1, [task9])], progs := [(1, ⟨1, 0, 0, [0xFC000000]⟩)] } }
def core0 (r : Running) : State := { linked 3 with fel := { ready.fel with running := [(0, r)] } }

theorem test_taskDispatch : serves tasked 5 = true ∧ runningOn tasked 0 = none ∧ nextTaskOf tasked 0 = some task9 ∧ runs (.taskDispatch 0) tasked = true ∧
    runs (.taskDispatch 64) tasked = false := by
  decide +kernel

theorem test_taskSpillRefill : (after (.taskSpillRefill 0 1) { ready with fel := { ready.fel with spill := [(1, [task9])] } }).fel.ready = [(1, [task9])] := by decide +kernel

theorem test_taskQueueSpace : (Store.get? (pending (.task true) []).flow.pend 5).map (fun e => e.waits) = some (.task true) ∧
    (after (.taskQueueSpace 5) (pending (.task true) [])).flow.pend = [] ∧
    runs (.taskQueueSpace 5) { pending (.task true) [desc3] with flow := { (pending (.task true) [desc3]).flow with firkin := [] } } = true := by
  decide +kernel

theorem test_taskFaults : runningOn (core0 { run9 [] with cycles := 8191 }) 0 = some { run9 [] with cycles := 8191 } ∧
    cycleLimit (core0 { run9 [] with cycles := 8191 }) ≤ 8191 + waited (core0 { run9 [] with cycles := 8191 }) { run9 [] with cycles := 8191 } ∧ runs (.taskTimeFault 0) (core0 { run9 [] with cycles := 8191 }) = true ∧
    runs (.taskFault 0) (core0 (run9 [])) = true ∧ (run9 []).cycles + waited (core0 (run9 [])) (run9 []) < cycleLimit (core0 (run9 [])) ∧
    [1, 4, 6].contains (run9 []).task.kind = false := by
  decide +kernel

theorem test_timerFire : (after (.timerFire 0) { pending .fetch [] with fel := { ready.fel with timers := [(0, zeros 40)] } }).fel.timers = [] ∧
    firkinOf (timerStat (pending .fetch [])) (zeros 40) = some (0, firkin0) := by
  decide +kernel

theorem test_clusterLoss : fenced (ready.put FLT_FENCE_STAT_FENCED 0x20) 5 = true ∧
    (List.range 4).all (fun k => k == 0 || fenced (ready.put FLT_FENCE_STAT_FENCED 0x20) (5 + k)) = false ∧ runs (.clusterLoss 0) (ready.put FLT_FENCE_STAT_FENCED 0x20) = true := by
  decide +kernel

theorem test_programVersionDrain : (programRefs (ready.put FLW_PROG_STAT_DRAINING 1)).on FLW_PROG_STAT_DRAINING = true ∧
    (programRefs (ready.put FLW_PROG_STAT_DRAINING 1)).get FLW_PROG_STAT_OLD_REFS = 0 ∧
    (after .programVersionDrain (ready.put FLW_PROG_STAT_DRAINING 1)).on FLW_PROG_STAT_DRAINING = false := by
  decide +kernel

-- Spill

def queueIs (q : Nat) (x : Queue) : State := { holds frame3 (linked 3) with buf := { (holds frame3 (linked 3)).buf with queues := [(q, x)] } }
def segment1 (acked : Bool) : Segment := ⟨1, .spill, 0, [copy3], acked, true⟩

/-- Queue 783 with frame 4's cells in segment 1. -/
def inSegment (x : Queue) : State := { holds { frame3 with segment := some (1, 28), inHbm := true, multicast := true, spilled := true } (linked 3) with buf := { (holds { frame3 with segment := some (1, 28), inHbm := true, multicast := true, spilled := true } (linked 3)).buf with queues := [(783, x)] } }

theorem test_segmentWrite : 196 ≤ (queueOf (queueIs 783 { noQueue with asm := List.replicate 196 copy3, spilling := true }) 783).asm.length ∧
    runs (.segmentWrite 783) (queueIs 783 { noQueue with asm := [copy3], spilling := true }) = true ∧
    asmOverdue { queueIs 783 { noQueue with asm := [copy3] } with time := { ready.time with sec := 1 } } 783 = true ∧
    runs (.asmFlushExpiry 783) { queueIs 783 { noQueue with asm := [copy3] } with time := { ready.time with sec := 1 } } = true ∧ runs (.segmentWrite 784) ready = false := by
  decide +kernel

theorem test_segmentWriteAck : (queueOf (queueIs 783 { noQueue with segs := [segment1 false] }) 783).segs.find? (fun g => g.number == 1 && !g.acked) = some (segment1 false) ∧
    (queueOf (after (.segmentWriteAck 783 1) (queueIs 783 { noQueue with segs := [segment1 false] })) 783).reading.isNone = true := by
  decide +kernel

theorem test_readBack : cellsOn ready [] < clamp 256 65535 (ready.get BUF_SPILL_CFG_HEAD_LOW) ∧
    (queueOf (after (.readBack 783) (queueIs 783 { noQueue with segs := [segment1 true], spilling := true })) 783).reading = some (segment1 true) ∧
    (queueOf (after (.readBackLand 783) (queueIs 783 { noQueue with reading := some (segment1 true), spilling := true })) 783).head.length = 1 := by
  decide +kernel

theorem test_mcDirectRead : segmentOf (inSegment { noQueue with head := [copy3], segs := [segment1 true] }) { frame3 with segment := some (1, 28), inHbm := true, multicast := true, spilled := true } = some (segment1 true) ∧
    (after (.mcDirectRead 783) (inSegment { noQueue with head := [copy3], segs := [segment1 true] })).buf.direct = [(4, 783)] ∧
    carries (inSegment noQueue) (segment1 true) copy3 = true ∧ segmentOf (inSegment { noQueue with head := [copy3] }) { frame3 with multicast := true, inHbm := true } = none ∧
    frameOf (holds { frame3 with multicast := true, inHbm := true } ready) 4 = some { frame3 with multicast := true, inHbm := true } ∧
    runs (.mcDirectRead 783) (queueIs 783 { noQueue with head := [copy3] }) = true := by
  decide +kernel

/-- Queue 7 of port 3 is the next to park; the area has room, or none. -/
def parking (segs : Nat) : State :=
  onPort 3 (fun x => { x with toPark := [7] }) { queueIs 31 { noQueue with head := [copy3] } with buf := { (queueIs 31 { noQueue with head := [copy3] }).buf with parkSegs := segs } }

theorem test_queuePark : (portOf (parking 9) 3).toPark = [7] ∧ parkUsed (parking 9) + parkNeed (parking 9) (queueOf (parking 9) 31) ≤ 9 ∧
    0 < parkUsed (parking 0) + parkNeed (parking 0) (queueOf (parking 0) 31) ∧ (queueOf (after (.queuePark 3) (parking 9)) 31).parked = true ∧
    runs (.queuePark 3) (parking 0) = true := by
  decide +kernel

-- Express and egress

theorem test_expressDecision : validate (linked 3) 3 (zeros 60) true = .clear ∧ expressReady (linked 3) = true ∧ runs (.expressDecision 3 (zeros 60) true true []) (linked 3) = true ∧
    runs (.expressDecision 96 [] true true []) ready = false := by
  decide +kernel

/-- Port 3 protects with 50 bytes of each frame in clear, and an untagged stream takes each EtherType that the plain bytes of `wireP` can
show, whatever the length of the SecTAG. -/
def secStreams : State :=
  let s := (secured 0).put PRT_MACSEC_CTRL_CONF_OFFSET 2 3
  { s with xpr := { s.xpr with streams := [(0, { noStream with entry := 3 + 0x88E5 * 2 ^ 48 }), (1, { noStream with entry := 3 + 0xE500 * 2 ^ 48 }),
      (2, { noStream with entry := 3 }), (3, { noStream with entry := 3 + 0x88 * 2 ^ 48 }), (4, { noStream with entry := 3 + 0x88F7 * 2 ^ 48 })] } }

/-- A protected frame in which 88F7 follows the SecTAG, where that has four bytes or more. -/
def wireP : List Byte :=
  zeros 12 ++ [0x88, 0xE5, if 16 ≤ tagBytes then 0x20 else 0, 0] ++ zeros (Config.macsecBytes - 20) ++ [0x88, 0xF7] ++ zeros 30

/-- Its plain bytes, none of them encrypted, by the bytes that a SecTAG is short of four. -/
def plainP : List Byte := zeros 12 ++ ([0x88, 0xE5, 0, 0] ++ [0x88, 0xF7] ++ zeros 14).drop (if 20 ≤ Config.macsecBytes then 4 else tagBytes)

/-- Bytes before the confidentiality offset stand in clear. -/
theorem secure_clear (key ssci pn off : Nat) (data : List Byte) (h : data.length ≤ off) : secure key ssci pn off data = data := by
  apply List.ext_getElem (by simp [secure])
  intro i h1 h2
  simp [secure, show i < off by omega]

/-- What follows the SecTAG in `wireP`, without its ICV. -/
theorem wireP_data : wireP.take 12 ++ (wireP.take (wireP.length - 16)).drop (12 + tagBytes) = plainP ∧ 12 + Config.macsecBytes ≤ wireP.length ∧
    ((wireP.take (wireP.length - 16)).drop (12 + tagBytes)).length ≤ 50 := by
  by_cases h : 20 ≤ Config.macsecBytes
  · obtain ⟨m, hm⟩ : ∃ m, Config.macsecBytes = m + 20 := ⟨_, (Nat.sub_add_cancel h).symm⟩
    have ht : tagBytes = m + 4 := by unfold tagBytes; omega
    have hw : ∃ x, wireP = (zeros 12 ++ [0x88, 0xE5, x, 0] ++ zeros m) ++ ([0x88, 0xF7] ++ zeros 14) ++ zeros 16 := by
      refine ⟨if 16 ≤ tagBytes then 0x20 else 0, ?_⟩
      simp only [wireP, hm, Nat.add_sub_cancel, List.append_assoc]; rfl
    obtain ⟨x, hx⟩ := hw
    have hl : (zeros 12 ++ [0x88, 0xE5, x, 0] ++ zeros m : List Byte).length = 12 + tagBytes := by simp [zeros, ht]; omega
    have hd : (wireP.take (wireP.length - 16)).drop (12 + tagBytes) = [0x88, 0xF7] ++ zeros 14 := by
      rw [hx, List.take_append_of_le_length (by simp [zeros]), List.take_of_length_le (by simp [zeros]), ← hl, List.drop_left]
    have h12 : wireP.take 12 = zeros 12 := by rw [hx]; rfl
    refine ⟨by rw [hd, h12, plainP, if_pos h]; rfl, ?_, by rw [hd]; decide⟩
    rw [hx]; simp [zeros, hm]; omega
  · have ht : tagBytes < 4 := by unfold tagBytes; omega
    have hw : wireP = zeros 12 ++ [0x88, 0xE5, 0, 0] ++ [0x88, 0xF7] ++ zeros 30 := by
      simp only [wireP, show Config.macsecBytes - 20 = 0 by omega, show ¬ 16 ≤ tagBytes by omega, if_false]; rfl
    rw [hw, plainP, if_neg h]
    refine ⟨?_, by simp [zeros]; omega, ?_⟩
    all_goals
      generalize tagBytes = t at ht
      revert t; decide

/-- The decision on the plain bytes is taken up. -/
theorem plainP_decided : (streamHit secStreams 3 plainP).isSome = true ∧
    (expressDecide 3 plainP false true [] secStreams).xpr.nextIdent ≠ secStreams.xpr.nextIdent := by
  by_cases h : 20 ≤ Config.macsecBytes
  · rw [plainP, if_pos h]; decide +kernel
  · have ht : tagBytes < 4 := by unfold tagBytes; omega
    rw [plainP, if_neg h]
    generalize hp : zeros 12 ++ ([0x88, 0xE5, 0, 0] ++ [0x88, 0xF7] ++ zeros 14).drop tagBytes = l
    have hm : macTake secStreams 3 l false = (l, false) := by
      have hl : l.length ≤ 32 := by rw [← hp]; simp only [zeros, List.length_append, List.length_drop, List.length_replicate, List.length_cons, List.length_nil]; omega
      have hx : maxLen secStreams 3 = 1522 := by decide +kernel
      have hw : wireLen secStreams 3 l - l.length - 4 ≤ 20 := by unfold wireLen; split <;> omega
      unfold macTake
      rw [hx]; simp; omega
    unfold expressDecide
    rw [hm]
    clear hm
    generalize tagBytes = t at ht hp
    subst hp
    revert t; decide +kernel

/-- A protected frame under way whose plain bytes hit a stream, and the decision on it. -/
theorem test_expressSecured : receives secStreams 3 = true ∧ expressReady secStreams = true ∧
    (∀ e, ∃ pn icvOk, validate secStreams 3 wireP e = .valid (saKey 3 0 0 0) pn plainP icvOk) ∧ (streamHit secStreams 3 plainP).isSome = true ∧
    (expressDecide 3 plainP false true [] secStreams).xpr.nextIdent ≠ secStreams.xpr.nextIdent := by
  refine ⟨by decide +kernel, by decide +kernel, fun e => ?_, plainP_decided⟩
  obtain ⟨hd, h4, h5⟩ := wireP_data
  have h1 : beField wireP 12 2 = 0x88E5 := by unfold wireP; rfl
  have h2 : beField wireP 14 1 = (if 16 ≤ tagBytes then 0x20 else 0) := by by_cases h : 16 ≤ tagBytes <;> simp only [wireP, h, if_true, if_false] <;> rfl
  have hp : protects secStreams 3 wireP = true := by
    have hc : secStreams.on PRT_MACSEC_CTRL_MACSEC_EN 3 = true := by decide +kernel
    simp [protects, hc, h1]
  have ht : bitOf (beField wireP 14 1) 5 = decide (16 ≤ tagBytes) := by rw [h2]; by_cases h : 16 ≤ tagBytes <;> simp [h] <;> decide
  have h3 : 16 ≤ tagBytes → beField wireP 20 8 = 0 := by
    intro h
    have hm : Config.macsecBytes - 20 = 12 + (Config.macsecBytes - 32) := by unfold tagBytes at h; omega
    have hz : zeros (Config.macsecBytes - 20) = zeros 12 ++ zeros (Config.macsecBytes - 32) := by
      rw [hm]; simp only [zeros, List.replicate_append_replicate]
    simp only [wireP, hz, List.append_assoc, h, if_true]; rfl
  have hs : rxSa secStreams 3 wireP = some (saKey 3 0 0 0, ⟨0, 0, 0, true, 7⟩) := by
    have ha : secStreams.ascor.macsec = [(saKey 3 0 0 0, ⟨0, 0, 0, true, 7⟩), (saKey 3 0 1 0, ⟨0, 1, 0, true, 8⟩)] := rfl
    unfold rxSa
    rw [ha, h2]
    by_cases h : 16 ≤ tagBytes
    · rw [h3 h]; simp [h, saKey, bitOf]
    · simp [h, saKey, bitOf]
  have hc : confOffset secStreams 3 = 50 := by decide +kernel
  unfold validate
  rw [hp, h1, hs, ht]
  simp only [Bool.not_true, Nat.not_lt.mpr h4, bne_self_eq_false, decide_false, Bool.false_or, Bool.false_eq_true, if_false, hc]
  rw [if_neg (by omega), secure_clear _ _ _ _ _ h5, hd]
  exact ⟨_, _, rfl⟩

/-- Stream 5: VALID, SEQ_RECOVERY with instance 9 and RESET_MS 1. -/
def stream5 : State := { linked 3 with xpr := { ready.xpr with
  streams := [(5, { noStream with entry := 1 + 2 ^ 182 + 9 * 2 ^ 192 + 2 ^ 240 })], recovery := [(9, ⟨1, 1, 0⟩)] } }

theorem test_recoveryReset : stream5.xpr.streams.any (fun e => bitOf e.2.entry 182 && bitsOf e.2.entry 205 192 == 9 && bitsOf e.2.entry 255 240 != 0) = true ∧
    (after (.recoveryReset 9) (late stream5)).xpr.recovery = [] ∧ (after (.recoveryReset 9) (lapse 999999 stream5)).xpr.recovery = [(9, ⟨1, 1, 0⟩)] := by
  decide +kernel

/-- An express copy of frame 8 from port 1 to port 3 of stream 5, whose entry bounds its SDU to 64 bytes. -/
def xcopy (granted : Bool) : XCopy := ⟨8, 1, 3, 5, zeros 100, 100, ⟨0, 0⟩, some 0, 0, granted, false, false⟩
def express (granted : Bool) : State := { linked 3 with xpr := { ready.xpr with
  copies := [xcopy granted], nextIdent := 9, streams := [(5, { noStream with entry := 1 + 2 ^ 180 + 64 * 2 ^ 208 })] } }

theorem test_cellTime : runs .cellTime (express false) = true := by decide +kernel

theorem test_expressOversize : (xCopiesOf (express false) 8).find? (fun c => !c.ended) = some (xcopy false) ∧ streamSdu (streamOf (express false) 5).entry ≠ 0 ∧
    (xCopiesOf (express false) 8).all (fun x => !x.granted) = true ∧ (xCopiesOf (express true) 8).all (fun x => !x.granted) = false ∧
    (after (.expressOversize 8) (express true)).xpr.copies.map (fun c => (c.ended, c.bad)) = [(true, true)] ∧ (after (.expressOversize 8) (express false)).xpr.copies = [] := by
  decide +kernel

theorem test_expressDeadline : (express true).xpr.copies.find? (fun c => c.ident == 8 && c.egress == 3) = some (xcopy true) ∧ (portOf (express true) 3).sending = none ∧
    (dropXCopy 8 3 (express true)).power.coreUp = true ∧ runs (.expressDeadline 8 3) (express true) = true ∧
    (after (.expressDeadline 8 3) (express false)).xpr.copies = [] ∧
    (after (.expressDeadline 8 3) { express true with power := { ready.power with coreUp := false } }).num XPR_LATE_DROP_CNT = 1 := by
  decide +kernel

/-- Port 3 transmits: an express copy that has crossed, a preempted frame, or the bulk queue 24. -/
def sending3 (express : Bool) : Sending := ⟨express, 24, copy3, 60, ⟨0, 0⟩, false, 0, 0, none⟩

theorem test_egressFrameStart : secBlocked (linked 3) 3 copy3.out = false ∧ mayTransmit (linked 3) 3 = true ∧ mayTransmit ready 3 = false ∧
    (portOf (after (.egressFrameStart 3) (queueIs 24 { noQueue with head := [copy3] })) 3).sending.isSome = true ∧
    selectExpress (queueIs 24 { noQueue with head := [copy3] }) 3 = none ∧ (selectBulk (queueIs 24 { noQueue with head := [copy3] }) 3).1 = some (0, copy3) := by
  decide +kernel

theorem test_egressFrameStart_others :
    (selectExpress { express true with xpr := { (express true).xpr with copies := [{ xcopy true with crossed := 9, ended := true, deadline := none }] } } 3).isSome = true ∧
    resumes (onPort 3 (fun x => { x with preempted := some (sending3 false) }) (linked 3)) 3 (sending3 false) = true ∧
    (portOf (after (.egressFrameStart 3) (onPort 3 (fun x => { x with preempted := some (sending3 false) }) (linked 3))) 3).sending = some (sending3 false) := by
  decide +kernel

theorem test_egressFrameEnd : (portOf (onPort 3 (fun x => { x with sending := some (sending3 false) }) (queueIs 24 noQueue)) 3).sending = some (sending3 false) ∧
    (portOf (after (.egressFrameEnd 3) (onPort 3 (fun x => { x with sending := some (sending3 false) }) (queueIs 24 noQueue))) 3).sending = none := by
  decide +kernel

/-- A preemptable frame on the line while its port holds. -/
def long3 : Sending := { sending3 false with copy := { copy3 with out := zeros 200 }, left := 204 }
def preempting (ns : Nat) : State := lapse ns <| onPort 3 (fun x => { x with sending := some long3, held := true })
  ((queueIs 24 noQueue).put PRT_STATUS_PREEMPT_ACTIVE 1 3)

theorem test_preemption : sendingQueue (preempting 512) 3 = some long3 ∧ preemptActive (preempting 512) 3 = true ∧ (portOf (preempting 512) 3).held = true ∧
    mayCut (preempting 512) 3 long3 = true ∧ mayCut (preempting 511) 3 long3 = false ∧ mayCut (preempting 1128) 3 long3 = false ∧
    (portOf (after (.preemption 3) (preempting 512)) 3).preempted.map (fun x => x.sent) = some 64 ∧ (after (.preemption 3) (preempting 512)).num SCH_PREEMPT 3 = 1 := by
  decide +kernel

theorem test_shaperUpdate_pauses : (after .shaperUpdate (lapse 15 ready)).egr.shapedAt = 0 ∧ runs .shaperUpdate (lapse 16 ready) = true ∧ (lapse 16 ready).egr.shapedAt + 16 ≤ (lapse 16 ready).clock ∧
    (portOf (after (.pauseExpiry 95 7) (onPort 95 (fun x => { x with paused := [(7, 1)] }) ready)) 95).paused = [(7, 1)] ∧ runs .shaperUpdate ready = true ∧ runs (.pauseReceived 95 true [(7, 65535)]) ready = true ∧
    (portOf (after (.pauseExpiry 95 7) (late (onPort 95 (fun x => { x with paused := [(7, 1)] }) ready))) 95).paused = [] ∧ runs (.pauseExpiry 95 8) ready = false := by
  decide +kernel

theorem test_launchTime : (portOf (after (.launchTime 3 0) (queueIs 24 { noQueue with head := [{ copy3 with launch := some ⟨0, 0⟩ }] })) 3).launched = [0] := by decide +kernel

-- Gate lists, links

/-- Port 3 with an enabled operational list of an open and a held entry. -/
def gates3 (op : Nat) : State :=
  { linked 3 with egr := { (linked 3).egr with gcl := [(3, ⟨[1000 + 255 * 2 ^ 24, 1000 + op * 2 ^ 33], 0, 2000, true, 0, false⟩)] }, time := { ready.time with ns := 990 } }

theorem test_gateEntryChange : (Store.get? (gates3 0).egr.gcl 3).map (fun g => g.enable) = some true ∧
    (after (.gateEntryChange 3) { gates3 0 with time := { ready.time with ns := 1500 } }).get SCH_GCL_POS_ENTRY 3 = 1 := by
  decide +kernel

theorem test_setAndHold : entryAhead ((gates3 1).put SCH_PREEMPT_ADV_HOLD_ADVANCE 20 3) 3 20 = some (1000 + 1 * 2 ^ 33) ∧ gateOp (1000 + 1 * 2 ^ 33) = 1 ∧ gateOp (1000 + 2 * 2 ^ 33) = 2 ∧
    (portOf (after (.setAndHoldMac 3) ((gates3 1).put SCH_PREEMPT_ADV_HOLD_ADVANCE 20 3)) 3).held = true ∧
    (portOf (after (.setAndReleaseMac 3) (onPort 3 (fun x => { x with held := true }) ((gates3 2).put SCH_PREEMPT_ADV_RELEASE_ADVANCE 20 3))) 3).held = false := by
  decide +kernel

theorem test_gclListStart : (after (.gclListStart 3) { linked 3 with egr := { (linked 3).egr with gclPend := [(3, ⟨[1000], 0, 1000, true, 0, false⟩)] } }).on SCH_GCL_STAT_OPER_EN 3 = true ∧
    ((Store.get? (after (.sgateListStart 255) { ready with xpr := { ready.xpr with gates := [(255, ⟨none, some ⟨[1000], 0, 1000, true, 0, false⟩, none⟩)] } }).xpr.gates 255).map
      (fun g => g.oper.isSome && g.pend.isNone)) = some true := by
  decide +kernel

/-- A port whose list is closed for 10 µs of its cycle, with WAKE_EN. -/
def closed3 : State :=
  { (linked 3).put SCH_WAKE_CFG_WAKE_EN 1 3 with egr := { (linked 3).egr with gcl := [(3, ⟨[10000, 1000 + 255 * 2 ^ 24], 0, 11000, true, 0, false⟩)] } }

theorem test_quietPeriod : closed3.on SCH_WAKE_CFG_WAKE_EN 3 = true ∧ (listAt (gateLists closed3 3).1 (gateLists closed3 3).2 closed3.nowNs).isSome = true ∧
    closedFor closed3 3 (clamp 4000 1000000000 (closed3.get SCH_WAKE_CFG_MIN_GAP_NS 3)) = true ∧ (portOf (after (.quietPeriodStart 3) closed3) 3).quiet = true ∧
    (portOf (after (.plannedWake 3) (onPort 3 (fun x => { x with quiet := true }) closed3)) 3).quiet = false := by
  decide +kernel

theorem test_linkDown : (after (.linkDown 3 ⟨2, 0⟩) (linked 3)).on PRT_STATUS_LINK_UP 3 = decide (0 < (linked 3).get PRT_LINK_DEBOUNCE_DEBOUNCE 3) ∧
    quieted (linked 3) 3 = false ∧ quieted (setQuiet 3 true (linked 3)) 3 = true ∧ (portOf (after (.linkDown 3 ⟨2, 1000⟩) (setQuiet 3 true (linked 3))) 3).holdTimer = false ∧ (portOf (linked 3) 3).enabled = true ∧ (linked 3).on PRT_STATUS_LINK_UP 3 = true ∧ (after (.linkDown 3 ⟨2, 1000⟩) (linked 3)).on PRT_STATUS_LINK_UP 3 = false ∧
    (portOf (after (.linkDown 3 ⟨2, 1000⟩) (linked 3)) 3).holdTimer = true := by
  decide +kernel

theorem test_linkUp : quieted ((linked 3).put PRT_STATUS_LINK_UP 0 3) 3 = false ∧ (after (.linkUp ⟨3, 1000⟩) ((linked 3).put PRT_STATUS_LINK_UP 0 3)).on PRT_STATUS_LINK_UP 3 = true ∧
    (after (.linkUp ⟨3, 1000⟩) ((linked 3).put PRT_STATUS_LINK_UP 0 3)).host.evtFifo.map (fun e => (e.typ, e.source)) = [(0x0010, 3)] := by
  decide +kernel

theorem test_holdTimeExpiry : holdTime (linked 3) 3 ≤ (late (linked 3)).clock ∧ holdTime (linked 3) 3 ≠ 0 ∧
    (portOf (after (.holdTimeExpiry 3) (late (onPort 3 (fun x => { x with holdTimer := true }) (linked 3)))) 3).toPark = List.range 8 := by decide +kernel

theorem test_verify : (portOf (after (.verifyTimeExpiry 3) (late (onPort 3 (fun x => { x with verify := 1, tries := 1 }) (linked 3)))) 3).tries = 2 ∧
    (portOf (after (.verifyTimeExpiry 3) (lapse 999999 (onPort 3 (fun x => { x with verify := 1, tries := 1 }) (linked 3)))) 3).tries = 1 ∧
    (portOf (after (.verifyTimeExpiry 3) (late (onPort 3 (fun x => { x with verify := 1, tries := 3 }) (linked 3)))) 3).verify = 3 ∧
    (portOf (after (.verifyResponseReceived 3 true) (onPort 3 (fun x => { x with verify := 1, tries := 3 }) (linked 3))) 3).verify = 2 := by
  decide +kernel

end Sys2Proof.Tests
end

