-- ==== Sys2Proof/Tests/Slice0.lean ====
section
/-! SUPPORT. The form of commands, the queue of commands, the fault pins and the Felric instructions: an ill-formed command for each check, which
the check refuses and on which the model stops, and concrete states that meet the hypotheses of the statements about them, with results worked out by hand from
Tables 9.6 and 9.7. The other files of this folder hold the tests of the other families. -/

namespace Sys2Proof.Tests
set_option Elab.async false
open Sys2Proof.Machine

-- Well-formed and ill-formed commands: one of each check

theorem test_wf : (Instr.ascIdGet plain1).wf = true ∧ (Instr.frameArrival 95 [] true true).wf = true ∧ (Instr.quarterPass 4).wf = true ∧
    (Instr.doorbell 77 0).wf = true ∧ (Instr.hksMicroword 0 2).wf = true ∧ (Instr.undefinedOpcode plain1 0x0211).wf = true := by
  decide +kernel

/-- A CMD ring, a core, a ring, a port, a quarter, a channel or a lane that the device does not have. -/
theorem test_illFormed_parts : (Instr.ascIdGet { plain1 with ring := 4 }).wf = false ∧ (Instr.fAdd 64 1 2 3).wf = false ∧ (Instr.ringEnable 59 0).wf = false ∧
    (Instr.portEnable 96 0).wf = false ∧ (Instr.quarterPass 5).wf = false ∧ (Instr.dimmTempRead 8 0).wf = false ∧ (Instr.rdiReceived 4 true).wf = false ∧
    (Instr.commandCommit 4 0 0 0 0).wf = false ∧ (Instr.txcWrite 24).wf = false ∧ (Instr.pktRxWrite 16).wf = false := by
  decide +kernel

/-- A queue, a stream gate, a priority, a counter bank, a unit, a DDR stack, a source, a stage, a rail, a pin, an error kind, a vector. -/
theorem test_illFormed_places : (Instr.segmentWrite 784).wf = false ∧ (Instr.sgateListStart 256).wf = false ∧ (Instr.pfcRefresh 3 8).wf = false ∧
    (Instr.cntSelWrite 22 0 0).wf = false ∧ (Instr.unitWakeRequest 17).wf = false ∧ (Instr.pcFailed 2 0).wf = false ∧
    (Instr.faultOccurrence 512 0 0).wf = false ∧ (Instr.trainingPassComplete 8 true 0).wf = false ∧ (Instr.railFall 11).wf = false ∧
    (Instr.pinPulse 5).wf = false ∧ (Instr.startupStage 5 true false 0 [] []).wf = false ∧ (Instr.pktTxFetch 24 [] []).wf = false ∧ (Instr.bbSealComplete 2).wf = false ∧
    (Instr.hksMicroword 0 3).wf = false ∧ (Instr.msiXVectorUnmask 64).wf = false := by
  decide +kernel

/-- An event of a source register, a black-box block, a freeze cause, an opcode that Table 16.2 has, a cluster, a routine and a defect that do not exist. -/
theorem test_illFormed_codes : (Instr.smbusFaultRead 512).wf = false ∧ (Instr.bbReadBlock 0 524800).wf = false ∧ (Instr.freeze 0x3000).wf = false ∧
    (Instr.undefinedOpcode plain1 0x0100).wf = false ∧ (Instr.taskSpillRefill 4 0).wf = false ∧ (Instr.laneDefect 0 7 0).wf = false ∧
    (Instr.recoveryReset 16384).wf = false ∧ (Instr.healthKick 3).wf = false ∧ (Instr.memoryRequestIssue 72 []).wf = false ∧
    (Instr.fenceViolation 20).wf = false ∧ (Instr.sessionIdleExpiry 4).wf = false ∧ (Instr.pllUnlock 4).wf = false := by
  decide +kernel

/-- Log entry 1: on an ill-formed command the model stops, and on a well-formed one it goes on. -/
theorem test_illFormed_stops : runs (.quarterPass 5) ready = false ∧ runs (.quarterPass 4) ready = true ∧ runs (.ascIdGet { plain1 with ring := 4 }) ready = false := by
  decide +kernel

-- The queue of commands

/-- A queue of two commands: the step runs the first on a state whose queue is the second. -/
theorem test_step : ({ ready with pending := [.hourCount, .eventPost] } : State).pending = .hourCount :: [.eventPost] ∧
    runs .hourCount (lapse (3600 * 10 ^ 9) { ready with pending := [.eventPost] }) = true ∧
    (after .hourCount (lapse (3600 * 10 ^ 9) { ready with pending := [.eventPost] })).pending = [.eventPost] ∧
    (after .hourCount (lapse (3600 * 10 ^ 9) { ready with pending := [.eventPost] })).get PWR_HOURS_HOURS = 1 ∧
    (after .hourCount (lapse (3600 * 10 ^ 9 - 1) ready)).get PWR_HOURS_HOURS = 0 := by
  refine ⟨rfl, ?_⟩
  decide +kernel

/-- Log entry 4: on the empty queue a step idles. -/
theorem test_idle : step State.reset = .next State.reset := rfl

/-- No row of the table gives bits, so no number spells a command, and nothing is put in front of the queue. -/
theorem test_noWords (n w : Nat) : decodeTableWord n w = none ∧ ready.withFetchWord n w = ready := ⟨rfl, rfl⟩

-- The fault pins (R433)

/-- A state in which the pins agree and the step answers a next state. -/
theorem test_pins : State.reset.pinsAgree ∧ ∃ t, step State.reset = .next t := by
  refine ⟨?_, _, rfl⟩
  unfold State.pinsAgree
  decide +kernel

/-- A source that holds ALARM_N asserts ALARM_PIN; one that does not leaves it. -/
theorem test_alarmPin : (after (.faultOccurrence srcRefLost 0 0) (ready.put FLT_SRC_CFG_ALARM 1 srcRefLost)).on FLT_PIN_CTRL_ALARM_PIN = true ∧
    (after (.faultOccurrence srcRefLost 0 0) (ready.put FLT_SRC_CFG_ALARM 0 srcRefLost)).on FLT_PIN_CTRL_ALARM_PIN = false := by
  decide +kernel

-- The register file

theorem test_registerFile : (ready.setReg FLW_CORE_BUSY 5 7).reg FLW_CORE_BUSY 7 = 5 ∧ (ready.setReg FLW_CORE_BUSY 5 7).reg FLW_CORE_BUSY 8 = 0 ∧
    FLW_CORE_BUSY.addr 8 0 0 ≠ FLW_CORE_BUSY.addr 7 0 0 ∧ (State.reset.setReg FLW_CORE_BUSY 0 7).regs = [] := by
  decide +kernel

-- Felric instruction words, written out from Tables 9.6 and 9.7

/-- ADD, SUB, MUL and CRCW of g3, g1, g2. -/
theorem test_words_a : decodeFelric 0b00000100110001001000000000000000 = some (.regs 0x01 3 1 2) ∧
    decodeFelric 0b00001000110001001000000000000000 = some (.regs 0x02 3 1 2) ∧
    decodeFelric 0b00101000110001001000000000000000 = some (.regs 0x0A 3 1 2) ∧
    decodeFelric 0b01101100110001001000000000000000 = some (.regs 0x1B 3 1 2) := by
  decide +kernel

/-- ADDI g1, g2, 5; ROTB g1, g2, 5; LI with a register A that is not zero. -/
theorem test_words_i : decodeFelric 0b01000000010010000000000000000101 = some (.imm 0x10 1 2 5) ∧
    decodeFelric 0b01101000010010000000000000000101 = some (.imm 0x1A 1 2 5) ∧ decodeFelric 0b01100000010010000000000000000101 = none := by
  decide +kernel

/-- A 32-bit ST to a shared bank; BR over 0x80 words; BWAIT g1, 7; a CSRR with a reserved bit set; END 5, and one with a reserved bit set. -/
theorem test_words_other : decodeFelric 0b10000100010010111000000000000100 = some (.mem true 1 2 3 2 4) ∧
    decodeFelric 0b10100000010010001000000010000000 = some (.br 1 2 1 128) ∧ decodeFelric 0b11001000010000000000000000000111 = some (.ctl 0x32 1 0 7) ∧
    decodeFelric 0b11000000010000010000000000000001 = none ∧ decodeFelric 0b11111100000000000000000000000101 = some (.fin 5) ∧
    decodeFelric 0b11111100000000000000000100000000 = none ∧ (FInstr.mem true 1 2 3 2 4).wf = true := by
  decide +kernel

-- Felric instructions on core 0

/-- Core 0 runs a task whose only word is that of x; g1 holds v, g2 holds w, g5 holds 8. -/
def task1 (x : FInstr) (v w : Word64) : Running :=
  { run9 [x.encode] with regs := [0, v, w, 0, 0, 8, 0, 0, 0, 0, 0, 0, 0, 0, 0, 0] }
def core1 (x : FInstr) (v w : Word64) : State := core0 (task1 x v w)

/-- What register g of core 0's task holds after a command. -/
def leaves (i : Instr) (s : State) (g : Nat) : Option Word64 := (runningOn (after i s) 0).map (fun r => gpr r g)

/-- The cycles and the next word of core 0's task after a command. -/
def spent (i : Instr) (s : State) : Option (Nat × Nat) := (runningOn (after i s) 0).map (fun r => (r.cycles, r.pc))

theorem test_add : AboutTo 0 (.regs 0x01 3 1 2) (task1 (.regs 0x01 3 1 2) (-1) 2) (core1 (.regs 0x01 3 1 2) (-1) 2) ∧
    leaves (.fAdd 0 3 1 2) (core1 (.regs 0x01 3 1 2) (-1) 2) 3 = some 1 ∧ spent (.fAdd 0 3 1 2) (core1 (.regs 0x01 3 1 2) (-1) 2) = some (1, 1) := by
  unfold AboutTo; decide +kernel
theorem test_sub : AboutTo 0 (.regs 0x02 3 1 2) (task1 (.regs 0x02 3 1 2) 1 2) (core1 (.regs 0x02 3 1 2) 1 2) ∧
    leaves (.fSub 0 3 1 2) (core1 (.regs 0x02 3 1 2) 1 2) 3 = some 0xFFFFFFFFFFFFFFFF := by
  unfold AboutTo; decide +kernel
theorem test_and : AboutTo 0 (.regs 0x03 3 1 2) (task1 (.regs 0x03 3 1 2) 12 10) (core1 (.regs 0x03 3 1 2) 12 10) ∧
    leaves (.fAnd 0 3 1 2) (core1 (.regs 0x03 3 1 2) 12 10) 3 = some 8 := by
  unfold AboutTo; decide +kernel
theorem test_or : AboutTo 0 (.regs 0x04 3 1 2) (task1 (.regs 0x04 3 1 2) 12 10) (core1 (.regs 0x04 3 1 2) 12 10) ∧
    leaves (.fOr 0 3 1 2) (core1 (.regs 0x04 3 1 2) 12 10) 3 = some 14 := by
  unfold AboutTo; decide +kernel
theorem test_xor : AboutTo 0 (.regs 0x05 3 1 2) (task1 (.regs 0x05 3 1 2) 12 10) (core1 (.regs 0x05 3 1 2) 12 10) ∧
    leaves (.fXor 0 3 1 2) (core1 (.regs 0x05 3 1 2) 12 10) 3 = some 6 := by
  unfold AboutTo; decide +kernel
/-- The shifts take the low six bits of B: 65 shifts by 1. -/
theorem test_shl : AboutTo 0 (.regs 0x06 3 1 2) (task1 (.regs 0x06 3 1 2) 3 65) (core1 (.regs 0x06 3 1 2) 3 65) ∧
    leaves (.fShl 0 3 1 2) (core1 (.regs 0x06 3 1 2) 3 65) 3 = some 6 := by
  unfold AboutTo; decide +kernel
theorem test_shr : AboutTo 0 (.regs 0x07 3 1 2) (task1 (.regs 0x07 3 1 2) (-1) 63) (core1 (.regs 0x07 3 1 2) (-1) 63) ∧
    leaves (.fShr 0 3 1 2) (core1 (.regs 0x07 3 1 2) (-1) 63) 3 = some 1 := by
  unfold AboutTo; decide +kernel
theorem test_sar : AboutTo 0 (.regs 0x08 3 1 2) (task1 (.regs 0x08 3 1 2) (-8) 1) (core1 (.regs 0x08 3 1 2) (-8) 1) ∧
    leaves (.fSar 0 3 1 2) (core1 (.regs 0x08 3 1 2) (-8) 1) 3 = some (-4) := by
  unfold AboutTo; decide +kernel
theorem test_rotl : AboutTo 0 (.regs 0x09 3 1 2) (task1 (.regs 0x09 3 1 2) 0x8000000000000001 1) (core1 (.regs 0x09 3 1 2) 0x8000000000000001 1) ∧
    leaves (.fRotl 0 3 1 2) (core1 (.regs 0x09 3 1 2) 0x8000000000000001 1) 3 = some 3 := by
  unfold AboutTo; decide +kernel
theorem test_mul : AboutTo 0 (.regs 0x0A 3 1 2) (task1 (.regs 0x0A 3 1 2) 0x100000001 0x100000001) (core1 (.regs 0x0A 3 1 2) 0x100000001 0x100000001) ∧
    leaves (.fMul 0 3 1 2) (core1 (.regs 0x0A 3 1 2) 0x100000001 0x100000001) 3 = some 0x200000001 ∧
    spent (.fMul 0 3 1 2) (core1 (.regs 0x0A 3 1 2) 3 4) = some (3, 1) := by
  unfold AboutTo; decide +kernel
theorem test_minu_maxu : AboutTo 0 (.regs 0x0B 3 1 2) (task1 (.regs 0x0B 3 1 2) (-1) 2) (core1 (.regs 0x0B 3 1 2) (-1) 2) ∧
    AboutTo 0 (.regs 0x0C 3 1 2) (task1 (.regs 0x0C 3 1 2) (-1) 2) (core1 (.regs 0x0C 3 1 2) (-1) 2) ∧
    leaves (.fMinu 0 3 1 2) (core1 (.regs 0x0B 3 1 2) (-1) 2) 3 = some 2 ∧ leaves (.fMaxu 0 3 1 2) (core1 (.regs 0x0C 3 1 2) (-1) 2) 3 = some (-1) := by
  unfold AboutTo; decide +kernel
theorem test_slt_sltu : AboutTo 0 (.regs 0x0D 3 1 2) (task1 (.regs 0x0D 3 1 2) (-1) 2) (core1 (.regs 0x0D 3 1 2) (-1) 2) ∧
    AboutTo 0 (.regs 0x0E 3 1 2) (task1 (.regs 0x0E 3 1 2) (-1) 2) (core1 (.regs 0x0E 3 1 2) (-1) 2) ∧
    leaves (.fSltu 0 3 1 2) (core1 (.regs 0x0D 3 1 2) (-1) 2) 3 = some 0 ∧ leaves (.fSlt 0 3 1 2) (core1 (.regs 0x0E 3 1 2) (-1) 2) 3 = some 1 := by
  unfold AboutTo; decide +kernel
theorem test_crcw : AboutTo 0 (.regs 0x1B 3 1 2) (task1 (.regs 0x1B 3 1 2) 0 0) (core1 (.regs 0x1B 3 1 2) 0 0) ∧
    spent (.fCrcw 0 3 1 2) (core1 (.regs 0x1B 3 1 2) 0 0) = some (2, 1) := by
  unfold AboutTo; decide +kernel

/-- The immediate −1 of 18 bits: sign-extended by ADDI, zero-extended by ANDI, ORI and XORI. -/
theorem test_immediates : AboutTo 0 (.imm 0x10 3 1 0x3FFFF) (task1 (.imm 0x10 3 1 0x3FFFF) 7 0) (core1 (.imm 0x10 3 1 0x3FFFF) 7 0) ∧
    AboutTo 0 (.imm 0x11 3 1 0x3FFFF) (task1 (.imm 0x11 3 1 0x3FFFF) (-1) 0) (core1 (.imm 0x11 3 1 0x3FFFF) (-1) 0) ∧
    AboutTo 0 (.imm 0x12 3 1 0x3FFFF) (task1 (.imm 0x12 3 1 0x3FFFF) 0 0) (core1 (.imm 0x12 3 1 0x3FFFF) 0 0) ∧
    AboutTo 0 (.imm 0x13 3 1 0x3FFFF) (task1 (.imm 0x13 3 1 0x3FFFF) 1 0) (core1 (.imm 0x13 3 1 0x3FFFF) 1 0) ∧
    leaves (.fAddi 0 3 1 0x3FFFF) (core1 (.imm 0x10 3 1 0x3FFFF) 7 0) 3 = some 6 ∧
    leaves (.fAndi 0 3 1 0x3FFFF) (core1 (.imm 0x11 3 1 0x3FFFF) (-1) 0) 3 = some 0x3FFFF ∧
    leaves (.fOri 0 3 1 0x3FFFF) (core1 (.imm 0x12 3 1 0x3FFFF) 0 0) 3 = some 0x3FFFF ∧
    leaves (.fXori 0 3 1 0x3FFFF) (core1 (.imm 0x13 3 1 0x3FFFF) 1 0) 3 = some 0x3FFFE := by
  unfold AboutTo; decide +kernel

theorem test_shiftImmediates : AboutTo 0 (.imm 0x14 3 1 4) (task1 (.imm 0x14 3 1 4) 3 0) (core1 (.imm 0x14 3 1 4) 3 0) ∧
    AboutTo 0 (.imm 0x15 3 1 4) (task1 (.imm 0x15 3 1 4) 48 0) (core1 (.imm 0x15 3 1 4) 48 0) ∧
    AboutTo 0 (.imm 0x16 3 1 4) (task1 (.imm 0x16 3 1 4) (-32) 0) (core1 (.imm 0x16 3 1 4) (-32) 0) ∧
    AboutTo 0 (.imm 0x17 3 1 60) (task1 (.imm 0x17 3 1 60) 0x30 0) (core1 (.imm 0x17 3 1 60) 0x30 0) ∧
    leaves (.fShli 0 3 1 4) (core1 (.imm 0x14 3 1 4) 3 0) 3 = some 48 ∧ leaves (.fShri 0 3 1 4) (core1 (.imm 0x15 3 1 4) 48 0) 3 = some 3 ∧
    leaves (.fSari 0 3 1 4) (core1 (.imm 0x16 3 1 4) (-32) 0) 3 = some (-2) ∧ leaves (.fRotli 0 3 1 60) (core1 (.imm 0x17 3 1 60) 0x30 0) 3 = some 3 := by
  unfold AboutTo; decide +kernel

/-- LI −1; ORH puts its 16 bits under the source; ROTB of no lane and mode. -/
theorem test_li_orh_rotb : AboutTo 0 (.imm 0x18 3 0 0x3FFFF) (task1 (.imm 0x18 3 0 0x3FFFF) 0 0) (core1 (.imm 0x18 3 0 0x3FFFF) 0 0) ∧
    AboutTo 0 (.imm 0x19 3 1 0x5678) (task1 (.imm 0x19 3 1 0x5678) 0x1234 0) (core1 (.imm 0x19 3 1 0x5678) 0x1234 0) ∧
    AboutTo 0 (.imm 0x1A 3 1 0) (task1 (.imm 0x1A 3 1 0) 5 0) (core1 (.imm 0x1A 3 1 0) 5 0) ∧
    leaves (.fLi 0 3 0x3FFFF) (core1 (.imm 0x18 3 0 0x3FFFF) 0 0) 3 = some (-1) ∧
    leaves (.fOrh 0 3 1 0x5678) (core1 (.imm 0x19 3 1 0x5678) 0x1234 0) 3 = some 0x12345678 ∧
    spent (.fRotb 0 3 1 0) (core1 (.imm 0x1A 3 1 0) 5 0) = some (1, 1) := by
  unfold AboutTo; decide +kernel

/-- A task that has the scratchpad of its cluster: what it stores there it loads. -/
theorem test_ld_st : AboutTo 0 (.mem true 1 5 2 1 4) (task1 (.mem true 1 5 2 1 4) 0x11223344 0) (core1 (.mem true 1 5 2 1 4) 0x11223344 0) ∧
    AboutTo 0 (.mem false 3 0 0 0 9) (task1 (.mem false 3 0 0 0 9) 0 0) (core1 (.mem false 3 0 0 0 9) 0 0) ∧
    leaves (.fLd 0 3 0 0 0 9) (core1 (.mem false 3 0 0 0 9) 0 0) 3 = some 0 ∧
    (after (.fSt 0 1 5 2 1 4) (core1 (.mem true 1 5 2 1 4) 0x11223344 0)).fel.scratch.map (fun e => e.2) = [0x44, 0x33] ∧
    loadFrom (core1 (.mem false 3 0 0 0 9) 0 0) 0 (task1 (.mem false 3 0 0 0 9) 0 0) 0 9 1 = .value 0 := by
  unfold AboutTo; decide +kernel

/-- Accesses past the end of the scratchpad, and of a bank of another owner: the task ends. -/
theorem test_ld_st_fault : AboutTo 0 (.mem false 3 1 2 3 0) (task1 (.mem false 3 1 2 3 0) 65536 0) (core1 (.mem false 3 1 2 3 0) 65536 0) ∧
    AboutTo 0 (.mem true 3 1 2 3 0) (task1 (.mem true 3 1 2 3 0) 65536 0) (core1 (.mem true 3 1 2 3 0) 65536 0) ∧
    runs (.fLd 0 3 1 2 3 0) (core1 (.mem false 3 1 2 3 0) 65536 0) = true ∧
    runs (.fSt 0 3 1 2 3 0) (core1 (.mem true 3 1 2 3 0) 65536 0) = true := by
  unfold AboutTo; decide +kernel

/-- BR on equality: taken by 5 words, and not taken. -/
theorem test_br : AboutTo 0 (.br 1 2 0 5) (task1 (.br 1 2 0 5) 4 4) (core1 (.br 1 2 0 5) 4 4) ∧
    AboutTo 0 (.br 1 2 0 5) (task1 (.br 1 2 0 5) 4 3) (core1 (.br 1 2 0 5) 4 3) ∧ brCond 0 4 4 = true ∧ brCond 0 4 3 = false ∧
    spent (.fBr 0 1 2 0 5) (core1 (.br 1 2 0 5) 4 4) = some (1, 5) ∧ spent (.fBr 0 1 2 0 5) (core1 (.br 1 2 0 5) 4 3) = some (1, 1) := by
  unfold AboutTo; decide +kernel

/-- CSR 1 is read; a CSR that is only read is written without effect. -/
theorem test_csr : AboutTo 0 (.ctl 0x30 4 0 1) (task1 (.ctl 0x30 4 0 1) 0 0) (core1 (.ctl 0x30 4 0 1) 0 0) ∧
    AboutTo 0 (.ctl 0x31 0 1 0) (task1 (.ctl 0x31 0 1 0) 0 0) (core1 (.ctl 0x31 0 1 0) 0 0) ∧
    spent (.fCsrr 0 4 0 1) (core1 (.ctl 0x30 4 0 1) 0 0) = some (1, 1) ∧ spent (.fCsrw 0 0 1 0) (core1 (.ctl 0x31 0 1 0) 0 0) = some (1, 1) := by
  unfold AboutTo; decide +kernel

/-- Bank 2 owned by core 0 goes to core 9; owned by another core, the write is a fault. -/
theorem test_bank : AboutTo 0 (.ctl 0x31 0 1 0x102) (task1 (.ctl 0x31 0 1 0x102) 9 0) ((core1 (.ctl 0x31 0 1 0x102) 9 0).put FLW_BANK_OWN_OWNER 0 2) ∧
    AboutTo 0 (.ctl 0x31 0 1 0x102) (task1 (.ctl 0x31 0 1 0x102) 9 0) ((core1 (.ctl 0x31 0 1 0x102) 9 0).put FLW_BANK_OWN_OWNER 3 2) ∧
    (after (.fCsrw 0 0 1 0x102) ((core1 (.ctl 0x31 0 1 0x102) 9 0).put FLW_BANK_OWN_OWNER 0 2)).get FLW_BANK_OWN_OWNER 2 = 9 ∧
    runs (.fCsrw 0 0 1 0x102) ((core1 (.ctl 0x31 0 1 0x102) 9 0).put FLW_BANK_OWN_OWNER 3 2) = true := by
  unfold AboutTo; decide +kernel

/-- BWAIT of an owned bank writes 1; of another it writes 0 at its limit, after 4096 cycles, and waits before. -/
theorem test_bwait : AboutTo 0 (.ctl 0x32 3 0 2) (task1 (.ctl 0x32 3 0 2) 0 0) ((core1 (.ctl 0x32 3 0 2) 0 0).put FLW_BANK_OWN_OWNER 0 2) ∧
    AboutTo 0 (.ctl 0x32 3 0 2) (task1 (.ctl 0x32 3 0 2) 0 0) ((core1 (.ctl 0x32 3 0 2) 0 0).put FLW_BANK_OWN_OWNER 3 2) ∧
    leaves (.fBwait 0 3 0 2 false) ((core1 (.ctl 0x32 3 0 2) 0 0).put FLW_BANK_OWN_OWNER 0 2) 3 = some 1 ∧
    spent (.fBwait 0 3 0 2 true) (((core1 (.ctl 0x32 3 0 2) 0 0).put FLW_BANK_OWN_OWNER 3 2).put FLW_TASK_CTRL_MAX_CYCLES 8191) = some (4096, 1) ∧
    spent (.fBwait 0 3 0 2 false) ((core1 (.ctl 0x32 3 0 2) 0 0).put FLW_BANK_OWN_OWNER 3 2) = some (0, 0) := by
  unfold AboutTo; decide +kernel

/-- A task with four notices: the fifth is a fault. -/
def noted : Running := { task1 (.ctl 0x34 0 1 0) 7 0 with notes := [1, 2, 3, 4] }
theorem test_note_tarm : AboutTo 0 (.ctl 0x34 0 1 0) (task1 (.ctl 0x34 0 1 0) 7 0) (core1 (.ctl 0x34 0 1 0) 7 0) ∧
    AboutTo 0 (.ctl 0x34 0 1 0) noted (core0 noted) ∧ AboutTo 0 (.ctl 0x35 0 1 0) (task1 (.ctl 0x35 0 1 0) 7 0) (core1 (.ctl 0x35 0 1 0) 7 0) ∧
    (runningOn (after (.fNote 0 0 1 0) (core1 (.ctl 0x34 0 1 0) 7 0)) 0).map (fun r => r.notes) = some [7] ∧
    runs (.fNote 0 0 1 0) (core0 noted) = true ∧
    (runningOn (after (.fTarm 0 0 1 0) (core1 (.ctl 0x35 0 1 0) 7 0)) 0).map (fun r => r.tarm) = some (some 7) := by
  unfold AboutTo; decide +kernel

/-- END leaves the core free. A task at its cycle limit does not execute its next word, and ends. -/
theorem test_end_limit : AboutTo 0 (.fin 0) (task1 (.fin 0) 0 0) (core1 (.fin 0) 0 0) ∧ runs (.fEnd 0 0) (core1 (.fin 0) 0 0) = true ∧
    runningOn (core1 (.fin 0) 0 0) 1 = none ∧ clamp 512 8191 ((core1 (.fin 0) 0 0).get FLW_TASK_CTRL_MAX_CYCLES) = 4096 ∧
    runs (.fAdd 0 1 1 1) (core0 { task1 (.regs 0x01 1 1 1) 0 0 with cycles := 4096 }) = true ∧
    runningOn (after (.fAdd 0 1 1 1) (core1 (.fin 0) 0 0)) 0 = some (task1 (.fin 0) 0 0) := by
  unfold AboutTo; decide +kernel

end Sys2Proof.Tests
end

/-! What a timestamp is in memory (R6): its two fields laid end to end, each least significant byte first. -/

namespace Sys2Proof.Machine

@[simp] theorem leBytes_length (n v : Nat) : (leBytes n v).length = n := by
  induction n generalizing v with
  | zero => rfl
  | succ n ih => simp [leBytes, ih]

/-- n bytes of a number hold it modulo 256^n (R4). -/
theorem leNat_leBytes (n v : Nat) : leNat (leBytes n v) = v % 256 ^ n := by
  induction n generalizing v with
  | zero => simp [leBytes, leNat, Nat.mod_one]
  | succ n ih =>
    have hb : (BitVec.ofNat 8 v).toNat = v % 256 := BitVec.toNat_ofNat v 8
    rw [leBytes, leNat, ih, hb, Nat.pow_succ', Nat.mod_mul]

theorem leNat_append (a b : List Byte) : leNat (a ++ b) = leNat a + 256 ^ a.length * leNat b := by
  induction a with
  | nil => simp [leNat]
  | cons x a ih => simp only [List.cons_append, leNat, ih, List.length_cons, Nat.pow_succ']; ring

/-- A slice that lies within the bytes fills nothing. -/
theorem slice_append_left (a b : List Byte) : slice (a ++ b) 0 a.length = a := by
  simp [slice, padTo]

theorem slice_append_right (a b : List Byte) : slice (a ++ b) a.length b.length = b := by
  simp [slice, padTo]

theorem slice_stampBytes_ns (t : Stamp) : slice (stampBytes t) 0 4 = leBytes 4 t.ns := by
  simpa [stampBytes] using slice_append_left (leBytes 4 t.ns) (leBytes 6 t.sec)

theorem slice_stampBytes_sec (t : Stamp) : slice (stampBytes t) 4 6 = leBytes 6 t.sec := by
  simpa [stampBytes] using slice_append_right (leBytes 4 t.ns) (leBytes 6 t.sec)

theorem leField_stampBytes_ns (t : Stamp) (h : t.ns < 2 ^ 32) : leField (stampBytes t) 0 4 = t.ns := by
  rw [leField, slice_stampBytes_ns, leNat_leBytes]
  exact Nat.mod_eq_of_lt h

theorem leField_stampBytes_sec (t : Stamp) (h : t.sec < 2 ^ 48) : leField (stampBytes t) 4 6 = t.sec := by
  rw [leField, slice_stampBytes_sec, leNat_leBytes]
  exact Nat.mod_eq_of_lt h

/-- The 80 bits of a timestamp: the seconds above 32 bits of nanoseconds. -/
theorem leNat_stampBytes (t : Stamp) (hn : t.ns < 2 ^ 32) (hs : t.sec < 2 ^ 48) : leNat (stampBytes t) = t.ns + 2 ^ 32 * t.sec := by
  have h4 : t.ns % 256 ^ 4 = t.ns := Nat.mod_eq_of_lt hn
  have h6 : t.sec % 256 ^ 6 = t.sec := Nat.mod_eq_of_lt hs
  rw [stampBytes, leNat_append, leBytes_length, leNat_leBytes, leNat_leBytes, h4, h6]
  rfl

/-- Settles O54: the two fields laid end to end read back by their slices, and the value of all ten bytes is the nanoseconds
below 2^32 times the seconds. -/
theorem stampsTakeTenBytes : Obligations.StampsTakeTenBytes := by
  unfold Obligations.StampsTakeTenBytes
  intro t hs hn
  have hn32 : t.ns < 2 ^ 32 := by omega
  have hns := leField_stampBytes_ns t hn32
  have hsec := leField_stampBytes_sec t hs
  refine ⟨by simp [stampBytes], hns, hsec, ?_, ?_, ?_, by rw [stampOfBytes, hns, hsec]⟩
  all_goals rw [leNat_stampBytes t hn32 hs, bitsOf]; omega

end Sys2Proof.Machine

/-! The clock counter (R293): what n ticks make of SEC, NS and FRAC, and that ticks add up. -/

namespace Sys2Proof.Machine

/-- NS and FRAC as one count of 2^-32 ns after n ticks, with no carry into SEC taken out. -/
def tickSum (n : Nat) (s : State) : Nat :=
  let k := min n (s.get TIM_TEMP_TEMP_LEFT)
  s.time.ns * fracUnit + s.time.frac + (k * s.time.tempIncr + (n - k) * s.num TIM_INCR)

theorem timeTicks_frac (n : Nat) (s : State) : (timeTicks n s).time.frac = tickSum n s % fracUnit := rfl

theorem timeTicks_ns (n : Nat) (s : State) : (timeTicks n s).time.ns = tickSum n s / fracUnit % nsPerSec := rfl

theorem timeTicks_sec (n : Nat) (s : State) :
    (timeTicks n s).time.sec = (s.time.sec + tickSum n s / fracUnit / nsPerSec) % 2 ^ 48 := rfl

theorem timeTicks_ns_lt (n : Nat) (s : State) : (timeTicks n s).time.ns < nsPerSec := by
  rw [timeTicks_ns]
  exact Nat.mod_lt _ (by decide)

theorem stampOk_nsStamp (n : Nat) : stampOk (nsStamp n) = true :=
  decide_eq_true (Nat.mod_lt n (by decide : 0 < nsPerSec))

/-- With no temporary rate every tick adds TIM_INCR. -/
theorem tickSum_of_no_temp (n : Nat) (s : State) (h : s.get TIM_TEMP_TEMP_LEFT = 0) :
    tickSum n s = s.time.ns * fracUnit + s.time.frac + n * s.num TIM_INCR := by
  simp [tickSum, h]

theorem timeTicks_no_temp (n : Nat) (s : State) (h : s.get TIM_TEMP_TEMP_LEFT = 0) : (timeTicks n s).get TIM_TEMP_TEMP_LEFT = 0 := by
  unfold timeTicks
  rw [State.get_put_same _ _ _ _ _ _ (by decide) (by decide), h]
  simp

theorem timeTicks_incr (n : Nat) (s : State) : (timeTicks n s).num TIM_INCR = s.num TIM_INCR := by
  have haddr : TIM_INCR.addr 0 0 0 ≠ TIM_TEMP_TEMP_LEFT.reg.addr 0 0 0 := by decide
  unfold timeTicks State.put State.num
  rw [State.reg_setReg_other _ _ _ _ _ _ _ _ _ _ haddr, State.with_time_reg]

/-- A count in parts of 1/f, with f to a unit and n units to a whole: the wholes, the units and the parts left. -/
theorem count_split (c f n : Nat) : c = c / f % n * f + c % f + c / f / n * (n * f) := by
  calc c = f * (c / f) + c % f := (Nat.div_add_mod c f).symm
    _ = f * (n * (c / f / n) + c / f % n) + c % f := by rw [Nat.div_add_mod (c / f) n]
    _ = c / f % n * f + c % f + c / f / n * (n * f) := by ring

/-- The count of a + b ticks is that of b ticks after a, and the seconds that the first a carried out. -/
theorem tickSum_add (a b : Nat) (s : State) (h : s.get TIM_TEMP_TEMP_LEFT = 0) :
    tickSum (a + b) s = tickSum b (timeTicks a s) + tickSum a s / fracUnit / nsPerSec * (nsPerSec * fracUnit) := by
  rw [tickSum_of_no_temp b _ (timeTicks_no_temp a s h), timeTicks_incr, timeTicks_ns, timeTicks_frac]
  have hsplit := count_split (tickSum a s) fracUnit nsPerSec
  have hadd : tickSum (a + b) s = tickSum a s + b * s.num TIM_INCR := by
    rw [tickSum_of_no_temp _ s h, tickSum_of_no_temp _ s h]
    ring
  omega

/-- Whole seconds added to a count stand in its quotient alone. -/
theorem count_add_seconds (c k : Nat) : (c + k * (nsPerSec * fracUnit)) / fracUnit = c / fracUnit + k * nsPerSec := by
  rw [← Nat.mul_assoc, Nat.add_mul_div_right _ _ (by decide)]

/-- With no temporary rate, ticks passed together give the same TIME as in two parts. -/
theorem timeTicks_add (a b : Nat) (s : State) (h : s.get TIM_TEMP_TEMP_LEFT = 0) :
    (timeTicks (a + b) s).time.sec = (timeTicks b (timeTicks a s)).time.sec ∧
    (timeTicks (a + b) s).time.ns = (timeTicks b (timeTicks a s)).time.ns ∧
    (timeTicks (a + b) s).time.frac = (timeTicks b (timeTicks a s)).time.frac := by
  refine ⟨?_, ?_, ?_⟩
  · rw [timeTicks_sec, timeTicks_sec, timeTicks_sec, tickSum_add a b s h, count_add_seconds, Nat.add_mul_div_right _ _ (by decide)]
    omega
  · rw [timeTicks_ns, timeTicks_ns, tickSum_add a b s h, count_add_seconds, Nat.add_mul_mod_self_right]
  · rw [timeTicks_frac, timeTicks_frac, tickSum_add a b s h, ← Nat.mul_assoc, Nat.add_mul_mod_self_right]

/-- Settles O48: NS is a remainder by one second, and the count of a + b ticks is that of b ticks after a with whole seconds added. -/
theorem timeStaysAValidStamp : Obligations.TimeStaysAValidStamp := by
  unfold Obligations.TimeStaysAValidStamp
  refine ⟨fun s n _ => ?_, stampOk_nsStamp, fun s a b _ _ _ h => timeTicks_add a b s h⟩
  have hns := timeTicks_ns_lt n s
  exact ⟨hns, decide_eq_true hns⟩

end Sys2Proof.Machine

/-! Accesses to BAR0 (R9 to R12, R314): which row runs which access, what an access of wrong form does, and that a read changes
the answer and the latch of high words alone. -/

namespace Sys2Proof.Machine

/-! ### The rows -/

theorem exec_bar0LowWordRead (req off n : Nat) (s : State) :
    exec (.bar0LowWordRead req off n) s = .next (settle (readAccess req off n s)) := rfl

theorem exec_registerWrite (off n v : Nat) (s : State) : exec (.registerWrite off n v) s = .next (settle (writeAccess off n v s)) := rfl

theorem exec_bar0AccessDiscarded (bar2 : Bool) (off n : Nat) (read : Bool) (s : State) :
    exec (.bar0AccessDiscarded bar2 off n read) s = .next (settle (discardAccess bar2 off n read s)) := rfl

/-! ### Accesses of wrong form (R12) -/

/-- An access to BAR0 of another size, or to an offset that its size does not divide, is discarded. -/
theorem badAccess_of_misaligned {off n : Nat} (h : (n ≠ 4 ∧ n ≠ 8) ∨ off % n ≠ 0) : badAccess false off n = true := by
  rcases h with ⟨h4, h8⟩ | h <;> simp [badAccess, *]

/-- An aligned access of 4 or 8 bytes to a register is not. -/
theorem badAccess_of_aligned {off n : Nat} {x : RegRef} (hn : n = 4 ∨ n = 8) (ha : off % n = 0) (hx : wordAt off = .low x) :
    badAccess false off n = false := by
  rcases hn with rfl | rfl <;> simp [badAccess, accessWords, ha, hx]

theorem readAccess_of_bad (req off n : Nat) (s : State) (h : badAccess false off n = true) : readAccess req off n s = s := by
  simp [readAccess, h]

theorem writeAccess_of_bad (off n v : Nat) (s : State) (h : badAccess false off n = true) : writeAccess off n v s = s := by
  simp [writeAccess, h]

/-- A discarded write is counted. -/
theorem discardAccess_write {bar2 : Bool} {off n : Nat} {s : State} (hr : barReady s = true) (h : badAccess bar2 off n = true) :
    discardAccess bar2 off n false s = s.bump HST_BAD_ACCESS_CNT := by
  simp [discardAccess, hr, h]

/-- A discarded read is counted and answers 0. -/
theorem discardAccess_read {bar2 : Bool} {off n : Nat} {s : State} (hr : barReady s = true) (h : badAccess bar2 off n = true) :
    discardAccess bar2 off n true s =
      { s.bump HST_BAD_ACCESS_CNT with host := { (s.bump HST_BAD_ACCESS_CNT).host with answer := 0 } } := by
  simp [discardAccess, hr, h]

theorem discardAccess_of_good (bar2 : Bool) (off n : Nat) (read : Bool) (s : State) (h : badAccess bar2 off n = false) :
    discardAccess bar2 off n read s = s := by
  simp [discardAccess, h]

/-- A discarded access, read or write: its count goes up by one and every other register is as before. -/
theorem discardAccess_regs {bar2 : Bool} {off n : Nat} {s : State} (read : Bool) (hr : barReady s = true) (h : badAccess bar2 off n = true) :
    (discardAccess bar2 off n read s).regs = (s.bump HST_BAD_ACCESS_CNT).regs ∧
      (read = true → (discardAccess bar2 off n read s).host.answer = 0) := by
  cases read
  · simp [discardAccess_write hr h]
  · simp [discardAccess_read hr h]

theorem State.reg_congr {s t : State} (h : s.regs = t.regs) (r : Reg) (i j k : Nat) : s.reg r i j k = t.reg r i j k := by
  simp [State.reg, h]

/-- Settles O33: a misaligned access is a bad one, which the rows of reads and writes leave alone and the row of discarded
accesses counts; an aligned one to a register is not bad. -/
theorem misalignedAccessesAreDiscarded : Obligations.MisalignedAccessesAreDiscarded := by
  unfold Obligations.MisalignedAccessesAreDiscarded
  intro s off n hr
  refine ⟨fun hmis => ?_, fun hn ha ⟨x, hx⟩ read => ?_⟩
  · have hbad := badAccess_of_misaligned hmis
    refine ⟨fun v => ?_, fun req => ?_, fun read => ?_⟩
    · rw [exec_registerWrite, writeAccess_of_bad off n v s hbad]
    · rw [exec_bar0LowWordRead, readAccess_of_bad req off n s hbad]
    · obtain ⟨hregs, hanswer⟩ := discardAccess_regs read hr hbad
      refine ⟨_, exec_bar0AccessDiscarded .., ?_, hanswer, fun q i j k hq => ?_⟩
      · rw [State.reg_congr hregs]
        exact State.reg_bumpBy_same ..
      · rw [State.reg_congr hregs]
        exact State.reg_setReg_other _ _ _ _ _ _ _ _ _ _ hq
  · rw [exec_bar0AccessDiscarded, discardAccess_of_good _ _ _ _ _ (badAccess_of_aligned hn ha hx)]

/-! ### What a read changes -/

/-- Two states that differ in the latch of high words alone. -/
def LatchOnly (s t : State) : Prop := ∃ l, t = { s with host := { s.host with latch := l } }

theorem LatchOnly.refl (s : State) : LatchOnly s s := ⟨s.host.latch, rfl⟩

theorem LatchOnly.trans {s t u : State} : LatchOnly s t → LatchOnly t u → LatchOnly s u := by
  rintro ⟨_, rfl⟩ ⟨l, rfl⟩
  exact ⟨l, rfl⟩

theorem setLatch_latchOnly (req off v : Nat) (s : State) : LatchOnly s (setLatch req off v s) := ⟨_, rfl⟩

theorem takeLatch_latchOnly {req off : Nat} {s : State} {r : Nat × State} (h : takeLatch req off s = some r) : LatchOnly s r.2 := by
  obtain ⟨v, -, rfl⟩ := Option.map_eq_some_iff.mp h
  exact ⟨_, rfl⟩

theorem readWhole_latchOnly (req : Nat) (x : RegRef) (s : State) : LatchOnly s (readWhole req x s).2 := by
  unfold readWhole
  split
  case h_1 r h => exact takeLatch_latchOnly h
  case h_2 => exact LatchOnly.refl s

/-- The state with the partner of a register latched, where it has one (R314). -/
def withPartner (req : Nat) (x : RegRef) (s : State) : State :=
  match latchPartner x with
  | none => s
  | some y => setLatch req y.offset (readRef s y) s

theorem withPartner_latchOnly (req : Nat) (x : RegRef) (s : State) : LatchOnly s (withPartner req x s) := by
  unfold withPartner
  cases latchPartner x with
  | none => exact LatchOnly.refl s
  | some y => exact setLatch_latchOnly ..

/-- A low word read: the low 32 bits of its register read whole, the high ones of a 64-bit register latched. -/
theorem readWord_of_low {req off : Nat} {x : RegRef} (s : State) (hw : wordAt off = .low x) :
    readWord req off s = ((readWhole req x s).1 % 2 ^ 32, withPartner req x
      (if x.reg.wide then setLatch req (off + 4) ((readWhole req x s).1 / 2 ^ 32) (readWhole req x s).2 else (readWhole req x s).2)) := by
  unfold readWord
  rw [hw]
  rfl

theorem readWord_latchOnly (req off : Nat) (s : State) : LatchOnly s (readWord req off s).2 := by
  cases hw : wordAt off with
  | low x =>
    have hwhole := readWhole_latchOnly req x s
    rw [readWord_of_low s hw]
    refine LatchOnly.trans ?_ (withPartner_latchOnly ..)
    split
    · exact hwhole.trans (setLatch_latchOnly ..)
    · exact hwhole
  | high x =>
    cases ht : takeLatch req off s with
    | none => simpa [readWord, hw, ht] using LatchOnly.refl s
    | some r => simpa [readWord, hw, ht] using takeLatch_latchOnly ht
  | pad => simpa [readWord, hw] using LatchOnly.refl s
  | none => simpa [readWord, hw] using LatchOnly.refl s

/-- A value read is answered. -/
def answered (r : Nat × State) : State := { r.2 with host := { r.2.host with answer := r.1 } }

/-- A read of 4 bytes of BAR0 answers its word. -/
theorem readAccess_word {req off : Nat} {s : State} (hr : barReady s = true) (h : badAccess false off 4 = false) :
    readAccess req off 4 s = answered (readWord req off s) := by
  simp [readAccess, hr, h, answered]

/-- What a read of 8 bytes answers, and the state it leaves: a 64-bit register whole, or two words. -/
def readPair (req off : Nat) (s : State) : Nat × State :=
  match wordAt off with
  | .low x =>
    if x.reg.wide then ((readWhole req x s).1, withPartner req x (readWhole req x s).2)
    else
      ((readWord req off s).1 + (readWord req (off + 4) (readWord req off s).2).1 * 2 ^ 32,
        (readWord req (off + 4) (readWord req off s).2).2)
  | _ => ((readWord req (off + 4) s).1 * 2 ^ 32, (readWord req (off + 4) s).2)

theorem readAccess_pair {req off : Nat} {s : State} (hr : barReady s = true) (h : badAccess false off 8 = false) :
    readAccess req off 8 s = answered (readPair req off s) := by
  unfold readAccess readPair
  rw [hr, h]
  cases wordAt off with
  | low x =>
    change (if x.reg.wide = true then _ else _) = answered (if x.reg.wide = true then _ else _)
    cases x.reg.wide <;> rfl
  | high x => rfl
  | pad => rfl
  | none => rfl

theorem readPair_of_wide {req off : Nat} {x : RegRef} (s : State) (hw : wordAt off = .low x) (hx : x.reg.wide = true) :
    readPair req off s = ((readWhole req x s).1, withPartner req x (readWhole req x s).2) := by
  simp [readPair, hw, hx]

theorem readPair_latchOnly (req off : Nat) (s : State) : LatchOnly s (readPair req off s).2 := by
  unfold readPair
  split
  case h_1 x _ =>
    split
    · exact (readWhole_latchOnly req x s).trans (withPartner_latchOnly ..)
    · exact (readWord_latchOnly req off s).trans (readWord_latchOnly req (off + 4) _)
  case h_2 => exact readWord_latchOnly req (off + 4) s

/-- The size of an access that is not discarded. -/
theorem size_of_good {off n : Nat} (h : badAccess false off n = false) : n = 4 ∨ n = 8 := by
  by_contra hn
  rw [badAccess_of_misaligned (.inl (not_or.mp hn))] at h
  exact Bool.noConfusion h

/-- A read changes the answer and the latch alone. -/
theorem readAccess_eq (req off n : Nat) (s : State) :
    ∃ a l, readAccess req off n s = { s with host := { s.host with answer := a, latch := l } } := by
  have hanswered : ∀ r : Nat × State, LatchOnly s r.2 → ∃ a l, answered r = { s with host := { s.host with answer := a, latch := l } } := by
    rintro ⟨a, t⟩ ⟨l, rfl⟩
    exact ⟨a, l, rfl⟩
  cases hr : barReady s with
  | false => exact ⟨s.host.answer, s.host.latch, by simp [readAccess, hr]⟩
  | true =>
    cases hb : badAccess false off n with
    | true => exact ⟨s.host.answer, s.host.latch, readAccess_of_bad req off n s hb⟩
    | false =>
      rcases size_of_good hb with rfl | rfl
      · rw [readAccess_word hr hb]
        exact hanswered _ (readWord_latchOnly req off s)
      · rw [readAccess_pair hr hb]
        exact hanswered _ (readPair_latchOnly req off s)

/-- Settles O31: every read is an answer and a latch put on the state before. -/
theorem readsHaveNoSideEffect : Obligations.ReadsHaveNoSideEffect := by
  unfold Obligations.ReadsHaveNoSideEffect
  intro s req off n _
  obtain ⟨a, l, h⟩ := readAccess_eq req off n s
  exact ⟨a, l, by rw [exec_bar0LowWordRead, h]⟩

/-! ### Reads in two halves (R11) -/

/-- A register with nothing latched for the requester is read as it stands. -/
theorem readWhole_of_unlatched {req off : Nat} {x : RegRef} {s : State} (ho : x.offset = off) (h : takeLatch req off s = none) :
    readWhole req x s = (readRef s x, s) := by
  simp [readWhole, ho, h]

/-- The partner that a read latches lies 8 bytes on, so that it is no high word of the register read. -/
theorem latchPartner_offset {x y : RegRef} (h : latchPartner x = some y) : y.offset = x.offset + 8 := by
  unfold latchPartner at h
  split at h
  case isTrue hx =>
    obtain rfl := Option.some.inj h
    simp [RegRef.offset, Reg.addr, hx, TIM_NOW_LO, TIM_NOW_HI]
  case isFalse =>
    split at h
    case isTrue hx =>
      obtain rfl := Option.some.inj h
      simp [RegRef.offset, Reg.addr, hx, TIM_CAP_LO, TIM_CAP_HI]
      omega
    case isFalse => cases h

theorem setLatch_get_same (req off v : Nat) (s : State) : Store.get? (setLatch req off v s).host.latch (key2 req off) = some v :=
  Store.get?_set_same ..

theorem setLatch_get_other {req off off' v : Nat} {s : State} (h : off' ≠ off) :
    Store.get? (setLatch req off v s).host.latch (key2 req off') = Store.get? s.host.latch (key2 req off') :=
  Store.get?_set_other _ _ _ _ (by simpa [key2] using h)

/-- The partner stands beside what is latched for the high word of the register read. -/
theorem withPartner_get {req off : Nat} {x : RegRef} (s : State) (ho : x.offset = off) :
    Store.get? (withPartner req x s).host.latch (key2 req (off + 4)) = Store.get? s.host.latch (key2 req (off + 4)) := by
  unfold withPartner
  cases hp : latchPartner x with
  | none => rfl
  | some y =>
    have hy := latchPartner_offset hp
    exact setLatch_get_other (by omega)

/-- The low word of a 64-bit register with nothing latched: its low 32 bits, the high ones latched for the requester. -/
theorem readWord_low {req off : Nat} {x : RegRef} {s : State} (hw : wordAt off = .low x) (hx : x.reg.wide = true) (ho : x.offset = off)
    (h : takeLatch req off s = none) :
    (readWord req off s).1 = readRef s x % 2 ^ 32 ∧
      Store.get? (readWord req off s).2.host.latch (key2 req (off + 4)) = some (readRef s x / 2 ^ 32) := by
  rw [readWord_of_low s hw, readWhole_of_unlatched ho h, if_pos hx]
  exact ⟨rfl, (withPartner_get _ ho).trans (setLatch_get_same ..)⟩

/-- A high word is answered as latched. -/
theorem readWord_high {req off v : Nat} {x : RegRef} {s : State} (hw : wordAt off = .high x)
    (h : Store.get? s.host.latch (key2 req off) = some v) : (readWord req off s).1 = v := by
  simp [readWord, hw, takeLatch, h]

/-- Settles O32: the low read puts the high word of its instant in the latch, and the high read takes it from there. -/
theorem splitReadsAreOfOneInstant : Obligations.SplitReadsAreOfOneInstant := by
  unfold Obligations.SplitReadsAreOfOneInstant
  intro s req off x hr hlow hwide ho hhigh hfree
  refine ⟨fun h8 => ?_, fun h4 h4' => ?_⟩
  · refine ⟨_, exec_bar0LowWordRead .., ?_⟩
    rw [readAccess_pair hr h8, readPair_of_wide s hlow hwide, readWhole_of_unlatched ho hfree]
    rfl
  · obtain ⟨hanswer, hlatch⟩ := readWord_low hlow hwide ho hfree
    refine ⟨_, exec_bar0LowWordRead .., ?_, fun t ht heq => ⟨_, exec_bar0LowWordRead .., ?_⟩⟩
    · rw [readAccess_word hr h4]
      exact hanswer
    · rw [readAccess_word hr h4] at heq
      rw [readAccess_word ht h4']
      exact readWord_high hhigh (by rw [heq]; exact hlatch)

end Sys2Proof.Machine

/-! The other accesses of the host to registers: writes by half or whole (R9, R495), doorbells and ring enables (R407 to R409, R424,
R426), port modes (R45 to R47, R62) and single lookups in register mode (R425). -/

namespace Sys2Proof.Machine

/-! ### Register writes -/

section Writes

variable {off : Nat} {x : RegRef} {s : State} (v : Nat)

theorem writeAccess_low (hr : barReady s = true) (h : badAccess false off 4 = false) (hw : wordAt off = .low x) :
    writeAccess off 4 v s = writeRef x (2 ^ 32 - 1) (v % 2 ^ 32) s := by
  simp [writeAccess, hr, h, hw]

theorem writeAccess_high (hr : barReady s = true) (h : badAccess false off 4 = false) (hw : wordAt off = .high x) :
    writeAccess off 4 v s = writeRef x ((2 ^ 32 - 1) * 2 ^ 32) (v % 2 ^ 32 * 2 ^ 32) s := by
  simp [writeAccess, hr, h, hw]

theorem writeAccess_wide (hr : barReady s = true) (h : badAccess false off 8 = false) (hw : wordAt off = .low x) (hx : x.reg.wide = true) :
    writeAccess off 8 v s = writeRef x (2 ^ 64 - 1) (v % 2 ^ 64) s := by
  simp [writeAccess, hr, h, hw, hx]

/-- A 64-bit register without a partner read at once: what the whole read gives, and the state it leaves. -/
theorem readPair_of_unpaired (req : Nat) (hw : wordAt off = .low x) (hx : x.reg.wide = true) (hp : latchPartner x = none) :
    readPair req off s = readWhole req x s := by
  rw [readPair_of_wide s hw hx, withPartner, hp]

end Writes

/-! ### Doorbells and rings -/

section Rings

variable {r : Nat} {s : State}

/-- A doorbell of an enabled host-written ring moves PI. -/
theorem doorbellWrite_pi {v : Nat} (hr : r < 59) (hv : v < 2 ^ 32) (hon : ringOn s r = true) (hh : hostWritten r = true)
    (hd : (v + 2 ^ 32 - s.get HST_RING_IDX_PI r) % 2 ^ 32 ≤ ringSize s r) : doorbellWrite r v s = s.put HST_RING_IDX_PI v r := by
  simp only [doorbellWrite, hon, hh, if_true, Nat.not_le.mpr hr, Nat.not_le.mpr hv, Nat.not_lt.mpr hd, decide_false, Bool.not_true,
    Bool.or_false, Bool.false_eq_true, if_false]

/-- A doorbell of an enabled device-written ring moves CI and arms the ring again (R424). -/
theorem doorbellWrite_ci {v : Nat} (hr : r < 59) (hv : v < 2 ^ 32) (hon : ringOn s r = true) (hh : hostWritten r = false)
    (hd : (v + 2 ^ 32 - s.get HST_RING_IDX_CI r) % 2 ^ 32 ≤ ringUsed s r) :
    doorbellWrite r v s = { s.put HST_RING_IDX_CI v r with host := { (s.put HST_RING_IDX_CI v r).host with
      armed := (s.put HST_RING_IDX_CI v r).host.armed.filter (fun y => y != r) ++ [r] } } := by
  simp only [doorbellWrite, hon, hh, Nat.not_le.mpr hr, Nat.not_le.mpr hv, Nat.not_lt.mpr hd, decide_false, Bool.not_true,
    Bool.or_false, Bool.false_eq_true, if_false]

/-- A doorbell of a disabled ring is counted. -/
theorem doorbellWrite_off (v : Nat) (hoff : ringOn s r = false) : doorbellWrite r v s = s.bump HST_DB_ERR_CNT := by
  simp [doorbellWrite, hoff]

/-- A ring that has just been enabled: armed, its count towards a message and its completion space afresh, and no descriptor open. -/
def ringFresh (r : Nat) (s : State) : State :=
  { s with host := { s.host with
      armed := s.host.armed.filter (fun z => z != r) ++ [r], since := Store.erase s.host.since r,
      sinceAt := Store.erase s.host.sinceAt r, cplRoom := Store.erase s.host.cplRoom r,
      tx := s.host.tx.filter (fun z => z.ring != r) } }

/-- EN set with fields that pass the checks starts the ring. -/
theorem ringEnable_good {cfg : Nat} (hoff : ringOn s r = false) (hc : ringCheck (ringFields r cfg s) r = true) :
    ringEnable r cfg s =
      ringFresh r ((((ringFields r cfg s).put HST_RING_CFG_CFG_ERR 0 r).put HST_RING_CFG_EN 1 r).setReg HST_RING_IDX 0 r) := by
  simp [ringEnable, ringFresh, hoff, hc]

/-- EN set with fields that fail them sets CFG_ERR. -/
theorem ringEnable_refused {cfg : Nat} (hoff : ringOn s r = false) (hc : ringCheck (ringFields r cfg s) r = false) :
    ringEnable r cfg s = (ringFields r cfg s).put HST_RING_CFG_CFG_ERR 1 r := by
  simp [ringEnable, hoff, hc]

/-- EN cleared disables an enabled ring that is no completion ring. -/
theorem ringDisable_on (hon : ringOn s r = true) (hr : r < 4 ∨ 8 ≤ r) : ringDisable r s = s.put HST_RING_CFG_EN 0 r := by
  have hcpl : ¬ (4 ≤ r ∧ r < 8) := by omega
  simp [ringDisable, hon, hcpl]

end Rings

/-! ### Port modes -/

/-- The SPEED, FEC, AN_EN and LT_EN of a written mode. -/
def modeFields (p mode : Nat) (s : State) : State :=
  (((s.put PRT_MODE_SPEED (bitsOf mode 3 0) p).put PRT_MODE_FEC (bitsOf mode 5 4) p).put PRT_MODE_AN_EN (bitsOf mode 6 6) p).put
    PRT_MODE_LT_EN (bitsOf mode 7 7) p

/-- A mode of Table 3.1, a group mode only on a port that can lead its group, enables the port. -/
theorem enablePort_good {p mode : Nat} {s : State} (hm : modeValid (bitsOf mode 3 0) (bitsOf mode 5 4) = true)
    (hg : 6 ≤ bitsOf mode 3 0 → groupValid (modeFields p mode s) p = true) (hoff : (modeFields p mode s).on PRT_MODE_ENABLE p = false)
    (hx : expressReady (modeFields p mode s) = true) (hi : inGroup (modeFields p mode s) p = false) :
    enablePort p mode s = preemptStat p (onPort p
      (fun y => { y with enabled := true, fec := bitsOf mode 5 4, an := bitOf mode 6, lt := bitOf mode 7 })
      ((((modeFields p mode s).put PRT_MODE_ENABLE 1 p).flag PRT_STATUS_MODE_ERR false p).put PRT_STATUS_ACTIVE_SPEED (bitsOf mode 3 0) p)) := by
  have hgood : (modeValid (bitsOf mode 3 0) (bitsOf mode 5 4) &&
      (decide (bitsOf mode 3 0 < 6) || groupValid (modeFields p mode s) p)) = true := by
    rcases Nat.lt_or_ge (bitsOf mode 3 0) 6 with hl | hl
    · simp [hm, hl]
    · simp [hm, hg hl]
  have hstarts : (modeFields p mode s).on PRT_MODE_ENABLE p || !expressReady (modeFields p mode s) || inGroup (modeFields p mode s) p ↔ False := by
    simp [hoff, hx, hi]
  unfold modeFields at hgood hstarts ⊢
  simp only [enablePort, hgood, hstarts, if_false, Bool.not_true, Bool.false_eq_true]

/-! ### Single lookups in register mode -/

/-- The table and quarter that a lookup in register mode takes, with its key, as GO starts it. -/
def diagTaken (s : State) : Nat × Nat × List Byte :=
  (s.get HST_DIAG_CTRL_TABLE, s.get HST_DIAG_CTRL_QUARTER, (List.range 8).flatMap (fun k => leBytes 8 (s.num HST_DIAG_KEY k)))

/-- GO where no lookup runs takes the key. -/
theorem diagGo_free {ctrl : Nat} {s x : State} (hgo : bitOf ctrl 6 = true) (hfree : s.host.diagPending = none)
    (hx : x = s.setReg HST_DIAG_CTRL (BitVec.ofNat 64 (withBits (s.num HST_DIAG_CTRL) 5 0 ctrl))) :
    diagGo ctrl s = (({ x with host := { x.host with diagPending := some (diagTaken x) } } : State).put HST_DIAG_CTRL_GO_ERR 0).put
      HST_DIAG_STAT_READY 0 := by
  subst hx
  simp only [diagGo, diagTaken, hgo, hfree, State.setReg_host, Bool.not_true, Bool.false_eq_true, if_false, Option.isSome_none]

/-- The end of a lookup changes all result registers. -/
theorem diagDone_pending {table quarter : Nat} {key : List Byte} {f : Found} {s x y : State}
    (hp : s.host.diagPending = some (table, quarter, key)) (hf : f = diagFind s table quarter key)
    (hx : x = { s.drew with host := { s.host with diagPending := none } })
    (hy : y = (((x.setReg HST_DIAG_STAT (BitVec.ofNat 64 (diagStatWord f (x.get HST_DIAG_STAT_SEQ + 1)))).put HST_DIAG_POS_B0 f.place.b0).put
        HST_DIAG_POS_B1 f.place.b1).put HST_DIAG_LOC_SLOT f.slot) :
    diagDone s = (List.range 4).foldl (fun z k => z.setReg HST_DIAG_DATA (BitVec.ofNat 64 (leField f.data (8 * k) 8)) k) y := by
  subst hy hx hf
  simp only [diagDone, hp]

/-! ### The rows -/

section Rows

variable {s : State}

theorem exec_doorbell (r v : Nat) (hb : barReady s = true) : exec (.doorbell r v) s = .next (settle (doorbellWrite r v s)) := by
  change ok (if barReady s = true then _ else _) = _
  rw [if_pos hb]
  rfl

theorem exec_ringEnable {r : Nat} (cfg : Nat) (hb : barReady s = true) (hr : r < 59) :
    exec (.ringEnable r cfg) s = .next (settle (ringEnable r cfg s)) := by
  change within (decide (r < 59)) (if barReady s = true then _ else _) = _
  rw [if_pos hb, decide_eq_true hr, within_true]

theorem exec_ringDisable {r : Nat} (hb : barReady s = true) (hr : r < 59) :
    exec (.ringDisable r) s = .next (settle (ringDisable r s)) := by
  change within (decide (r < 59)) (if barReady s = true then _ else _) = _
  rw [if_pos hb, decide_eq_true hr, within_true]

theorem exec_portEnable {p : Nat} (mode : Nat) (hb : barReady s = true) (hp : p < 96) :
    exec (.portEnable p mode) s = .next (settle (enablePort p mode s)) := by
  change within (decide (p < 96)) (if barReady s = true then _ else _) = _
  rw [if_pos hb, decide_eq_true hp, within_true]

theorem exec_portDisable {p : Nat} (hb : barReady s = true) (hp : p < 96) (hon : s.on PRT_MODE_ENABLE p = true) :
    exec (.portDisable p) s = .next (settle (disablePort p s)) := by
  change within (decide (p < 96)) (if (barReady s && s.on PRT_MODE_ENABLE p) = true then _ else _) = _
  rw [hb, hon, decide_eq_true hp, within_true]
  rfl

theorem exec_diagGo (ctrl : Nat) (hb : barReady s = true) : exec (.diagGo ctrl) s = .next (settle (diagGo ctrl s)) := by
  change ok (if barReady s = true then _ else _) = _
  rw [if_pos hb]
  rfl

theorem exec_diagLookupDone (s : State) : exec .diagLookupDone s = .next (settle (diagDone s)) := rfl

theorem exec_cntSelWrite {b k : Nat} (v : Nat) (hr : barReady s = true) (hb : b < 22) (hk : k < 8) :
    exec (.cntSelWrite b k v) s = .next (settle (writeSelection b k v s)) := by
  change within (decide (b < 22) && decide (k < 8)) (if barReady s = true then _ else _) = _
  rw [if_pos hr, decide_eq_true hb, decide_eq_true hk]
  rfl

end Rows

/-- Settles O30: each row runs the access it names, and each access has the effect of its lemma. -/
theorem registerAccessesComplete : Obligations.RegisterAccessesComplete := by
  unfold Obligations.RegisterAccessesComplete
  intro s hb
  refine ⟨?discarded, ?readWord, ?readWide, ?writeLow, ?writeHigh, ?writeWide, ?doorbellPi, ?doorbellCi, ?doorbellOff, ?ringGood,
    ?ringRefused, ?ringOff, ?portGood, ?portOff, ?go, ?done, ?selection⟩
  case discarded =>
    rintro bar2 off n x hbad rfl
    rw [exec_bar0AccessDiscarded, exec_bar0AccessDiscarded, discardAccess_read hb hbad, discardAccess_write hb hbad]
    exact ⟨rfl, rfl⟩
  case readWord =>
    rintro req off r h rfl
    rw [exec_bar0LowWordRead, readAccess_word hb h]
    rfl
  case readWide =>
    rintro req off x r h hw hx hp rfl
    rw [exec_bar0LowWordRead, readAccess_pair hb h, readPair_of_unpaired req hw hx hp]
    rfl
  case writeLow => exact fun off v x h hw => by rw [exec_registerWrite, writeAccess_low v hb h hw]
  case writeHigh => exact fun off v x h hw => by rw [exec_registerWrite, writeAccess_high v hb h hw]
  case writeWide => exact fun off v x h hw hx => by rw [exec_registerWrite, writeAccess_wide v hb h hw hx]
  case doorbellPi => exact fun r v hr hv hon hh hd => by rw [exec_doorbell r v hb, doorbellWrite_pi hr hv hon hh hd]
  case doorbellCi =>
    rintro r v x hr hv hon hh hd rfl
    rw [exec_doorbell r v hb, doorbellWrite_ci hr hv hon hh hd]
  case doorbellOff => exact fun r v hoff => by rw [exec_doorbell r v hb, doorbellWrite_off v hoff]
  case ringGood =>
    rintro r cfg x y hr hoff rfl hc rfl
    rw [exec_ringEnable cfg hb hr, ringEnable_good hoff hc]
    rfl
  case ringRefused =>
    rintro r cfg x hr hoff rfl hc
    rw [exec_ringEnable cfg hb hr, ringEnable_refused hoff hc]
  case ringOff => exact fun r hr hon hcpl => by rw [exec_ringDisable hb hr, ringDisable_on hon hcpl]
  case portGood =>
    rintro p mode x hp - - - rfl hm hg hoff hx hi
    rw [exec_portEnable mode hb hp, enablePort_good hm hg hoff hx hi]
    rfl
  case portOff => exact fun p hp hon => exec_portDisable hb hp hon
  case go =>
    intro ctrl x hgo hfree hx
    rw [exec_diagGo ctrl hb, diagGo_free hgo hfree hx]
    rfl
  case done =>
    intro table quarter key f x y hp hf hx hy
    rw [exec_diagLookupDone, diagDone_pending hp hf hx hy]
  case selection => exact fun b k v h22 h8 => exec_cntSelWrite v hb h22 h8

end Sys2Proof.Machine

/-! The commands of Ascor (R376 to R391): what each does where it succeeds, and what the session and staging commands do at their
acceptance. -/

namespace Sys2Proof.Machine

/-! ### The registers of identity and minimum versions -/

theorem num_setReg_same {s : State} {r : Reg} {v i j k : Nat} (h : v < 2 ^ 64) : (s.setReg r (BitVec.ofNat 64 v) i j k).num r i j k = v := by
  rw [State.num, State.reg_setReg_same, BitVec.toNat_ofNat, Nat.mod_eq_of_lt h]

/-- A field of a register at another address than the one written. -/
theorem get_setReg_other {s : State} {r : Reg} {v : Word64} {f : Fld} {i j k i' j' k' : Nat} (h : f.reg.addr i' j' k' ≠ r.addr i j k) :
    (s.setReg r v i j k).get f i' j' k' = s.get f i' j' k' := by
  rw [State.get, State.num, State.reg_setReg_other _ _ _ _ _ _ _ _ _ _ h]
  rfl

theorem get_lt (s : State) (f : Fld) (i j k : Nat) : s.get f i j k < 2 ^ (f.hi + 1 - f.lo) := Nat.mod_lt _ (by positivity)

theorem fingerprint_lt (key : List Byte) : fingerprint key < 2 ^ 64 := Nat.mod_lt _ (by positivity)

theorem burnKey_eq (key : List Byte) (s : State) : ∃ m, burnKey key s =
    { s with ascor := { s.ascor with opKeys := s.ascor.opKeys ++ [Config.digest (4 :: key)] }, regs := m } := ⟨_, rfl⟩

/-- A burnt key enrolls the device and shows its fingerprint (R377). -/
theorem burnKey_regs (key : List Byte) (s : State) :
    (burnKey key s).on ASC_STAT_ENROLL = true ∧ (burnKey key s).num ASC_OP_FP = fingerprint key := by
  refine ⟨?_, num_setReg_same (fingerprint_lt key)⟩
  unfold burnKey State.on
  rw [get_setReg_other (by decide),
    State.get_put_field _ ASC_STAT_OP_SLOT ASC_STAT_ENROLL _ _ _ _ rfl (by decide) (by decide) (by decide) (by decide),
    State.get_put_same _ _ _ _ _ _ (by decide) (by decide)]
  rfl

/-! ### The answers of the commands that succeed -/

section Answers

variable {s : State} {c : Cmd} {obj : Nat} {x : StagedObj}

theorem withObject_some {body : List Byte → State → Answer} (h : stagedOf s obj = some x) : withObject obj body s = body x.bytes s := by
  simp [withObject, h]

/-- A command with an outcome from its acceptance completes with it. -/
theorem atAcceptance_outcome {body : State → Answer} {st d r : Nat} (h : outcomeAt s c = some (st, d, r)) :
    atAcceptance c body s = .done ⟨st, d, r, false⟩ s := by
  simp [atAcceptance, h]

theorem atAcceptance_none {body : State → Answer} (h : outcomeAt s c = none) : atAcceptance c body s = body s := by
  simp [atAcceptance, h]

theorem idGet_free {n : Nat} (h : freeObject s 512 = some n) :
    idGet s = .done ⟨0, 0, n, true⟩ (drawChallenge s (setStaged n (identityObject s) (s.drewMany 32))) := by
  unfold idGet
  rw [h]

/-- ASC_ENROLL with proof of possession burns the key (R377). -/
theorem enroll_valid (hun : s.on ASC_STAT_ENROLL = false) (hx : stagedOf s obj = some x) (hch : challengeValid (slice x.bytes 96 32) s = true) :
    enroll obj true s = ok_ (burnKey (slice x.bytes 0 96) s) := by
  simp [enroll, hun, withObject_some hx, hch]

/-- ASC_OP_ROTATE with proof of possession burns the key and ends the sessions (R378). -/
theorem opRotate_valid (hslot : s.ascor.opKeys.length < 4) (hx : stagedOf s obj = some x)
    (hch : challengeValid (slice x.bytes 96 32) s = true) : opRotate obj true s = ok_ (endSessions (burnKey (slice x.bytes 0 96) s)) := by
  simp [opRotate, Nat.not_le.mpr hslot, withObject_some hx, hch]

/-- The session that the operator's own key opens (R386): of every privilege, and no delegate. -/
def operatorSession (s : State) : Session := ⟨true, false, 2 ^ 11 - 1, s.freeWord.toNat % 2 ^ 32, none, none, [], s.free, s.clock⟩

/-- ASC_SESSION_OPEN by the operator's key takes the free session (R385, R386). -/
theorem openingOf_operator {n : Nat} (certOk : Bool) (hen : s.on ASC_STAT_ENROLL = true) (hx : stagedOf s obj = some x)
    (hop : operatorFp s = some (beField x.bytes 128 8)) (hn : freeSession s = some n) :
    openingOf obj true certOk s = okWith n (openSession obj n (operatorSession s) s) := by
  simp [openingOf, hen, withObject_some hx, hop, hn, operatorSession]

theorem openSession_eq (obj n : Nat) (y : Session) (s : State) : ∃ a m, openSession obj n y s =
    { s with ascor := a, regs := m, free := s.free + 225 } ∧ Store.get? a.sessions n = some y := by
  obtain ⟨a, m, ht⟩ : ∃ a m, setStaged obj (sessionResponse n y.ident s) (s.drewMany 225) =
      { s with ascor := a, regs := m, free := s.free + 225 } := by
    obtain ⟨m, hm⟩ := setStaged_eq obj (sessionResponse n y.ident s) (s.drewMany 225)
    exact ⟨_, m, hm⟩
  unfold openSession
  rw [ht]
  obtain ⟨r, hr⟩ := sessionStat_eq
    { s with ascor := { a with sessions := Store.set a.sessions n y }, regs := m, free := s.free + 225 }
  exact ⟨_, _, congrArg (fun t => t.bump ASC_SESSION_OPEN_CNT) hr, Store.get?_set_same ..⟩

/-- ASC_SESSION_CLOSE of the session the command is sealed under ends it (R387). -/
theorem closingOf_own {y : Session} (hy : Store.get? s.ascor.sessions c.session = some y) (ho : y.opened = true) :
    closingOf c 0 s = ok_ (endSession c.session s) := by
  simp [closingOf, hy, ho]

theorem setStaged_host (n : Nat) (bs : List Byte) (s : State) : (setStaged n bs s).host = s.host := by
  obtain ⟨r, h⟩ := setStaged_eq n bs s
  rw [h]

/-- ASC_STAGE fills its object and gives the digest (R383). -/
theorem stage_fills {bytes : List Byte} {addr n : Nat} (hu : c.sealed = false) (hout : outcomeAt s c = none)
    (hn : stageObject c bytes.length s = some n) (hfit : stageFits s bytes.length = true) (hlock : lockedBy s c.ring c.cseq n = false) :
    stage c bytes addr s = okWith n { setStaged n bytes s with host := { s.host with
      buffers := Store.set s.host.buffers addr (beBytes 48 (Config.digest bytes)) } } := by
  unfold stage
  rw [atAcceptance_none hout, hn, hu]
  simp only [hfit, hlock, giveResult, hu, setStaged_host, Bool.not_true, Bool.false_eq_true, if_false, if_true, List.nil_append]
  rfl

/-- ASC_STAGE_FREE of an object that is not locked (R384). -/
theorem freeStaged_unlocked (hx : stagedOf s obj = some x) (hlock : lockedBy s c.ring c.cseq obj = false) :
    freeStaged c obj s = ok_ (stageStat { s with ascor := { s.ascor with staged := Store.erase s.ascor.staged obj } }) := by
  simp [freeStaged, withObject_some hx, hlock]

theorem minVerSet_raises {kind ver : Nat} (h1 : 1 ≤ kind) (h6 : kind < 6) (hv : s.get ASC_MIN_VER_MIN_VER kind < ver)
    (hleft : s.get ASC_MIN_VER_RAISES_LEFT kind ≠ 0) :
    minVerSet kind ver s = ok_ ((s.put ASC_MIN_VER_MIN_VER ver kind).dec ASC_MIN_VER_RAISES_LEFT kind) := by
  have hkind : ¬ (kind = 0 ∨ 6 ≤ kind) := by omega
  have hlow : ¬ ver < s.get ASC_MIN_VER_MIN_VER kind := by omega
  have hne : ver ≠ s.get ASC_MIN_VER_MIN_VER kind := by omega
  simp [minVerSet, hkind, hlow, hne, hleft]

/-- A raise of a minimum: the version, and one raise fewer left (R381). -/
theorem raised_fields {kind ver : Nat} (hver : ver < 2 ^ 16) :
    ((s.put ASC_MIN_VER_MIN_VER ver kind).dec ASC_MIN_VER_RAISES_LEFT kind).get ASC_MIN_VER_MIN_VER kind = ver ∧
    ((s.put ASC_MIN_VER_MIN_VER ver kind).dec ASC_MIN_VER_RAISES_LEFT kind).get ASC_MIN_VER_RAISES_LEFT kind =
      s.get ASC_MIN_VER_RAISES_LEFT kind - 1 := by
  have hleft := get_lt s ASC_MIN_VER_RAISES_LEFT kind 0 0
  unfold State.dec
  constructor
  · rw [State.get_put_field _ ASC_MIN_VER_RAISES_LEFT ASC_MIN_VER_MIN_VER _ _ _ _ rfl (by decide) (by decide) (by decide) (by decide),
      State.get_put_same _ _ _ _ _ _ (by decide) (by decide)]
    exact Nat.mod_eq_of_lt hver
  · rw [State.get_put_same _ _ _ _ _ _ (by decide) (by decide),
      State.get_put_field _ ASC_MIN_VER_MIN_VER ASC_MIN_VER_RAISES_LEFT _ _ _ _ rfl (by decide) (by decide) (by decide) (by decide)]
    exact Nat.mod_eq_of_lt (Nat.lt_of_le_of_lt (Nat.sub_le _ _) hleft)

theorem receiptRead_found {ident addr : Nat} {e : Nat × Session} (h : s.ascor.sessions.find? (fun e => e.2.ident == ident) = some e) :
    receiptRead c ident addr s = giveResult c addr 0 e.2.receipts.flatten 0 s := by
  simp [receiptRead, h]

end Answers

/-! ### Acceptance -/

section Acceptance

variable {s : State} {e : JEntry}

/-- An authentic entry of good form that opens or closes a session or frees an object takes effect as it is accepted (R16). -/
theorem acceptWork_effect {r : Res} {t : State} (hv : e.verdict = 0) (hres : headerReserved e.entry = false)
    (h : e.opcode = 0x0102 ∧ openingOf (leField e.entry 16 4) e.sigOk e.certOk s = .done r t ∨
      e.opcode = 0x0103 ∧ closingOf (cmdOf e) (leField e.entry 16 4) s = .done r t ∨
      e.opcode = 0x0106 ∧ freeStaged (cmdOf e) (leField e.entry 16 4) s = .done r t) :
    acceptWork e s = markAccepted e (some (r.status, r.detail, r.result)) e.object t := by
  rcases h with ⟨hop, h⟩ | ⟨hop, h⟩ | ⟨hop, h⟩ <;> simp [acceptWork, hv, hres, hop, h]

/-- An accepted ASC_STAGE takes the free object that no earlier command holds (R16, R384). -/
theorem acceptWork_stage {n : Nat} (hv : e.verdict = 0) (hres : headerReserved e.entry = false) (hop : e.opcode = 0x0104)
    (hn : freeObject s 0 = some n) (hlock : lockedBy s e.ring e.cseq n = false) : acceptWork e s = markAccepted e none (some n) s := by
  simp [acceptWork, hv, hres, hop, hn, hlock]

end Acceptance

/-- A command outside families 0x09 to 0x0B that the device executes and that completes at once. -/
theorem taken_completes {i : Instr} {c : Cmd} {op : Nat} {u : Bool} {body : State → Answer} {s t : State} {r : Res} (h : Taken c op u s)
    (hi : exec i s = within (decide (c.ring < 4)) (command c op u body s)) (hn : op / 256 < 9 ∨ 11 < op / 256) (hb : body s = .done r t) :
    exec i s = .next (settle (finish c op r t)) :=
  by rw [taken_concludes h hi hn hb, conclude_done]

/-- Settles O11: each row runs its command, and each command that succeeds has the answer of its lemma. -/
theorem ascorCommandsComplete : Obligations.AscorCommandsComplete := by
  unfold Obligations.AscorCommandsComplete
  intro s c
  refine ⟨?idGet, ?enroll, ?sessionOpen, ?sessionClose, ?stage, ?stageRead, ?stageFree, ?receipts, ?rotate, ?minVer, ?outcomes, ?accept⟩
  case idGet =>
    intro n h hn
    obtain ⟨m, hm⟩ := setStaged_eq n (identityObject s) (s.drewMany 32)
    refine ⟨_, taken_completes h rfl (by decide) (idGet_free hn), ?_⟩
    rw [hm]
    exact ⟨rfl, ⟨_, Store.get?_set_same .., padTo_length ..⟩, rfl⟩
  case enroll =>
    intro obj x h hun hx hch
    obtain ⟨hon, hfp⟩ := burnKey_regs (slice x.bytes 0 96) s
    exact ⟨_, taken_completes h rfl (by decide) (enroll_valid hun hx hch), hon, rfl, hfp, rfl⟩
  case sessionOpen =>
    intro obj x n certOk h hout hen hx hop hn
    obtain ⟨a, m, heq, hget⟩ := openSession_eq obj n (operatorSession s) s
    have hdone := (atAcceptance_none hout).trans (openingOf_operator certOk hen hx hop hn)
    refine ⟨_, taken_completes h rfl (by decide) hdone, ?_⟩
    rw [heq]
    exact ⟨hget, rfl⟩
  case sessionClose =>
    exact fun x h hout hx ho => taken_completes h rfl (by decide) ((atAcceptance_none hout).trans (closingOf_own hx ho))
  case stage =>
    intro bytes addr n h hu hout hn hfit hlock
    refine ⟨_, taken_completes h rfl (by decide) (stage_fills hu hout hn hfit hlock), ?_⟩
    obtain ⟨m, hm⟩ := setStaged_eq n bytes s
    rw [hm]
    exact ⟨Store.get?_set_same .., Store.get?_set_same .., rfl⟩
  case stageRead => exact fun obj addr x h hx => taken_concludes h rfl (by decide) (withObject_some hx)
  case stageFree =>
    intro obj x h hout hx hlock
    exact ⟨_, taken_completes h rfl (by decide) ((atAcceptance_none hout).trans (freeStaged_unlocked hx hlock)),
      Store.get?_erase_same .., fun n hn => Store.get?_erase_other _ _ _ hn, rfl⟩
  case receipts => exact fun ident addr e h he => taken_concludes h rfl (by decide) (receiptRead_found he)
  case rotate => exact fun obj x h hslot hx hch => taken_completes h rfl (by decide) (opRotate_valid hslot hx hch)
  case minVer =>
    intro kind ver h h1 h6 hv hver hleft
    obtain ⟨hmin, hraises⟩ := raised_fields (s := s) (kind := kind) hver
    exact ⟨_, taken_completes h rfl (by decide) (minVerSet_raises h1 h6 hv hleft), hmin, hraises, rfl⟩
  case outcomes =>
    intro st d r obj ident addr sigOk certOk bytes hout
    exact ⟨fun h => taken_completes h rfl (by decide) (atAcceptance_outcome hout),
      fun h => taken_completes h rfl (by decide) (atAcceptance_outcome hout),
      fun h => taken_completes h rfl (by decide) (atAcceptance_outcome hout),
      fun h => taken_completes h rfl (by decide) (atAcceptance_outcome hout)⟩
  case accept =>
    exact fun e hv hres => ⟨fun r t => acceptWork_effect hv hres, fun n hop hn => acceptWork_stage hv hres hop hn⟩

end Sys2Proof.Machine

/-! The commands of express streams, stream gates, gate lists, ports and parked queues (R15, R59, R63, R272 to R291): the answer of
each where its operands are good. -/

namespace Sys2Proof.Machine

/-! ### Express streams -/

section Streams

variable {s : State} {c : Cmd} {obj h : Nat} {x : StagedObj}

/-- A valid entry that passes the checks of R274 and R15 replaces the entry, and the rest of the stream stays. -/
theorem streamWrite_valid (hx : stagedOf s obj = some x) (hh : h < 16384) (hlen : x.bytes.length = 48)
    (hres : streamReserved (leNat x.bytes) = false) (hv : bitOf (leNat x.bytes) 0 = true) (harg : streamArg s h (leNat x.bytes) = false)
    (hrate : (streamEgress (leNat x.bytes)).any (overCommitted s h (leNat x.bytes)) = false) :
    streamWrite obj h s = ok_ (streamStat (setStream h { streamOf s h with entry := leNat x.bytes } s)) := by
  unfold streamWrite
  rw [withObject_some hx]
  simp only [hlen, hres, hv, harg, hrate, Nat.not_le.mpr hh, decide_false, bne_self_eq_false, Bool.or_self, Bool.not_true,
    Bool.false_eq_true, if_false]

/-- The state with the sequence recovery that a stream names given up. -/
def dropRecovery (h : Nat) (s : State) : State :=
  if bitOf (streamOf s h).entry 182 then
    { s with xpr := { s.xpr with recovery := Store.erase s.xpr.recovery (bitsOf (streamOf s h).entry 205 192) } } else s

/-- An entry with VALID 0 clears generator, recovery and tokens (R274). -/
theorem streamWrite_invalid (hx : stagedOf s obj = some x) (hh : h < 16384) (hlen : x.bytes.length = 48)
    (hres : streamReserved (leNat x.bytes) = false) (hv : bitOf (leNat x.bytes) 0 = false) :
    streamWrite obj h s = ok_ (streamStat (setStream h
      { streamOf s h with entry := leNat x.bytes, seq := 0, tokens := 0 } (dropRecovery h s))) := by
  unfold streamWrite dropRecovery
  rw [withObject_some hx]
  simp only [hlen, hres, hv, Nat.not_le.mpr hh, decide_false, bne_self_eq_false, Bool.or_self, Bool.not_false, Bool.false_eq_true,
    if_false, if_true]

theorem streamRead_named {addr : Nat} (hh : h < 16384) : streamRead c h addr s = giveResult c addr 0
    (leBytes 48 (streamOf s h).entry ++ (streamCount.padCounts (streamOf s h).counts).flatMap (leBytes 8)) 0 s := by
  simp [streamRead, Nat.not_le.mpr hh]

theorem streamUnblock_named (hh : h < 16384) : streamUnblock h s = ok_ (setStream h { streamOf s h with blocked := false } s) := by
  simp [streamUnblock, Nat.not_le.mpr hh]

end Streams

/-! ### Stream gates and gate lists -/

section Gates

variable {s : State} {c : Cmd} {p : Nat}

/-- The state with a stream gate replaced. -/
def setGate (i : Nat) (g : StreamGate) (s : State) : State :=
  { s with xpr := { s.xpr with gates := Store.set s.xpr.gates i g } }

/-- SGATE_WRITE without a pending change sets the admin list (R277). -/
theorem sgateWrite_good {obj i sec ns cycle : Nat} {enable : Bool} {x : StagedObj} {g : StreamGate} (hx : stagedOf s obj = some x)
    (hi : i < 256) (hlen : x.bytes.length % 4 = 0)
    (hres : (numbersOf x.bytes 0 4 (x.bytes.length / 4)).any (fun e => bitsOf e 31 25 != 0) = false) (hns : ns < nsPerSec)
    (hg : g = Store.getD s.xpr.gates i ⟨none, none, none⟩) (hp : g.pend = none) :
    sgateWrite obj i sec ns cycle enable s = ok_ (setGate i
      { g with admin := some ⟨numbersOf x.bytes 0 4 (x.bytes.length / 4), stampNs ⟨sec, ns⟩, cycle, enable, 0, false⟩ } s) := by
  subst hg
  unfold sgateWrite setGate
  rw [withObject_some hx]
  simp only [hlen, hres, hp, Nat.not_le.mpr hi, Nat.not_le.mpr hns, decide_false, bne_self_eq_false, Bool.or_self, Option.isSome_none,
    Bool.false_eq_true, if_false]

/-- SGATE_COMMIT of a good list makes it the pending one, with its start (R277, R285). -/
theorem sgateCommit_good {i : Nat} {g : StreamGate} {a : GateList} (hg : Store.get? s.xpr.gates i = some g) (ha : g.admin = some a)
    (hok : listOk 64 (nsStamp a.base) a.cycle a.entries (fun e => 32 ≤ bitsOf e 23 0) = true) :
    sgateCommit i s = ok_ (setGate i
      { g with pend := some { a with start := (listStart a.base a.cycle s.nowNs).1, past := (listStart a.base a.cycle s.nowNs).2 } } s) := by
  simp only [sgateCommit, setGate, hg, ha, hok, Bool.not_true, Bool.false_eq_true, if_false]

/-- A list latched as the pending change of a port, with the start that its registers report, and whether its base had passed (R284,
R285). -/
def latchList (p : Nat) (g : GateList) (b : Nat × Bool) (s : State) : State :=
  putStart p (nsStamp b.1) ((({ s with egr := { s.egr with gclPend := Store.set s.egr.gclPend p g } } : State).put
    SCH_GCL_STAT_PENDING 1 p).flag SCH_GCL_STAT_PAST_BASE b.2 p)

/-- GCL_COMMIT of a good admin copy latches it, and wakes the port where it opens earlier than planned (R284, R291). -/
theorem gclCommit_good {base : Stamp} {b : Nat × Bool} {g : GateList} (hp : p < 96) (hlen : s.get SCH_GCL_CFG_ADMIN_LEN p ≤ 1024)
    (hbase : base = ⟨s.get SCH_GCL_BASE_S_BASE_S p, s.get SCH_GCL_BASE_NS_BASE_NS p⟩)
    (hok : listOk 1024 base (s.get SCH_GCL_CFG_ADMIN_CYCLE_NS p) (adminEntries s p) (fun e => 32 ≤ gateInterval e && gateOp e ≤ 2) = true)
    (hb : b = listStart (stampNs base) (s.get SCH_GCL_CFG_ADMIN_CYCLE_NS p) s.nowNs)
    (hg : g = ⟨adminEntries s p, stampNs base, s.get SCH_GCL_CFG_ADMIN_CYCLE_NS p, s.on SCH_GCL_CFG_ADMIN_EN p, b.1, b.2⟩) :
    gclCommit p s = ok_ (if opensEarlier s p g then endQuiet p (latchList p g b s) else latchList p g b s) := by
  have hgood : ¬ (96 ≤ p ∨ 1024 < s.get SCH_GCL_CFG_ADMIN_LEN p) := by omega
  simp only [gclCommit, latchList, ← hbase, hok, ← hb, ← hg, Bool.not_true, Bool.or_false, Bool.or_eq_true, decide_eq_true_eq, hgood,
    if_false]

/-- The start that a port's registers show without a pending change: that of the list in force (R285). -/
def startInForce (s : State) (p : Nat) : Nat :=
  match Store.get? s.egr.gcl p with
  | none => 0
  | some g => g.start

/-- GCL_CANCEL discards the pending change and shows the start of the list in force again (R284). -/
theorem gclCancel_pending {g : GateList} (hp : p < 96) (hg : Store.get? s.egr.gclPend p = some g) :
    gclCancel p s = ok_ (putStart p (nsStamp (startInForce s p))
      (({ s with egr := { s.egr with gclPend := Store.erase s.egr.gclPend p } } : State).put SCH_GCL_STAT_PENDING 0 p)) := by
  simp only [gclCancel, hg, Nat.not_le.mpr hp, Option.isNone_some, Bool.false_eq_true, if_false]
  rfl

theorem gclStatus_given {r : Res} {t : State} (hp : p < 96)
    (hgive : giveResult c 0 0 (leBytes 8 (s.num SCH_GCL_STAT p)) 0 s = .done r t) (hr : r.status = 0) :
    gclStatus c p s = .done r (t.put SCH_GCL_STAT_STEPPED 0 p) := by
  simp only [gclStatus, hgive, hr, Nat.not_le.mpr hp, if_false, if_true]

end Gates

/-! ### Ports and parked queues -/

section Ports

variable {s : State} {p q : Nat}

theorem portQuiet_named (hp : p < 96) : portQuiet p s = ok_ (quietPort p s) := by simp [portQuiet, Nat.not_le.mpr hp]

theorem portUnquiet_named (hp : p < 96) : portUnquiet p s = ok_ (unquietPort p s) := by simp [portUnquiet, Nat.not_le.mpr hp]

/-- A command on a parked queue acts on it and answers the number of its frames. -/
theorem onParked_parked {f : State → State} (hq : q < 768) (hpk : (queueOf s q).parked = true) :
    onParked q f s = okWith (queueCopies (queueOf s q)).length (parkedStat (q / 8) (f s)) := by
  simp only [onParked, hpk, Nat.not_le.mpr hq, Bool.not_true, Bool.false_eq_true, if_false]

/-- PARK_RELEASE: to the queue's own port only where its link is up (R59). -/
theorem parkRelease_parked (hp : p < 96) (hup : q / 8 = p → s.on PRT_STATUS_LINK_UP p = true) (hq : q < 768)
    (hpk : (queueOf s q).parked = true) : parkRelease q p s =
      okWith (queueCopies (queueOf s q)).length (parkedStat (q / 8) (releasePark q (8 * p + q % 8) s)) := by
  have hlink : ¬ (q / 8 = p ∧ s.on PRT_STATUS_LINK_UP p = false) := fun ⟨h, hd⟩ => by simp [hup h] at hd
  simp only [parkRelease, Nat.not_le.mpr hp, hlink, Bool.and_eq_true, decide_eq_true_eq, Bool.not_eq_true', if_false]
  exact onParked_parked hq hpk

end Ports

/-- Settles O17: each row runs its command, and each command with good operands has the answer of its lemma. -/
theorem streamAndPortCommandsComplete : Obligations.StreamAndPortCommandsComplete := by
  unfold Obligations.StreamAndPortCommandsComplete
  intro s c
  refine ⟨?valid, ?invalid, ?read, ?unblock, ?sgateWrite, ?sgateCommit, ?gclCommit, ?gclCancel, ?gclStatus, ?quiet, ?unquiet, ?release,
    ?return_, ?discard⟩
  case valid =>
    exact fun obj h x ht hx hh hlen hres hv harg hrate =>
      taken_completes ht rfl (by decide) (streamWrite_valid hx hh hlen hres hv harg hrate)
  case invalid =>
    exact fun obj h x ht hx hh hlen hres hv => taken_completes ht rfl (by decide) (streamWrite_invalid hx hh hlen hres hv)
  case read => exact fun h addr ht hh => taken_concludes ht rfl (by decide) (streamRead_named hh)
  case unblock => exact fun h ht hh => taken_completes ht rfl (by decide) (streamUnblock_named hh)
  case sgateWrite =>
    rintro obj i sec ns cycle enable x g y ht hx hi hlen hres hns hg hp rfl
    exact taken_completes ht rfl (by decide) (sgateWrite_good hx hi hlen hres hns hg hp)
  case sgateCommit =>
    rintro i g y a b ht hg ha hok rfl rfl
    exact taken_completes ht rfl (by decide) (sgateCommit_good hg ha hok)
  case gclCommit =>
    rintro p base b g t ht hp hlen hbase hok hb hg rfl
    exact taken_completes ht rfl (by decide) (gclCommit_good hp hlen hbase hok hb hg)
  case gclCancel => exact fun p g ht hp hg => taken_completes ht rfl (by decide) (gclCancel_pending hp hg)
  case gclStatus => exact fun p r t ht hp hgive hr => taken_completes ht rfl (by decide) (gclStatus_given hp hgive hr)
  case quiet => exact fun p ht hp => taken_completes ht rfl (by decide) (portQuiet_named hp)
  case unquiet => exact fun p ht hp => taken_completes ht rfl (by decide) (portUnquiet_named hp)
  case release => exact fun q p ht hp hup hq hpk => taken_completes ht rfl (by decide) (parkRelease_parked hp hup hq hpk)
  case return_ => exact fun q ht hq hpk => taken_completes ht rfl (by decide) (onParked_parked hq hpk)
  case discard => exact fun q ht hq hpk => taken_completes ht rfl (by decide) (onParked_parked hq hpk)

end Sys2Proof.Machine

/-! The commands of faults, fencing and resets (R31, R40, R429 to R448): each acts on the state with its black-box entry. -/

namespace Sys2Proof.Machine

/-- A command that the device executes, by its answer on the state with its black-box entry. -/
theorem taken_notes {i : Instr} {c : Cmd} {op : Nat} {u : Bool} {body : State → Answer} {s n : State} {a : Answer} (h : Taken c op u s)
    (hn : n = noteCommand op s) (hi : exec i s = within (decide (c.ring < 4)) (command c op u body s)) (hb : body n = a) :
    exec i s = .next (settle (conclude c op a)) := by
  rw [hi, taken_runs h, ← hn, hb]

/-- The same for a command that completes at once. -/
theorem taken_notes_done {i : Instr} {c : Cmd} {op : Nat} {u : Bool} {body : State → Answer} {s n t : State} {r : Res} (h : Taken c op u s)
    (hn : n = noteCommand op s) (hi : exec i s = within (decide (c.ring < 4)) (command c op u body s)) (hb : body n = .done r t) :
    exec i s = .next (settle (finish c op r t)) := by
  subst hn
  exact taken_done h hi hb

/-! ### Fault sources and injections -/

section Sources

variable {n : State}

/-- FAULT_SET within the rules of LOCK (R429, R430). -/
theorem faultSet_good {i sev : Nat} {fence alarm hand : Bool} (h : faultSetArg n i sev fence hand = false) :
    faultSet i sev fence alarm hand n = ok_ (setPins ((((n.put FLT_SRC_CFG_SEVERITY sev i).flag FLT_SRC_CFG_FENCE fence i).flag
      FLT_SRC_CFG_ALARM (alarm || sev == 3) i).flag FLT_SRC_CFG_HANDOVER hand i)) := by
  simp only [faultSet, h, Bool.false_eq_true, if_false]

/-- A source no longer pending, and the pins without it (R431). -/
def dropPending (i : Nat) (n : State) : State :=
  setPins (({ n with faults := { n.faults with pending := Store.erase n.faults.pending i } } : State).put FLT_SRC_STAT_PENDING 0 i)

/-- FAULT_CLEAR of a source, which is raised again while its condition lasts (R431). -/
theorem faultClear_source {i : Nat} (h : sourceNamed i = true) : faultClear i false n =
    ok_ (if stillPresent (dropPending i n) i then report i (dropPending i n) else dropPending i n) := by
  simp only [faultClear, h, Bool.not_true, Bool.false_eq_true, if_false]
  rfl

theorem faultClear_buffer {b : Nat} (h : b < 2) : faultClear b true n = ok_ (bbRelease b n) := by
  simp only [faultClear, Nat.not_le.mpr h, if_false, if_true]

/-- An injection is due: no tick is given, or its tick has come (R444). -/
def tickDue (n : State) (tick : Option Stamp) : Bool :=
  match tick with
  | none => true
  | some t => decide (stampNs t ≤ n.nowNs)

/-- FAULT_INJECT with injection enabled and room produces the fault or arms it (R444). -/
theorem injectBody_good {kind u : Nat} {tick : Option Stamp} (hen : n.on FLT_CTRL_INJECT_EN = true) (h1 : 1 ≤ kind) (h8 : kind ≤ 8)
    (hu : u < injectUnits kind) (ht : ∀ t, tick = some t → stampOk t = true) (hroom : n.faults.injections.length < 16) :
    injectBody kind u tick n = ok_ (if tickDue n tick then inject kind u n
      else { n with faults := { n.faults with injections := n.faults.injections ++ [⟨kind, u, tick⟩] } }) := by
  have hargs : ¬ ((kind = 0 ∨ 8 < kind) ∨ injectUnits kind ≤ u) := by omega
  have hcheck : injectBody kind u tick n = if tickDue n tick then ok_ (inject kind u n)
      else ok_ { n with faults := { n.faults with injections := n.faults.injections ++ [⟨kind, u, tick⟩] } } := by
    cases tick with
    | none =>
      simp only [injectBody, tickDue, hen, hargs, Nat.not_le.mpr hroom, Bool.or_eq_true, decide_eq_true_eq, Bool.not_true,
        Bool.false_eq_true, if_false]
    | some t =>
      simp only [injectBody, tickDue, hen, hargs, ht t rfl, Nat.not_le.mpr hroom, Bool.or_eq_true, decide_eq_true_eq, Bool.not_true,
        Bool.false_eq_true, if_false]
  rw [hcheck]
  split <;> rfl

end Sources

/-! ### Units and resets -/

section Units

variable {n : State} {u : Nat}

theorem fenceBody_named (h : u < 20) : fenceBody u n = ok_ (fenceUnit u 0 n) := by
  simp only [fenceBody, Nat.not_le.mpr h, if_false]

theorem unitResetBody_named (h : u < 17) : unitResetBody u n = ok_ (resetUnit u 0 n) := by
  simp only [unitResetBody, Nat.not_le.mpr h, if_false]

/-- REINTEGRATE of a quarter's ports hands them back from Q4 (R443). -/
theorem reintegrateBody_back {pass : Bool} (hu : u < 5) (hm : n.get PRT_QMUX_MOVED = u) (hf : fenced n u = false) :
    reintegrateBody u true pass n = ok_ (handBack u n) := by
  have h20 : ¬ 20 ≤ u := by omega
  simp only [reintegrateBody, h20, hm, hf, Nat.not_le.mpr hu, decide_false, bne_self_eq_false, Bool.or_self, Bool.false_eq_true, if_false,
    if_true]

/-- REINTEGRATE of a fenced unit whose self-test passes (R443): by the kind of the unit. -/
theorem reintegrateBody_passed (hu : u < 20) (hf : fenced n u = true) (hr : n.power.inReset.contains u = false) :
    reintegrateBody u false true n =
      if u < 5 then ok_ (quarterReturns u n)
      else if u < 9 then (if n.fel.handBack.any (fun e => e.2 == u - 5) then .wait 0 0 u n else ok_ (unfence u (setSleep u false false n)))
      else if u < 17 then (if n.mem.latched then .wait 0 0 u (startPass (u - 9) 4 0 (setSleep u false false n))
        else ok_ ((unfence u (setSleep u false false n)).put MEM_DDR_STAT_FENCED 0 (u - 9)))
      else ok_ (unfence u { n with faults := { n.faults with inverted := n.faults.inverted.filter (fun r => r != u - 17) } }) := by
  simp only [reintegrateBody, hf, hr, Nat.not_le.mpr hu, Bool.not_true, Bool.or_self, Bool.false_eq_true, if_false]

/-- DEVICE_RESET stops ingress and waits for the drain (R31). -/
theorem deviceResetBody_waits {limit : Nat} (h : limit ≤ 1000) :
    deviceResetBody limit n = .wait 0 0 (n.clock + (if limit = 0 then 10 else limit) * 1000000)
      { n with egr := { n.egr with accepting := false } } := by
  simp only [deviceResetBody, Nat.not_lt.mpr h, if_false]

theorem deviceResetBody_beyond {limit : Nat} (h : 1000 < limit) : deviceResetBody limit n = failed 1 n := by
  simp only [deviceResetBody, h, if_true]

end Units

/-! ### Reading the black box -/

section BlackBox

variable {n : State} {c : Cmd} {b first m addr : Nat}

theorem bbReadBody_clear (hb : b < 2) (hf : first < bbSize) (hm : first + m ≤ bbSize) (hs : bitOf (n.get FLT_BB_STAT_SEALED) b = false) :
    bbReadBody c addr b first m n = giveResult c addr 0 (bbRead n b (32 * first) (32 * m)) 0 n := by
  have hargs : ¬ ((2 ≤ b ∨ bbSize ≤ first) ∨ bbSize < first + m) := by omega
  simp only [bbReadBody, hs, hargs, Bool.or_eq_true, decide_eq_true_eq, Bool.false_eq_true, if_false]

/-- A sealed buffer is given as its image: header, entries and tag (R448). -/
theorem bbReadBody_sealed (hb : b < 2) (hf : first < bbSize) (hm : first + m ≤ bbSize) (hs : bitOf (n.get FLT_BB_STAT_SEALED) b = true) :
    bbReadBody c addr b first m n = giveResult c addr 0 (bbHeader n b ++ bbRead n b 0 bbEntryBytes ++
      (List.range 16).map (fun i => Config.sealedByte (bbBuf n b).epoch (bbEntryBytes + i))) 0 n := by
  have hargs : ¬ ((2 ≤ b ∨ bbSize ≤ first) ∨ bbSize < first + m) := by omega
  simp only [bbReadBody, hs, hargs, Bool.or_eq_true, decide_eq_true_eq, if_false, if_true]

end BlackBox

/-- Settles O20: each row runs its command on the state with its black-box entry, where it has the answer of its lemma. -/
theorem faultCommandsComplete : Obligations.FaultCommandsComplete := by
  unfold Obligations.FaultCommandsComplete
  intro s n c
  refine ⟨?set, ?clear, ?release, ?inject, ?fence, ?back, ?reintegrate, ?unitReset, ?deviceReset, ?beyond, ?read, ?image⟩
  case set => exact fun i sev fence alarm hand ht hn h => taken_notes_done ht hn rfl (faultSet_good h)
  case clear =>
    rintro i x ht hn h rfl
    exact taken_notes_done ht hn rfl (faultClear_source h)
  case release => exact fun b ht hn h => taken_notes_done ht hn rfl (faultClear_buffer h)
  case inject =>
    exact fun kind u tick ht hn hen h1 h8 hu htick hroom => taken_notes_done ht hn rfl (injectBody_good hen h1 h8 hu htick hroom)
  case fence => exact fun u ht h => taken_notes_done ht rfl rfl (fenceBody_named h)
  case back => exact fun u pass ht hn hu hm hf => taken_notes_done ht hn rfl (reintegrateBody_back hu hm hf)
  case reintegrate => exact fun u ht hn hu hf hr => taken_notes ht hn rfl (reintegrateBody_passed hu hf hr)
  case unitReset => exact fun u ht h => taken_notes_done ht rfl rfl (unitResetBody_named h)
  case deviceReset => exact fun limit ht hn h => taken_notes ht hn rfl (deviceResetBody_waits h)
  case beyond => exact fun limit ht hn h => taken_notes_done ht hn rfl (deviceResetBody_beyond h)
  case read => exact fun b first m addr ht hn hb hf hm hs => taken_notes ht hn rfl (bbReadBody_clear hb hf hm hs)
  case image => exact fun b first m addr ht hn hb hf hm hs => taken_notes ht hn rfl (bbReadBody_sealed hb hf hm hs)

end Sys2Proof.Machine

/-! The events of the command rings (R20, R389, R390, R410 to R417): fetch, acceptance, start, commit and completion of an entry. -/

namespace Sys2Proof.Machine

/-- An event of a part of the device that exists. -/
theorem exec_within {i : Instr} {p : Prop} [Decidable p] {s t : State} (hp : p) (hi : exec i s = within (decide p) t) :
    exec i s = .next (settle t) := by
  rw [hi, decide_eq_true hp, within_true]

/-! ### Fetch -/

section Fetch

variable {s : State} {r : Nat}

/-- The journaled entries of a CMD ring that CI has not passed. -/
def unpassed (s : State) (r : Nat) : List JEntry := s.host.journal.filter (fun e => !e.tx && e.ring == r && !e.passed)

/-- The state in which an entry has been verified: counted, and noted by its session where it is authentic and sealed (R387, R389). -/
def verified (b : List Byte) (v : Nat) (s : State) : State :=
  countEvent 21 0x01 0xFFF 1 (if bitOf (leField b 2 1) 0 && v = 0 then noteCseq b s else s)

/-- The session under which an entry is sealed, 4 for none. -/
def sealingSession (b : List Byte) (x : State) : Nat :=
  if bitOf (leField b 2 1) 0 then (match sessionOf x (leField b 4 4) with | none => 4 | some n => n) else 4

/-- The journal entry of a fetched command (R414). b: its 64 bytes; v: its verdict; x: the state in which it has been verified. -/
def fetchedEntry (r : Nat) (b : List Byte) (v : Nat) (sigOk certOk : Bool) (s x : State) : JEntry :=
  ⟨r, (s.get HST_RING_IDX_CI r + (unpassed s r).length) % 2 ^ 32, false, false, leField b 8 8, leField b 0 2, bitOf (leField b 2 1) 0,
    sealingSession b x, v, if bitOf (leField b 2 1) 1 || namesObject (leField b 0 2) then some (leField b 16 4) else none,
    false, false, false, false, false, b, sigOk, certOk, none⟩

/-- An entry journaled, and sent to the partner while mirroring is active (R362, R414). -/
def journalFetched (e : JEntry) (x : State) : State :=
  let y := journalStat { x with host := { x.host with journal := x.host.journal ++ [e] } }
  if mirrorActive y then sendMirror 1 0x02 (leBytes 1 (e.ring + 32 * e.verdict) ++ leBytes 4 e.index) (leBytes 8 e.cseq ++ e.entry) y else y

/-- CI of a CMD ring passes what it may of its own journal. -/
def passOwn (r : Nat) (z : State) : State := passJournal r z.host.journal z

/-- CMD_FETCH of an enabled ring with an entry and room in the journal, while no change of the sessions is outstanding (R414, R387). -/
theorem cmdFetch_open {entry : List Byte} {tagOk sigOk certOk : Bool} {b : List Byte} {v : Nat} (hr : r < 4) (hon : ringOn s r = true)
    (hready : s.on PWR_READY_HOST_READY = true) (hused : (unpassed s r).length < ringUsed s r) (hroom : s.host.journal.length < journalSize)
    (hses : sessionChanges s = false) (hb : b = padTo 64 entry) (hv : v = verdictOf s b tagOk) :
    cmdFetch r entry tagOk sigOk certOk s =
      passOwn r (journalFetched (fetchedEntry r b v sigOk certOk s (verified b v s)) (verified b v s)) := by
  have hgo : ¬ (decide (4 ≤ r) || !ringOn s r || !s.on PWR_READY_HOST_READY || decide (ringUsed s r ≤ (unpassed s r).length) ||
      decide (journalSize ≤ s.host.journal.length) || sessionChanges s) = true := by
    simp [hon, hready, hses, hr, hused, hroom]
  unfold cmdFetch
  -- the values that a fetch names, in the model's order; each is then identified with its definition above
  extract_lets held index b' v' sealed' x' session object e hosts y z
  refine (if_neg hgo).trans ?_
  have hb' : b' = b := hb.symm
  have hv' : v' = v := by rw [hv, ← hb']
  clear_value b' v'
  subst hb' hv'
  have hx : x' = verified b' v' s := rfl
  clear_value x'
  subst hx
  have he : e = fetchedEntry r b' v' sigOk certOk s (verified b' v' s) := rfl
  have hz : z = journalFetched e (verified b' v' s) := rfl
  rw [← he, ← hz]
  rfl

end Fetch

/-! ### Acceptance, start and commit -/

section Commands

variable {s : State} {ring : Nat} {e : JEntry}

/-- An acknowledged entry lets CI advance (R20). -/
theorem partnerAcks_eq {r i : Nat} {x : State} (hx : x = { s with host := { s.host with
    journal := s.host.journal.map (fun e => if e.ring == r && e.index == i then { e with acked := true } else e) } }) :
    partnerAcks r i s = if r < 4 then passJournal r x.host.journal x else passTx r 65536 x := by
  subst hx
  simp only [partnerAcks]

/-- An accepted entry with nothing earlier of its family open, space for its completion and its stage reached begins (R415, R416, R461). -/
theorem startCommand_begins {k : Nat} (hk : findIdx? (fun (e : JEntry) => !e.tx && e.ring == ring) s.host.journal 0 = some (k, e))
    (hp : e.passed = true) (hnr : e.running = false)
    (hfirst : (s.host.journal.take k).any (fun x => !x.tx && x.passed && x.opcode / 256 == e.opcode / 256) = false)
    (hspace : cplSpace s ring = true) (hreplay : e.replay = true → s.on PWR_READY_EXPRESS_READY = true)
    (hinit : e.opcode = 0x0900 → s.on PWR_READY_BULK_READY = true) :
    startCommand ring s = { s with host := { s.host with journal := s.host.journal.set k { e with running := true } } } := by
  have hstage : ((e.replay && !s.on PWR_READY_EXPRESS_READY) || (decide (e.opcode = 0x0900) && !s.on PWR_READY_BULK_READY)) = false := by
    rw [Bool.or_eq_false_iff, Bool.and_eq_false_imp, Bool.and_eq_false_imp, decide_eq_true_eq, Bool.not_eq_false', Bool.not_eq_false']
    exact ⟨hreplay, hinit⟩
  simp only [startCommand, hk, hp, hnr, hfirst, hspace, hstage, Bool.not_true, Bool.or_self, Bool.false_eq_true, if_false]

/-- A running entry of a CMD ring whose command has not come to wait. -/
def Committable (ring cseq : Nat) (e : JEntry) (s : State) : Prop :=
  s.host.journal.find? (fun e => !e.tx && e.ring == ring && e.cseq == cseq && e.running) = some e ∧
    s.host.waiting.any (fun w => w.ring == ring && w.cseq == cseq) = false

/-- What a commit does to a running entry: by its verdict, its form and the outcome named (R8, R388, R390). -/
theorem commitCommand_running {cseq : Nat} (h : Committable ring cseq e s) (out : Nat × Nat × Nat) : commitCommand ring cseq out s =
    if e.verdict ≠ 0 then (if out = (6, e.verdict, 0) then rejectCommand (cmdOf e) e.opcode e.verdict s else s)
    else if (headerReserved e.entry = true ∨ opcodeDefined e.opcode = false) ∧ out = (1, 0, 0) then finish (cmdOf e) e.opcode (resFail 1) s
    else s := by
  obtain ⟨hfind, hwait⟩ := h
  simp only [commitCommand, hfind, hwait, cmdOf, bne_iff_ne, Bool.and_eq_true, Bool.or_eq_true, Bool.not_eq_true', beq_iff_eq,
    Bool.false_eq_true, if_false]

/-- CI passes an entry, accepted as it is passed, unless mirroring is active and the partner has not acknowledged it (R16, R20). -/
theorem passJournal_open {r : Nat} (es : List JEntry) (htx : e.tx = false) (hr : e.ring = r) (hp : e.passed = false) :
    passJournal r (e :: es) s =
      if mirrorActive s && !e.acked then s else passJournal r es (acceptOne r (acceptWork e s)) := by
  simp only [passJournal, htx, hr, hp, bne_self_eq_false, Bool.or_self, Bool.false_eq_true, if_false]

end Commands

/-! ### Completion -/

section Completions

variable {s : State}

/-- The entry of a completion on its CPL ring (Table 16.3). -/
def completionEntry (c : Completion) : List Byte :=
  leBytes 8 c.cseq ++ leBytes 4 c.result ++ leBytes 1 c.status ++ leBytes 1 c.detail ++
    leBytes 1 (c.ring % 4 + ofBool c.replayed * 4 + ofBool c.resultObj * 8) ++ [0]

theorem writeCompletion_room {ring k : Nat} {c : Completion}
    (hk : findIdx? (fun (c : Completion) => c.ring == ring) s.host.completions 0 = some (k, c)) (hroom : ringRoom s (4 + ring) 1 = true) :
    writeCompletion ring s = ringWrite (4 + ring) (completionEntry c) []
      { s with host := { s.host with completions := s.host.completions.eraseIdx k } } := by
  simp only [writeCompletion, completionEntry, hk, hroom, Bool.not_true, Bool.false_eq_true, if_false]

theorem ciWriteBack_on {r : Nat} (hon : ringOn s r = true) (hw : hostWritten r = true) : ciWriteBack r s = { s with host := { s.host with
    ciWritten := Store.set s.host.ciWritten r (s.get HST_RING_IDX_CI r) } } := by
  simp only [ciWriteBack, hon, hw, Bool.and_self, if_true]

end Completions

/-- Settles O38: each row runs its event, and each event has the effect of its lemma. -/
theorem commandRingEventsComplete : Obligations.CommandRingEventsComplete := by
  unfold Obligations.CommandRingEventsComplete
  intro s
  refine ⟨?fetch, ?acked, ?start, ?commit, ?pass, ?write, ?writeBack⟩
  case fetch =>
    rintro r entry tagOk sigOk certOk held index v session b sealed_ object e x y z hr rfl hon hready hused hroom hses hb hv rfl rfl rfl rfl
      rfl rfl rfl rfl
    rw [exec_within hr rfl, cmdFetch_open hr hon hready hused hroom hses hb hv]
    rfl
  case acked =>
    intro r i x hr hx
    rw [exec_within hr rfl, partnerAcks_eq hx]
  case start =>
    intro ring k e hr hk hp hnr hfirst hspace hreplay hinit
    rw [exec_within hr rfl, startCommand_begins hk hp hnr hfirst hspace hreplay hinit]
  case commit =>
    intro ring cseq e hr hfind hwait
    have hrun := commitCommand_running (e := e) ⟨hfind, hwait⟩
    refine ⟨fun hv => ?_, fun hv hform => ?_, fun status detail result hreject harg => ?_⟩
    · rw [exec_within hr rfl, hrun, if_pos hv, if_pos rfl]
    · rw [exec_within hr rfl, hrun, if_neg (not_not.mpr hv), if_pos ⟨hform, rfl⟩]
    · rw [exec_within hr rfl, hrun]
      by_cases hv : e.verdict = 0
      · rw [if_neg (not_not.mpr hv), if_neg]
        rintro ⟨hform, hout⟩
        rcases harg with h | h | ⟨hgood, hdef⟩
        · exact h hout
        · exact h hv
        · simp [hgood, hdef] at hform
      · rw [if_pos hv, if_neg (hreject.resolve_right hv)]
  case pass => exact fun r e es htx hr hp => passJournal_open es htx hr hp
  case write =>
    intro ring k c hr hk hroom
    rw [exec_within hr rfl, writeCompletion_room hk hroom]
    rfl
  case writeBack =>
    intro r hr hon hw
    rw [exec_within hr rfl, ciWriteBack_on hon hw]

end Sys2Proof.Machine

/-! The events of arriving frames and of the quarters (R13, R23, R43, R44, R50, R86, R87, R115, R139, R143, R241, R257). -/

namespace Sys2Proof.Machine

/-- An event of a queue or priority of a port. -/
theorem exec_within_queue {i : Instr} {p t : Nat} {s u : State} (hp : p < 96) (ht : t < 8)
    (hi : exec i s = within (decide (p < 96) && decide (t < 8)) u) : exec i s = .next (settle u) := by
  rw [hi, decide_eq_true hp, decide_eq_true ht]
  rfl

/-! ### Arrival and end of a frame -/

section Arrival

variable {s : State} {p : Nat}

/-- The port and the bulk path take the plain bytes of a frame: they hit no stream that the express path serves (R13). -/
def bulkTakes (s : State) (p : Nat) (plain : List Byte) : Bool :=
  receives s p && bulkReady s && !(expressReady s && (streamHit s p plain).isSome)

theorem bulkTakes_of_miss {plain : List Byte} (hr : receives s p = true) (hb : bulkReady s = true)
    (hmiss : expressReady s = true → streamHit s p plain = none) : bulkTakes s p plain = true := by
  rw [bulkTakes, hr, hb]
  cases hx : expressReady s with
  | false => rfl
  | true => rw [hmiss hx]; rfl

/-- A frame in clear that the bulk path takes starts as a bulk frame (R13, R241). -/
theorem frameArrival_clear {bytes : List Byte} {ended good : Bool} (hv : validate s p bytes ended = .clear)
    (ht : bulkTakes s p bytes = true) : frameArrival p bytes ended good s = bulkArrive p bytes ended good none s := by
  unfold bulkTakes at ht
  simp only [frameArrival, hv, ht, if_true]

/-- A frame that MACsec discards is refused (R18, R51). -/
theorem frameArrival_discard {bytes : List Byte} {ended good replay : Bool} (hr : receives s p = true) (hb : bulkReady s = true)
    (hv : validate s p bytes ended = .discard replay) : frameArrival p bytes ended good s = secRefuse p replay s := by
  simp only [frameArrival, hv, hr, hb, Bool.and_self, if_true]

/-- The end of a protected frame's arrival, or the bytes of the line kept for a frame of which more will come (R50). n: the number the
frame takes. -/
def keepWire (p n key pn : Nat) (bytes : List Byte) (ended good icvOk : Bool) (x : State) : State :=
  if ended then secEnds p key pn good icvOk x
  else if x.buf.nextFrame = n then x
  else { x with buf := { x.buf with wires := Store.set x.buf.wires n (p, bytes) } }

/-- A protected frame whose plain bytes the bulk path takes starts as MACsec leaves it (R51). -/
theorem frameArrival_valid {key pn : Nat} {bytes plain : List Byte} {ended good icvOk : Bool}
    (hv : validate s p bytes ended = .valid key pn plain icvOk) (ht : bulkTakes s p plain = true) :
    frameArrival p bytes ended good s =
      keepWire p s.buf.nextFrame key pn bytes ended good icvOk (bulkArrive p plain ended (good && icvOk) none s) := by
  unfold bulkTakes at ht
  simp only [frameArrival, keepWire, hv, ht, Bool.not_true, Bool.false_eq_true, if_false]

theorem validate_unprotected {bytes : List Byte} {ended : Bool} (h : protects s p bytes = false) : validate s p bytes ended = .clear := by
  simp only [validate, h, Bool.not_false, if_true]

variable {f : Nat} {rest : List Byte} {good : Bool}

theorem frameEndArrival_plain {express : Bool} (h : wireOf express f s = none) :
    frameEndArrival express f rest good s = plainEnd express f rest good s := by
  simp only [frameEndArrival, h]

/-- The rest of a bulk frame not yet ended ends it, and is charged (R23, R178). -/
theorem plainEnd_bulk {y : Frame} (hy : frameOf s f = some y) (he : y.ended = false) :
    plainEnd false f rest good s = bulkEnd f rest good (chargeRest f (y.bytes.length + rest.length + 4) s) := by
  simp only [plainEnd, hy, he, Bool.false_eq_true, if_false]

theorem plainEnd_express : plainEnd true f rest good s = expressEnd f rest good s := rfl

variable {express : Bool} {w : List Byte}

/-- A protected frame ends with the check of its ICV over all its bytes (R50). -/
theorem frameEndArrival_valid {key pn : Nat} {plain : List Byte} {icvOk : Bool} (hw : wireOf express f s = some (p, w))
    (hv : validate (dropWire express f s) p (w ++ rest) true = .valid key pn plain icvOk) :
    frameEndArrival express f rest good s = secEnds p key pn good icvOk
      (plainEnd express f (plain.drop (plainSoFar express f (dropWire express f s))) (good && icvOk) (dropWire express f s)) := by
  simp only [frameEndArrival, hw, hv]

theorem frameEndArrival_discard {replay : Bool} (hw : wireOf express f s = some (p, w))
    (hv : validate (dropWire express f s) p (w ++ rest) true = .discard replay) :
    frameEndArrival express f rest good s = (if replay then secFailure p else id) (plainEnd express f [] false (dropWire express f s)) := by
  simp only [frameEndArrival, hw, hv]

end Arrival

/-! ### Dispatch and passes -/

section Passes

variable {s : State} {q : Nat}

/-- A header descriptor whose window is present joins its quarter's wake FIFO, or finds it full (R43, R44, R516). -/
theorem dispatchFrame_present {f : Nat} {y : Frame} (hy : frameOf s f = some y) (hd : y.dispatched = false) (hp : y.port < 96)
    (hw : windowPresent s y = true) (hq : q = servingQuarter s y.port) :
    dispatchFrame f s = if (quarterOf s q).wake.length < 8192
      then wakeUnit q (onQuarter q (fun z => { z with wake := z.wake ++ [f] }) (onFrame f (fun z => { z with dispatched := true }) s))
      else refuseFrame BUF_ADM_REFUSE f s := by
  subst hq
  have hgo : (y.dispatched || decide (96 ≤ y.port) || !windowPresent s y) = false := by simp [hd, hw, hp]
  simp only [dispatchFrame, hy, hgo, Bool.false_eq_true, if_false]
  rcases Nat.lt_or_ge (quarterOf s (servingQuarter s y.port)).wake.length 8192 with h | h
  · rw [if_pos h, if_neg (Nat.not_le.mpr h)]
  · rw [if_neg (Nat.not_lt.mpr h), if_pos h]

/-- A serving quarter with room in its release stage takes its oldest descriptor through a pass (R43, R66, R87). -/
theorem quarterPass_serves {f : Nat} {rest : List Nat} {y : Frame} {x : State} (hs : serves s q = true)
    (hin : s.faults.incoming.contains q = false) (hroom : (quarterOf s q).release.length < 4096) (hw : (quarterOf s q).wake = f :: rest)
    (hx : x = onQuarter q (fun z => { z with wake := rest }) s) (hy : frameOf x f = some y) :
    quarterPass q s = runPass q (newDesc x q f y) (countEvent q 0x01 y.port 1 x) := by
  subst hx
  have hgo : (!serves s q || s.faults.incoming.contains q || decide (4096 ≤ (quarterOf s q).release.length)) = false := by
    rw [hs, hin, decide_eq_false (Nat.not_le.mpr hroom)]
    rfl
  simp only [quarterPass, hgo, hw, hy, Bool.false_eq_true, if_false]

theorem recirculationPass_serves {d : Desc} {rest : List Desc} (hs : serves s q = true) (hd : (quarterOf s q).recirc = d :: rest) :
    recirculationPass q s =
      runPass q d (countEvent q 0x02 d.port 1 (onQuarter q (fun z => { z with recirc := rest }) s)) := by
  simp only [recirculationPass, hs, hd, Bool.not_true, Bool.false_eq_true, if_false]

/-- The oldest frame that quarter q can inspect, of which n bytes are inspected (R115). -/
def Inspects (s : State) (q n : Nat) (d : Desc) (y : Frame) : Prop :=
  serves s q = true ∧ (quarterOf s q).engines.find? (inspectable s) = some d ∧ frameOf s d.frame = some y ∧
    n = min (inspectWant d) (y.bytes.length - d.rest) ∧ 0 < n

/-- An uncorrectable error during the inspection: verdict 0xFFFE, counted and reported (R117). -/
theorem inspectPattern_ue {n : Nat} {d : Desc} {y : Frame} (h : Inspects s q n d y) : inspectPattern q true s =
    report (srcQuarter q 5) ((verdictReady q d.frame 0xFFFE (s.bump QTR_PAT_FRAME_CNT q)).bump QTR_PAT_FAULT_CNT q) := by
  obtain ⟨hs, hd, hy, rfl, hn⟩ := h
  simp only [inspectPattern, hs, hd, hy, Nat.pos_iff_ne_zero.mp hn, Bool.not_true, Bool.false_eq_true, if_false, if_true]

/-- An inspection by a loaded image: the automaton's verdict, and the bytes counted (R115, R118). -/
theorem inspectPattern_image {n : Nat} {d : Desc} {y : Frame} {im : Image} {r : Nat × Nat} (h : Inspects s q n d y)
    (him : Store.get? (s.bump QTR_PAT_FRAME_CNT q).cls.images d.act.patImage = some im)
    (hr : r = automatonRun im.words (im.starts.getD d.act.patProg 0) 0 0 ((y.bytes.drop d.rest).take n)) : inspectPattern q false s =
    (verdictReady q d.frame r.1 (s.bump QTR_PAT_FRAME_CNT q)).bumpBy r.2 QTR_PAT_BYTE_CNT q := by
  obtain ⟨hs, hd, hy, rfl, hn⟩ := h
  simp only [inspectPattern, hs, hd, hy, him, ← hr, Nat.pos_iff_ne_zero.mp hn, Bool.not_true, Bool.false_eq_true, if_false]

theorem descriptorRelease_taken {d : Desc} {x : State} (h : takeReleased q s = some (d, x)) :
    descriptorRelease q s = { x with flow := { x.flow with input := x.flow.input ++ [d] } } := by
  simp only [descriptorRelease, h]

end Passes

/-! ### Notices, ageing and PFC -/

section Upkeep

variable {s : State} {q : Nat}

/-- A notice at the ring stop of a quarter that is not fenced is applied, and passed on until it is back at its origin (R139). -/
theorem learnNotice_applies {n : Notice} {rest : List Notice} {y : State} (hn : (quarterOf s q).notices = n :: rest)
    (hy : y = onQuarter q (fun z => { z with notices := rest }) s) (hf : fenced y q = false) :
    learnNotice q s = if (q + 1) % 5 = n.origin then applyNotice q n y else sendNotice q n (applyNotice q n y) := by
  subst hy
  simp only [learnNotice, hn, hf, Bool.false_eq_true, if_false]

/-- Ageing of a quarter that ages: a sweep once its period has passed since the last one (R143). -/
theorem ageSweep_enabled {t : Nat} (hf : fenced s q = false) (hen : s.on QTR_AGE_CTRL_AGE_EN q = true)
    (ht : t = (quarterOf s q).agedAt + max 100 (s.get QTR_AGE_CTRL_PERIOD_MS q) * 1000000) :
    ageSweep q s = if s.clock < t then s else
      (quarterOf s q).learned.slots.foldl (fun s e => sweepEntry q e.2 s) (onQuarter q (fun z => { z with agedAt := s.clock }) s) := by
  simp only [ageSweep, hf, hen, ← ht, Bool.not_true, Bool.false_or, decide_eq_true_eq]

/-- An account still stopped: its XOFF is due again once REFRESH_US have passed (R257). -/
theorem pfcRefresh_stopped {p i t : Nat} (hx : s.buf.xoff.contains (8 * p + i) = true)
    (ht : t = Store.getD s.buf.xoffAt (8 * p + i) 0 +
      clamp 1 4095 (s.get BUF_PFCPROF_W1_REFRESH_US (s.get BUF_PFC_PORT_PROFILE p)) * 1000) :
    pfcRefresh p i s = if s.clock < t then s else pfcRepeat p i s := by
  simp only [pfcRefresh, hx, ← ht, Bool.not_true, Bool.false_or, decide_eq_true_eq]

theorem pfcRepeat_stopped {p i : Nat} (hx : s.buf.xoff.contains (8 * p + i) = true) (hl : losslessPrio s p i = true)
    (ha : xonOf s p < pfcAccount s p i) : pfcRepeat p i s = sendXoff p i s := by
  simp only [pfcRepeat, hx, hl, ha, decide_true, Bool.and_self, if_true]

end Upkeep

/-- Settles O40: each row runs its event, and each event has the effect of its lemma. -/
theorem ingressEventsComplete : Obligations.IngressEventsComplete := by
  unfold Obligations.IngressEventsComplete
  intro s x
  refine ⟨?clear, fun p bytes ended => validate_unprotected, ?discard, ?valid, ?bulkEnds, ?expressEnds, ?wireEnds, ?dispatch, ?pass,
    ?second, ?inspect, ?release, ?notice, ?age, ?refresh⟩
  case clear =>
    intro p bytes ended good hp hr hb hmiss hv
    rw [exec_within hp rfl, frameArrival_clear hv (bulkTakes_of_miss hr hb hmiss)]
  case discard =>
    intro p bytes ended good replay hp hr hb hv
    rw [exec_within hp rfl, frameArrival_discard hr hb hv]
  case valid =>
    rintro p key pn bytes plain ended good icvOk hp hr hb hmiss hv rfl
    rw [exec_within hp rfl, frameArrival_valid hv (bulkTakes_of_miss hr hb hmiss)]
    rfl
  case bulkEnds =>
    intro f rest good y hy he hw
    rw [← plainEnd_bulk hy he, ← frameEndArrival_plain hw]
    rfl
  case expressEnds =>
    intro f rest good hw
    rw [← plainEnd_express, ← frameEndArrival_plain hw]
    rfl
  case wireEnds =>
    rintro express good f p rest w hw rfl
    refine ⟨fun key pn plain icvOk hv => ?_, fun replay hv => ?_⟩
    · rw [← frameEndArrival_valid hw hv]
      rfl
    · rw [← frameEndArrival_discard hw hv]
      rfl
  case dispatch =>
    intro f q y hy hd hp hw hq
    rw [← dispatchFrame_present hy hd hp hw hq]
    rfl
  case pass =>
    intro q f rest y hq hs hin hroom hw hx hy
    rw [exec_within hq rfl, quarterPass_serves hs hin hroom hw hx hy]
  case second =>
    intro q d rest hq hs hd
    rw [exec_within hq rfl, recirculationPass_serves hs hd]
  case inspect =>
    rintro q n d y im r hq hs hd hy hn hpos rfl
    have h : Inspects s q n d y := ⟨hs, hd, hy, hn, hpos⟩
    refine ⟨?_, fun him hr => ?_⟩
    · rw [exec_within hq rfl, inspectPattern_ue h]
    · rw [exec_within hq rfl, inspectPattern_image h him hr]
  case release =>
    intro q d hq ht
    rw [exec_within hq rfl, descriptorRelease_taken ht]
  case notice =>
    rintro q n rest hq hn - rfl hf
    rw [exec_within hq rfl, learnNotice_applies hn rfl hf]
  case age =>
    intro q t hq hf hen ht
    refine ⟨fun h => ?_, fun h => ?_⟩
    · rw [exec_within hq rfl, ageSweep_enabled hf hen ht, if_neg (Nat.not_lt.mpr h)]
    · rw [exec_within hq rfl, ageSweep_enabled hf hen ht, if_pos h]
  case refresh =>
    intro p i t hp hi hx ht
    refine ⟨fun h hl ha => ?_, fun h => ?_⟩
    · rw [exec_within_queue hp hi rfl, pfcRefresh_stopped hx ht, if_neg (Nat.not_lt.mpr h), pfcRepeat_stopped hx hl ha]
    · rw [exec_within_queue hp hi rfl, pfcRefresh_stopped hx ht, if_pos h]

end Sys2Proof.Machine

/-! The events of the express path and of the egress lines (R21, R54, R55, R260 to R289). -/

namespace Sys2Proof.Machine

/-! ### The express path -/

section Express

variable {s : State} {p : Nat}

/-- On a port in clear a frame is decided by its own bytes (R275). -/
theorem expressDecision_clear {bytes : List Byte} {ended good : Bool} {dissent : List Nat} (hr : receives s p = true)
    (hx : expressReady s = true) (hv : validate s p bytes ended = .clear) :
    expressDecision p bytes ended good dissent s = expressDecide p bytes ended good dissent s := by
  simp only [expressDecision, hr, hx, hv, Bool.not_true, Bool.or_self, Bool.false_eq_true, if_false]

/-- A protected frame that hits a stream is decided by its plain bytes; at its end its ICV counts, and until then the bytes of the line
are kept (R50, R51). -/
theorem expressDecision_valid {key pn : Nat} {bytes plain : List Byte} {ended good icvOk : Bool} {dissent : List Nat} {x : State}
    (hr : receives s p = true) (hx : expressReady s = true) (hv : validate s p bytes ended = .valid key pn plain icvOk)
    (hhit : (streamHit s p plain).isSome = true) (hd : x = expressDecide p plain ended (good && icvOk) dissent s) :
    expressDecision p bytes ended good dissent s =
      if ended then secEnds p key pn good icvOk x
      else if x.xpr.nextIdent = s.xpr.nextIdent then x
      else { x with xpr := { x.xpr with wires := Store.set x.xpr.wires s.xpr.nextIdent (p, bytes) } } := by
  have hsome : (streamHit s p plain).isNone = false := Option.isNone_eq_false_iff.mpr hhit
  simp only [expressDecision, hr, hx, hv, hsome, ← hd, Bool.not_true, Bool.or_self, Bool.false_eq_true, if_false]

/-- The history of a sequence recovery is reset once RESET_MS have passed without a frame (R280). -/
theorem recoveryReset_due {r : Nat} {e : Nat × Stream} {y : Recovery}
    (he : s.xpr.streams.find? (fun e => bitOf e.2.entry 182 && bitsOf e.2.entry 205 192 == r && bitsOf e.2.entry 255 240 != 0) = some e)
    (hy : Store.get? s.xpr.recovery r = some y) (ht : y.passed + bitsOf e.2.entry 255 240 * 1000000 ≤ s.clock) :
    recoveryReset r s = { s with xpr := { s.xpr with recovery := Store.erase s.xpr.recovery r } } := by
  simp only [recoveryReset, he, hy, Nat.not_lt.mpr ht, if_false]

/-- A cell time: three iterations of the matching, the ports left without a match counted, then the matched cells cross (R260). -/
theorem cellTime_eq {m1 m2 m3 : List (Nat × Nat)} {x : State} (h1 : m1 = matchRound s (requests s) [])
    (h2 : m2 = m1 ++ matchRound s (requests s) m1) (h3 : m3 = m2 ++ matchRound s (requests s) m2)
    (hx : x = ((((requests s).map (fun r => r.1)).eraseDups).filter (fun i => !(m3.any (fun m => m.1 == i)))).foldl
      (fun s i => countEvent 5 0x05 i 1 s) s) :
    cellTime s = (m3.drop m1.length).foldl (fun s m => crossCell false m.1 m.2 s) (m1.foldl (fun s m => crossCell true m.1 m.2 s) x) := by
  simp only [cellTime, ← h1, ← h2, ← h3, ← hx]

/-- An oversize frame: refused at stage 2 for the egresses not yet granted, cut off and stomped at the others (R276). -/
theorem expressOversize_found {ident sdu : Nat} {c : XCopy} {x : State} (hc : (xCopiesOf s ident).find? (fun c => !c.ended) = some c)
    (hsdu : sdu = streamSdu (streamOf s c.stream).entry) (h0 : sdu ≠ 0)
    (hx : x = if (xCopiesOf s ident).any (fun x => !x.granted) then
      dropUngranted ident (expressRefuse c.stream 2 XPR_SDU_REFUSE_CNT s) else s) :
    expressOversize ident s = blockStream c.stream
      (if !(xCopiesOf s ident).any (fun x => x.granted) then x else setCopies (x.xpr.copies.map (fun x =>
        if x.ident == ident then { x with out := x.out.take sdu, ended := true, bad := true } else x)) (x.bump XPR_OVERSIZE_STOMP_CNT)) := by
  simp only [expressOversize, hc, ← hsdu, h0, ← hx, if_false]

/-- A copy whose deadline has passed before it started on its line (R281): refused where it is not granted, else returned with code
0x01, or counted while island C is out. -/
theorem expressDeadline_passed {ident e d : Nat} {c : XCopy} {x : State}
    (hc : s.xpr.copies.find? (fun c => c.ident == ident && c.egress == e) = some c) (hd : c.deadline = some d) (ht : d ≤ s.nowNs)
    (hfree : (portOf s e).sending = none) (hx : x = dropXCopy ident e s) : expressDeadline ident e s =
      if c.granted = false then refuseVoq c.ingress x
      else if x.power.coreUp then
        raise srcXpLate e 0 ((returnWork ⟨false, 0x01, e, 0xFF, x.now, 0, c.out⟩ x).bump XPR_LATE_CNT)
      else x.bump XPR_LATE_DROP_CNT := by
  simp only [expressDeadline, hc, hd, hfree, ← hx, Nat.not_lt.mpr ht, decide_false, Bool.or_self, Bool.not_eq_true', Bool.false_eq_true,
    if_false]

end Express

/-! ### Frames on the line -/

section Lines

variable {s : State} {p : Nat}

/-- A free line of a port that may transmit: an express frame goes first (R265). -/
theorem frameStart_express {c : XCopy} (hm : mayTransmit s p = true) (hfree : (portOf s p).sending = none)
    (hc : selectExpress s p = some c) (hsec : secBlocked s p c.out = false) : frameStart p s = startExpress p c s := by
  simp only [frameStart, hm, hfree, hc, hsec, Option.isSome_none, Bool.not_true, Bool.or_self, Bool.false_eq_true, if_false]

/-- Without an express frame a preempted bulk frame that may resume does so (R287). -/
theorem frameStart_resumes {y : Sending} (hm : mayTransmit s p = true) (hfree : (portOf s p).sending = none)
    (hc : selectExpress s p = none) (hb : bulkReady s = true) (hy : (portOf s p).preempted = some y) (hres : resumes s p y = true) :
    frameStart p s = onPort p (fun z => { z with sending := some { y with since := s.clock }, preempted := none }) s := by
  simp only [frameStart, hm, hfree, hc, hb, hy, hres, Option.isSome_none, Bool.not_true, Bool.or_self, Bool.false_eq_true, if_false, if_true]

/-- Else the bulk selection starts (R266). -/
theorem frameStart_bulk {t : Nat} {c : Copy} (hm : mayTransmit s p = true) (hfree : (portOf s p).sending = none)
    (hx : selectExpress s p = none) (hb : bulkReady s = true) (hpre : (portOf s p).preempted = none)
    (hc : (selectBulk s p).1 = some (t, c)) (hsec : secBlocked s p c.out = false) :
    frameStart p s = startBulk p t c (setPort p (selectBulk s p).2 s) := by
  simp only [frameStart, hm, hfree, hx, hb, hpre, hc, hsec, Option.isSome_none, Bool.not_true, Bool.or_self, Bool.false_eq_true, if_false]

theorem frameEnd_sending {y : Sending} (hy : (portOf s p).sending = some y) :
    frameEnd p s = if y.express then endExpress p y s else endBulk p y s := by
  simp only [frameEnd, hy]

theorem mayCut_of_le {y : Sending} (hmin : fragmentLen s p ≤ fragmentSent s p y)
    (hrest : y.sent + fragmentSent s p y + 64 ≤ wireLen s p y.copy.out) : mayCut s p y = true := by
  simp only [mayCut, hmin, hrest, decide_true, Bool.and_self]

/-- The line with its bulk frame cut off at a fragment (R54). -/
def cutFragment (p : Nat) (y : Sending) (s : State) : State :=
  onPort p (fun z => { z with
    sending := none, preempted := some { y with preempted := true, sent := y.sent + fragmentSent s p y },
    line := some (((onLine s p y.sec y.copy.out).drop y.sent).take (fragmentSent s p y), false) }) s

/-- A bulk frame that may be cut is preempted for an express frame, for its closed gate, or while the MAC is held (R287, R288); its first
preemption counts. -/
theorem preempt_cuts {y : Sending} (hy : sendingQueue s p = some y) (hact : preemptActive s p = true) (hcut : mayCut s p y = true)
    (hwhy : (selectExpress s p).isSome = true ∨ portGateOpen s p y.queue = false ∨ (portOf s p).held = true) :
    preempt p s = if y.preempted then cutFragment p y s else countEvent 7 0x04 p 1 ((cutFragment p y s).bump SCH_PREEMPT p) := by
  have hwhy' : ((selectExpress s p).isSome || !portGateOpen s p y.queue || (portOf s p).held) = true := by
    rw [Bool.or_eq_true, Bool.or_eq_true, Bool.not_eq_true', or_assoc]
    exact hwhy
  simp only [preempt, cutFragment, hy, hact, hcut, hwhy', Bool.and_self, if_true]

end Lines

/-! ### Shapers, pauses and launch times -/

section Timing

variable {s : State} {p t : Nat}

theorem shaperTick_early (h : s.clock < s.egr.shapedAt + 16) : shaperTick s = s := by
  simp only [shaperTick, h, if_true]

/-- A tick that is due updates every shaper, policer and meter once (R267). -/
theorem shaperTick_due (h : s.egr.shapedAt + 16 ≤ s.clock) :
    shaperTick s = shaperTick.updateAll { s with egr := { s.egr with shapedAt := s.egr.shapedAt + 16 } } := by
  simp only [shaperTick, Nat.not_lt.mpr h, if_false]

/-- The pause times of a port's queues after a pause frame that names a time for some of them; a time of 0 ends a pause (R270). -/
def pausesSet (x : State) (p : Nat) (timeOf : Nat → Option Nat) (m : Store Nat) : Store Nat :=
  (List.range 8).foldl (fun m t =>
    match timeOf t with
    | none => m
    | some 0 => Store.erase m t
    | some n => Store.set m t (pauseEnd x p n)) m

/-- The time that a pause frame names for a queue: that of a PAUSE frame, or the longest of a PFC frame's priorities in its mask (R270). -/
def pauseTime (x : State) (p : Nat) (pfc : Bool) (times : List (Nat × Nat)) (t : Nat) : Option Nat :=
  if !pfc then (times.head?).map (fun e => e.2)
  else
    let mine := (times.filter (fun e => bitOf (x.get SCH_QCFG_PFC_MASK p t) e.1)).map (fun e => e.2)
    if mine.isEmpty then none else some (mine.foldl max 0)

/-- A pause frame is counted and sets the pauses that it names (R270). -/
theorem pauseReceived_eq (p : Nat) (pfc : Bool) (times : List (Nat × Nat)) (s : State) : pauseReceived p pfc times s =
    onPort p (fun z => { z with paused := pausesSet (s.bump SCH_PAUSE_RX p) p (pauseTime (s.bump SCH_PAUSE_RX p) p pfc times) z.paused })
      (s.bump SCH_PAUSE_RX p) := rfl

theorem pauseExpires_paused {e : Nat} (he : Store.get? (portOf s p).paused t = some e) :
    pauseExpires p t s = if s.clock < e then s else onPort p (fun z => { z with paused := Store.erase z.paused t }) s := by
  simp only [pauseExpires, he]

/-- A head frame whose launch time has come makes its queue eligible (R289). -/
theorem launchReached_due {c : Copy} {rest : List Copy} {l : Stamp} (hc : (queueOf s (8 * p + t)).head = c :: rest)
    (hl : c.launch = some l) (ht : stampNs l ≤ s.nowNs) (hn : (portOf s p).launched.contains t = false) :
    launchReached p t s = onPort p (fun z => { z with launched := z.launched ++ [t] }) s := by
  simp only [launchReached, hc, hl, ht, hn, decide_true, Bool.not_false, Bool.and_self, if_true]

end Timing

/-- Settles O45: each row runs its event, and each event has the effect of its lemma. -/
theorem expressAndEgressEventsComplete : Obligations.ExpressAndEgressEventsComplete := by
  unfold Obligations.ExpressAndEgressEventsComplete
  intro s x
  refine ⟨?decision, ?recovery, ?cell, ?oversize, ?deadline, ?start, ?end_, ?preemption, fun h => ?_, ?shapers, ?pause, ?pauseEnds, ?launch⟩
  case decision =>
    intro p bytes ended good dissent hp hr hx
    refine ⟨fun hv => ?_, fun key pn plain icvOk hv hhit hd => ⟨fun he => ?_, fun he hn => ?_⟩⟩
    · rw [exec_within hp rfl, expressDecision_clear hr hx hv]
    · rw [exec_within hp rfl, expressDecision_valid hr hx hv hhit hd, if_pos he]
    · rw [exec_within hp rfl, expressDecision_valid hr hx hv hhit hd, if_neg (by simp [he]), if_neg hn]
  case recovery =>
    intro r e y hr he hy ht
    rw [exec_within hr rfl, recoveryReset_due he hy ht]
  case cell =>
    intro m1 m2 m3 h1 h2 h3 hx
    rw [← cellTime_eq h1 h2 h3 hx]
    rfl
  case oversize =>
    intro ident sdu c hc hsdu h0 hx
    rw [← expressOversize_found hc hsdu h0 hx]
    rfl
  case deadline =>
    intro ident e d c he hc hd ht hfree hx
    have hpassed := expressDeadline_passed hc hd ht hfree hx
    refine ⟨fun hg => ?_, fun hg hup => ?_, fun hg hdown => ?_⟩
    · rw [exec_within he rfl, hpassed, if_pos hg]
    · rw [exec_within he rfl, hpassed, if_neg (by simp [hg]), if_pos hup]
    · rw [exec_within he rfl, hpassed, if_neg (by simp [hg]), if_neg (by simp [hdown])]
  case start =>
    intro p hp hm hfree
    refine ⟨fun c hc hsec => ?_, fun y hx hb hy hres => ?_, fun t c hx hb hpre hc hsec => ?_⟩
    · rw [exec_within hp rfl, frameStart_express hm hfree hc hsec]
      rfl
    · rw [exec_within hp rfl, frameStart_resumes hm hfree hx hb hy hres]
    · rw [exec_within hp rfl, frameStart_bulk hm hfree hx hb hpre hc hsec]
  case end_ =>
    intro p y hp hy
    rw [exec_within hp rfl, frameEnd_sending hy]
  case preemption =>
    rintro p y hp hy hact hmin hrest hwhy rfl
    rw [exec_within hp rfl, preempt_cuts hy hact (mayCut_of_le hmin hrest) hwhy]
    rfl
  · rw [← congrArg settle (shaperTick_early h)]
    rfl
  case shapers =>
    rintro h rfl
    change exec _ _ = .next (settle (shaperTick.updateAll _))
    rw [← shaperTick_due h]
    rfl
  case pause =>
    rintro p pfc times mine timeOf hp rfl rfl rfl
    rw [exec_within hp rfl, pauseReceived_eq]
    rfl
  case pauseEnds =>
    intro p t e hp ht he
    rw [exec_within_queue hp ht rfl, pauseExpires_paused he]
  case launch =>
    intro p t c rest l hp ht hc hl hdue hn
    rw [exec_within_queue hp ht rfl, launchReached_due hc hl hdue hn]

end Sys2Proof.Machine

/-! The full wake FIFO (R44): what the status of the buffer leaves of its queues, and a parked queue whose tail goes on when a refused
frame's cells are freed. -/

namespace Sys2Proof.Machine

/-! ### Fault occurrences leave the buffer -/

@[simp] theorem postEvent_buf (typ source : Nat) (data : List Byte) (s : State) : (postEvent typ source data s).buf = s.buf := by
  obtain ⟨m, f, d, h, -⟩ := postEvent_eq typ source data s
  rw [h]

@[simp] theorem bbEntry_buf (kind source flags cls u detail v : Nat) (s : State) : (bbEntry kind source flags cls u detail v s).buf = s.buf := by
  obtain ⟨m, f, h, -⟩ := bbEntry_eq kind source flags cls u detail v s
  rw [h]

theorem setPins_buf (s : State) : (setPins s).buf = s.buf := rfl

theorem State.with_faults_buf (s : State) (x : FaultSide) : ({ s with faults := x } : State).buf = s.buf := rfl

@[simp] theorem occur_buf (src detail value : Nat) (s : State) : (occur src detail value s).buf = s.buf := by
  unfold occur
  split
  extract_lets sev counted was shown faults pulsed noted
  have hcounted : counted.buf = s.buf := (State.put_buf ..).trans (State.inc_buf ..)
  have hshown : shown.buf = s.buf := (State.put_buf ..).trans hcounted
  clear_value shown counted
  have hnoted : noted.buf = s.buf := (bbEntry_buf ..).trans ((setPins_buf pulsed).trans ((State.with_faults_buf shown _).trans hshown))
  clear_value noted
  split
  · exact hcounted
  · split
    · exact hnoted
    · exact (postEvent_buf ..).trans hnoted

@[simp] theorem raise_buf (src detail value : Nat) (s : State) : (raise src detail value s).buf = s.buf := by
  unfold raise
  extract_lets was sev occurred faults
  have hoccurred : occurred.buf = s.buf := occur_buf ..
  clear_value occurred
  split
  · exact hoccurred
  · split
    · exact (State.with_faults_buf ..).trans hoccurred
    · exact hoccurred

@[simp] theorem report_buf (src : Nat) (s : State) : (report src s).buf = s.buf := by
  rw [report, raiseAt, raise_buf, State.drew_buf, State.drew_buf]

/-! ### The status of the buffer leaves the queues -/

@[simp] theorem pfcCheck_queues (again : Bool) (p i : Nat) (s : State) : (pfcCheck again p i s).buf.queues = s.buf.queues := by
  unfold pfcCheck
  extract_lets held account
  split
  · split <;> rfl
  · split
    · rfl
    · split <;> rfl

@[simp] theorem pfcAll_queues (again : Bool) (s : State) : (pfcAll again s).buf.queues = s.buf.queues := by
  unfold pfcAll
  extract_lets keys
  exact List.foldlRecOn keys.eraseDups _ (motive := fun (t : State) => t.buf.queues = s.buf.queues) rfl
    fun t ht k _ => (pfcCheck_queues again (k / 8) (k % 8) t).trans ht

theorem withFullRaised_queues (s : State) (full : Bool) :
    ({ s with buf := { s.buf with fullRaised := full } } : State).buf.queues = s.buf.queues := rfl

/-- Once the tails of parked queues have gone on, what follows of a change of the buffer leaves the queues. -/
theorem settleBuffer_queues (s : State) : (settleBuffer s).buf.queues = (settleSegments s).buf.queues := by
  unfold settleBuffer
  extract_lets tails was avail flagged used spilling full reported raised
  have hspilling : spilling.buf = tails.buf := by
    calc spilling.buf = used.buf := State.put_buf ..
      _ = flagged.buf := (State.put_buf ..).trans ((State.put_buf ..).trans (State.put_buf ..))
      _ = tails.buf := State.flag_buf ..
  clear_value spilling
  have hreported : reported.buf = tails.buf := by
    unfold reported
    split
    · exact (report_buf ..).trans hspilling
    · exact hspilling
  clear_value reported
  exact (pfcAll_queues ..).trans ((withFullRaised_queues reported full).trans (congrArg BufferSide.queues hreported))

/-! ### A parked tail that goes on -/

theorem queueOf_setQueue (q : Nat) (x : Queue) (s : State) : queueOf (setQueue q x s) q = x := Store.getD_put_same ..

/-- A marked frame does not go to the park area: its copy keeps its place on die (R248, R255). -/
theorem parkOne_marked {q : Nat} {c : Copy} {y : Frame} {s : State} (hy : frameOf s c.frame = some y) (hb : y.bad = true) :
    parkOne q c s = setQueue q { queueOf s q with segs := dieTail { c with res := false } (queueOf s q).segs } s := by
  have hp : parks s { c with res := false } = false := by simp [parks, hy, hb]
  simp [parkOne, hp]

/-- A parked tail of one copy whose frame has ended marked goes on: the copy leaves the tail (R59, R255). -/
theorem parkTail_marked {q : Nat} {c : Copy} {y : Frame} {s : State} (hy : frameOf s c.frame = some y) (he : y.ended = true)
    (hb : y.bad = true) : (queueOf (parkTail q [c] s) q).asm = [] := by
  have hy' : frameOf (setQueue q { queueOf s q with asm := [] } s) c.frame = some y := hy
  simp only [parkTail, hy, he, if_true, parkOne_marked hy' hb, queueOf_setQueue]

/-- In a buffer of one queue, which is parked, the status of the segments lets such a tail go on. -/
theorem settleSegments_marked {q : Nat} {x : Queue} {c : Copy} {y : Frame} {s : State} (hq : s.buf.queues = [(q, x)])
    (hp : x.parked = true) (ha : x.asm = [c]) (hy : frameOf s c.frame = some y) (he : y.ended = true) (hb : y.bad = true) :
    (queueOf (settleSegments s) q).asm = [] := by
  unfold settleSegments
  simp only [hq, List.filter_singleton, hp, ha, List.isEmpty_cons, Bool.not_false, Bool.and_self, cond_true, List.foldl_cons, List.foldl_nil]
  exact parkTail_marked hy he hb

/-- A frame of port 3 that has ended and whose header descriptor has not left. -/
def endedFrame : Frame := { freshFrame 3 0 false (zeros 60) ⟨0, 0⟩ none with ended := true }

/-- A linked frame of port 3 that was found bad at its end (R248). -/
def markedFrame : Frame := { endedFrame with bad := true, refs := 1, dispatched := true }

/-- A copy of frame 9. -/
def tailCopy : Copy := ⟨9, zeros 60, 1, none, 0, false, false, true, 0, 0xFFFF⟩

/-- Queue 40 as it is parked, with the copy in the tail that waits on die for its frame's end. -/
def tailQueue : Queue := { noQueue with parked := true, asm := [tailCopy] }

/-- Quarter 0 has a full wake FIFO, frame 4 waits to be dispatched to it, and frame 9 has ended marked while the tail of parked queue 40,
which holds its copy, has not gone on. -/
def fullBesideTail : State :=
  onQuarter 0 (fun z => { z with wake := List.replicate 8192 0 }) { State.reset with buf := { State.reset.buf with
    frames := [(4, endedFrame), (9, markedFrame)], queues := [(40, tailQueue)] } }

theorem fullBesideTail_wake : 8192 ≤ (quarterOf fullBesideTail (servingQuarter fullBesideTail endedFrame.port)).wake.length := by
  have hq : servingQuarter fullBesideTail endedFrame.port = 0 := rfl
  rw [hq, fullBesideTail, onQuarter, quarterOf, Store.getD_put_same, List.length_replicate]

/-- The cells of frame 4 freed, the tail of queue 40 goes on. -/
theorem freeFrame_tail {u : State} (hu : u.buf = fullBesideTail.buf) : (queueOf (freeFrame 4 u) 40).asm = [] := by
  rw [queueOf, freeFrame, settleBuffer_queues]
  refine settleSegments_marked (x := tailQueue) (c := tailCopy) (y := markedFrame) ?_ rfl rfl ?_ rfl rfl
  · exact congrArg BufferSide.queues hu
  · rw [frameOf, hu]
    rfl

/-- Refutes O58: the statement takes any state, and freeing the refused frame's cells settles the buffer, where the tails of parked queues
go on (R255). In `fullBesideTail` a copy still waits in such a tail though its frame has ended: nothing new is linked, yet the copy leaves
the tail, so the queues are not as before. -/
theorem not_fullWakeFifoRefuses : ¬ Obligations.FullWakeFifoRefuses := by
  unfold Obligations.FullWakeFifoRefuses
  intro h
  obtain ⟨u, t, -, rfl, -, hu, -, -, -, hqueues⟩ := h fullBesideTail 4 endedFrame rfl rfl (by decide) rfl fullBesideTail_wake
  have hsame : queueOf (freeFrame 4 u) 40 = tailQueue := by rw [queueOf, hqueues]; rfl
  have htail := freeFrame_tail hu
  rw [hsame] at htail
  exact List.cons_ne_nil _ _ htail

end Sys2Proof.Machine

/-! The events of gate lists, quiet periods and links (R55 to R61, R277, R283 to R291). -/

namespace Sys2Proof.Machine

/-! ### Gate lists and quiet periods -/

section GateLists

variable {s : State} {p : Nat}

/-- The entry in force of an enabled operational list, and the cycles it has begun (R283). -/
theorem gatePosition_enabled {g : GateList} (hg : Store.get? s.egr.gcl p = some g) (hen : g.enable = true) :
    gatePosition p s = (s.put SCH_GCL_POS_ENTRY (entryAt g.entries 0 0 (cycleOffset g s.nowNs) g.cycle).1 p).put SCH_GCL_POS_CYCLES
      ((s.nowNs - g.start) / max 1 g.cycle + 1) p := by
  simp only [gatePosition, hg, hen, Bool.not_true, Bool.false_eq_true, if_false]

theorem macHold_ahead {e : Nat} (he : entryAhead s p (s.get SCH_PREEMPT_ADV_HOLD_ADVANCE p) = some e) (hop : gateOp e = 1) :
    macHold p s = onPort p (fun z => { z with held := true }) s := by
  simp only [macHold, he, hop, if_true]

theorem macRelease_ahead {e : Nat} (he : entryAhead s p (s.get SCH_PREEMPT_ADV_RELEASE_ADVANCE p) = some e) (hop : gateOp e = 2) :
    macRelease p s = onPort p (fun z => { z with held := false }) s := by
  simp only [macRelease, he, hop, if_true]

/-- SCH_GCL_STAT and SCH_GCL_OPER show a list that has become operational (R284). -/
def showList (p : Nat) (g : GateList) (s : State) : State :=
  g.entries.zipIdx.foldl (fun s e => s.setReg SCH_GCL_OPER (BitVec.ofNat 64 e.1) p e.2)
    ((((s.flag SCH_GCL_STAT_OPER_EN g.enable p).put SCH_GCL_STAT_PENDING 0 p).put SCH_GCL_STAT_OPER_LEN g.entries.length p).put
      SCH_GCL_STAT_OPER_CYCLE_NS g.cycle p)

/-- SCH_GCL_POS follows a list that starts enabled; a list that ends the gating clears it and releases the MAC (R284, R288). -/
def positionList (p : Nat) (g : GateList) (s : State) : State :=
  if g.enable then gatePosition p s else onPort p (fun y => { y with held := false }) (s.setReg SCH_GCL_POS 0 p)

/-- A pending list whose start has come is the operational one, its registers follow, and its event is posted (R284). -/
theorem gateListStarts_due {g : GateList} (hg : Store.get? s.egr.gclPend p = some g) (ht : g.start ≤ s.nowNs) :
    gateListStarts p s = postEventAt 0x0032 p (nsStamp g.start) [BitVec.ofNat 8 (ofBool g.past)] (positionList p g (showList p g
      { s with egr := { s.egr with gcl := Store.set s.egr.gcl p g, gclPend := Store.erase s.egr.gclPend p } })) := by
  simp only [gateListStarts, positionList, showList, hg, Nat.not_lt.mpr ht, if_false]

theorem streamListStarts_due {i : Nat} {y : StreamGate} {g : GateList} (hy : Store.get? s.xpr.gates i = some y) (hg : y.pend = some g)
    (ht : g.start ≤ s.nowNs) : streamListStarts i s = postEventAt 0x0032 (0x100 + i) (nsStamp g.start) [BitVec.ofNat 8 (ofBool g.past)]
      { s with xpr := { s.xpr with gates := Store.set s.xpr.gates i { y with pend := none, oper := some g } } } := by
  simp only [streamListStarts, hy, hg, Nat.not_lt.mpr ht, if_false]

/-- At a closed stretch the port is quiet, and its quarter's rest is asked for where the planner finds every port of it quiet (R290). -/
theorem quietStart_closed {x : State} (hen : s.on SCH_WAKE_CFG_WAKE_EN p = true)
    (hlist : (listAt (gateLists s p).1 (gateLists s p).2 s.nowNs).isSome = true)
    (hclosed : closedFor s p (clamp 4000 1000000000 (s.get SCH_WAKE_CFG_MIN_GAP_NS p)) = true)
    (hx : x = onPort p (fun z => { z with quiet := true }) s) :
    quietStart p s = if plannerRests x (x.get PRT_STATUS_QUARTER p) then restRequest (x.get PRT_STATUS_QUARTER p) x else x := by
  have hnone : (listAt (gateLists s p).1 (gateLists s p).2 s.nowNs).isNone = false := Option.isNone_eq_false_iff.mpr hlist
  simp only [quietStart, hen, hnone, hclosed, ← hx, Bool.not_true, Bool.or_self, Bool.false_eq_true, if_false]

theorem endQuiet_quiet (hq : (portOf s p).quiet = true) :
    endQuiet p s = wakeUnit (s.get PRT_STATUS_QUARTER p) (onPort p (fun z => { z with quiet := false }) s) := by
  simp only [endQuiet, hq, Bool.not_true, Bool.false_eq_true, if_false]

end GateLists

/-! ### Links -/

section Links

variable {s : State} {p cause lasted : Nat}

theorem debounced_of_le (h : min 1000 (s.get PRT_LINK_DEBOUNCE_DEBOUNCE p) ≤ lasted) : debounced s p lasted = true := decide_eq_true h

theorem debounced_of_lt (h : lasted < min 1000 (s.get PRT_LINK_DEBOUNCE_DEBOUNCE p)) : debounced s p lasted = false :=
  decide_eq_false (Nat.not_le.mpr h)

/-- The undebounced bits of a port's status show the faults of a cause (R56, Table 3.8). -/
def showFaults (p cause : Nat) (s : State) : State :=
  let y := if bitOf cause 0 then s.put PRT_STATUS_PCS_LOCK 0 p else s
  let z := if bitOf cause 1 then y.put PRT_STATUS_FEC_ALIGN 0 p else y
  (z.flag PRT_STATUS_LOCAL_FAULT (bitOf cause 2) p).flag PRT_STATUS_REMOTE_FAULT (bitOf cause 3) p

/-- The undebounced bits of a port's status show lock, alignment and no fault (R58, Table 3.8). -/
def showGood (p : Nat) (s : State) : State :=
  (((s.put PRT_STATUS_PCS_LOCK 1 p).put PRT_STATUS_FEC_ALIGN 1 p).put PRT_STATUS_LOCAL_FAULT 0 p).put PRT_STATUS_REMOTE_FAULT 0 p

/-- A link that is down: LINK_UP is clear and verification is as it was before the link came up (R55, R56). -/
def dropLink (p : Nat) (s : State) : State :=
  preemptStat p (onPort p (fun v => { v with verify := 0, tries := 0 }) (s.put PRT_STATUS_LINK_UP 0 p))

/-- A port out of hold: no hold time runs, and no queue is to be parked or is held on die (R58). -/
def endHold (p : Nat) (s : State) : State :=
  holdStat p (onPort p (fun z => { z with holdTimer := false, toPark := [], heldOnDie := [] }) s)

/-- A fault on an enabled port shows in its status; link down follows where the link was up and the fault has lasted DEBOUNCE (R56). -/
theorem linkDown_enabled (hen : (portOf s p).enabled = true) (hc : cause % 16 ≠ 0) : linkDown p cause lasted s =
    if !(showFaults p cause s).on PRT_STATUS_LINK_UP p || !debounced (showFaults p cause s) p lasted then showFaults p cause s
    else if quieted (dropLink p (showFaults p cause s)) p then postEvent 0x0010 p [0] (dropLink p (showFaults p cause s))
    else startHold p (dropLink p (showFaults p cause s)) := by
  rw [linkDown, if_neg (by simp [hen, hc])]
  rfl

theorem linkDown_undeclared {v : State} (hen : (portOf s p).enabled = true) (hc : cause % 16 ≠ 0) (hv : v = showFaults p cause s)
    (h : v.on PRT_STATUS_LINK_UP p = false ∨ lasted < min 1000 (v.get PRT_LINK_DEBOUNCE_DEBOUNCE p)) : linkDown p cause lasted s = v := by
  have hstop : (!v.on PRT_STATUS_LINK_UP p || !debounced v p lasted) = true := by
    rcases h with hdown | hshort
    · simp [hdown]
    · simp [debounced_of_lt hshort]
  rw [linkDown_enabled hen hc, ← hv, if_pos hstop]

theorem linkDown_declared {v : State} (hen : (portOf s p).enabled = true) (hc : cause % 16 ≠ 0) (hv : v = showFaults p cause s)
    (hup : v.on PRT_STATUS_LINK_UP p = true) (hlong : min 1000 (v.get PRT_LINK_DEBOUNCE_DEBOUNCE p) ≤ lasted) : linkDown p cause lasted s =
      if quieted (dropLink p v) p then postEvent 0x0010 p [0] (dropLink p v) else startHold p (dropLink p v) := by
  rw [linkDown_enabled hen hc, ← hv, if_neg (by simp [hup, debounced_of_le hlong])]

/-- A link that is good on an enabled port shows in its status; link up follows where the link was down and has been good for DEBOUNCE
(R58). -/
theorem linkUp_enabled (hen : (portOf s p).enabled = true) : linkUp p lasted s =
    if (showGood p s).on PRT_STATUS_LINK_UP p || !debounced (showGood p s) p lasted then showGood p s
    else postEvent 0x0010 p [1] (if quieted (startVerify p ((showGood p s).put PRT_STATUS_LINK_UP 1 p)) p
      then startVerify p ((showGood p s).put PRT_STATUS_LINK_UP 1 p)
      else endHold p (startVerify p ((showGood p s).put PRT_STATUS_LINK_UP 1 p))) := by
  rw [linkUp, if_neg (by simp [hen])]
  rfl

theorem linkUp_undeclared {x : State} (hen : (portOf s p).enabled = true) (hx : x = showGood p s)
    (h : x.on PRT_STATUS_LINK_UP p = true ∨ lasted < min 1000 (x.get PRT_LINK_DEBOUNCE_DEBOUNCE p)) : linkUp p lasted s = x := by
  have hstop : (x.on PRT_STATUS_LINK_UP p || !debounced x p lasted) = true := by
    rcases h with hup | hshort
    · simp [hup]
    · simp [debounced_of_lt hshort]
  rw [linkUp_enabled hen, ← hx, if_pos hstop]

theorem linkUp_declared {x y : State} (hen : (portOf s p).enabled = true) (hx : x = showGood p s) (hdown : x.on PRT_STATUS_LINK_UP p = false)
    (hlong : min 1000 (x.get PRT_LINK_DEBOUNCE_DEBOUNCE p) ≤ lasted) (hy : y = startVerify p (x.put PRT_STATUS_LINK_UP 1 p)) :
    linkUp p lasted s = postEvent 0x0010 p [1] (if quieted y p then y else endHold p y) := by
  rw [linkUp_enabled hen, ← hx, if_neg (by simp [hdown, debounced_of_le hlong]), ← hy]

/-! ### The hold time and verification -/

/-- The hold time has passed: the port's queues are to be parked and its express frames return with code 0x01 (R59, R61). -/
theorem holdExpires_due (hrun : (portOf s p).holdTimer = true) (ht : (portOf s p).holdSince + holdTime s p ≤ s.clock) :
    holdExpires p s =
      holdStat p (returnExpress 0x01 p (onPort p (fun z => { z with holdTimer := false, toPark := List.range 8 }) s)) := by
  simp only [holdExpires, hrun, Nat.not_lt.mpr ht, Bool.not_true, decide_false, Bool.or_self, Bool.false_eq_true, if_false]

theorem holdExpires_early (ht : s.clock < (portOf s p).holdSince + holdTime s p) : holdExpires p s = s := by
  simp only [holdExpires, ht, decide_true, Bool.or_true, if_true]

theorem verifyExpires_early (ht : s.clock < (portOf s p).verifySince + max 1 (s.get PRT_PREEMPT_VERIFY_TIME p) * 1000000) :
    verifyExpires p s = s := by
  simp only [verifyExpires, ht, decide_true, Bool.or_true, if_true]

/-- The verify time has passed without a response: verification is tried again, or has failed after the third try (R55). -/
theorem verifyExpires_due (hv : (portOf s p).verify = 1)
    (ht : (portOf s p).verifySince + max 1 (s.get PRT_PREEMPT_VERIFY_TIME p) * 1000000 ≤ s.clock) : verifyExpires p s =
      if 3 ≤ (portOf s p).tries then preemptStat p (onPort p (fun z => { z with verify := 3 }) s)
      else onPort p (fun z => { z with tries := z.tries + 1, verifySince := s.clock }) s := by
  simp only [verifyExpires, hv, Nat.not_lt.mpr ht, bne_self_eq_false, decide_false, Bool.or_self, Bool.false_eq_true, if_false]

/-- A respond to a verify that waits makes verification succeed (R55). -/
theorem verifyReceived_respond (hv : (portOf s p).verify = 1) :
    verifyReceived p true s = preemptStat p (onPort p (fun z => { z with verify := 2 }) s) := by
  simp only [verifyReceived, hv, decide_true, Bool.and_self, if_true]

end Links

/-- Settles O46: each row runs its event, and each event has the effect of its lemma. -/
theorem gateAndLinkEventsComplete : Obligations.GateAndLinkEventsComplete := by
  unfold Obligations.GateAndLinkEventsComplete
  intro s x p hp
  refine ⟨?position, ?hold, ?release, ?gateList, ?streamList, ?quietStarts, fun hq => ?quietEnds, ?down, ?up, ?verifyBegins,
    ?holdEnds, fun ht => ?holdRuns, ?verification⟩
  case position =>
    rintro g e hg hen rfl
    rw [exec_within hp rfl, gatePosition_enabled hg hen]
  case hold =>
    intro e he hop
    rw [exec_within hp rfl, macHold_ahead he hop]
  case release =>
    intro e he hop
    rw [exec_within hp rfl, macRelease_ahead he hop]
  case gateList =>
    rintro g y z w hg ht rfl rfl rfl rfl
    rw [exec_within hp rfl, gateListStarts_due hg ht]
    rfl
  case streamList =>
    rintro i y g hi hy hg ht rfl
    rw [exec_within hi rfl, streamListStarts_due hy hg ht]
  case quietStarts =>
    intro hen hlist hclosed hx
    rw [exec_within hp rfl, quietStart_closed hen hlist hclosed hx]
  case quietEnds => rw [exec_within hp rfl, endQuiet_quiet hq]
  case down =>
    intro cause lasted y z v w hen hc hy hz hv
    have hseen : v = showFaults p cause s := by rw [hv, hz, hy, showFaults]
    refine ⟨fun h => ?undeclared, fun hup hlong hw => ?declared⟩
    case undeclared => rw [exec_within hp rfl, linkDown_undeclared hen hc hseen h]
    case declared =>
      have hdrop : w = dropLink p v := hw
      have hdown := linkDown_declared hen hc hseen hup hlong
      rw [← hdrop] at hdown
      refine ⟨fun hq => ?_, fun hq hx => ?_⟩
      · rw [exec_within hp rfl, hdown, if_pos hq]
      · rw [exec_within hp rfl, hdown, if_neg (by simp [hq]), startHold, ← hx, holdTime]
  case up =>
    intro lasted y hen hx
    refine ⟨fun h => ?_, fun hdown hlong hy => ?_⟩
    · rw [exec_within hp rfl, linkUp_undeclared hen hx h]
    · rw [exec_within hp rfl, linkUp_declared hen hx hdown hlong hy, endHold]
  case verifyBegins =>
    rintro go rfl
    rfl
  case holdEnds =>
    rintro hrun ht rfl
    rw [exec_within hp rfl, holdExpires_due hrun ht]
  case holdRuns => rw [exec_within hp rfl, holdExpires_early ht]
  case verification =>
    intro hv
    refine ⟨fun ht => ?_, fun hn ht => ?_, fun hn ht => ?_, ?_, ?_⟩
    · rw [exec_within hp rfl, verifyExpires_early ht]
    · rw [exec_within hp rfl, verifyExpires_due hv ht, if_neg (Nat.not_le.mpr hn)]
    · rw [exec_within hp rfl, verifyExpires_due hv ht, if_pos hn]
    · rw [exec_within hp rfl, verifyReceived_respond hv]
    · exact exec_within hp rfl

end Sys2Proof.Machine

/-! The commands of classification (R67, R82 to R119): the answer of each where its operands are good. -/

namespace Sys2Proof.Machine

/-! ### Images -/

section Images

variable {s : State} {obj : Nat} {x : StagedObj}

/-- An image of the right kind and of no lower version than its minimum, whose signature passes (R380). -/
theorem withImage_good {kind : Nat} {body : List Byte → State → Answer} (hx : stagedOf s obj = some x) (hk : leField x.bytes 0 2 = kind)
    (hv : s.get ASC_MIN_VER_MIN_VER kind ≤ leField x.bytes 2 2) : withImage obj kind true body s = body x.bytes s := by
  simp [withImage, withObject_some hx, hk, hv]

@[simp] theorem length_numbersOf (bs : List Byte) (i k n : Nat) : (numbersOf bs i k n).length = n := by simp [numbersOf]

/-- The bank of parse graphs that is not in use takes a graph, and every quarter has it pending (R67). -/
def loadGraph (g : Graph) (s : State) : State :=
  (List.range 5).foldl (fun s q => s.put QTR_EPOCH_GRAPH_PENDING 1 q)
    { s with cls := if s.on QTR_EPOCH_GRAPH_BANK (referenceQuarter s) then { s.cls with graphA := some g } else { s.cls with graphB := some g } }

theorem parserLoad_good {states rows : Nat} (hx : stagedOf s obj = some x) (hk : leField x.bytes 0 2 = 3)
    (hv : s.get ASC_MIN_VER_MIN_VER 3 ≤ leField x.bytes 2 2) (hs : states ≤ 64) (hr : rows ≤ 1024)
    (hlen : (imageBody x.bytes).length = 16 * states + 12 * rows) :
    parserLoad obj states rows true s = okTable (loadGraph
      ⟨numbersOf (imageBody x.bytes) 0 16 states, numbersOf (imageBody x.bytes) (16 * states) 12 rows, leField x.bytes 2 2⟩ s) := by
  rw [parserLoad, withImage_good hx hk hv]
  simp only [hlen, Nat.not_lt.mpr hs, Nat.not_lt.mpr hr, decide_false, bne_self_eq_false, Bool.or_self, Bool.false_eq_true, if_false]
  rfl

/-- PAT_LOAD puts a well-formed image that fits under the lowest free number (R119). -/
theorem patLoad_good {n : Nat} {starts : List Nat} {g : Image} (hx : stagedOf s obj = some x) (hk : leField x.bytes 0 2 = 4)
    (hv : s.get ASC_MIN_VER_MIN_VER 4 ≤ leField x.bytes 2 2) (hlen : (imageBody x.bytes).length % 8 = 0)
    (hg : g = ⟨numbersOf (imageBody x.bytes) 0 8 ((imageBody x.bytes).length / 8), starts⟩) (hgood : imageGood g = true)
    (hfit : g.words.length ≤ s.num QTR_PAT_FREE_WORDS (referenceQuarter s))
    (hn : leastBelow (fun n => (Store.get? s.cls.images n).isNone) 64 = some n) :
    patLoad obj starts true s = okTableWith n
      (freeWords (-(g.words.length : Int)) { s with cls := { s.cls with images := Store.set s.cls.images n g } }) := by
  subst hg
  have hroom : (numbersOf (imageBody x.bytes) 0 8 ((imageBody x.bytes).length / 8)).length ≤
    s.num QTR_PAT_FREE_WORDS (referenceQuarter s) := hfit
  rw [patLoad, withImage_good hx hk hv]
  simp only [hlen, hgood, hn, Nat.not_lt.mpr hroom, bne_self_eq_false, Bool.not_true, Bool.or_self, Bool.false_eq_true, if_false]
  rfl

theorem patFree_unnamed {n : Nat} {g : Image} (hg : Store.get? s.cls.images n = some g) (hn : imageNamed s n = false) :
    patFree n s = .wait 0 0 n s := by
  simp [patFree, hg, hn]

end Images

/-! ### TCAM entries -/

section Entries

variable {s : State} {c : Cmd} {obj h : Nat} {x : StagedObj}

theorem bulkTarget_open {express : Bool} {a : Answer} (hb : express = true ∨ stageReached s 3 = true) : bulkTarget express s a = a := by
  rcases hb with hb | hb <;> simp [bulkTarget, hb]

theorem bulkTarget_early {a : Answer} (hb : stageReached s 3 = false) : bulkTarget false s a = .done (resFail 3) s := by
  simp [bulkTarget, hb, failed]

/-- TCAM_INSERT into a group of the quarters that has a place for a valid entry of its width (R100). -/
theorem tcamInsert_quarters {target : Nat} {plan : List (Nat × Nat) × Nat} (hx : stagedOf s obj = some x) (ht : target < 8)
    (hb : stageReached s 3 = true) (hfit : bufferFits (groupWidth s (referenceQuarter s) target) x.bytes = true)
    (hv : bitOf (leField x.bytes 0 8) 0 = true) (hh : freeHandle (quarterOf s (referenceQuarter s)).tcam 0 0x6000 = some h)
    (hp : planInsert (Store.getD (quarterOf s (referenceQuarter s)).tcam target []) (groupSize s (referenceQuarter s) target)
      (bitsOf (leField x.bytes 0 8) 16 5) = some plan) :
    tcamInsert c obj target s = stepsFor false (fun _ => planSteps target c.ring c.cseq plan
      (entryOfBytes (widthUnits (groupWidth s (referenceQuarter s) target)) h x.bytes)) h s := by
  rw [tcamInsert, bulkTarget_open (.inr hb), withObject_some hx]
  simp only [Nat.not_le.mpr ht, hfit, hv, hh, hp, decide_false, Bool.false_and, Bool.not_true, Bool.or_self, Bool.false_eq_true, if_false]

/-- TCAM_INSERT into a group of the express path that has a place for a valid entry of its width (R113). -/
theorem tcamInsert_express {g : Nat} {plan : List (Nat × Nat) × Nat} (hx : stagedOf s obj = some x) (hg : g < chainGroups (xprChain s))
    (hfit : bufferFits (chainWidth (xprChain s)) x.bytes = true) (hv : bitOf (leField x.bytes 0 8) 0 = true)
    (hh : freeHandle s.xpr.tcam 0x7000 0x7800 = some h)
    (hp : planInsert (Store.getD s.xpr.tcam g []) 512 (bitsOf (leField x.bytes 0 8) 16 5) = some plan) :
    tcamInsert c obj (8 + g) s = stepsFor true (fun _ => planSteps g c.ring c.cseq plan
      (entryOfBytes (widthUnits (chainWidth (xprChain s))) h x.bytes)) h s := by
  simp only [tcamInsert, Nat.le_add_right, Nat.add_sub_cancel_left, decide_true, if_true]
  rw [bulkTarget_open (.inl rfl), withObject_some hx]
  simp only [Nat.not_le.mpr hg, hfit, hv, hh, hp, decide_false, Bool.and_false, Bool.not_true, Bool.or_self, Bool.false_eq_true, if_false]

theorem tcamDelete_held {e : Nat × Nat × TEntry} (hb : expressHandle h = true ∨ stageReached s 3 = true)
    (he : handleGroup (tablesOf s h) h = some e) : tcamDelete c h s = handleSteps c h none s := by
  rw [tcamDelete, bulkTarget_open hb, he]

/-- TCAM_UPDATE with a buffer of the entry's own width and priority rewrites it, valid (R101). -/
theorem tcamUpdate_held {g i : Nat} {e : TEntry} (hb : expressHandle h = true ∨ stageReached s 3 = true) (hx : stagedOf s obj = some x)
    (he : handleGroup (tablesOf s h) h = some (g, i, e)) (hfit : bufferFits e.width x.bytes = true)
    (hprio : bitsOf (leField x.bytes 0 8) 16 5 = e.prio) :
    tcamUpdate c obj h s = handleSteps c h (some { entryOfBytes (widthUnits e.width) h x.bytes with
      ctl := withBit (entryOfBytes (widthUnits e.width) h x.bytes).ctl 0 true }) s := by
  rw [tcamUpdate, bulkTarget_open hb, withObject_some hx]
  simp only [he, hfit, hprio, bne_self_eq_false, Bool.not_true, Bool.or_self, Bool.false_eq_true, if_false]

theorem tcamRead_held {addr g i : Nat} {e : TEntry} (hb : expressHandle h = true ∨ stageReached s 3 = true)
    (he : handleGroup (tablesOf s h) h = some (g, i, e)) :
    tcamRead c h addr s = giveResult c addr 0 (entryBytes e ++ leBytes 4 i) 0 s := by
  rw [tcamRead, bulkTarget_open hb, he]

/-! Before BULK_READY a command on a table of the quarters completes with STATE (R461). -/

theorem tcamInsert_early {target : Nat} (hb : stageReached s 3 = false) (ht : target < 8) :
    tcamInsert c obj target s = .done (resFail 3) s := by
  rw [tcamInsert, decide_eq_false (Nat.not_le.mpr ht), bulkTarget_early hb]

theorem tcamDelete_early (hb : stageReached s 3 = false) (hh : expressHandle h = false) : tcamDelete c h s = .done (resFail 3) s := by
  rw [tcamDelete, hh, bulkTarget_early hb]

theorem tcamUpdate_early (hb : stageReached s 3 = false) (hh : expressHandle h = false) : tcamUpdate c obj h s = .done (resFail 3) s := by
  rw [tcamUpdate, hh, bulkTarget_early hb]

theorem tcamRead_early {addr : Nat} (hb : stageReached s 3 = false) (hh : expressHandle h = false) :
    tcamRead c h addr s = .done (resFail 3) s := by
  rw [tcamRead, hh, bulkTarget_early hb]

end Entries

/-! ### Actions, hash groups and byte classes -/

section Writes

variable {s : State} {obj g : Nat} {x : StagedObj}

theorem actionWrite_good {i : Nat} (hx : stagedOf s obj = some x) (hi : i < 65536) (hlen : x.bytes.length = 32)
    (hprofile : bitsOf (leNat x.bytes) 88 73 ≤ 4095) (hres : bitsOf (leNat x.bytes) 255 89 = 0) :
    actionWrite obj i s = okTable { s with cls := { s.cls with actions := Store.put s.cls.actions i 0 (leNat x.bytes) } } := by
  rw [actionWrite, withObject_some hx]
  simp only [hlen, hres, Nat.not_le.mpr hi, Nat.not_lt.mpr hprofile, decide_false, bne_self_eq_false, Bool.or_self, Bool.false_eq_true,
    if_false]

theorem hashGroupSet_good {fields seed size : Nat} {symmetric failover : Bool} (hg : g < 256) (hf : fields < 2 ^ 16) (hseed : seed < 2 ^ 32)
    (hsize : size ≤ 12) : hashGroupSet g fields seed size symmetric failover s = okTable
      { s with cls := { s.cls with groups := Store.set s.cls.groups g ⟨fields, seed, size, symmetric, failover⟩ } } := by
  simp only [hashGroupSet, Nat.not_le.mpr hg, Nat.not_le.mpr hf, Nat.not_le.mpr hseed, Nat.not_lt.mpr hsize, decide_false, Bool.or_self,
    Bool.false_eq_true, if_false]

/-- INDIR_WRITE of good member entries within the table of a group writes its shadow copy (R85). -/
theorem indirWrite_good {first : Nat} (hx : stagedOf s obj = some x) (hg : g < 256) (hlen : x.bytes.length % 4 = 0)
    (hend : first + x.bytes.length / 4 ≤ 4096) (hgood : (numbersOf x.bytes 0 4 (x.bytes.length / 4)).all memberGood = true) :
    indirWrite obj g first s = okTable { s with cls := { s.cls with
      shadow := writeRange s.cls.shadow g first (3 * 2 ^ 16) (numbersOf x.bytes 0 4 (x.bytes.length / 4)) } } := by
  rw [indirWrite, withObject_some hx]
  simp only [hlen, hgood, length_numbersOf, Nat.not_le.mpr hg, Nat.not_lt.mpr hend, decide_false, bne_self_eq_false, Bool.not_true,
    Bool.or_self, Bool.false_eq_true, if_false]

theorem indirCommit_named (hg : g < 256) : indirCommit g s = .wait 0 (quarterMask s) g s := if_neg (Nat.not_le.mpr hg)

theorem byteClassWrite_good {k v cls : Nat} (hk : k < 32) (hv : v < 256) (hc : cls < 2 ^ 20) : byteClassWrite k v cls s =
    .done ⟨0, 7, 0, false⟩ { s with xpr := { s.xpr with byteClass := Store.put s.xpr.byteClass (key2 k v) 0 cls } } := by
  simp only [byteClassWrite, Nat.not_le.mpr hk, Nat.not_le.mpr hv, Nat.not_le.mpr hc, decide_false, Bool.or_self, Bool.false_eq_true,
    if_false]

end Writes

/-- Settles O13: each row runs its command, and each command with good operands has the answer of its lemma. -/
theorem classificationCommandsComplete : Obligations.ClassificationCommandsComplete := by
  unfold Obligations.ClassificationCommandsComplete
  intro s c
  refine ⟨?parser, ?ruleset, ?insert, ?insertExpress, ?delete, ?update, ?read, ?early, ?action, ?patLoad, ?patFree, ?hashGroup, ?indirWrite,
    ?indirCommit, ?byteClass, ?expressCommit⟩
  case parser =>
    exact fun obj states rows x ht hx hk hv hs hr hlen =>
      ⟨_, rfl, taken_concludes ht rfl (by decide) (parserLoad_good hx hk hv hs hr hlen)⟩
  case ruleset => exact fun ht => taken_concludes ht rfl (by decide) rfl
  case insert =>
    exact fun obj target h x plan ht hx hlt hb hfit hv hh hp =>
      taken_concludes ht rfl (by decide) (tcamInsert_quarters hx hlt hb hfit hv hh hp)
  case insertExpress =>
    exact fun obj g h x plan ht hx hg hfit hv hh hp => taken_concludes ht rfl (by decide) (tcamInsert_express hx hg hfit hv hh hp)
  case delete => exact fun h e ht hb he => taken_concludes ht rfl (by decide) (tcamDelete_held hb he)
  case update =>
    exact fun obj h g i e x ht hb hx he hfit hprio => taken_concludes ht rfl (by decide) (tcamUpdate_held hb hx he hfit hprio)
  case read => exact fun h addr g i e ht hb he => taken_concludes ht rfl (by decide) (tcamRead_held hb he)
  case early =>
    exact fun obj target h addr hb => ⟨fun ht hlt => taken_completes ht rfl (by decide) (tcamInsert_early hb hlt),
      fun ht hh => taken_completes ht rfl (by decide) (tcamDelete_early hb hh),
      fun ht hh => taken_completes ht rfl (by decide) (tcamUpdate_early hb hh),
      fun ht hh => taken_completes ht rfl (by decide) (tcamRead_early hb hh)⟩
  case action =>
    exact fun obj i x ht hx hi hlen hprofile hres => taken_concludes ht rfl (by decide) (actionWrite_good hx hi hlen hprofile hres)
  case patLoad =>
    exact fun obj n starts x g ht hx hk hv hlen hg hgood hfit hn =>
      taken_concludes ht rfl (by decide) (patLoad_good hx hk hv hlen hg hgood hfit hn)
  case patFree => exact fun n g ht hg hn => taken_concludes ht rfl (by decide) (patFree_unnamed hg hn)
  case hashGroup =>
    exact fun g fields seed size symmetric failover ht hg hf hseed hsize =>
      taken_concludes ht rfl (by decide) (hashGroupSet_good hg hf hseed hsize)
  case indirWrite =>
    exact fun obj g first x ht hx hg hlen hend hgood => taken_concludes ht rfl (by decide) (indirWrite_good hx hg hlen hend hgood)
  case indirCommit => exact fun g ht hg => taken_concludes ht rfl (by decide) (indirCommit_named hg)
  case byteClass => exact fun k v cls ht hk hv hc => taken_completes ht rfl (by decide) (byteClassWrite_good hk hv hc)
  case expressCommit => exact fun ht => taken_concludes ht rfl (by decide) rfl

end Sys2Proof.Machine

/-! The steps of the search tables, the scrubber, the table engine and the commit ticks (R88, R89, R103 to R114, R127, R175): the effect of
each where it has something to do. -/

namespace Sys2Proof.Machine

/-- An event that names a part of the device by two numbers. -/
theorem exec_within_both {i : Instr} {p r : Prop} [Decidable p] [Decidable r] {s t : State} (hp : p) (hr : r)
    (hi : exec i s = within (decide p && decide r) t) : exec i s = .next (settle t) := by
  rw [hi, decide_eq_true hp, decide_eq_true hr, Bool.and_self, within_true]

/-! ### Steps and scrubbing -/

section Steps

variable {s : State} {q r g i : Nat}

/-- Quarter q with its first step applied to its rows and to their shadow copies (R103). -/
def stepQuarter (q : Nat) (y : TStep) (rest : List TStep) (s : State) : State :=
  onQuarter q (fun z => { z with steps := rest, tcam := y.applyTo z.tcam, shadow := y.applyTo z.shadow }) s

theorem tcamStep_unfenced {stolen : Bool} {y : TStep} {rest : List TStep} {x : State} (hs : (quarterOf s q).steps = y :: rest)
    (hf : fenced s q = false)
    (hx : x = (bankStat q y.group ((stepQuarter q y rest s).bump QTR_TCAM_STEP_CNT q)).flag QTR_TCAM_UPD_BUSY (!rest.isEmpty) q) :
    tcamStep q stolen s = if stolen then x.bump QTR_TCAM_STEAL_CNT q else x := by
  subst hx
  simp only [tcamStep, stepQuarter, hs, hf, Bool.false_eq_true, if_false]

/-- A row of a quarter that differs from its shadow copy is rewritten from it (R106). -/
theorem scrubRow_differs {e : TEntry} (hq : q < 5) (hf : fenced s q = false)
    (hcopy : Store.get? (Store.getD (quarterOf s q).shadow g []) i = some e)
    (hrow : Store.get? (Store.getD (quarterOf s q).tcam g []) i ≠ some e) :
    scrubRow q r g i s = report (srcQuarter q 4) (((onQuarter q (fun z => { z with
      tcam := Store.put z.tcam g [] (Store.set (Store.getD z.tcam g []) i e) }) s).bump QTR_TCAM_STEP_CNT q).bump
        QTR_TCAM_SCRUB_FIX_CNT q) := by
  simp only [scrubRow, Nat.ne_of_lt hq, hf, hcopy, beq_eq_false_iff_ne.mpr hrow, Bool.or_self, Bool.false_eq_true, if_false]

theorem scrubRow_agrees (hq : q < 5) (h : Store.get? (Store.getD (quarterOf s q).tcam g []) i =
    Store.get? (Store.getD (quarterOf s q).shadow g []) i) : scrubRow q r g i s = s := by
  simp only [scrubRow, Nat.ne_of_lt hq, h, beq_self_eq_true, Bool.or_true, if_true, if_false]

/-- A row of an express replica whose parity fails is put right (R114). -/
theorem scrubRow_damaged (h : s.xpr.damaged.contains (r, g, i) = true) : scrubRow 5 r g i s = report (srcReplica r 2)
    (({ s with xpr := { s.xpr with damaged := s.xpr.damaged.filter (fun y => y != (r, g, i)) } } : State).bump XPR_TCAM_SCRUB_FIX_CNT) := by
  simp only [scrubRow, h, Bool.not_true, Bool.false_eq_true, if_false, if_true]

theorem scrubRow_sound (h : s.xpr.damaged.contains (r, g, i) = false) : scrubRow 5 r g i s = s := by
  simp only [scrubRow, h, Bool.not_false, if_true]

theorem expressStep_next {y : TStep} {rest : List TStep} (hs : s.xpr.steps = y :: rest) : expressStep s =
    { s with xpr := { s.xpr with
      steps := rest, tcam := y.applyTo s.xpr.tcam, damaged := s.xpr.damaged.filter (fun z => !(z.2.1 == y.group && z.2.2 == y.dst)) } } := by
  simp only [expressStep, hs]

end Steps

/-! ### The table engine -/

section TableEngine

variable {s : State} {q t : Nat} {key data : List Byte}

theorem tableInsert_places {y : CTable} (h : insertBy (tablePlace s q t) (tableOf s q t) key data = some y) :
    tableInsert q t key data s = (setTable q t y s, true) := by
  simp only [tableInsert, h]

/-- An entry that finds no place in the learned address table of a quarter (R127). -/
theorem tableInsert_fails (h : insertBy (tablePlace s q 0) (tableOf s q 0) key data = none) :
    tableInsert q 0 key data s = (rehashRequest q 0 s, false) := by
  simp only [tableInsert, h, if_true]

end TableEngine

/-! ### Commits -/

section Commits

variable {s : State} {ring : Nat} {w : Waiting}

/-- What the commit tick of a waiting command does, by its opcode: RULESET_COMMIT and PROFILE_COMMIT go on waiting, the others complete
(R85, R89, R114, R175, R198). -/
theorem commitTick_waiting (hw : waitingOf s (awaitsTick ring) = some w) : commitTick ring s =
    if w.opcode = 0x0201 then flipEpoch (tickCame w s)
    else if w.opcode = 0x0406 then flipProfile (tickCame w s)
    else finishWaiting (fun y => y == w) (fun _ => ⟨0, w.detail, 0, false⟩)
      (if w.opcode = 0x020B then flipIndir w.key s else if w.opcode = 0x040C then flipLb w.key s else flipExpress s) := by
  simp only [commitTick, hw, apply_ite (finishWaiting _ _)]

/-- PROFILE_COMMIT ends where no task carries the old copy bit: the active copy is copied into the other (R175). -/
theorem profileSettle_drained {x : State} (hd : s.on FLW_PROF_STAT_DRAINING = true) (hr : s.get FLW_PROF_STAT_OLD_REFS = 0)
    (hx : x = s.put FLW_PROF_STAT_DRAINING 0) : profileSettle s = finishWaiting (fun w => w.opcode == 0x0406) (fun _ => resOk)
      (onPolicy (!activeCopy x) (fun _ => policyOf x (activeCopy x)) x) := by
  subst hx
  simp only [profileSettle, hd, hr, bne_self_eq_false, Bool.not_true, Bool.or_self, Bool.false_eq_true, if_false]

end Commits

/-- Settles O41: each row runs its event, and each event has the effect of its lemma. -/
theorem tableStepsComplete : Obligations.TableStepsComplete := by
  unfold Obligations.TableStepsComplete
  intro s x
  refine ⟨?step, ?scrub, ?scrubExpress, ?upset, ?expressStep, ?insertion, ?rehash, ?tick, ?swap, ?drain⟩
  case step =>
    intro q stolen y rest hq hs hf hx
    rw [exec_within hq rfl, tcamStep_unfenced hs hf hx]
  case scrub =>
    intro q r g i e hq hr hf hcopy
    refine ⟨fun hrow => ?differs, fun hrow => ?agrees⟩
    all_goals rw [exec_within_both (Nat.lt_succ_of_lt hq) hr rfl]
    case differs => rw [tcamScrub, scrubRow_differs hq hf hcopy hrow]
    case agrees => rw [tcamScrub, scrubRow_agrees hq (hrow.trans hcopy.symm)]
  case scrubExpress =>
    refine fun r g i hr => ⟨fun h => ?damaged, fun h => ?sound⟩
    all_goals rw [exec_within_both (show 5 < 6 by decide) hr rfl]
    case damaged => rw [tcamScrub, scrubRow_damaged h]
    case sound => rw [tcamScrub, scrubRow_sound h]
  case upset => exact fun q r g i e hq hr => exec_within_both hq hr rfl
  case expressStep =>
    intro y rest hs
    rw [← expressStep_next hs]
    rfl
  case insertion =>
    intro t q key data y ht hq h
    rw [exec_within_both ht hq rfl, tableInsert_places h]
  case rehash =>
    intro q key data hq h
    rw [exec_within_both (by decide) hq rfl, tableInsert_fails h]
  case tick =>
    intro ring w hr hw
    rw [exec_within hr rfl, commitTick_waiting hw]
    refine ⟨fun h => ?_, fun h => ?_, fun h => ?_, fun h => ?_, fun h => ?_⟩ <;> simp [h]
  case swap => rfl
  case drain =>
    intro hd hr hx
    rw [← profileSettle_drained hd hr hx]
    rfl

end Sys2Proof.Machine

/-! The commands of the forwarding tables (R121 to R139, R245, R520, R522): the answer of each where its operands are good. -/

namespace Sys2Proof.Machine

/-! ### Learned addresses -/

section Addresses

variable {s : State} {c : Cmd} {q fid mac addr port : Nat}

/-- L2_ADD of an address that every quarter in service can place (R139). -/
theorem l2Add_placed {key data : List Byte} (hn : l2Named fid mac = true) (hp : port < 96) (hk : key = l2Key fid (beBytes 6 mac))
    (hd : data = l2Bytes (l2Entry key port true false 7 s.freeWord.toNat)) (hplace : cannotPlace s 0 key data = []) :
    l2Add fid mac port s = okTable (onLive (fun q s => (tableInsert q 0 key data s).1) s.drew) := by
  subst hk hd
  simp only [l2Add, hn, hplace, Nat.not_le.mpr hp, decide_false, Bool.not_true, Bool.or_self, Bool.false_eq_true, if_false]

theorem l2Del_named (hn : l2Named fid mac = true) : l2Del fid mac s =
    if (liveQuarters s).any (fun q => (tableLookup s q 0 (l2Key fid (beBytes 6 mac))).isSome)
      then okTableWith 1 (onLive (fun q s => tableErase q 0 (l2Key fid (beBytes 6 mac)) s) s) else okTableWith 0 s := by
  simp only [l2Del, hn, Bool.not_true, Bool.false_eq_true, if_false]

theorem l2Read_absent (hq : q < 5) (hn : l2Named fid mac = true) (hl : l2Lookup s q (l2Key fid (beBytes 6 mac)) = none) :
    l2Read c q fid mac addr s = giveResult c addr 0 (zeros 32) 0 s := by
  simp only [l2Read, hn, hl, Nat.not_le.mpr hq, decide_false, Bool.not_true, Bool.or_self, Bool.false_eq_true, if_false]

theorem l2Read_present {e : Nat} (hq : q < 5) (hn : l2Named fid mac = true)
    (hl : l2Lookup s q (l2Key fid (beBytes 6 mac)) = some e) : l2Read c q fid mac addr s = giveResult c addr 0 (l2Bytes e) 1 s := by
  simp only [l2Read, hn, hl, Nat.not_le.mpr hq, decide_false, Bool.not_true, Bool.or_self, Bool.false_eq_true, if_false]

end Addresses

/-! ### Exact match -/

section Exact

variable {s : State} {kind r v nh : Nat}

theorem emAdd_placed (hn : exactNamed kind r v = true) (hnh : nh < 65536)
    (hplace : (tableInsert (referenceQuarter s) 1 (exactKey kind r (beBytes (exactBytes kind) v)) (leBytes 2 nh) s).2 = true) :
    emAdd kind r v nh s =
      okTable (tableInsert (referenceQuarter s) 1 (exactKey kind r (beBytes (exactBytes kind) v)) (leBytes 2 nh) s).1 := by
  simp only [emAdd, hn, hplace, Nat.not_le.mpr hnh, decide_false, Bool.not_true, Bool.or_self, Bool.false_eq_true, if_false, if_true]

theorem emDel_named (hn : exactNamed kind r v = true) : emDel kind r v s =
    if (tableLookup s (referenceQuarter s) 1 (exactKey kind r (beBytes (exactBytes kind) v))).isSome
      then okTableWith 1 (tableErase (referenceQuarter s) 1 (exactKey kind r (beBytes (exactBytes kind) v)) s) else okTableWith 0 s := by
  simp only [emDel, hn, Bool.not_true, Bool.false_eq_true, if_false]

end Exact

/-! ### Routes and routing tables -/

section Routes

variable {s : State} {r len v nh : Nat} {six : Bool}

/-- ROUTE_ADD of a route that finds places for itself and its markers (R131). -/
theorem routeAdd_placed {x : CTable} (hn : prefixNamed s r six len v = true) (hnh : nh < 65536)
    (hplace : addPrefix (tablePlace s (referenceQuarter s) (prefixTable six)) r len nh (beBytes (addrBytes six) v) (instLens s r six)
      (tableOf s (referenceQuarter s) (prefixTable six)) = some x) :
    routeAdd r six len v nh s = okTable (setTable (referenceQuarter s) (prefixTable six) x s) := by
  simp only [routeAdd, hn, hplace, Nat.not_le.mpr hnh, decide_false, Bool.not_true, Bool.or_self, Bool.false_eq_true, if_false]

theorem routeDel_held {x : Slot} (hn : prefixNamed s r six len v = true)
    (hl : tableLookup s (referenceQuarter s) (prefixTable six) (prefixKey r len (beBytes (addrBytes six) v)) = some x)
    (hx : isPrefix x = true) : routeDel r six len v s = okTableWith 1 (setTable (referenceQuarter s) (prefixTable six)
      (removePrefix (tablePlace s (referenceQuarter s) (prefixTable six)) r len (beBytes (addrBytes six) v) (instLens s r six)
        (tableOf s (referenceQuarter s) (prefixTable six))) s) := by
  simp only [routeDel, hn, hl, hx, Bool.not_true, Bool.false_eq_true, if_false]

/-- ROUTE_DEL where no entry stands, or only a marker (R132). -/
theorem routeDel_unheld (hn : prefixNamed s r six len v = true)
    (hl : ∀ x, tableLookup s (referenceQuarter s) (prefixTable six) (prefixKey r len (beBytes (addrBytes six) v)) = some x →
      isPrefix x = false) : routeDel r six len v s = okTableWith 0 s := by
  cases he : tableLookup s (referenceQuarter s) (prefixTable six) (prefixKey r len (beBytes (addrBytes six) v)) with
  | none => simp only [routeDel, hn, he, Bool.not_true, Bool.false_eq_true, if_false]
  | some x => simp only [routeDel, hn, he, hl x he, Bool.not_true, Bool.not_false, Bool.false_eq_true, if_false, if_true]

/-- RT_WRITE that keeps the filters of a routing table, or sets those of one that is not in use (R130). -/
theorem rtWrite_good {f4 f6 : Nat} {toHost : Bool} (hr : r < 8192) (h4 : f4 < 2 ^ 33) (h6 : f6 < 2 ^ 129)
    (hfree : ((routeInst s r).filter4 = f4 ∧ (routeInst s r).filter6 = f6) ∨ (instHolds s r = false ∧ vrfNames s r = false)) :
    rtWrite r f4 f6 toHost s = okTable { s with cls := { s.cls with routes := Store.set s.cls.routes r ⟨f4, f6, toHost⟩ } } := by
  have hopen : (((routeInst s r).filter4 != f4 || (routeInst s r).filter6 != f6) && (instHolds s r || vrfNames s r)) = false := by
    rcases hfree with ⟨hf4, hf6⟩ | ⟨hholds, hnames⟩
    · simp [hf4, hf6]
    · simp [hholds, hnames]
  simp only [rtWrite, hopen, Nat.not_le.mpr hr, Nat.not_le.mpr h4, Nat.not_le.mpr h6, decide_false, Bool.or_self, Bool.false_eq_true,
    if_false]

/-- RT_FREE of a routing table that no VRF names clears it out of both families (R133). -/
theorem rtFree_unnamed (hr : r < 8192) (hv : vrfNames s r = false) : rtFree r s = okTable (setTable (referenceQuarter s) 3
    { s.cls.pfx6 with slots := s.cls.pfx6.slots.filter (fun e => keyInst e.2.key != r) } (setTable (referenceQuarter s) 2
    { s.cls.pfx4 with slots := s.cls.pfx4.slots.filter (fun e => keyInst e.2.key != r) } s)) := by
  simp only [rtFree, hv, Nat.not_le.mpr hr, Bool.false_eq_true, if_false]

end Routes

/-! ### Direct tables -/

section Direct

variable {s : State} {i : Nat}

theorem vrfMapWrite_good {v r : Nat} (hv : v < 4096) (hr : r < 8192) : vrfMapWrite v r s =
    if s.host.waiting.any (fun w => w.opcode == 0x0201) then .wait 0 0 (key2 v r) s
    else okTable (setVrf (!epochBit s (referenceQuarter s)) v r s) := by
  simp only [vrfMapWrite, Nat.not_le.mpr hv, Nat.not_le.mpr hr, decide_false, Bool.or_self, Bool.false_eq_true, if_false]

theorem vlanWrite_good {vid fid vrf rmac flood : Nat} {routing : Bool} (hvid : vid < 4096) (hfid : fid < 4096) (hvrf : vrf < 4096)
    (hrmac : rmac < 256) (hflood : flood < 16384) : vlanWrite vid fid vrf rmac routing flood s =
      okTable { s with cls := { s.cls with vlans := Store.set s.cls.vlans vid ⟨fid, vrf, rmac, routing, flood⟩ } } := by
  simp only [vlanWrite, Nat.not_le.mpr hvid, Nat.not_le.mpr hfid, Nat.not_le.mpr hvrf, Nat.not_le.mpr hrmac, Nat.not_le.mpr hflood,
    decide_false, Bool.or_self, Bool.false_eq_true, if_false]

theorem nhWrite_good {e : Nat} (hi : i < 65536) (he : e < 2 ^ 128) (hres : bitsOf e 127 89 = 0) :
    nhWrite i e s = okTable { s with cls := { s.cls with hops := Store.set s.cls.hops i e } } := by
  simp only [nhWrite, hres, Nat.not_le.mpr hi, Nat.not_le.mpr he, decide_false, bne_self_eq_false, Bool.or_self, Bool.false_eq_true,
    if_false]

theorem rmacWrite_good {mac : Nat} {valid : Bool} (hi : i < 256) (hm : mac < 2 ^ 48) : rmacWrite i mac valid s = okTable
    { s with cls := { s.cls with macs := if valid then Store.set s.cls.macs i mac else Store.erase s.cls.macs i } } := by
  simp only [rmacWrite, Nat.not_le.mpr hi, Nat.not_le.mpr hm, decide_false, Bool.or_self, Bool.false_eq_true, if_false]

/-- MCAST_WRITE of an entry whose reserved bits are 0 (R245). -/
theorem mcastWrite_good {obj g : Nat} {x : StagedObj} (hx : stagedOf s obj = some x) (hg : g < 16384) (hlen : x.bytes.length = 32)
    (hlow : bitsOf (leNat x.bytes) 103 102 = 0) (hhigh : bitsOf (leNat x.bytes) 255 184 = 0) (hcls : bitsOf (leNat x.bytes) 183 176 < 16) :
    mcastWrite obj g s = okTable { s with buf := { s.buf with mcGroups := Store.set s.buf.mcGroups g (groupOfEntry (leNat x.bytes)) } } := by
  rw [mcastWrite, withObject_some hx]
  simp only [hlen, hlow, hhigh, Nat.not_le.mpr hg, Nat.not_le.mpr hcls, decide_false, bne_self_eq_false, Bool.or_self, Bool.false_eq_true,
    if_false]

end Direct

/-! ### Rehash -/

section Rehash

variable {s : State} {t mask : Nat}

/-- The quarters that a rehash of table t acts on (R129): of the learned addresses those of a mask, of another table all in service. -/
def rehashQuarters (t mask : Nat) (s : State) : List Nat := (liveQuarters s).filter (fun q => t != 0 || bitOf mask q)

/-- A rehash begins by showing its seeds, drawn at random, as the new ones of every quarter (R129). -/
def rehashBegun (t mask : Nat) (s : State) : State :=
  (rehashQuarters t mask s).foldl (fun s' q => s'.setReg QTR_HASH_NEW_SEED (BitVec.ofNat 64 s.freeWord.toNat) q t) s.drew

/-- The tables under the new seeds, where every entry finds a place: an identical table is placed once for all quarters. -/
def rehashPlaced (t mask : Nat) (s : State) : Option State :=
  (if t = 0 then rehashQuarters t mask s else (rehashQuarters t mask s).take 1).foldl
    (fun x q => x.bind (rehashOne t s.freeWord.toNat q)) (some (rehashBegun t mask s))

/-- TABLE_REHASH whose entries all find a place gives the quarters that it acts on their fresh seeds (R129). -/
theorem tableRehash_placed {x : State} (ht : t < 4) (hmask : t = 0 → mask ≠ 0 ∧ mask < 32) (hx : rehashPlaced t mask s = some x) :
    tableRehash t mask s = .done ⟨0, ((rehashQuarters t mask s).map (fun q => 2 ^ q)).sum, 0, false⟩
      (rehashOver t (rehashQuarters t mask s) ((rehashQuarters t mask s).foldl (fun s' q => setSeeds t s.freeWord.toNat q s') x)) := by
  have hargs : (decide (4 ≤ t) || (decide (t = 0) && (decide (mask = 0) || decide (32 ≤ mask)))) = false := by
    simp only [Bool.or_eq_false_iff, Bool.and_eq_false_imp, decide_eq_true_eq, decide_eq_false_iff_not, not_le]
    exact ⟨ht, hmask⟩
  unfold rehashPlaced rehashBegun rehashQuarters at hx
  simp only [tableRehash, hargs, hx, Bool.false_eq_true, if_false]
  rfl

end Rehash

/-- Settles O14: each row runs its command, and each command with good operands has the answer of its lemma. -/
theorem forwardingCommandsComplete : Obligations.ForwardingCommandsComplete := by
  unfold Obligations.ForwardingCommandsComplete
  intro s c
  refine ⟨?l2Add, ?l2Del, ?l2Flush, ?l2Read, ?emAdd, ?emDel, ?routeAdd, ?routeDel, ?routeDelNone, ?rtWrite, ?rtFree, ?vrfMap, ?vlan, ?nextHop,
    ?rehash, ?mcast, ?rmac⟩
  case l2Add =>
    exact fun fid mac port key data ht hn hp hk hd hplace => taken_concludes ht rfl (by decide) (l2Add_placed hn hp hk hd hplace)
  case l2Del => exact fun fid mac ht hn => taken_concludes ht rfl (by decide) (l2Del_named hn)
  case l2Flush => exact fun fid port static ht => taken_concludes ht rfl (by decide) rfl
  case l2Read =>
    intro q fid mac addr ht hq hn
    cases hl : l2Lookup s q (l2Key fid (beBytes 6 mac)) with
    | none => exact taken_concludes ht rfl (by decide) (l2Read_absent hq hn hl)
    | some e => exact taken_concludes ht rfl (by decide) (l2Read_present hq hn hl)
  case emAdd => exact fun kind r v nh ht hn hnh hplace => taken_concludes ht rfl (by decide) (emAdd_placed hn hnh hplace)
  case emDel => exact fun kind r v ht hn => taken_concludes ht rfl (by decide) (emDel_named hn)
  case routeAdd => exact fun r six len v nh x ht hn hnh hplace => taken_concludes ht rfl (by decide) (routeAdd_placed hn hnh hplace)
  case routeDel => exact fun r six len v x ht hn hl hx => taken_concludes ht rfl (by decide) (routeDel_held hn hl hx)
  case routeDelNone => exact fun r six len v ht hn hl => taken_concludes ht rfl (by decide) (routeDel_unheld hn hl)
  case rtWrite =>
    exact fun r f4 f6 toHost ht hr h4 h6 hfree => taken_concludes ht rfl (by decide) (rtWrite_good hr h4 h6 hfree)
  case rtFree => exact fun r ht hr hv => taken_concludes ht rfl (by decide) (rtFree_unnamed hr hv)
  case vrfMap => exact fun v r ht hv hr => taken_concludes ht rfl (by decide) (vrfMapWrite_good hv hr)
  case vlan =>
    exact fun vid fid vrf rmac routing flood ht hvid hfid hvrf hrmac hflood =>
      taken_concludes ht rfl (by decide) (vlanWrite_good hvid hfid hvrf hrmac hflood)
  case nextHop => exact fun i e ht hi he hres => taken_concludes ht rfl (by decide) (nhWrite_good hi he hres)
  case rehash =>
    exact fun t mask x ht hlt hmask hx => taken_completes ht rfl (by decide) (tableRehash_placed hlt hmask hx)
  case mcast =>
    exact fun obj g x ht hx hg hlen hlow hhigh hcls =>
      taken_concludes ht rfl (by decide) (mcastWrite_good hx hg hlen hlow hhigh hcls)
  case rmac => exact fun i mac valid ht hi hm => taken_concludes ht rfl (by decide) (rmacWrite_good hi hm)

end Sys2Proof.Machine

/-! The commands of the flow tables, NAT pools and load balancing (R172 to R176, R189, R196 to R198, R206 to R208): the answer of each
where its operands are good. -/

namespace Sys2Proof.Machine

/-! ### Flows -/

section Flows

variable {s : State} {c : Cmd} {key : List Byte} {f : Firkin}

/-- IN_PROG of the tun record of a key (R162): an insertion is moving it; false where tun does not hold the key. -/
def movingInTun (s : State) (key : List Byte) : Bool := match tunOf s key with | none => false | some (_, x) => x.inProgress

theorem flowRead_absent {addr : Nat} (h : recordOf s (padTo 40 key) = none) :
    flowRead c key addr s = giveResult c addr 0 (zeros 513) 0 s := by
  simp only [flowRead, h]

theorem flowRead_held {addr : Nat} (h : recordOf s (padTo 40 key) = some f) : flowRead c key addr s =
    giveResult c addr 0 (padTo 512 (fullRecord s (padTo 40 key)) ++ leBytes 1 (ofBool (movingInTun s (padTo 40 key)))) 1 s := by
  simp only [flowRead, h]
  rfl

theorem flowDelete_absent (h : recordOf s (padTo 40 key) = none) : flowDelete key s = .done (resWith 0) s := by
  simp only [flowDelete, h, okWith]

theorem flowDelete_held (h : recordOf s (padTo 40 key) = some f) : flowDelete key s =
    if deletionRoom s (padTo 40 key) then okWith 1 (deleteFlow (padTo 40 key) (some commandReason) s)
    else .wait 1 0 (leNat (padTo 40 key)) s := by
  simp only [flowDelete, h]

theorem flowFlush_profile {n : Nat} (hn : n < 4096) : flowFlush n s =
    if (flushSome n s).2.2 then .wait (flushSome n s).2.1 0 n (flushSome n s).1 else okWith (flushSome n s).2.1 (flushSome n s).1 :=
  if_neg (Nat.not_le.mpr hn)

theorem flowReprofile_profiles {old new : Nat} (ho : old < 4096) (hn : new < 4096) :
    flowReprofile old new s = .done (resWith (reprofile old new s).2) (reprofile old new s).1 := by
  simp only [flowReprofile, okWith, Nat.not_le.mpr ho, Nat.not_le.mpr hn, decide_false, Bool.or_self, Bool.false_eq_true, if_false]

/-- In pair states 1 to 5 no flow keys are replaced (R173). -/
theorem flowRekey_paired (h1 : 1 ≤ pairState s) (h5 : pairState s ≤ 5) : flowRekey s = .done (resFail 3) s := by
  simp only [flowRekey, failed, h1, h5, decide_true, Bool.and_self, if_true]

/-- The test of FLOW_REKEY for the pair states that exclude it (R173). -/
theorem pairState_allows_rekey (h : pairState s = 0 ∨ 5 < pairState s) : (decide (1 ≤ pairState s) && decide (pairState s ≤ 5)) = false := by
  rw [Bool.and_eq_false_imp, decide_eq_true_eq, decide_eq_false_iff_not]
  omega

theorem flowRekey_running (hp : pairState s = 0 ∨ 5 < pairState s) (hr : s.flow.rekey.isSome = true) :
    flowRekey s = .done (resFail 4) s := by
  simp only [flowRekey, failed, pairState_allows_rekey hp, hr, Bool.false_eq_true, if_false, if_true]

theorem flowRekey_starts (hp : pairState s = 0 ∨ 5 < pairState s) (hr : s.flow.rekey = none) : flowRekey s =
    .wait 0 0 0 (routineRequest 0x13 false (rekeyStart s.free128 s.drew.drew.free128 s.drew.drew.drew.drew)) := by
  simp only [flowRekey, pairState_allows_rekey hp, hr, Option.isSome_none, Bool.false_eq_true, if_false]

end Flows

/-! ### Policy copies -/

section Policy

variable {s : State} {obj n : Nat} {x : StagedObj}

/-- PROFILE_WRITE of an entry whose reserved bits are 0, and where load balancing with destination NAT is sticky (R175, R176). -/
theorem profileWrite_good (hx : stagedOf s obj = some x) (hn : n < 4096) (hlen : x.bytes.length = 32)
    (hres : bitsOf (leNat x.bytes) 255 224 = 0)
    (hlb : Profile.lb (leNat x.bytes) = true → Profile.natKind (leNat x.bytes) = 2 → Profile.sticky (leNat x.bytes) = true) :
    profileWrite obj n s = .done resOk (onInactive (fun y => { y with profiles := Store.put y.profiles n 0 (leNat x.bytes) }) s) := by
  have hsticky : (Profile.lb (leNat x.bytes) && Profile.natKind (leNat x.bytes) == 2 && !Profile.sticky (leNat x.bytes)) = false := by
    rw [Bool.and_eq_false_imp, Bool.and_eq_true, beq_iff_eq, Bool.not_eq_false']
    exact fun h => hlb h.1 h.2
  rw [profileWrite, withObject_some hx]
  simp only [ok_, hlen, hres, hsticky, Nat.not_le.mpr hn, decide_false, bne_self_eq_false, Bool.or_self, Bool.false_eq_true, if_false]

theorem otMapWrite_good (hx : stagedOf s obj = some x) (hn : n < 64) (hlen : x.bytes.length = 136)
    (hrules : ((numbersOf x.bytes 0 8 17).take 16).any (fun r => bitsOf r 63 36 != 0) = false)
    (hdefaults : bitsOf ((numbersOf x.bytes 0 8 17).getD 16 0) 63 9 = 0) : otMapWrite obj n s =
      .done resOk (onInactive (fun y => { y with otMaps := Store.set y.otMaps n (numbersOf x.bytes 0 8 17) }) s) := by
  rw [otMapWrite, withObject_some hx]
  simp only [ok_, hlen, hrules, hdefaults, Nat.not_le.mpr hn, decide_false, bne_self_eq_false, Bool.or_self, Bool.false_eq_true, if_false]

theorem lbServiceWrite_good {seed size : Nat} (hn : n < 1024) (hseed : seed < 2 ^ 32) (hsize : size ≤ 12) : lbServiceWrite n seed size s =
    .done resOk (onInactive (fun y => { y with services := Store.set y.services n ⟨seed, size⟩ }) s) := by
  simp only [lbServiceWrite, ok_, Nat.not_le.mpr hn, Nat.not_le.mpr hseed, Nat.not_lt.mpr hsize, decide_false, Bool.or_self,
    Bool.false_eq_true, if_false]

/-- LB_INDIR_WRITE within the table of a service (R196, R198). -/
theorem lbIndirWrite_good {first : Nat} (hx : stagedOf s obj = some x) (hn : n < 1024) (hlen : x.bytes.length % 2 = 0)
    (hend : first + x.bytes.length / 2 ≤ 4096) : lbIndirWrite obj n first s = .done resOk (onInactive (fun y =>
      { y with indir := writeRange y.indir n first 0xFFFF (numbersOf x.bytes 0 2 (x.bytes.length / 2)) }) s) := by
  rw [lbIndirWrite, withObject_some hx]
  simp only [ok_, hlen, length_numbersOf, Nat.not_le.mpr hn, Nat.not_lt.mpr hend, decide_false, bne_self_eq_false, Bool.or_self,
    Bool.false_eq_true, if_false]

theorem lbIndirCommit_service (hn : n < 1024) : lbIndirCommit n s = .wait 0 0 n s := if_neg (Nat.not_le.mpr hn)

end Policy

/-! ### NAT pools and members -/

section Entries

variable {s : State} {c : Cmd} {obj n addr : Nat} {x : StagedObj}

/-- NAT_POOL_WRITE of a pool that is not valid, has no binding or changes in ALLOC_EN alone, within the 16,384 addresses (R189). -/
theorem natPoolWrite_good (hx : stagedOf s obj = some x) (hn : n < 1024) (hlen : x.bytes.length = 32) (h3 : bitOf (leNat x.bytes) 3 = false)
    (hlow : bitsOf (leNat x.bytes) 15 13 = 0) (hhigh : bitsOf (leNat x.bytes) 127 80 = 0)
    (hfree : bitOf (poolOf s n) 0 = false ∨ Store.getD s.flow.bindings n 0 = 0 ∨
      withBit (leNat x.bytes) 2 false = withBit (poolOf s n) 2 false)
    (hroom : ((s.flow.pools.filter (fun e => e.1 != n)).map (fun e => poolAddrs e.2)).sum + poolAddrs (leNat x.bytes) ≤ 16384) :
    natPoolWrite obj n s =
      .done resOk { s with flow := { s.flow with pools := Store.put s.flow.pools n 0 (leNat x.bytes) } } := by
  have hunbound : (bitOf (poolOf s n) 0 && Store.getD s.flow.bindings n 0 != 0 &&
      withBit (leNat x.bytes) 2 false != withBit (poolOf s n) 2 false) = false := by
    rcases hfree with h | h | h <;> simp [h]
  rw [natPoolWrite, withObject_some hx]
  simp only [ok_, hlen, h3, hlow, hhigh, hunbound, Nat.not_le.mpr hn, Nat.not_lt.mpr hroom, decide_false, bne_self_eq_false, Bool.or_self,
    Bool.false_eq_true, if_false]

theorem natPoolRead_pool (hn : n < 1024) : natPoolRead c n addr s =
    giveResult c addr 0 (leBytes 32 (poolOf s n) ++ leBytes 4 (Store.getD s.flow.bindings n 0)) 0 s :=
  if_neg (Nat.not_le.mpr hn)

theorem lbMemberWrite_good (hx : stagedOf s obj = some x) (hn : n < 65536) (hlen : x.bytes.length = 32)
    (h15 : bitOf (leNat x.bytes) 15 = false) (hmid : bitsOf (leNat x.bytes) 79 72 = 0) (hhigh : bitsOf (leNat x.bytes) 127 96 = 0) :
    lbMemberWrite obj n s = .done resOk { s with flow := { s.flow with members := Store.set s.flow.members n (leNat x.bytes) } } := by
  rw [lbMemberWrite, withObject_some hx]
  simp only [ok_, hlen, h15, hmid, hhigh, Nat.not_le.mpr hn, decide_false, bne_self_eq_false, Bool.or_self, Bool.false_eq_true, if_false]

/-- How many records name a member in CHOICE (R196), where 0xFFFF names none. -/
def memberHolders (s : State) (n : Nat) : Nat :=
  if n = 0xFFFF then 0 else ((allKeys s).filter (fun k => match recordOf s k with | none => false | some f => f.choice == n)).length

theorem lbMemberRead_member (hn : n < 65536) : lbMemberRead c n addr s =
    giveResult c addr 0 (leBytes 32 (lbMember s n) ++ leBytes 4 (memberHolders s n)) 0 s :=
  if_neg (Nat.not_le.mpr hn)

end Entries

/-- Settles O15: each row runs its command, and each command with good operands has the answer of its lemma. -/
theorem flowCommandsComplete : Obligations.FlowCommandsComplete := by
  unfold Obligations.FlowCommandsComplete
  intro s c
  refine ⟨?readAbsent, ?read, ?deleteAbsent, ?delete, ?flush, ?reprofile, ?rekey, ?rekeyPaired, ?rekeyRunning, ?profile, ?profileCommit,
    ?otMap, ?poolWrite, ?poolRead, ?service, ?indirWrite, ?indirCommit, ?memberWrite, ?memberRead⟩
  case readAbsent => exact fun key addr ht h => taken_concludes ht rfl (by decide) (flowRead_absent h)
  case read => exact fun key addr f ht h => taken_concludes ht rfl (by decide) (flowRead_held h)
  case deleteAbsent => exact fun key ht h => taken_completes ht rfl (by decide) (flowDelete_absent h)
  case delete => exact fun key f ht h => taken_concludes ht rfl (by decide) (flowDelete_held h)
  case flush => exact fun n ht hn => taken_concludes ht rfl (by decide) (flowFlush_profile hn)
  case reprofile => exact fun old new ht ho hn => taken_completes ht rfl (by decide) (flowReprofile_profiles ho hn)
  case rekey => exact fun ht hp hr => taken_concludes ht rfl (by decide) (flowRekey_starts hp hr)
  case rekeyPaired => exact fun ht h1 h5 => taken_completes ht rfl (by decide) (flowRekey_paired h1 h5)
  case rekeyRunning => exact fun ht hp hr => taken_completes ht rfl (by decide) (flowRekey_running hp hr)
  case profile =>
    exact fun obj n x ht hx hn hlen hres hlb => taken_completes ht rfl (by decide) (profileWrite_good hx hn hlen hres (hlb _ rfl))
  case profileCommit => exact fun ht => taken_concludes ht rfl (by decide) rfl
  case otMap =>
    exact fun obj m x ht hx hm hlen hrules hdefaults => taken_completes ht rfl (by decide) (otMapWrite_good hx hm hlen hrules hdefaults)
  case poolWrite =>
    exact fun obj n x ht hx hn hlen h3 hlow hhigh hfree hroom =>
      taken_completes ht rfl (by decide) (natPoolWrite_good hx hn hlen h3 hlow hhigh hfree hroom)
  case poolRead => exact fun n addr ht hn => taken_concludes ht rfl (by decide) (natPoolRead_pool hn)
  case service => exact fun n seed size ht hn hseed hsize => taken_completes ht rfl (by decide) (lbServiceWrite_good hn hseed hsize)
  case indirWrite => exact fun obj n first x ht hx hn hlen hend => taken_completes ht rfl (by decide) (lbIndirWrite_good hx hn hlen hend)
  case indirCommit => exact fun n ht hn => taken_concludes ht rfl (by decide) (lbIndirCommit_service hn)
  case memberWrite =>
    exact fun obj n x ht hx hn hlen h15 hmid hhigh =>
      taken_completes ht rfl (by decide) (lbMemberWrite_good hx hn hlen h15 hmid hhigh)
  case memberRead => exact fun n addr ht hn => taken_concludes ht rfl (by decide) (lbMemberRead_member hn)

end Sys2Proof.Machine

/-! The events of the flow tables (R155 to R171, R191, R195): the effect of each where it has something to do. -/

namespace Sys2Proof.Machine

/-- An event that the device always carries out, by its effect. -/
theorem exec_settles {i : Instr} {s t u : State} (hi : exec i s = .next (settle t)) (h : t = u) : exec i s = .next (settle u) :=
  h ▸ hi

theorem flowLookupNext_released {s : State} {d : Desc} {rest : List Desc} (h : s.flow.input = d :: rest) :
    flowLookupNext s = flowLookup d { s with flow := { s.flow with input := rest } } := by
  simp only [flowLookupNext, h]

/-! ### Pending entries -/

section Pending

variable {s : State} {i : Nat} {e : Pend}

theorem fetchComplete_ctData (he : Store.get? s.flow.pend i = some e) (hw : e.waits = .ctData) :
    fetchComplete i s = tierStat (drain i e.created true s) := by
  simp only [fetchComplete, he, hw]

/-- A fetch whose record stands in firkin promotes it (R156). -/
theorem fetchComplete_firkin {f : Nat × Firkin} (he : Store.get? s.flow.pend i = some e) (hw : e.waits = .fetch)
    (hf : firkinOf s e.key = some f) : fetchComplete i s =
      tierStat (drain i false true (enterGill e.key (fun s x => Profile.sketch (activeProfile s x.profile)) s)) := by
  simp only [fetchComplete, he, hw, hf, Option.isNone_some, Option.isSome_some, Bool.false_and, Bool.false_eq_true, if_false, if_true]

/-- A fetch whose key no tier holds, none lost and no channel of its buckets in training, is a miss (R28, R156, R335). -/
theorem fetchComplete_miss (he : Store.get? s.flow.pend i = some e) (hw : e.waits = .fetch) (hf : firkinOf s e.key = none)
    (hlost : s.mem.lost.any (fun y => y.2 == e.key) = false) (hheld : fetchHeld s e.key = false) (ht : tunOf s e.key = none) :
    fetchComplete i s = tierStat (missed i s) := by
  simp only [fetchComplete, he, hw, hf, hlost, hheld, ht, Option.isNone_none, Option.isSome_none, Bool.and_false, Bool.false_eq_true,
    if_false]

theorem missTimeout_late {x : State} (he : Store.get? s.flow.pend i = some e) (hq : e.queue ≠ [])
    (hlate : clamp 20 10000 (s.get FLW_MISS_CTRL_TIMEOUT_US) * 1000 ≤ s.clock - e.since)
    (hx : x = setPend i { e with queue := [], ctReady := false, created := false, cause := none } s) :
    missTimeout i s = report (srcFlow 2) (e.queue.foldl (fun s d => flowRefuse FLW_REFUSE_TMO d s) x) := by
  subst hx
  have hempty : e.queue.isEmpty = false := List.isEmpty_eq_false_iff.mpr hq
  simp only [missTimeout, he, hempty, Nat.not_lt.mpr hlate, decide_false, Bool.or_self, Bool.false_eq_true, if_false]

theorem strictAck_waiting (he : Store.get? s.flow.pend i = some e) (hw : e.waits = .partner) :
    strictAck i s = tierStat (drain i e.created true (ackArrived e.key (s.bump FLW_STRICT_WAIT_CNT))) := by
  simp only [strictAck, he, hw, if_true]

end Pending

/-! ### Homing, write-through and write-back -/

section Tiers

variable {s x t : State} {key : List Byte}

/-- A record that finds its slot is no longer pinned (R161). -/
theorem tunInsertion_placed {rest : List (List Byte)} {i : Nat} {f : Firkin} (hh : s.flow.homing = key :: rest)
    (hx : x = { s with flow := { s.flow with homing := rest } }) (hf : firkinOf x key = some (i, f)) (hp : placeTun f x = (t, true)) :
    tunInsertion s = tierStat (onFirkin key (fun y => { y with pinned := false }) t) := by
  subst hx
  simp only [tunInsertion, hh, hf, hp, if_true]

theorem writeThroughLand_free (h : landingHeld s = false) : writeThroughLand s =
    tierStat (resume (fun e => e.waits = .writeThrough) (fun i s => drain i false false s) (landWriteThrough s)) := by
  simp only [writeThroughLand, h, Bool.false_eq_true, if_false]

theorem writeBackNext_inTime {since : Nat} (hd : s.flow.dirty.find? (fun d => !tunMarked s d.1) = some (key, since))
    (ht : s.clock - since ≤ wbPeriod s) : writeBackNext s = tierStat (writeBack key s) := by
  simp only [writeBackNext, hd, Nat.not_lt.mpr ht, decide_false, Bool.false_and, Bool.false_eq_true, if_false]

/-- The fault of late write-backs, at most once a second (R169). -/
def reportLate (s : State) : State :=
  if s.flow.lateAt = 0 ∨ nsPerSec ≤ s.clock - s.flow.lateAt
  then report (srcFlow 4) { s with flow := { s.flow with lateAt := s.clock } } else s

/-- A write-back whose period has passed is counted as late and reported (R169). -/
theorem writeBackNext_late {since : Nat} (hd : s.flow.dirty.find? (fun d => !tunMarked s d.1) = some (key, since))
    (ht : wbPeriod s < s.clock - since) (hx : x = s.bump FLW_WB_LATE_CNT) :
    writeBackNext s = tierStat (writeBack key (reportLate x)) := by
  subst hx
  simp only [writeBackNext, reportLate, hd, ht, decide_true, Bool.true_and, Bool.or_eq_true, decide_eq_true_eq, if_true]

/-- The gill copy of a key leaves gill where it is idle (R165). -/
def demoteGill (key : List Byte) (s : State) : State :=
  if (gillOf s key).any (fun g => idleFor s g.2.lastT (clamp 1 600 (s.get FLW_DEMOTE_CTRL_GILL_IDLE_S))) then evictGill key s else s

/-- The firkin copy of a key that gill does not hold leaves firkin where it is idle (R165). -/
def demoteFirkin (key : List Byte) (s : State) : State :=
  if (gillOf s key).isNone && (firkinOf s key).any (fun e => idleFor s e.2.lastT (clamp 60 2000 (s.get FLW_DEMOTE_CTRL_FIRKIN_IDLE_S)))
  then evictFirkin key s else s

/-- A demotion goes through gill and then firkin, of a record that replacement may take (R163, R165). -/
theorem demote_free (h : copyBusy s key = false) : demote key s = tierStat (demoteFirkin key (demoteGill key s)) :=
  if_neg (ne_true_of_eq_false h)

end Tiers

/-! ### Sweeps and deletions -/

section Deletion

variable {s : State} {key : List Byte}

theorem tunSweep_early (h : s.clock < s.flow.sweepAt + clamp 15 65535 (s.get FLW_AGE_CTRL_SWEEP_S) * nsPerSec) : tunSweep s = s := by
  simp only [tunSweep, h, decide_true, Bool.or_true, if_true]

/-- The active exports that a sweep finds due join those before, and the list of skipped ones starts afresh (R204, R206). -/
def noteDue (due : List (List Byte)) (s : State) : State :=
  { s with flow := { s.flow with due := s.flow.due.filter (fun k => !due.contains k) ++ due, skipped := [] } }

/-- A sweep that is due notes the active exports and visits every slot of tun (R170). -/
theorem tunSweep_due {x : State} {keys due : List (List Byte)} (hen : s.on FLW_AGE_CTRL_AGE_EN = true)
    (ht : s.flow.sweepAt + clamp 15 65535 (s.get FLW_AGE_CTRL_SWEEP_S) * nsPerSec ≤ s.clock) (hk : keys = s.flow.tun.slots.map (fun e => e.2.key))
    (hd : due = keys.filter (fun k => agesHere s && (s.flow.skipped.contains k || (recordOf s k).any (activeDue s))))
    (hx : x = keys.foldl (fun s k => idleDeletion k s) (noteDue due s)) :
    tunSweep s = { x with flow := { x.flow with sweptAt := x.nowNs, sweepAt := x.clock } } := by
  subst hk hd hx
  simp only [tunSweep, noteDue, hen, Nat.not_lt.mpr ht, decide_false, Bool.not_true, Bool.or_self, Bool.false_eq_true, if_false]

/-- The pending entry i that the deletion of a key opens (R171). -/
def deletionEntry (key : List Byte) (s : State) : Pend := ⟨key, [], s.clock, .deletion, false, false, none⟩

/-- Record f of a key is due in tun, this device ages, no frame was counted on it since, and pending entry i is free for its
deletion (R170, R171, R364). -/
structure DueFor (s : State) (key : List Byte) (i : Nat) (f : Firkin) : Prop where
  stands : ∃ n y, tunOf s key = some (n, y) ∧ isDue s y = true
  here : agesHere s = true
  uncounted : countedSince s key = false
  unopened : pendOf s key = none
  free : freePend s = some i
  record : recordOf s key = some f

/-- The deletion of a due record (R171): as its profile asks, an idle event or the deletion at once. -/
theorem idleDeletion_due {i : Nat} {f : Firkin} (h : DueFor s key i f) : idleDeletion key s =
    if raisesEvent (activeProfile s f.profile) 2 then
      ((raiseIdle (profProg (activeProfile s f.profile)) f.idleS (if f.lead then key else f.link.getD key) key i s).map
        (setPend i (deletionEntry key s))).getD s
    else finishDeletion i (setPend i (deletionEntry key s) s) := by
  obtain ⟨⟨n, y, hy, hdue⟩, hhere, hcount, hopen, hfree, hrec⟩ := h
  simp only [idleDeletion, hy, hhere, hdue, hcount, hopen, hfree, hrec, Option.isSome_none, Bool.not_true, Bool.or_self,
    Bool.false_eq_true, if_false]
  cases raiseIdle (profProg (activeProfile s f.profile)) f.idleS (if f.lead then key else f.link.getD key) key i s <;> rfl

theorem finishDeletion_open {i : Nat} {e : Pend} (he : Store.get? s.flow.pend i = some e) : finishDeletion i s =
    if deletionRoom s e.key then afterDeletion i (deleteFlow e.key (some idleReason) (s.bump FLW_AGE_CNT))
    else setPend i { e with waits := .exportRoom } s := by
  simp only [finishDeletion, he]

theorem freeHeldPort_passed {i : Nat} {h : HeldPort} (hh : s.flow.heldPorts[i]? = some h) (ht : h.until_ ≤ s.clock) : freeHeldPort i s =
    { s with flow := { s.flow with
      ports := Store.erase s.flow.ports (key3 h.pool h.addr h.port), heldPorts := s.flow.heldPorts.eraseIdx i } } := by
  simp only [freeHeldPort, hh, Nat.not_lt.mpr ht, if_false]

end Deletion

/-- Settles O42: each row runs its event, and each event has the effect of its lemma. -/
theorem flowTableEventsComplete : Obligations.FlowTableEventsComplete := by
  unfold Obligations.FlowTableEventsComplete
  intro s x
  refine ⟨?lookup, ?pending, ?homing, ?land, ?writeBack, ?writeBackLate, ?demotion, ?sweep, ?sweepEarly, ?deletion, ?finish, ?port⟩
  case lookup => exact fun d rest h => exec_settles rfl (flowLookupNext_released h)
  case pending =>
    exact fun i e he => ⟨fun hw => exec_settles rfl (fetchComplete_ctData he hw),
      fun f hw hf => exec_settles rfl (fetchComplete_firkin he hw hf),
      fun hw hf hlost hheld ht => exec_settles rfl (fetchComplete_miss he hw hf hlost hheld ht),
      fun hq hlate hx => exec_settles rfl (missTimeout_late he hq hlate hx),
      fun hw => exec_settles rfl (strictAck_waiting he hw)⟩
  case homing => exact fun key rest i f t hh hx hf hp => exec_settles rfl (tunInsertion_placed hh hx hf hp)
  case land => exact fun h => exec_settles rfl (writeThroughLand_free h)
  case writeBack => exact fun key t hd ht => exec_settles rfl (writeBackNext_inTime hd ht)
  case writeBackLate => exact fun key t hd ht hx => exec_settles rfl (writeBackNext_late hd ht hx)
  case demotion =>
    rintro key y hb rfl
    exact exec_settles rfl (demote_free hb)
  case sweep => exact fun keys due hen ht hk hd hx => exec_settles rfl (tunSweep_due hen ht hk hd hx)
  case sweepEarly => exact fun h => exec_settles rfl (tunSweep_early h)
  case deletion =>
    rintro key n i y f e hy hhere hdue hcount hopen hfree hrec rfl
    have hdeletes := idleDeletion_due ⟨⟨n, y, hy, hdue⟩, hhere, hcount, hopen, hfree, hrec⟩
    refine ⟨fun hev => exec_settles rfl ?_, fun hev hraise => exec_settles rfl ?_⟩
    · rw [hdeletes, hev]
      rfl
    · rw [hdeletes, if_pos hev, hraise]
      rfl
  case finish => exact fun i e he => finishDeletion_open he
  case port => exact fun i h hh ht => exec_settles rfl (freeHeldPort_passed hh ht)

end Sys2Proof.Machine

/-! The events of telemetry export and of task scheduling (R204 to R206, R216 to R218, R223, R231, R235, R236, R400, R440): the effect of
each where it has something to do. -/

namespace Sys2Proof.Machine

/-! ### Telemetry export -/

section Exports

variable {s x : State} {key : List Byte} {f : Firkin}

/-- An active export that falls due is skipped and reported once the export queue is three quarters full, else queued (R204, R206). -/
theorem activeExport_due (hf : recordOf s key = some f) (hd : s.flow.due.contains key = true)
    (hx : x = { s with flow := { s.flow with due := s.flow.due.filter (fun k => k != key) } }) :
    activeExport key s = if 49152 ≤ x.flow.exports.length then report (srcFlow 11)
      (({ x with flow := { x.flow with skipped := x.flow.skipped ++ [key] } } : State).bump FLW_TLM_SKIP_CNT) else exportRecord f 2 x := by
  have hrec : recordOf x key = some f := by rw [hx]; exact hf
  subst hx
  simp only [activeExport, hd, hrec, Bool.not_true, Bool.false_eq_true, if_false]

theorem telemetryExport_active : telemetryExport key 2 s = activeExport key s := if_pos rfl

/-- The end record of a deletion that waits for the export queue comes about in the deletion (R206). -/
theorem telemetryExport_room {reason i : Nat} {e : Pend} (he : pendOf s key = some (i, e)) (hw : e.waits = .exportRoom)
    (hf : recordOf s key = some f) (hr : reason = idleReason s f) (hne : reason ≠ 2) :
    telemetryExport key reason s = finishDeletion i s := by
  subst hr
  simp only [telemetryExport, hne, he, hf, hw, decide_true, Bool.and_self, if_true, if_false]

/-- A batch that is full or overdue becomes a message of the records that fit, at least one (R206). -/
theorem exportMessage_due {n : Nat} {l : List ExportRec} {sets : List Byte}
    (hn : n = batchFits (clamp 512 8192 (s.get FLW_TLM_CTRL_MSG_MAX) - 16) s.flow.exports 0) (hq : s.flow.exports ≠ [])
    (hdue : n < s.flow.exports.length ∨ clamp 1 1000 (s.get FLW_TLM_CTRL_BATCH_US) * 1000 ≤ s.clock - s.flow.batchStart)
    (hl : l = s.flow.exports.take (max 1 n)) (hsets : sets = ipfixSets l.length l)
    (hx : x = { s with flow := { s.flow with
      exports := s.flow.exports.drop (max 1 n), ipfixSeq := (s.flow.ipfixSeq + l.length) % 2 ^ 32, batchStart := s.clock } }) :
    exportMessage s = sendMessage (ipfixHeader s sets.length s.flow.ipfixSeq ++ sets) x := by
  subst hn hl hsets hx
  have hfull : s.flow.exports.isEmpty = false := List.isEmpty_eq_false_iff.mpr hq
  simp only [exportMessage, hfull, Bool.false_or, Bool.not_eq_true', Bool.or_eq_false_iff, decide_eq_false_iff_not, ← not_or, hdue,
    not_true_eq_false, if_false]

/-- The template sets have never gone out, or TEMPLATE_S has passed since (R206). -/
def TemplatesDue (s : State) : Prop :=
  s.flow.templatesAt = none ∨ ∃ t, s.flow.templatesAt = some t ∧ t + clamp 1 3600 (s.get FLW_TLM_CTRL_TEMPLATE_S) * nsPerSec ≤ s.clock

theorem sendTemplates_due (hd : TemplatesDue s) (hto : (s.on FLW_TLM_CTRL_TO_RING || s.on FLW_TLM_CTRL_TO_PORT) = true) :
    sendTemplates s = sendTemplates.templateMessage { s with flow := { s.flow with templatesAt := some s.clock } } := by
  obtain hnever | ⟨t, ht, hpassed⟩ := hd
  · simp only [sendTemplates, hnever, hto, Bool.not_true, Bool.or_self, Bool.false_eq_true, if_false]
  · simp only [sendTemplates, ht, hpassed, hto, decide_true, Bool.not_true, Bool.or_self, Bool.false_eq_true, if_false]

theorem telemetryEpoch_early (h : epochDue s = false) : telemetryEpoch s = s := if_neg (ne_true_of_eq_false h)

/-- A new epoch counts its envelopes from 0 and sends its record first (R400, R401). -/
theorem telemetryEpoch_due (h : epochDue s = true) (hx : x = { s with ascor := { s.ascor with
    tlmEpoch := (s.ascor.tlmEpoch + 1) % 2 ^ 32, tlmCounter := 0, tlmKey := s.free, tlmAt := some s.clock } }) :
    telemetryEpoch s = sendTelemetry true (epochRecord x) { x with free := x.free + 24 } := by
  subst hx
  exact if_pos h

end Exports

/-! ### Dispatch of tasks and the tasks owed -/

section Tasks

variable {s x : State} {n i : Nat}

/-- The task leaves the on-die list of its cluster and level (R216). -/
def takeTask (c : Nat) (t : Task) (s : State) : State :=
  setLists c t.prio ((readyList s c t.prio).filter (fun y => y != t)) (spillList s c t.prio) s

/-- The dispatch of a task of a level that waited w ns, counted in the registers of its cluster and level (R216). -/
def countDispatch (c l w : Nat) (s : State) : State :=
  let y := (s.bump FLW_DISP c l).bumpBy w FLW_WAIT_SUM c l
  if y.num FLW_WAIT_MAX c l < w then y.setReg FLW_WAIT_MAX (BitVec.ofNat 64 w) c l else y

/-- A task as it starts on a core: no word run, its views as the records stand (R216, R224). -/
def startedTask (s : State) (t : Task) : Running :=
  ⟨t, programOf s t.prog, 0, List.replicate 16 0, recView s t (programOf s t.prog), evtView s t, [], none, [], 0,
    leField (recView s t (programOf s t.prog)) 44 1, none⟩

theorem dispatchTask_free {t : Task} (hs : serves s (5 + n / 16) = true) (hr : runningOn s n = none) (ht : nextTaskOf s (n / 16) = some t)
    (hx : x = takeTask (n / 16) t s) : dispatchTask n s = profileRefs (coreNow n t (setRunning n (startedTask x t)
      (countDispatch (n / 16) t.prio ((x.nowNs + 2 ^ 32 - t.raiseT) % 2 ^ 32) x))) := by
  subst hx
  simp only [dispatchTask, hs, hr, ht, Option.isSome_none, Bool.not_true, Bool.or_self, Bool.false_eq_true, if_false]
  rfl

variable {e : Pend} (he : Store.get? s.flow.pend i = some e) (hw : e.waits = .task true)

include he hw

theorem queueOwed_empty (hq : e.queue = []) : queueOwed i s = dropPend i s := by
  simp only [queueOwed, he, hw, hq]

/-- The task owed to an entry without a record is a FIRST task of its oldest frame (R218). -/
theorem queueOwed_first {d : Desc} {rest : List Desc} (hq : e.queue = d :: rest) (hf : firkinOf s e.key = none) :
    queueOwed i s = awaitTask 1 (profProg (activeProfile s d.act.profile)) 0 e.key e.key i s := by
  simp only [queueOwed, he, hw, hq, hf]

/-- The task owed to an entry with a record is an EXCEPTION task of that record (R218). -/
theorem queueOwed_exception {d : Desc} {rest : List Desc} {f : Nat × Firkin} (hq : e.queue = d :: rest) (hf : firkinOf s e.key = some f) :
    queueOwed i s = awaitTask 6 (profProg (activeProfile s f.2.profile)) (stateCode f.2.state) (leadOf s e.key) e.key i s := by
  simp only [queueOwed, he, hw, hq, hf]

end Tasks

/-! ### Faults of tasks -/

section Faults

variable {s : State} {n : Nat} {r : Running}

theorem taskTimeFault_running (hr : runningOn s n = some r) : taskTimeFault n s =
    if cycleLimit s ≤ r.cycles + waited s r then wordFault n (waited s r) 1 s else s := by
  simp only [taskTimeFault, hr]

/-- The core is freed of a task that a fault ends, the fault counted and reported, and the task's end noted (R227, R231). -/
def endByFault (n code : Nat) (t : Task) (s : State) : State :=
  taskEnd n 2 code t (report (srcCluster (n / 16) 3)
    ((((freeCore n s).bump FLW_TASK_FAULT_CNT).bump FLW_CORE_FAULT n).bump FLW_CORE_TASKS n))

/-- What becomes of the frames that a task held, or of the deletion it decides, when a fault ends it: by the task's kind (R231). -/
def faultOutcome (t : Task) (s : State) : State :=
  let act := if s.get FLW_TASK_CTRL_FAULT_ACT = 2 then 2 else 1
  if t.kind = 1 then firstResult t.pcopy t.pend act id none 0 s
  else if t.kind = 6 then exceptionResult t.pend act s
  else if t.kind = 4 then idleResult t.key 1 s
  else s

theorem taskFault_running {code : Nat} (hr : runningOn s n = some r) : taskFault n code s = faultOutcome r.task (endByFault n code r.task s) := by
  simp only [taskFault, hr]
  rfl

variable {t : Task}

theorem faultOutcome_first (hk : t.kind = 1) : faultOutcome t s =
    firstResult t.pcopy t.pend (if s.get FLW_TASK_CTRL_FAULT_ACT = 2 then 2 else 1) id none 0 s := if_pos hk

theorem faultOutcome_exception (hk : t.kind = 6) : faultOutcome t s =
    exceptionResult t.pend (if s.get FLW_TASK_CTRL_FAULT_ACT = 2 then 2 else 1) s := by
  simp [faultOutcome, hk]

theorem faultOutcome_idle (hk : t.kind = 4) : faultOutcome t s = idleResult t.key 1 s := by
  simp [faultOutcome, hk]

theorem faultOutcome_other (hk : t.kind ≠ 1 ∧ t.kind ≠ 4 ∧ t.kind ≠ 6) : faultOutcome t s = s := by
  obtain ⟨h1, h4, h6⟩ := hk
  simp only [faultOutcome, h1, h4, h6, if_false]

end Faults

/-! ### Timers, lost clusters and old programs -/

section Upkeep

variable {s x : State}

/-- Profile k is that of the record of a key where it stands, in firkin or else in tun (R235). -/
def ProfileOf (s : State) (key : List Byte) (k : Nat) : Prop :=
  (∃ f, firkinOf s key = some f ∧ k = f.2.profile) ∨ (firkinOf s key = none ∧ ∃ t, tunOf s key = some t ∧ k = leField t.2.data 46 2)

/-- A timer that is due is spent, and raises a TIMER task where the record's profile asks for one (R235). -/
theorem timerFire_due {i d k : Nat} {key : List Byte} (ht : s.fel.timers[i]? = some (d, key)) (hd : d ≤ s.nowNs)
    (hx : x = timerStat { s with fel := { s.fel with timers := s.fel.timers.eraseIdx i } }) (hk : ProfileOf x key k) :
    timerFire i s = if raisesEvent (activeProfile x k) 1 then raiseTask 3 (profProg (activeProfile x k)) d key key x else x := by
  subst hx
  obtain ⟨f, hf, rfl⟩ | ⟨hf, t, hslot, rfl⟩ := hk
  · simp only [timerFire, ht, Nat.not_lt.mpr hd, hf, if_false]
  · simp only [timerFire, ht, Nat.not_lt.mpr hd, hf, hslot, if_false]

/-- A fenced cluster that leaves another to serve is owed its map entries back and lost (R236, R440). -/
theorem loseCluster_fenced {c : Nat} {mine : List Nat} (hf : fenced s (5 + c) = true)
    (hrest : (List.range 4).all (fun k => k == c || fenced s (5 + k)) = false)
    (hm : mine = (List.range 64).filter (fun i =>
      bitsOf (s.num (if i < 32 then FLW_CLUSTER_MAP_0 else FLW_CLUSTER_MAP_1)) (2 * (i % 32) + 1) (2 * (i % 32)) == c)) :
    loseCluster c s = bbNote 4 3 c (clusterLoss c { s with fel := { s.fel with handBack := s.fel.handBack ++ mine.map (fun i => (i, c)) } }) := by
  subst hm
  simp only [loseCluster, hf, hrest, Bool.not_true, Bool.false_eq_true, if_false]

/-- An old program version that no running task uses is freed, and PROG_LOAD completes (R223). -/
theorem programSettle_drained (hx : x = programRefs s) (hd : x.on FLW_PROG_STAT_DRAINING = true) (hr : x.get FLW_PROG_STAT_OLD_REFS = 0) :
    programSettle s = finishWaiting (fun w => w.opcode == 0x0500) (fun _ => resOk) (x.put FLW_PROG_STAT_DRAINING 0) := by
  subst hx
  simp only [programSettle, hd, hr, bne_self_eq_false, Bool.not_true, Bool.or_self, Bool.false_eq_true, if_false]

end Upkeep

/-- Settles O43: each row runs its event, and each event has the effect of its lemma. -/
theorem telemetryAndTaskEventsComplete : Obligations.TelemetryAndTaskEventsComplete := by
  unfold Obligations.TelemetryAndTaskEventsComplete
  intro s x
  refine ⟨?active, ?waitingEnd, ?message, ?templates, ?epochEarly, ?epoch, ?dispatch, ?refill, ?owed, ?faults, ?timer, ?cluster, ?program⟩
  case active => exact fun key f hf hd hx => exec_settles rfl (telemetryExport_active.trans (activeExport_due hf hd hx))
  case waitingEnd => exact fun key reason i e f he hw hf hr hne => exec_settles rfl (telemetryExport_room he hw hf hr hne)
  case message =>
    exact fun n l sets hn hq hdue hl hsets hx => exec_settles rfl (congrArg exportRoomCame (exportMessage_due hn hq hdue hl hsets hx))
  case templates => exact fun hd hto => exec_settles rfl (sendTemplates_due hd hto)
  case epochEarly => exact fun h => exec_settles rfl (telemetryEpoch_early h)
  case epoch => exact fun h hx => exec_settles rfl (telemetryEpoch_due h hx)
  case dispatch =>
    rintro n w t y z p v hn hs hr ht hx rfl rfl rfl rfl rfl
    exact exec_settles (exec_within hn rfl) (dispatchTask_free hs hr ht hx)
  case refill =>
    rintro c l k hc hl rfl
    exact exec_within_both hc hl rfl
  case owed =>
    exact fun i e he hw => ⟨fun hq => exec_settles rfl (queueOwed_empty he hw hq),
      fun d rest hq hf => exec_settles rfl (queueOwed_first he hw hq hf),
      fun d rest f hq hf => exec_settles rfl (queueOwed_exception he hw hq hf)⟩
  case faults =>
    intro n r hn hr
    have htime := taskTimeFault_running hr
    refine ⟨fun h => exec_settles (exec_within hn rfl) (htime.trans (if_pos h)),
      fun h => exec_settles (exec_within hn rfl) (htime.trans (if_neg (Nat.not_le.mpr h))), ?_⟩
    rintro rfl
    have hfault : ∀ u, faultOutcome r.task (endByFault n 4 r.task s) = u → exec (.taskFault n) s = .next (settle u) :=
      fun u hu => exec_settles (exec_within hn rfl) ((taskFault_running hr).trans hu)
    exact ⟨fun h => hfault _ (faultOutcome_other h), fun h => hfault _ (faultOutcome_idle h), fun h => hfault _ (faultOutcome_exception h),
      fun h => hfault _ (faultOutcome_first h)⟩
  case timer => exact fun i d k key ht hd hx hk => exec_settles rfl (timerFire_due ht hd hx hk)
  case cluster => exact fun c mine hc hf hrest hm => exec_settles (exec_within hc rfl) (loseCluster_fenced hf hrest hm)
  case program => exact fun hx hd hr => exec_settles rfl (programSettle_drained hx hd hr)

end Sys2Proof.Machine

/-! The words of Felric (R222, Tables 9.6 and 9.7): where each format lays its fields, that the decoder reads exactly the words so laid
out, and that these are exactly the words of well-formed instructions. -/

namespace Sys2Proof.Machine

/-- The fields that every format has in common (Table 9.6): w is a word of 32 bits with an opcode and two fields of 4 bits. -/
def HasHead (w op x y : Nat) : Prop := w < 0x100000000 ∧ bitsOf w 31 26 = op ∧ bitsOf w 25 22 = x ∧ bitsOf w 21 18 = y

/-- The word w holds the fields of an instruction at their positions, and zero in the reserved ones (Tables 9.6 and 9.7). -/
def LaidOut (w : Nat) : FInstr → Prop
  | .regs op d a b => op ∈ opsA ∧ HasHead w op d a ∧ bitsOf w 17 14 = b ∧ bitsOf w 13 0 = 0
  | .imm op d a i => op ∈ opsI ∧ HasHead w op d a ∧ bitsOf w 17 0 = i ∧ (op = 0x18 → a = 0)
  | .mem st d a sp sz off =>
    HasHead w (if st then 0x21 else 0x20) d a ∧ bitsOf w 17 16 = sp ∧ bitsOf w 15 14 = sz ∧ bitsOf w 13 0 = off
  | .br a b c dist => HasHead w 0x28 a b ∧ bitsOf w 17 15 = c ∧ bitsOf w 14 8 = 0 ∧ bitsOf w 7 0 = dist ∧ dist ≠ 0
  | .ctl op d a n => op ∈ opsC ∧ HasHead w op d a ∧ bitsOf w 17 12 = 0 ∧ bitsOf w 11 0 = n
  | .fin r => HasHead w 0x3F 0 0 ∧ bitsOf w 17 8 = 0 ∧ bitsOf w 7 0 = r

/-! ### Opcodes -/

theorem opcode_lt {op : Nat} (h : op ∈ opsA ∨ op ∈ opsI ∨ op ∈ opsC) : op < 64 := by
  have hall : ∀ o ∈ opsA ++ (opsI ++ opsC), o < 64 := by decide
  exact hall op (by simpa using h)

theorem opsI_not_opsA {op : Nat} (h : op ∈ opsI) : op ∉ opsA := by revert h op; decide

theorem opsC_not_other {op : Nat} (h : op ∈ opsC) :
    op ∉ opsA ∧ op ∉ opsI ∧ op ≠ 0x20 ∧ op ≠ 0x21 ∧ op ≠ 0x28 := by revert h op; decide

/-! ### The decoder -/

/-- What the decoder reads is laid out in the word. -/
theorem laidOut_of_decodeFelric {w : Nat} {x : FInstr} (h : decodeFelric w = some x) : LaidOut w x := by
  unfold decodeFelric at h
  simp only [List.contains_iff_mem] at h
  obtain ⟨hw, h⟩ := Option.ite_none_left_eq_some.mp h
  have head : HasHead w _ _ _ := ⟨Nat.not_le.mp hw, rfl, rfl, rfl⟩
  split at h
  case isTrue hop =>
    obtain ⟨hlow, ⟨⟩⟩ := Option.ite_none_right_eq_some.mp h
    exact ⟨hop, head, rfl, hlow⟩
  split at h
  case isTrue hop =>
    obtain ⟨hli, ⟨⟩⟩ := Option.ite_none_left_eq_some.mp h
    exact ⟨hop, head, rfl, by simpa using hli⟩
  split at h
  case isTrue hop =>
    cases h
    obtain hop | hop : bitsOf w 31 26 = 0x20 ∨ bitsOf w 31 26 = 0x21 := by simpa using hop
    all_goals
      rw [hop] at head ⊢
      exact ⟨head, rfl, rfl, rfl⟩
  split at h
  case isTrue hop =>
    obtain ⟨hdist, ⟨⟩⟩ := Option.ite_none_right_eq_some.mp h
    obtain ⟨hzero, hdist⟩ : bitsOf w 14 8 = 0 ∧ bitsOf w 7 0 ≠ 0 := by simpa using hdist
    exact ⟨hop ▸ head, rfl, hzero, rfl, hdist⟩
  split at h
  case isTrue hop =>
    obtain ⟨hzero, ⟨⟩⟩ := Option.ite_none_right_eq_some.mp h
    exact ⟨hop, head, hzero, rfl⟩
  split at h
  case isTrue hop =>
    obtain ⟨hzero, ⟨⟩⟩ := Option.ite_none_right_eq_some.mp h
    obtain ⟨⟨hd, ha⟩, hzero⟩ : (bitsOf w 25 22 = 0 ∧ bitsOf w 21 18 = 0) ∧ bitsOf w 17 8 = 0 := by simpa using hzero
    rw [hop, hd, ha] at head
    exact ⟨head, hzero, rfl⟩
  case isFalse => cases h

/-- The decoder reads what is laid out in a word. -/
theorem decodeFelric_of_laidOut {w : Nat} {x : FInstr} (h : LaidOut w x) : decodeFelric w = some x := by
  cases x with
  | regs op d a b =>
    obtain ⟨hop, ⟨hw, rfl, rfl, rfl⟩, rfl, hlow⟩ := h
    simp [decodeFelric, Nat.not_le.mpr hw, hop, hlow]
  | imm op d a i =>
    obtain ⟨hop, ⟨hw, rfl, rfl, rfl⟩, rfl, hli⟩ := h
    simpa [decodeFelric, Nat.not_le.mpr hw, opsI_not_opsA hop, hop] using hli
  | mem st d a sp sz off =>
    obtain ⟨⟨hw, hop, rfl, rfl⟩, rfl, rfl, rfl⟩ := h
    cases st <;> simp_all [decodeFelric, Nat.not_le.mpr hw, opsA, opsI]
  | br a b c dist =>
    obtain ⟨⟨hw, hop, rfl, rfl⟩, rfl, hzero, rfl, hdist⟩ := h
    simp [decodeFelric, Nat.not_le.mpr hw, hop, opsA, opsI, hzero, hdist]
  | ctl op d a n =>
    obtain ⟨hop, ⟨hw, rfl, rfl, rfl⟩, hzero, rfl⟩ := h
    simp [decodeFelric, Nat.not_le.mpr hw, opsC_not_other hop, hop, hzero]
  | fin r =>
    obtain ⟨⟨hw, hop, hd, ha⟩, hzero, rfl⟩ := h
    simp [decodeFelric, Nat.not_le.mpr hw, hop, opsA, opsI, opsC, hd, ha, hzero]

/-! ### The words of instructions -/

/-- A head and 18 bits below it make up a word. -/
theorem hasHead_iff {w op x y : Nat} : HasHead w op x y ↔
    op < 64 ∧ x < 16 ∧ y < 16 ∧ w = op * 2 ^ 26 + x * 2 ^ 22 + y * 2 ^ 18 + bitsOf w 17 0 := by
  unfold HasHead bitsOf
  omega

/-- An instruction is laid out in a word exactly where it is well formed and the word is its own: with each field written as the quotient
and remainder that bitsOf takes, the two sides are the same division of a number of 32 bits into its fields. -/
theorem laidOut_iff {w : Nat} {x : FInstr} : LaidOut w x ↔ x.wf = true ∧ x.encode = w := by
  cases x <;> simp only [LaidOut, hasHead_iff, FInstr.wf, FInstr.encode, bitsOf, Bool.and_eq_true, Bool.or_eq_true, bne_iff_ne, beq_iff_eq,
    decide_eq_true_eq, List.contains_iff_mem, and_assoc, Nat.reduceAdd, Nat.reduceSub, Nat.reducePow]
  case regs =>
    refine and_congr_right fun hop => ?_
    have := opcode_lt (.inl hop)
    omega
  case imm =>
    refine and_congr_right fun hop => ?_
    have := opcode_lt (.inr (.inl hop))
    omega
  case mem => split <;> omega
  case br => omega
  case ctl =>
    refine and_congr_right fun hop => ?_
    have := opcode_lt (.inr (.inr hop))
    omega
  case fin => omega

/-- A word decodes to an instruction exactly where the instruction is well formed and the word is its own. -/
theorem decodeFelric_eq_some_iff {w : Nat} {x : FInstr} : decodeFelric w = some x ↔ x.wf = true ∧ x.encode = w :=
  ⟨fun h => laidOut_iff.mp (laidOut_of_decodeFelric h), fun h => decodeFelric_of_laidOut (laidOut_iff.mpr h)⟩

/-- Settles O27: a well-formed instruction is decoded from its own word. -/
theorem felricDecodeOfEncode : Obligations.FelricDecodeOfEncode :=
  fun _ h => decodeFelric_eq_some_iff.mpr ⟨h, rfl⟩

/-- Settles O28: a word is decoded to well-formed instructions only, and is their own. -/
theorem felricEncodeOfDecode : Obligations.FelricEncodeOfDecode :=
  fun _ _ h => decodeFelric_eq_some_iff.mp h

end Sys2Proof.Machine

/-! A step of a Felric core (R210, R227, R231): which instruction runs and which does not, what the task that goes on leaves, and what
registers hold. -/

namespace Sys2Proof.Machine

/-! ### Registers of a core -/

section Registers

variable {r : Running} {g h : Nat} {v : Word64}

@[simp] theorem setGpr_zero : setGpr 0 v r = r := rfl

theorem setGpr_pos (hg : g ≠ 0) : setGpr g v r = { r with regs := r.regs.set g v } := if_neg hg

@[simp] theorem gpr_zero : gpr r 0 = 0 := rfl

theorem gpr_pos (hg : g ≠ 0) : gpr r g = r.regs.getD g 0 := if_neg hg

theorem gpr_setGpr_same (hg : g ≠ 0) (hlen : g < r.regs.length) : gpr (setGpr g v r) g = v := by
  simp [setGpr_pos hg, gpr_pos hg, hlen]

theorem gpr_setGpr_other (hne : g ≠ h) : gpr (setGpr g v r) h = gpr r h := by
  by_cases hg : g = 0
  · simp [hg]
  by_cases hh : h = 0
  · simp [hh]
  · simp [setGpr_pos hg, gpr_pos hh, hne]

end Registers

/-! ### A task that goes on -/

section Proceed

variable {s : State} {n : Nat} {r r' : Running}

/-- A task that goes on changes its core's running task and registers. -/
theorem proceed_eq : proceed n r r' s =
    { s with regs := (proceed n r r' s).regs, fel := { s.fel with running := Store.set s.fel.running n r' } } := rfl

theorem runningOn_proceed_same : runningOn (proceed n r r' s) n = some r' := Store.get?_set_same ..

theorem runningOn_proceed_other {m : Nat} (h : m ≠ n) : runningOn (proceed n r r' s) m = runningOn s m := Store.get?_set_other _ _ _ _ h

/-- Its busy cycles are counted, and no other register changes. -/
theorem proceed_reg_busy : (proceed n r r' s).reg FLW_CORE_BUSY n = s.reg FLW_CORE_BUSY n + BitVec.ofNat 64 (r'.cycles - r.cycles) :=
  State.reg_bumpBy_same ..

theorem proceed_reg_other {q : Reg} {i j k : Nat} (h : q.addr i j k ≠ FLW_CORE_BUSY.addr n 0 0) :
    (proceed n r r' s).reg q i j k = s.reg q i j k := State.reg_setReg_other _ _ _ _ _ _ _ _ _ _ h

end Proceed

/-- Settles O25: the lemmas about a task that goes on and about the registers of a core. -/
theorem felricInstructionFrame : Obligations.FelricInstructionFrame :=
  fun _ _ _ _ => ⟨runningOn_proceed_same, fun _ => runningOn_proceed_other, proceed_reg_busy, fun _ _ _ _ => proceed_reg_other, proceed_eq,
    fun _ => rfl, fun _ _ hg => gpr_setGpr_same (Nat.pos_iff_ne_zero.mp hg), fun _ _ _ => gpr_setGpr_other⟩

/-! ### The next word -/

section Step

variable {s : State} {n : Nat} {timeout : Bool} {x : FInstr} {r : Running}

theorem felricStep_free (h : runningOn s n = none) : felricStep n timeout x s = s := by
  simp only [felricStep, h]

/-- A core whose cluster does not serve, or whose next word is another instruction, does nothing. -/
theorem felricStep_other (hr : runningOn s n = some r)
    (h : serves s (5 + n / 16) = false ∨ (r.prog.words[r.pc]?).bind decodeFelric ≠ some x) : felricStep n timeout x s = s := by
  have hskip : (!serves s (5 + n / 16) || (r.prog.words[r.pc]?).bind decodeFelric != some x) = true := by
    rcases h with h | h <;> simp [h]
  simp only [felricStep, hr, hskip, if_true]

/-- The next word of a serving core: fault TIME once the task has run its cycles, else the word executes (R231). -/
theorem felricStep_next (hr : runningOn s n = some r) (hs : serves s (5 + n / 16) = true)
    (hx : (r.prog.words[r.pc]?).bind decodeFelric = some x) :
    felricStep n timeout x s = if cycleLimit s ≤ r.cycles then taskFault n 1 s else execFelric n timeout x r s := by
  simp only [felricStep, hr, hs, hx, Bool.not_true, bne_self_eq_false, Bool.or_self, Bool.false_eq_true, if_false]

/-- A core about to execute an instruction executes it. -/
theorem exec_aboutTo {i : Instr} {u : State} (h : AboutTo n x r s) (hi : exec i s = within (n < 64) (felricStep n timeout x s))
    (hu : execFelric n timeout x r s = u) : exec i s = .next (settle u) := by
  obtain ⟨hn, hr, hs, hx, hc⟩ := h
  have hleft : ¬ cycleLimit s ≤ r.cycles := Nat.not_le.mpr hc
  have hstep : felricStep n timeout x s = u := by rw [felricStep_next hr hs hx, if_neg hleft, hu]
  exact exec_settles (exec_within hn hi) hstep

end Step

/-- Settles O26: the three ways in which a step of a core does not execute an instruction. -/
theorem felricOnlyTheNextWordRuns : Obligations.FelricOnlyTheNextWordRuns :=
  fun _ _ _ _ => ⟨felricStep_free, fun _ => felricStep_other, fun _ hr hs hx hc => (felricStep_next hr hs hx).trans (if_pos hc)⟩

end Sys2Proof.Machine

/-! The instructions of Felric (R224 to R235, Table 9.7): what each does on a core that is about to execute it. -/

namespace Sys2Proof.Machine

/-! ### Operations on registers and immediates -/

section Operations

variable {s : State} {n d a : Nat} {r : Running} {i : Instr} {v : Word64}

/-- The cycles of an operation on two registers (Table 9.7). -/
def regsCycles (op : Nat) : Nat := if op = 0x0A then 3 else if op = 0x1B then 2 else 1

theorem exec_regs {op b k : Nat} (h : AboutTo n (.regs op d a b) r s)
    (hi : exec i s = within (n < 64) (felricStep n false (.regs op d a b) s)) (hk : regsCycles op = k)
    (hv : aluOp op (gpr r a) (gpr r b) = v) : exec i s = .next (settle (proceed n r (nextWord k (setGpr d v r)) s)) :=
  exec_aboutTo h hi (by subst hk hv; rfl)

theorem exec_imm {op k : Nat} (h : AboutTo n (.imm op d a k) r s)
    (hi : exec i s = within (n < 64) (felricStep n false (.imm op d a k) s)) (hv : immOp op (gpr r a) k = v) :
    exec i s = .next (settle (proceed n r (nextWord 1 (setGpr d v r)) s)) :=
  exec_aboutTo h hi (by subst hv; rfl)

/-- The word of a condition: 1 where it holds, else 0. -/
theorem ofNat_ofBool (p : Prop) [Decidable p] : BitVec.ofNat 64 (ofBool (decide p)) = if p then 1 else 0 := by
  by_cases hp : p <;> simp [ofBool, hp]

theorem aluOp_sltu (x y : Word64) : aluOp 0x0D x y = if x.toNat < y.toNat then 1 else 0 := ofNat_ofBool _

theorem aluOp_slt (x y : Word64) : aluOp 0x0E x y = if x.toInt < y.toInt then 1 else 0 := ofNat_ofBool _

/-- The low six bits of an immediate of any width. -/
theorem shiftCount_ofNat (k : Nat) : (BitVec.ofNat 64 k).toNat % 64 = k % 64 := by
  rw [BitVec.toNat_ofNat]
  omega

end Operations

/-- Settles O22: every register instruction executes, and its value and cycles are those of its opcode. -/
theorem felricRegisterInstructions : Obligations.FelricRegisterInstructions := by
  unfold Obligations.FelricRegisterInstructions
  intro s n d a b r
  refine ⟨?add, ?sub, ?and, ?or, ?xor, ?shl, ?shr, ?sar, ?rotl, ?mul, ?minu, ?maxu, ?sltu, ?slt, ?crcw⟩
  case sltu => exact fun h => exec_regs h rfl rfl (aluOp_sltu _ _)
  case slt => exact fun h => exec_regs h rfl rfl (aluOp_slt _ _)
  all_goals exact fun h => exec_regs h rfl rfl rfl

/-- Settles O23: every immediate instruction executes, and its value is that of its opcode; the shifts take the low six bits. -/
theorem felricImmediateInstructions : Obligations.FelricImmediateInstructions := by
  unfold Obligations.FelricImmediateInstructions
  intro s n d a i r
  refine ⟨?addi, ?andi, ?ori, ?xori, ?shli, ?shri, ?sari, ?rotli, ?orh, ?rotb, ?li⟩
  case shli => exact fun h => exec_imm h rfl (congrArg (gpr r a <<< ·) (shiftCount_ofNat i))
  case shri => exact fun h => exec_imm h rfl (congrArg (gpr r a >>> ·) (shiftCount_ofNat i))
  case sari => exact fun h => exec_imm h rfl (congrArg (gpr r a).sshiftRight (shiftCount_ofNat i))
  case rotli => exact fun h => exec_imm h rfl (congrArg (gpr r a).rotateLeft (shiftCount_ofNat i))
  all_goals exact fun h => exec_imm h rfl rfl

/-! ### Memory, branches, CSRs, banks, notices and timers -/

section Others

variable {s : State} {n d a : Nat} {t : Bool} {r : Running}

/-- The address of a load or store: its base and offset, modulo 2^64 (R226). -/
def accessAddr (r : Running) (a off : Nat) : Nat := ((gpr r a).toNat + off) % 2 ^ 64

section Memory

variable {space size off c : Nat}

theorem execFelric_load {v : Nat} (h : loadFrom s n r space (accessAddr r a off) (sizeBytes size) = .value v) :
    execFelric n t (.mem false d a space size off) r s =
      proceed n r (nextWord (if space = 3 then 6 else 2) (setGpr d (BitVec.ofNat 64 v) r)) s := by
  rw [accessAddr] at h
  simp only [execFelric, h, Bool.false_eq_true, if_false]

theorem execFelric_load_fault (h : loadFrom s n r space (accessAddr r a off) (sizeBytes size) = .fault c) :
    execFelric n t (.mem false d a space size off) r s = wordFault n (if space = 3 then 6 else 2) c s := by
  rw [accessAddr] at h
  simp only [execFelric, h, Bool.false_eq_true, if_false]

theorem execFelric_store {s' : State} {r' : Running}
    (h : storeTo n r space (accessAddr r a off) (leBytes (sizeBytes size) (gpr r d).toNat) s = .inl (s', r')) :
    execFelric n t (.mem true d a space size off) r s = proceed n r (nextWord (if space = 3 then 6 else 2) r') s' := by
  rw [accessAddr] at h
  simp only [execFelric, h, if_true]

theorem execFelric_store_fault (h : storeTo n r space (accessAddr r a off) (leBytes (sizeBytes size) (gpr r d).toNat) s = .inr c) :
    execFelric n t (.mem true d a space size off) r s = wordFault n (if space = 3 then 6 else 2) c s := by
  rw [accessAddr] at h
  simp only [execFelric, h, if_true]

end Memory

theorem execFelric_branch {b cond dist : Nat} : execFelric n t (.br a b cond dist) r s =
    proceed n r (if brCond cond (gpr r a) (gpr r b) then { nextWord 1 r with pc := r.pc + dist } else nextWord 1 r) s := rfl

/-- A write to the ownership CSR of a bank gives away a bank of the core's own, and of another is fault BANK (R233). -/
theorem execFelric_csrw_bank {b : Nat} (hb : b < 32) : execFelric n t (.ctl 0x31 d a (0x100 + b)) r s =
    if s.get FLW_BANK_OWN_OWNER b = n then proceed n r (nextWord 1 r) (s.put FLW_BANK_OWN_OWNER ((gpr r a).toNat % 128) b)
    else wordFault n 1 3 s := by
  have hcsr : 0x100 + b < 0x120 := by omega
  by_cases h : s.get FLW_BANK_OWN_OWNER b = n <;> simp [execFelric, hcsr, h]

/-- A write to any other CSR is without effect (Table 9.7). -/
theorem execFelric_csrw_other {k : Nat} (hk : k < 0x100 ∨ 0x120 ≤ k) :
    execFelric n t (.ctl 0x31 d a k) r s = proceed n r (nextWord 1 r) s := by
  have hcsr : (decide (0x100 ≤ k) && decide (k < 0x120)) = false := by
    rw [Bool.and_eq_false_imp, decide_eq_true_eq, decide_eq_false_iff_not]
    omega
  simp [execFelric, hcsr]

theorem execFelric_note {k : Nat} : execFelric n t (.ctl 0x34 d a k) r s = if 4 ≤ r.notes.length then wordFault n 1 5 s
    else proceed n r (nextWord 1 { r with notes := r.notes ++ [gpr r a] }) s := rfl

end Others

/-! ### BWAIT -/

section Bwait

variable {s : State} {n d b : Nat} {timeout : Bool} {r : Running}

/-- The cycles that a BWAIT has taken: all 4096 at its timeout, else those it has waited. -/
def bwaitCycles (timeout : Bool) (s : State) (r : Running) : Nat := if timeout then 4096 else waited s r

theorem execBwait_limit (hl : cycleLimit s ≤ r.cycles + bwaitCycles timeout s r) :
    execBwait n d b timeout r s = wordFault n (bwaitCycles timeout s r) 1 s := if_pos hl

variable (hl : r.cycles + bwaitCycles timeout s r < cycleLimit s)

include hl

theorem execBwait_owned (ho : s.get FLW_BANK_OWN_OWNER b = n) : execBwait n d b timeout r s =
    proceed n r { nextWord (max 1 (waited s r)) (setGpr d 1 r) with waitAt := none } s :=
  (if_neg (Nat.not_le.mpr hl)).trans (if_pos ho)

/-- A BWAIT of a bank of another ends after its 4096 cycles with 0, and waits before. -/
theorem execBwait_unowned (ho : s.get FLW_BANK_OWN_OWNER b ≠ n) : execBwait n d b timeout r s =
    if timeout then proceed n r { nextWord 4096 (setGpr d 0 r) with waitAt := none } s
    else if r.waitAt.isSome then s else setRunning n { r with waitAt := some s.clock } s :=
  (if_neg (Nat.not_le.mpr hl)).trans (if_neg ho)

end Bwait

/-- Settles O24: every other instruction executes, and each has the effect of its lemma. -/
theorem felricOtherInstructions : Obligations.FelricOtherInstructions := by
  unfold Obligations.FelricOtherInstructions
  intro s n d a r
  refine ⟨?load, ?loadFault, ?store, ?storeFault, ?branch, ?noBranch, ?csrr, ?csrwBank, ?csrwForeign, ?csrwOther, ?bwaitOwned,
    ?bwaitTimeout, ?bwaitWaits, ?bwaitLimit, ?note, ?fifthNote, ?tarm, ?finish⟩
  case load => exact fun space size off v h hv => exec_aboutTo h rfl (execFelric_load hv)
  case loadFault => exact fun space size off f h hf => exec_aboutTo h rfl (execFelric_load_fault hf)
  case store => exact fun space size off s' r' h hst => exec_aboutTo h rfl (execFelric_store hst)
  case storeFault => exact fun space size off f h hf => exec_aboutTo h rfl (execFelric_store_fault hf)
  case branch => exact fun b cond dist h hc => exec_aboutTo h rfl (by rw [execFelric_branch, if_pos hc])
  case noBranch => exact fun b cond dist h hc => exec_aboutTo h rfl (by rw [execFelric_branch, if_neg (ne_true_of_eq_false hc)])
  case csrr => exact fun k h => exec_aboutTo h rfl rfl
  case csrwBank => exact fun b hb h ho => exec_aboutTo h rfl (by rw [execFelric_csrw_bank hb, if_pos ho])
  case csrwForeign => exact fun b hb h ho => exec_aboutTo h rfl (by rw [execFelric_csrw_bank hb, if_neg ho])
  case csrwOther => exact fun k hk h => exec_aboutTo h rfl (execFelric_csrw_other hk)
  case bwaitOwned => exact fun k timeout h ho hl => exec_aboutTo h rfl (execBwait_owned hl ho)
  case bwaitTimeout => exact fun k h ho hl => exec_aboutTo h rfl (execBwait_unowned (timeout := true) hl ho)
  case bwaitWaits => exact fun k h ho hl => exec_aboutTo h rfl (execBwait_unowned (timeout := false) hl ho)
  case bwaitLimit => exact fun k timeout h hl => exec_aboutTo h rfl (execBwait_limit hl)
  case note => exact fun k h hk => exec_aboutTo h rfl (by rw [execFelric_note, if_neg (Nat.not_le.mpr hk)])
  case fifthNote => exact fun k h hk => exec_aboutTo h rfl (by rw [execFelric_note, if_pos hk])
  case tarm => exact fun k h => exec_aboutTo h rfl rfl
  case finish => exact fun result h => exec_aboutTo h rfl rfl

end Sys2Proof.Machine

/-! The commands of the Felric engine (R218 to R223, R233, R234): the answer of each where its operands are good. -/

namespace Sys2Proof.Machine

section FelricCommands

variable {s t : State} {c : Cmd}

/-! ### Programs -/

/-- The slot of a program image takes its program, and the running tasks of another version of that slot are counted (R223). -/
def installProgram (slot : Nat) (p : Prog) (s : State) : State :=
  programRefs (({ s with fel := { s.fel with progs := Store.set s.fel.progs slot p } } : State).put FLW_PROG_STAT_SLOT slot)

theorem progLoad_good {obj : Nat} {x : StagedObj} {p : Prog} (hx : stagedOf s obj = some x) (hk : leField x.bytes 0 2 = 2)
    (hv : s.get ASC_MIN_VER_MIN_VER 2 ≤ leField x.bytes 2 2) (hh : progHeader s x.bytes = true)
    (hw : programOk (leField x.bytes 5 1) (numbersOf x.bytes 64 4 (leField x.bytes 6 2)) = true)
    (hp : p = ⟨leField x.bytes 2 2, leField x.bytes 5 1, leField x.bytes 8 4, numbersOf x.bytes 64 4 (leField x.bytes 6 2)⟩)
    (ht : t = installProgram (leField x.bytes 4 1) p s) :
    progLoad obj true s = if t.get FLW_PROG_STAT_OLD_REFS = 0 then ok_ t
      else .wait 0 0 (leField x.bytes 4 1) (t.put FLW_PROG_STAT_DRAINING 1) := by
  subst hp ht
  rw [progLoad, withImage_good hx hk hv]
  simp only [hh, hw, Bool.not_true, Bool.or_self, Bool.false_eq_true, if_false]
  rfl

theorem progUnload_unnamed {slot : Nat} {p : Prog} (h0 : slot ≠ 0) (hp : Store.get? s.fel.progs slot = some p)
    (hn0 : profileNames s.flow.policy0 slot = false) (hn1 : profileNames s.flow.policy1 slot = false) :
    progUnload slot s = .done resOk { s with fel := { s.fel with progs := Store.erase s.fel.progs slot } } := by
  simp only [progUnload, ok_, h0, hp, hn0, hn1, decide_false, Option.isNone_some, Bool.or_self, Bool.false_eq_true, if_false]

/-! ### Posted tasks -/

/-- The task that TASK_POST raises (R220). -/
def postedTask (prog arg : Nat) (key : List Byte) (s : State) : Task :=
  newTask s 7 prog arg (leadOf s (padTo 40 key)) (padTo 40 key) false 0

theorem taskPost_room {prog arg : Nat} {key : List Byte} (hp : prog < 256) (ha : arg < 2 ^ 64)
    (hq : queueTask (postedTask prog arg key s) (takeTaskId s) = some t) :
    taskPost prog arg key s = .done (resWith (postedTask prog arg key s).ident) (countEvent 8 0x07 7 1 t) := by
  rw [postedTask] at hq ⊢
  simp only [taskPost, okWith, hq, Nat.not_le.mpr hp, Nat.not_le.mpr ha, decide_false, Bool.or_self, Bool.false_eq_true, if_false]

theorem taskCancel_queued {n : Nat} (hr : s.fel.running.any (fun e => e.2.task.ident == n) = false)
    (hq : (List.range 4).any (fun l => (queuedTasks s l).any (fun t => t.ident == n && t.kind == 7)) = true) :
    taskCancel n s = .done resOk (cancelTasks (fun t => t.ident == n && t.kind == 7) s) := by
  simp only [taskCancel, ok_, hr, hq, Bool.false_eq_true, if_false, if_true]

theorem taskCancel_dispatched {n : Nat} (hr : s.fel.running.any (fun e => e.2.task.ident == n) = true) :
    taskCancel n s = .done (resFail 0x0B) s := if_pos hr

/-! ### Banks -/

theorem bankOwnSet_good {b owner : Nat} (hb : b < 32) (ho : owner < 0x42 ∨ owner = 0x7F) :
    bankOwnSet b owner s = .done resOk (s.put FLW_BANK_OWN_OWNER owner b) := by
  have howner : (decide (owner < 0x42) || owner == 0x7F) = true := by simpa using ho
  simp only [bankOwnSet, ok_, howner, Nat.not_le.mpr hb, decide_false, Bool.not_true, Bool.or_self, Bool.false_eq_true, if_false]

theorem bankRead_good {b off : Nat} (hb : b < 32) (ho : off + 64 ≤ 262144) :
    bankRead c b off s = giveResult c 0 0 ((List.range 64).map (fun i => bankByte s (262144 * b + off + i))) 0 s := by
  simp only [bankRead, Nat.not_le.mpr hb, Nat.not_lt.mpr ho, decide_false, Bool.or_self, Bool.false_eq_true, if_false]

end FelricCommands

/-- Settles O16: each row runs its command, and each command with good operands has the answer of its lemma. -/
theorem felricCommandsComplete : Obligations.FelricCommandsComplete := by
  unfold Obligations.FelricCommandsComplete
  intro s c
  refine ⟨?load, ?unload, ?post, ?cancel, ?dispatched, ?owner, ?read⟩
  case load =>
    exact fun obj x p t h hx hk hv hh hw hp ht => taken_concludes h rfl (by decide) (progLoad_good hx hk hv hh hw hp ht)
  case unload => exact fun slot p h h0 hp hn0 hn1 => taken_completes h rfl (by decide) (progUnload_unnamed h0 hp hn0 hn1)
  case post => exact fun prog arg key t h hp ha hq => taken_completes h rfl (by decide) (taskPost_room hp ha hq)
  case cancel => exact fun n h hr hq => taken_completes h rfl (by decide) (taskCancel_queued hr hq)
  case dispatched => exact fun n h hr => taken_completes h rfl (by decide) (taskCancel_dispatched hr)
  case owner => exact fun b owner h hb ho => taken_completes h rfl (by decide) (bankOwnSet_good hb ho)
  case read => exact fun b off h hb ho => taken_concludes h rfl (by decide) (bankRead_good hb ho)

end Sys2Proof.Machine

/-! Spill and the park area (R249 to R255, R59, R60): that each slot of a row with parity is the XOR of the other seven, and what each
event does where it is due. -/

namespace Sys2Proof.Machine

/-! ### Rows with parity (R250, R254) -/

/-- The XOR of a list of slots. -/
def xorAll (l : List (List Byte)) : List Byte := l.foldl xorBytes (zeros 256)

theorem xorAll_perm {l m : List (List Byte)} (h : l.Perm m) : xorAll l = xorAll m :=
  have : RightCommutative xorBytes := ⟨fun a b c => by rw [xorBytes_assoc, xorBytes_comm b c, xorBytes_assoc]⟩
  h.foldl_eq _

theorem xorAll_cons (a : List Byte) (l : List (List Byte)) : xorAll (a :: l) = xorBytes a (xorAll l) := by
  have : Std.Associative xorBytes := ⟨xorBytes_assoc⟩
  rw [xorAll, List.foldl_cons, xorBytes_comm, List.foldl_assoc]
  rfl

theorem length_xorAll {l : List (List Byte)} (h : ∀ a ∈ l, a.length = 256) : (xorAll l).length = 256 := by
  induction l with
  | nil => exact List.length_replicate
  | cons a l ih =>
    obtain ⟨ha, hl⟩ := List.forall_mem_cons.mp h
    rw [xorAll_cons, length_xorBytes, ha, ih hl, min_self]

/-- Of slots whose XOR is zero, one is the XOR of the others. -/
theorem xorAll_others {a : List Byte} {l : List (List Byte)} (h : ∀ b ∈ a :: l, b.length = 256) (hz : xorAll (a :: l) = zeros 256) :
    xorAll l = a := by
  obtain ⟨ha, hl⟩ := List.forall_mem_cons.mp h
  calc xorAll l = xorBytes a (xorBytes a (xorAll l)) := (xorBytes_cancel a _ (ha.trans (length_xorAll hl).symm)).symm
    _ = xorBytes (zeros a.length) a := by rw [← xorAll_cons, hz, xorBytes_comm, ha]
    _ = a := zeros_xorBytes a

/-- The positions of a row: one of them, and the other seven. -/
theorem positions_perm {p : Nat} (hp : p < 8) : (List.range 8).Perm (p :: (List.range 8).filter (fun j => j != p)) := by
  rw [← List.nodup_range.erase_eq_filter]
  exact List.perm_cons_erase (List.mem_range.mpr hp)

section Row

variable (s : State) (q : Nat) (g : Segment) (r : Nat)

/-- The slot at position p of a row with parity. -/
def rowSlot (p : Nat) : List Byte :=
  match slotAt r p with
  | some k => dataSlot s q g k
  | none => paritySlot s q g r

/-- The seven data slots of a row. -/
def rowData : List (List Byte) := (List.range 7).map (fun i => dataSlot s q g (7 * r + i))

theorem paritySlot_eq : paritySlot s q g r = xorAll (rowData s q g r) := rfl

theorem length_rowData : ∀ a ∈ rowData s q g r, a.length = 256 := by
  simp [rowData]

theorem length_paritySlot : (paritySlot s q g r).length = 256 := length_xorAll (length_rowData s q g r)

theorem length_rowSlot (p : Nat) : (rowSlot s q g r p).length = 256 := by
  unfold rowSlot
  split
  · exact length_dataSlot ..
  · exact length_paritySlot ..

theorem rowSlot_parityPos : rowSlot s q g r (parityPos r) = paritySlot s q g r := by
  simp [rowSlot, slotAt]

/-- The positions other than that of parity hold the data slots in their order. -/
theorem map_rowSlot_data : ((List.range 8).filter (fun j => j != parityPos r)).map (rowSlot s q g r) = rowData s q g r := by
  have horder : ∀ k < 8, ((List.range 8).filter (fun j => j != k)).map (fun p => if p < k then p else p - 1) = List.range 7 := by decide
  rw [rowData, ← horder _ (parityPos_lt r), List.map_map]
  refine List.map_congr_left fun p hp => ?_
  have hne : p ≠ parityPos r := by simpa using (List.mem_filter.mp hp).2
  simp [rowSlot, slotAt, hne]

/-- The XOR of the eight slots of a row with parity is zero. -/
theorem xorAll_row : xorAll ((List.range 8).map (rowSlot s q g r)) = zeros 256 := by
  rw [xorAll_perm ((positions_perm (parityPos_lt r)).map _), List.map_cons, map_rowSlot_data, rowSlot_parityPos, xorAll_cons,
    ← paritySlot_eq, xorBytes_self, length_paritySlot]

variable {s q g r} {p : Nat} (h : g.parity = true)

include h

theorem segmentSlot_of_parity : segmentSlot s q g r p = some (rowSlot s q g r p) := by
  unfold segmentSlot rowSlot
  cases slotAt r p with
  | none => exact if_pos h
  | some k => rfl

theorem rebuiltSlot_of_parity :
    rebuiltSlot s q g r p = some (xorAll (((List.range 8).filter (fun j => j != p)).map (rowSlot s q g r))) := by
  rw [rebuiltSlot, xorAll, List.foldl_map]
  refine List.foldl_hom some fun a j => ?_
  rw [segmentSlot_of_parity h]

/-- In a row with parity, what is rebuilt of a position is what was written there. -/
theorem rebuiltSlot_eq_segmentSlot (hp : p < 8) : rebuiltSlot s q g r p = segmentSlot s q g r p := by
  have hz := xorAll_row s q g r
  rw [xorAll_perm ((positions_perm hp).map _), List.map_cons] at hz
  have hlen : ∀ a ∈ (p :: (List.range 8).filter (fun j => j != p)).map (rowSlot s q g r), a.length = 256 :=
    List.forall_mem_map.mpr fun j _ => length_rowSlot s q g r j
  rw [rebuiltSlot_of_parity h, segmentSlot_of_parity h, xorAll_others hlen hz]

end Row

/-! ### Spill segments (R249, R251, R252) -/

section Spill

variable {s x : State} {q : Nat}

/-- A full or overdue assembly is written out. -/
theorem segmentWrite_due (h : 196 ≤ cellsOn s (queueOf s q).asm ∨ 196 ≤ (queueOf s q).asm.length ∨ asmOverdue s q = true) :
    segmentWrite q s = settleBuffer (writeAssembly q s) := by
  rcases h with h | h | h <;> simp [segmentWrite, h]

theorem asmFlush_overdue (h : asmOverdue s q = true) : asmFlush q s = settleBuffer (writeAssembly q s) := if_pos h

theorem ackSegment_found {n : Nat} {g : Segment} (h : (queueOf s q).segs.find? (fun g => g.number == n && !g.acked) = some g) :
    ackSegment q n s = settleBuffer (landed n g.copies (setQueue q { queueOf s q with
      segs := (queueOf s q).segs.map (fun h => if h.number == n && !h.acked then { h with acked := true } else h) } s)) := by
  simp only [ackSegment, h]

theorem readBack_low {g : Segment} {rest : List Segment} (hg : (queueOf s q).segs = g :: rest) (hp : (queueOf s q).parked = false)
    (hr : (queueOf s q).reading = none) (ha : g.area ≠ .die) (hack : g.acked = true)
    (hlow : cellsOn s (queueOf s q).head < clamp 256 65535 (s.get BUF_SPILL_CFG_HEAD_LOW))
    (hx : x = setQueue q { queueOf s q with segs := rest, reading := some g } s) :
    readBack q s = settleBuffer (countEvent 6 0x06 0xFFF 1 (x.bumpBy (rebuilds x g 0 224) BUF_SPILL_REBUILD_CNT)) := by
  have harea : (g.area != .die) = true := bne_iff_ne.mpr ha
  have hhead : headLow s (queueOf s q) = true := decide_eq_true hlow
  subst hx
  simp only [readBack, hg, hp, hr, harea, hack, hhead, Option.isNone_none, Bool.not_false, Bool.and_self, if_true]

theorem landReadBack_reading {g : Segment} (h : (queueOf s q).reading = some g) :
    landReadBack q s = settleBuffer (setQueue q (rejoin { queueOf s q with
      head := (queueOf s q).head ++ g.copies.map (fun c => if carries s g c then { c with res := true, since := s.nowNs } else c)
      reading := none, stalled := false }) (freeSegment g s)) := by
  simp only [landReadBack, h]

/-! ### Direct reads of multicast copies (R252, R254) -/

variable {c : Copy} {rest : List Copy} {y : Frame}

/-- A direct read of a frame for a queue is in progress. -/
def holdDirect (f q : Nat) (s : State) : State := { s with buf := { s.buf with direct := s.buf.direct ++ [(f, q)] } }

variable (hh : (queueOf s q).head = c :: rest) (hy : frameOf s c.frame = some y) (hm : y.multicast = true) (hb : y.inHbm = true)
  (hd : s.buf.direct.contains (c.frame, q) = false)

include hh hy hm hb hd

theorem mcDirectRead_segment {g : Segment} {n k : Nat} (hs : segmentOf s y = some g) (hk : y.segment = some (n, k)) :
    mcDirectRead q s = holdDirect c.frame q ((s.bumpBy (rebuilds s g k c.cells) BUF_SPILL_REBUILD_CNT).bump BUF_MC_DIRECT_CNT) := by
  simp only [mcDirectRead, hh, hy, hm, hb, hd, hs, hk, Bool.not_true, Bool.or_self, Bool.false_eq_true, if_false]
  rfl

theorem mcDirectRead_no_segment (hs : segmentOf s y = none) : mcDirectRead q s = holdDirect c.frame q (s.bump BUF_MC_DIRECT_CNT) := by
  simp only [mcDirectRead, hh, hy, hm, hb, hd, hs, Bool.not_true, Bool.or_self, Bool.false_eq_true, if_false]
  rfl

end Spill

/-! ### The park area (R59, R60, R255) -/

section Park

variable {s x : State} {p t : Nat} {rest : List Nat} {y : Queue}

/-- Queue q takes its place in the park area: its head first, then what stood in segments, then its assembly as far as it has ended. -/
def parkQueue (q : Nat) (y : Queue) (s : State) : State :=
  let z := y.head.foldl (fun s c => parkOne q c s) (setQueue q { noQueue with parked := true } s)
  let u := setQueue q { queueOf z q with segs := (queueOf z q).segs ++ y.reading.toList ++ y.segs } z
  parkTail q y.asm (setQueue q { queueOf u q with asm := y.asm.map (fun c => { c with res := false }) } u)

variable (ht : (portOf s p).toPark = t :: rest) (hy : y = queueOf s (8 * p + t)) (hx : x = onPort p (fun y => { y with toPark := rest }) s)

include ht hy hx

theorem parkNext_full (hfull : x.buf.parkSegs < parkUsed x + parkNeed x y) :
    parkNext p s = holdStat p (raiseAt (srcPort p) 1
      (postEvent 0x0012 p [BitVec.ofNat 8 t] (onPort p (fun z => { z with heldOnDie := z.heldOnDie ++ [t] }) x))) := by
  subst hy hx
  simp only [parkNext, ht, if_neg (Nat.not_le.mpr hfull)]

theorem parkNext_room (hroom : parkUsed x + parkNeed x y ≤ x.buf.parkSegs) :
    parkNext p s = holdStat p (settleBuffer
      (postEvent 0x0011 p [BitVec.ofNat 8 t] ((parkQueue (8 * p + t) y x).put PRT_STATUS_PARKED 1 p))) := by
  subst hy hx
  simp only [parkNext, ht, if_pos hroom]
  rfl

end Park

/-- Settles O44: in a row with parity the eight slots XOR to zero, so each is what the other seven rebuild; and each event, where it is
due, has the effect of its lemma. -/
theorem spillEventsComplete : Obligations.SpillEventsComplete := by
  unfold Obligations.SpillEventsComplete
  refine ⟨fun s q r p g hg hp => rebuiltSlot_eq_segmentSlot hg hp, fun s x => ⟨fun q hq =>
    ⟨?full, ?overdue, ?acknowledged, ?readBack, ?landed, ?direct⟩, ?park⟩⟩
  case full => exact fun h => exec_settles (exec_within hq rfl) (segmentWrite_due (or_assoc.mp (.inl h)))
  case overdue =>
    exact fun h => ⟨exec_settles (exec_within hq rfl) (asmFlush_overdue h),
      exec_settles (exec_within hq rfl) (segmentWrite_due (.inr (.inr h)))⟩
  case acknowledged =>
    rintro n g h rfl
    exact exec_settles (exec_within hq rfl) (ackSegment_found h)
  case readBack =>
    exact fun g rest hg hp hr ha hack hlow hx => exec_settles (exec_within hq rfl) (readBack_low hg hp hr ha hack hlow hx)
  case landed =>
    rintro g y h rfl rfl
    exact exec_settles (exec_within hq rfl) (landReadBack_reading h)
  case direct =>
    intro c rest y hh hy hm hb hd
    refine ⟨?_, ?_⟩
    · rintro g n k hs hk rfl
      exact exec_settles (exec_within hq rfl) (mcDirectRead_segment hh hy hm hb hd hs hk)
    · rintro hs rfl
      exact exec_settles (exec_within hq rfl) (mcDirectRead_no_segment hh hy hm hb hd hs)
  case park =>
    intro p t rest y hp ht hy hx
    refine ⟨fun hfull => exec_settles (exec_within hp rfl) (parkNext_full ht hy hx hfull), ?_⟩
    rintro z u v w hroom rfl rfl rfl rfl
    exact exec_settles (exec_within hp rfl) (parkNext_room ht hy hx hroom)

end Sys2Proof.Machine

/-! The partition of the buffer (R242): which registers set its parts, and what a write to one of them does. -/

namespace Sys2Proof.Machine

/-- The registers that set parts of the buffer aside (R242). -/
def bufferParts : List Reg := [BUF_POOL_CFG, BUF_SPILL_CFG, BUF_QPROF, BUF_PFCPROF_W0, BUF_PFCPROF_W1, BUF_QMAP, BUF_PFC_PORT]

/-- None of them has SG bits, or an effect that another register has. -/
theorem bufferParts_plain : ∀ r ∈ bufferParts, r.sg = 0 ∧ r ∉ [HST_DIAG_CTRL, PRT_MODE, PRT_PREEMPT, QTR_TCAM_BANK, QTR_SLEEP_CTRL] := by
  decide

theorem applyWrite_bufferPart {x : RegRef} (hx : x.reg ∈ bufferParts) (v : Nat) (s : State) : applyWrite x v s = writeBuffer x v s := by
  obtain ⟨-, hother⟩ := bufferParts_plain x.reg hx
  obtain ⟨-, hmode, hpreempt, hbank, hsleep⟩ : _ ∧ _ ∧ _ ∧ _ ∧ _ := by simpa using hother
  have hpart : bufferParts.contains x.reg = true := List.contains_iff_mem.mpr hx
  rw [bufferParts] at hpart
  simp only [applyWrite, hmode, hpreempt, hbank, hsleep, hpart, if_false, if_true]

/-- A write to one of them that covers a writable bit takes its RW bits. -/
theorem writeRef_bufferPart {x : RegRef} {m : Nat} (hx : x.reg ∈ bufferParts) (hm : m &&& x.reg.rw ≠ 0) (v : Nat) (s : State) :
    writeRef x m v s =
      writeBuffer x ((s.num x.reg x.i x.j x.k &&& ((m &&& x.reg.rw) ^^^ (2 ^ 64 - 1))) ||| (v &&& (m &&& x.reg.rw))) s := by
  obtain ⟨hsg, hother⟩ := bufferParts_plain x.reg hx
  obtain ⟨hdiag, -⟩ : _ ∧ _ := by simpa using hother
  rw [← applyWrite_bufferPart hx]
  simp only [writeRef, hsg, hdiag, hm, Nat.and_zero, bne_self_eq_false, Bool.false_eq_true, if_false]

/-- The minimums of the 768 queues are those of their profiles (R243). -/
theorem reservedCells_eq (s : State) : reservedCells s =
    ((List.range 768).map (fun q => s.get BUF_QPROF_MIN (queueProfile s q))).sum +
      ((List.range 96).map (fun p => ((List.range 8).filter (fun i => bitOf (s.get BUF_PFC_PORT_LOSSLESS p) i)).length *
        s.get BUF_PFCPROF_W1_HDRM (s.get BUF_PFC_PORT_PROFILE p))).sum + clamp 4096 131072 (s.get BUF_SPILL_CFG_SPILL_RES) := by
  have hmin : (List.range 768).map (queueMin s) = (List.range 768).map (fun q => s.get BUF_QPROF_MIN (queueProfile s q)) :=
    List.map_congr_left fun q hq => if_pos (List.mem_range.mp hq)
  rw [← hmin]
  rfl

/-- The cells of every part (R242). -/
def partCells (s : State) : Nat := reservedCells s + s.get BUF_POOL_CFG_POOL0_SIZE + s.get BUF_POOL_CFG_POOL1_SIZE

section Write

variable {s t : State} {x : RegRef} {v : Nat} (ht : t = s.setReg x.reg (BitVec.ofNat 64 v) x.i x.j x.k)

include ht

theorem writeBuffer_over (h : 655360 < partCells t) : writeBuffer x v s = s.put BUF_RESERVE_STAT_CFG_ERR 1 := by
  subst ht
  exact if_pos h

theorem writeBuffer_fits (h : partCells t ≤ 655360) : writeBuffer x v s =
    settleBuffer ((t.put BUF_RESERVE_STAT_CFG_ERR 0).put BUF_RESERVE_STAT_RESERVED
      (partCells t - t.get BUF_POOL_CFG_POOL0_SIZE - t.get BUF_POOL_CFG_POOL1_SIZE)) := by
  have hreserved : partCells t - t.get BUF_POOL_CFG_POOL0_SIZE - t.get BUF_POOL_CFG_POOL1_SIZE = reservedCells t := by
    rw [partCells]
    omega
  rw [hreserved]
  subst ht
  exact if_neg (Nat.not_lt.mpr h)

end Write

/-! ### The reset values -/

/-- A field of a register whose reset value is the same in each of its places. -/
theorem get_reset {f : Fld} (h : ∀ i j, f.reg.resetAt i j = f.reg.reset) (i j k : Nat) :
    State.reset.get f i j k = bitsOf (f.reg.reset % 2 ^ 64) f.hi f.lo := by
  rw [State.get, State.num, State.reg, h, ← BitVec.toNat_ofNat]
  rfl

/-- Settles O59: a write to one of the registers is a write of the partition, which compares the sum of the parts; the reset values are
those of the register map. -/
theorem bufferPartsStayWithinTheCells : Obligations.BufferPartsStayWithinTheCells := by
  unfold Obligations.BufferPartsStayWithinTheCells
  refine ⟨?write, ?resetSum, fun p _ => get_reset (fun _ _ => rfl) p 0 0⟩
  case write =>
    rintro s t x m v value parts hx hm rfl ht hparts
    have hcells : parts = partCells t := by rw [hparts, partCells, reservedCells_eq]
    rw [writeRef_bufferPart hx hm, hcells]
    exact ⟨writeBuffer_over ht, writeBuffer_fits ht⟩
  case resetSum =>
    have hmin : ∀ q, State.reset.get BUF_QPROF_MIN (queueProfile State.reset q) = 16 := fun q => get_reset (fun _ _ => rfl) _ 0 0
    simp only [hmin, List.map_const', List.sum_replicate, List.length_range]
    decide

end Sys2Proof.Machine

/-! The commands of the clock (R296 to R298, R301, R306, R310): the answer of each where it is carried out. -/

namespace Sys2Proof.Machine

section TimeCommands

variable {s : State}

/-- TIME_STEP in STATE 1 steps the clock to its target and answers the times before and after (R297). -/
theorem timeStep_target {c : Cmd} {mode : Nat} {offset : Int} {sec ns b : Nat} (hst : s.get TIM_STAT_STATE = 1)
    (hb : stepTarget s mode offset ⟨sec, ns⟩ = some b) :
    timeStep c mode offset sec ns s = giveResult c 0 0 (stampBytes s.now ++ stampBytes (nsStamp b)) 0 (stepTo b s) := by
  simp only [timeStep, hst, hb, bne_self_eq_false, Bool.false_eq_true, if_false]

theorem timeAdj_inSession {incr temp ticks : Nat} (hs : inSession s = true) (hi : incr < 2 ^ 64) (ht : temp < 2 ^ 64) (hn : ticks < 2 ^ 32) :
    timeAdj incr temp ticks s = ok_ (adjustTime incr temp ticks s) := by
  simp only [timeAdj, hs, Nat.not_le.mpr hi, Nat.not_le.mpr ht, Nat.not_le.mpr hn, Bool.not_true, decide_false, Bool.or_self,
    Bool.false_eq_true, if_false]

theorem sessionCloseTime_inSession (hs : inSession s = true) : sessionCloseTime s = ok_ (enterHoldover 2 s) := if_pos hs

/-- TIME_PIN_SET with operands in range sets the pin (R306). -/
theorem timePinSet_inRange {k mode edge pol evt adj width ns sec period : Nat} (harg : pinArg k mode width ns period = false)
    (hedge : edge < 2) (hpol : pol < 2) (hevt : evt < 2) (hadj : adj < 2 ^ 16) (hwidth : width < 2 ^ 32) (hsec : sec < 2 ^ 48)
    (hperiod : period < 2 ^ 30) :
    timePinSet k mode edge pol evt adj width ns sec period s = ok_ (setPin k mode edge pol evt adj width ns sec period s) := by
  simp only [timePinSet, harg, Nat.not_lt.mpr (Nat.le_of_lt_succ hedge), Nat.not_lt.mpr (Nat.le_of_lt_succ hpol),
    Nat.not_lt.mpr (Nat.le_of_lt_succ hevt), Nat.not_le.mpr hadj, Nat.not_le.mpr hwidth, Nat.not_le.mpr hsec, Nat.not_le.mpr hperiod,
    decide_false, Bool.or_self, Bool.false_eq_true, if_false]

/-- TIME_WAKE of a quarter and a time in range: where Q4 serves the quarter's ports the wake is Q4's, and a quarter that is fenced for
another reason returns the command (R310). -/
theorem timeWake_inRange {q sec ns : Nat} (hq : q < 5) (hns : ns < nsPerSec) (hsec : sec < 2 ^ 48) : timeWake q sec ns s =
    if s.get PRT_QMUX_MOVED = q then ok_ (setWake 4 sec ns s) else if fenced s q then .back s else ok_ (setWake q sec ns s) := by
  simp only [timeWake, Nat.not_le.mpr hq, Nat.not_le.mpr hns, Nat.not_le.mpr hsec, decide_false, Bool.or_self, Bool.false_eq_true, if_false]

end TimeCommands

/-- Settles O18: each row runs its command, and each command that is carried out has the answer of its lemma. -/
theorem timeCommandsComplete : Obligations.TimeCommandsComplete := by
  unfold Obligations.TimeCommandsComplete
  intro s c
  refine ⟨?open_, ?step, ?adjust, ?close, ?pin, ?wake, ?wakeMoved, ?wakeFenced⟩
  case open_ => exact fun ht => taken_completes ht rfl (by decide) rfl
  case step => exact fun mode offset sec ns b ht hst hb => taken_concludes ht rfl (by decide) (timeStep_target hst hb)
  case adjust => exact fun incr temp ticks ht hs hi htemp hn => taken_completes ht rfl (by decide) (timeAdj_inSession hs hi htemp hn)
  case close => exact fun ht hs => taken_completes ht rfl (by decide) (sessionCloseTime_inSession hs)
  case pin =>
    exact fun k mode edge pol evt adj width ns sec period ht harg hedge hpol hevt hadj hwidth hsec hperiod =>
      taken_completes ht rfl (by decide) (timePinSet_inRange harg hedge hpol hevt hadj hwidth hsec hperiod)
  case wake =>
    intro q sec ns ht hq hns hsec hmoved hf
    exact taken_completes ht rfl (by decide) ((timeWake_inRange hq hns hsec).trans (by rw [if_neg hmoved, hf, if_neg Bool.false_ne_true]; rfl))
  case wakeMoved =>
    intro q sec ns ht hq hns hsec hmoved
    exact taken_completes ht rfl (by decide) ((timeWake_inRange hq hns hsec).trans (if_pos hmoved))
  case wakeFenced =>
    intro q sec ns ht hq hns hsec hmoved hf
    exact taken_concludes ht rfl (by decide) ((timeWake_inRange hq hns hsec).trans (by rw [if_neg hmoved, if_pos hf]))

end Sys2Proof.Machine

/-! The events of the clock, of its reference and pins, of rest and wake, and of the ageing planner and set points (R39, R293, R300, R302,
R306 to R310, R453 to R467, R505). -/

namespace Sys2Proof.Machine

/-! ### The clock, its reference and the PLLs -/

section Clock

variable {s : State}

theorem watchdogExpires_due (hs : inSession s = true) (hw : s.time.watch + clamp 100 60000 (s.get TIM_CTRL_WD_MS) * 1000000 ≤ s.clock) :
    watchdogExpires s = enterHoldover 1 s := if_pos (by simp [hs, hw])

theorem refLost_present (h : s.power.refPresent = true) : refLost s = report srcRefLost
    (State.put { s with power := { s.power with refPresent := false, aonOscillator := true } } TIM_STAT_REF_LOST 1) := if_neg (by simp [h])

theorem refReturns_absent (h : s.power.refPresent = false) : refReturns s =
    State.put { s with power := { s.power with refPresent := true, aonOscillator := s.power.unlocked.contains 0 } } TIM_STAT_REF_LOST 0 :=
  if_neg (by simp [h])

/-- A PLL that was locked is reported; PLL_A moves AON to its oscillator, and PLL_X resets the device (R453, Table 18.2). -/
theorem pllUnlock_locked {p : Nat} {x : State} (h : s.power.unlocked.contains p = false)
    (hx : x = report (srcPllUnlock p) { s with power := { s.power with unlocked := s.power.unlocked ++ [p] } }) : pllUnlock p s =
      if p = 0 then { x with power := { x.power with aonOscillator := true } }
      else if p = 1 then fullReset ((settleDue settleFuel x).freeWord.toNat % 16) (settleDue settleFuel x).drew
      else x := by
  subst hx
  exact if_neg (ne_true_of_eq_false h)

end Clock

/-! ### Pins and timed wakes -/

section Pins

variable {s : State} {k edge : Nat}

/-- Whether an edge on pin k comes within 100 ns of the last one (R308). -/
def edgeClose (s : State) (k : Nat) : Bool :=
  match (pinOf s k).lastEdge with
  | none => false
  | some u => s.clock < u + 100

theorem edgeClose_of_lt {u : Nat} (hu : (pinOf s k).lastEdge = some u) (h : s.clock < u + 100) : edgeClose s k = true := by
  simp only [edgeClose, hu, h, decide_true]

theorem edgeClose_of_spaced (h : (pinOf s k).lastEdge = none ∨ ∃ u, (pinOf s k).lastEdge = some u ∧ u + 100 ≤ s.clock) :
    edgeClose s k = false := by
  rcases h with hnone | ⟨u, hu, hge⟩
  · simp only [edgeClose, hnone]
  · simp only [edgeClose, hu, Nat.not_lt.mpr hge, decide_false]

/-- The captured time t in the registers of pin k (R308). -/
def showCapture (k : Nat) (t : Stamp) (s : State) : State :=
  ((s.put TIM_CAP_LO_NS t.ns k).put TIM_CAP_LO_SEC_LO (t.sec % 2 ^ 32) k).put TIM_CAP_HI_SEC_HI (t.sec / 2 ^ 32) k

/-- The capture is marked where TIME was stepped in its tick, and gets the next sequence number of the pin (R308). -/
def numberCapture (k : Nat) (s : State) : State := (s.flag TIM_CAP_HI_STEP s.time.stepTick k).inc TIM_CAP_HI_CAP_SEQ k

/-- The pin notes when its edge came (R308). -/
def noteEdge (k : Nat) (s : State) : State := onPin k (fun w => { w with lastEdge := some s.clock }) s

/-- The event of a capture, where the pin's events are enabled (R308, Table 16.9). -/
def postCapture (k : Nat) (t : Stamp) (s : State) : State :=
  if s.on TIM_PIN_CFG_EVT_EN k
  then postEventAt 0x0031 k t (leBytes 4 (s.get TIM_CAP_HI_CAP_SEQ k) ++ leBytes 1 (s.get TIM_CAP_HI_STEP k)) s else s

/-- The selected edge of a capture pin is counted where it comes too close, and is captured otherwise (R308, R311). -/
theorem pinCapture_selected (hmode : s.get TIM_PIN_CFG_MODE k = 1) (hedge : s.get TIM_PIN_CFG_EDGE k = edge) : pinCapture k edge s =
    if edgeClose s k then report (srcTime 4) (s.bump TIM_CAP_MISS_CNT)
    else postCapture k (adjusted s.now (signedOf 16 (s.get TIM_PIN_CFG_ADJ_PS k)))
      (noteEdge k (numberCapture k (showCapture k (adjusted s.now (signedOf 16 (s.get TIM_PIN_CFG_ADJ_PS k))) s))) :=
  if_neg (by simp [hmode, hedge])

theorem pinPulse_due {t : Nat} (hn : (pinOf s k).next = some t) (ht : t ≤ s.nowNs) : pinPulse k s = startPulse k s := by
  simp only [pinPulse, hn, Nat.not_lt.mpr ht, if_false]

theorem wakeFires_due {q : Nat} (hp : s.on TIM_WAKE_LO_PENDING q = true) (hd : wakeDue s (wakeAt s q) = true) :
    wakeFires q s = wakeUnit q (s.put TIM_WAKE_LO_PENDING 0 q) := if_pos (by simp [hp, hd])

end Pins

/-! ### Rest and wake of units -/

section Sleep

variable {s : State} {u : Nat}

theorem wakeUnit_resting (hr : resting s u = true) (hf : fenced s u = false) :
    wakeUnit u s = (busyNow u (setSleep u false true s)).bump PWR_WAKE_CNT u := if_pos (by simp [hr, hf])

theorem wakeDone_waking (hw : waking s u = true) : wakeDone u s = setSleep u false false s := if_pos hw

theorem wakeFails_waking (hw : waking s u = true) : wakeFails u s = report (srcQuarter u 3) (setSleep u true false s) := if_pos hw

/-- A unit in service whose rest is asked for is put to rest where it is empty, and counts a deferral otherwise (R456). -/
theorem restRequest_asked (hf : fenced s u = false)
    (ha : (if u < 5 then reserveRests s u || plannerRests s u else idleDue s u) = true) : restRequest u s = (restUnit u s).2 :=
  if_neg (by simp [hf, ha])

theorem idleDue_of_passed (hu : 5 ≤ u) (ha : autoRests s u = true) (he : unitEmpty s u = true)
    (ht : Store.getD s.power.busyAt u 0 + clamp 1 65535 (s.get PWR_REST_CFG_IDLE_US) * 1000 ≤ s.clock) : idleDue s u = true := by
  simp [idleDue, hu, ha, he, ht]

theorem idleRest_due (hf : fenced s u = false) (hd : idleDue s u = true) : idleRest u s = (restUnit u s).2 := if_neg (by simp [hf, hd])

end Sleep

/-! ### The ageing planner and the set points -/

section Planner

variable {s : State} {r : Nat} {readings : List (Nat × Int)} {lanes : List (Nat × Nat × Nat)}

/-- The measurement at start-up, once HKS runs (R460, R464). -/
theorem periodicMeasure_first (hrun : s.power.planRunning = false) (hage : s.power.ageAt = none) (hready : s.on PWR_READY_HOST_READY = true) :
    periodicMeasure readings lanes s = replan true readings lanes { s with power := { s.power with ageAt := some s.clock } } := by
  simp only [periodicMeasure, hrun, hage, hready, Bool.not_true, Bool.or_self, Bool.false_eq_true, if_false, Option.isNone_none]

/-- Later measurements follow the last one by PERIOD_H hours (R464). -/
theorem periodicMeasure_later {t : Nat} (hrun : s.power.planRunning = false) (hage : s.power.ageAt = some t) :
    periodicMeasure readings lanes s = if t + clamp 1 168 (s.get PWR_AGE_CFG_PERIOD_H) * 3600 * nsPerSec ≤ s.clock
      then replan false readings lanes { s with power := { s.power with ageAt := some s.clock } } else s := by
  by_cases hdue : t + clamp 1 168 (s.get PWR_AGE_CFG_PERIOD_H) * 3600 * nsPerSec ≤ s.clock <;>
    simp [periodicMeasure, hrun, hage, hdue]

theorem stepFree_of_passed (h : ∀ t, Store.get? s.power.steppedAt r = some t → t + 20000 ≤ s.clock) : stepFree s r = true := by
  unfold stepFree
  split
  case h_1 => rfl
  case h_2 t ht => exact decide_eq_true (h t ht)

/-- A rail away from its goal that may step makes one step, or keeps its set point where the transaction failed (R466, R505). -/
theorem setpointStep_free {acked : Bool} (hgoal : s.get PWR_AVS_SETPOINT_MV r ≠ targetSet s r) (hfail : s.power.avsFailed.contains r = false)
    (hrail : s.power.railsOut.contains r = false) (hfree : stepFree s r = true) : setpointStep r acked s =
      if acked then moveSetpoint r s
      else report srcAvsLink { s with power := { s.power with
        avsFailed := s.power.avsFailed ++ [r], avsAt := Store.set s.power.avsAt r s.clock } } :=
  if_neg (by simp [hgoal, hfail, hrail, hfree, -List.contains_eq_mem])

/-- 1 ms after a transaction that failed it is tried again (R505). -/
theorem avsRetry_due {acked : Bool} (hfail : s.power.avsFailed.contains r = true) (hrail : s.power.railsOut.contains r = false)
    (ht : Store.getD s.power.avsAt r 0 + 1000000 ≤ s.clock) : avsRetry r acked s =
      if acked then moveSetpoint r { s with power := { s.power with avsFailed := s.power.avsFailed.filter (fun j => j != r) } }
      else { s with power := { s.power with avsAt := Store.set s.power.avsAt r s.clock } } :=
  if_neg (by simp [hfail, hrail, Nat.not_lt.mpr ht, -List.contains_eq_mem])

end Planner

/-- Settles O47: each row runs its event, and each event has the effect of its lemma. -/
theorem timeAndPowerEventsComplete : Obligations.TimeAndPowerEventsComplete := by
  unfold Obligations.TimeAndPowerEventsComplete
  intro s x
  refine ⟨fun n => rfl, rfl, ?tempEnds, ?watchdog, ?lost, ?returns, ?unlock, ?capture, ?captureClose, ?pulse, fun k hk => exec_within hk rfl,
    ?wakeFires, fun u hu => ⟨?wakes, ?serves, ?rests, ?idles, ?fails⟩, ?plan, ?step, ?retry, rfl, fun w0 w1 w2 => rfl⟩
  case tempEnds => exact fun h => exec_settles rfl (if_pos h)
  case watchdog => exact fun hs hw => exec_settles rfl (watchdogExpires_due hs hw)
  case lost =>
    rintro h rfl
    exact exec_settles rfl (refLost_present h)
  case returns =>
    rintro h rfl
    exact exec_settles rfl (refReturns_absent h)
  case unlock =>
    intro p hp h hx
    have hrun := pllUnlock_locked h hx
    refine ⟨fun h0 => ?_, fun h1 => ?_, fun h2 => ?_⟩
    · rw [exec_within hp rfl, hrun, if_pos h0]
    · rw [exec_within hp rfl, hrun, if_neg (by omega), if_pos h1]
    · rw [exec_within hp rfl, hrun, if_neg (by omega), if_neg (by omega)]
  case capture =>
    rintro k edge t y z hk he hmode hedge hspaced rfl rfl rfl rfl
    rw [exec_within_both hk he rfl, pinCapture_selected hmode hedge, edgeClose_of_spaced hspaced,
      if_neg Bool.false_ne_true, postCapture, noteEdge, numberCapture, showCapture]
  case captureClose =>
    intro k edge u hk he hmode hedge hu hlt
    rw [exec_within_both hk he rfl, pinCapture_selected hmode hedge, if_pos (edgeClose_of_lt hu hlt)]
  case pulse =>
    intro k t hk hn ht
    rw [exec_within hk rfl, pinPulse_due hn ht, startPulse]
  case wakeFires =>
    intro q hq hp hd
    rw [exec_within hq rfl, wakeFires_due hp hd]
  case wakes =>
    intro hr hf
    rw [exec_within hu rfl, wakeUnit_resting hr hf]
  case serves =>
    intro hw
    rw [exec_within hu rfl, wakeDone_waking hw]
  case rests =>
    intro hf ha
    rw [exec_within hu rfl, restRequest_asked hf ha]
  case idles =>
    intro h5 hf ha he ht
    rw [exec_within hu rfl, idleRest_due hf (idleDue_of_passed h5 ha he ht)]
  case fails =>
    intro h5 hw
    rw [exec_within h5 rfl, wakeFails_waking hw]
  case plan =>
    rintro readings lanes hrun rfl
    exact ⟨fun hage hready => exec_settles rfl (periodicMeasure_first hrun hage hready),
      fun t hage => exec_settles rfl (periodicMeasure_later hrun hage)⟩
  case step =>
    rintro r cur target hr rfl rfl hgoal hfail hrail hpassed rfl
    have hfree := stepFree_of_passed hpassed
    refine ⟨?_, ?_⟩
    · rw [exec_within hr rfl, setpointStep_free hgoal hfail hrail hfree, if_pos rfl, moveSetpoint]
    · rw [exec_within hr rfl, setpointStep_free hgoal hfail hrail hfree, if_neg Bool.false_ne_true]
  case retry =>
    intro r hr hfail hrail ht
    refine ⟨?_, ?_⟩
    · rw [exec_within hr rfl, avsRetry_due hfail hrail ht, if_pos rfl]
    · rw [exec_within hr rfl, avsRetry_due hfail hrail ht, if_neg Bool.false_ne_true]

end Sys2Proof.Machine

/-! The events of the Varing lanes and of their containers (R313, R345 to R357, R397, R398). -/

namespace Sys2Proof.Machine

/-! ### The framer -/

section Framer

variable {s : State} {k b : Nat} {h : List Byte}

theorem varLane_onLane (k : Nat) (f : Lane → Lane) (s : State) : varLane (onLane k f s) k = f (varLane s k) := by
  rw [varLane, onLane, Store.upd, Store.getD_set, if_pos rfl]
  rfl

/-- A change of a lane counts only for what it makes of that lane. -/
theorem onLane_congr {f g : Lane → Lane} (hfg : f (varLane s k) = g (varLane s k)) : onLane k f s = onLane k g s := by
  rw [varLane] at hfg
  rw [onLane, onLane, Store.upd, Store.upd, hfg]

theorem laneHeader_hunt (hst : s.get VAR_LANE_STAT_FRAMER k = 0) (hb : b % 8 = 0) (hpos : (varLane s k).pos ≤ b)
    (hf : headerFits h = true) : laneHeader k b h s = setFramer k 1 (onLane k (fun l => { l with pos := b, good := 1 }) s) := by
  simp only [laneHeader, hst, hb, hpos, hf, decide_true, Bool.and_self, if_true]

/-- The lane in PRESYNC with one more good header (R345). -/
def countGood (k b : Nat) (s : State) : State := onLane k (fun l => { l with pos := b, good := l.good + 1, bad := 0 }) s

/-- In PRESYNC the fourth good header in a row brings SYNC, and one that does not fit ends the candidate (R345). -/
theorem laneHeader_presync (hst : s.get VAR_LANE_STAT_FRAMER k = 1) (hb : b = (varLane s k).pos + 4096) : laneHeader k b h s =
    if headerFits h then if (varLane s k).good = 3 then setFramer k 2 (countGood k b s) else countGood k b s
    else setFramer k 0 (onLane k (fun l => { l with pos := l.pos - 4096 * (l.good - 1) + 8 }) s) := by
  cases hf : headerFits h <;> simp [laneHeader, countGood, hst, ← hb, hf]

/-- The lane in SYNC after a header that does not fit: it is counted, and the frame's payload is lost (R345, R346). -/
def countBad (k b : Nat) (s : State) : State :=
  onLane k (fun l => { l with taken := false, mfNext := if l.aligned then (l.mfNext + 1) % 64 else l.mfNext })
    ((onLane k (fun l => { l with pos := b, bad := l.bad + 1 }) s).bump VAR_HDR_ERR k)

/-- In SYNC a fitting header is taken, and the seventh in a row that does not fit loses SYNC (R345). -/
theorem laneHeader_sync (hst : s.get VAR_LANE_STAT_FRAMER k = 2) (hb : b = (varLane s k).pos + 4096) : laneHeader k b h s =
    if headerFits h then takeHeader k h (onLane k (fun l => { l with pos := b, bad := 0 }) s)
    else if (varLane s k).bad = 6 then setFramer k 0 (countBad k b s) else countBad k b s := by
  cases hf : headerFits h <;> simp [laneHeader, countBad, hst, ← hb, hf]

end Framer

/-! ### Justification -/

section Justification

variable {s : State} {k : Nat} {t : LaneTx}

theorem nextJc_justified (h : t.jc ≠ 0) : nextJc t = 0 := if_pos (bne_iff_ne.mpr h)

/-- After a frame without justification JC goes by the fill of the FIFO (R350). -/
theorem nextJc_plain (h : t.jc = 0) : nextJc t = if t.fifo < 16 then 1 else if 48 < t.fifo then 2 else 0 := if_neg (by simp [h])

theorem nextJc_between (hlo : 16 ≤ t.fifo) (hhi : t.fifo ≤ 48) : nextJc t = 0 := by
  by_cases h : t.jc = 0
  · rw [nextJc_plain h, if_neg (Nat.not_lt.mpr hlo), if_neg (Nat.not_lt.mpr hhi)]
  · exact nextJc_justified h

/-- A frame that starts while there is a source has the JC of the FIFO's fill, and the payload of its JC (R348, R350). -/
theorem startLaneFrame_source (h : sourceReady s = true) : (varLane (startLaneFrame k s) k).tx.jc = nextJc (varLane s k).tx ∧
    (varLane (startLaneFrame k s) k).tx.room = payloadLen (nextJc (varLane s k).tx) := by
  simp only [startLaneFrame, varLane_onLane, h, if_true, and_self]

end Justification

/-! ### Defects and striping -/

section Striping

variable {s : State} {k code n : Nat}

theorem exec_laneDefect (hk : k < 4) (hlo : 1 ≤ code) (hhi : code ≤ 6) :
    exec (.laneDefect k code n) s = .next (settle (laneDefect k code n s)) :=
  exec_within_both (p := k < 4 ∧ 1 ≤ code) ⟨hk, hlo⟩ hhi (by rw [Bool.decide_and]; rfl)

theorem laneDefect_framer (hlo : 2 ≤ code) (hhi : code ≤ 5) : laneDefect k code n s = s := by
  rw [laneDefect, if_neg (by omega), if_neg (by omega)]

/-- RDI that comes or goes is shown with its event; where it comes it is a fault, and the lane leaves striping (R357). -/
theorem rdiReceived_changed {on : Bool} (h : s.on VAR_LANE_STAT_RDI_RX k = !on) : rdiReceived k on s =
    if on then report (srcLane k 2) (leaveStripe k (laneEvent k (s.flag VAR_LANE_STAT_RDI_RX on k)))
    else laneEvent k (s.flag VAR_LANE_STAT_RDI_RX on k) := if_neg (by simp [h])

theorem laneRejoin_free (hd : (varLane s k).defects = []) (ht : (varLane s k).freeSince + 1000000 ≤ s.clock)
    (hen : bitOf (s.get VAR_LANE_CFG_LANE_EN) k = true) (hrdi : s.on VAR_LANE_STAT_RDI_RX k = false)
    (hsync : s.get VAR_LANE_STAT_FRAMER k = 2) : laneRejoin k s = setStripe k true s :=
  if_pos (by simp [hd, ht, hen, hrdi, hsync])

end Striping

/-! ### Multiframes -/

section Multiframe

variable {s : State} {k : Nat} {oh : List Byte}

/-- A stamp of a multiframe's overhead, in nanoseconds (Table 14.4). -/
def overheadStamp (oh : List Byte) (i : Nat) : Nat := stampNs (stampOfBytes (slice oh i 10))

/-- The overhead of lane k is taken: the partner's state is noted, and a lane that is not the one of the headers is a fault (R346, R347). -/
def noteOverhead (k : Nat) (oh : List Byte) (s : State) : State :=
  let x := onLane k (fun l => { l with overhead := [] }) s
  let y := { x with pair := { x.pair with partnerState := leField oh 9 1, heard := x.clock } }
  if leField oh 8 1 = (varLane s k).sender then y else report (srcLane k 1) y

/-- The partner's offset by the four stamps of an exchange, of which this device took the last at its own time (R347). -/
def partnerOffset (oh : List Byte) (own : Nat) : Int :=
  (((overheadStamp oh 30 : Int) - (overheadStamp oh 20 : Int)) + ((overheadStamp oh 10 : Int) - (own : Int))) / 2

/-- The offset is shown, and one beyond OFS_MAX_NS is a fault (R313). -/
def noteOffset (ofs : Int) (s : State) : State :=
  let w := s.put TIM_PAIR_OFS_NS (sat32 ofs)
  if w.get TIM_PAIR_OFS_MAX_NS < ofs.natAbs then report (srcTime 2) w else w

/-- The stamp that goes back to the partner, with the time at which it came (Table 14.4). -/
def noteEcho (k stamp own : Nat) (s : State) : State := onLane k (fun l => { l with echo := some (stamp, own) }) s

/-- A multiframe whose OCRC fits gives its overhead, and on the lowest lane in SYNC the partner's offset (R346, R347). -/
theorem multiframe_fits (hoh : oh = (varLane s k).overhead) (hlen : oh.length = 128) (hcrc : crc16 (oh.take 126) = beField oh 126 2) :
    multiframe k s = noteEcho k (overheadStamp oh 10) (varLane s k).mfStart
      (if syncLane (noteOverhead k oh s) = some k then noteOffset (partnerOffset oh (varLane s k).mfStart) (noteOverhead k oh s)
      else noteOverhead k oh s) := by
  simp only [multiframe, ← hoh, hlen, hcrc, bne_self_eq_false, Bool.false_eq_true, if_false, noteEcho, overheadStamp, noteOverhead,
    noteOffset, partnerOffset]

end Multiframe

/-! ### Containers received -/

section Receive

variable {s x y : State} {k : Nat} {bytes : List Byte} {icvOk : Bool}

theorem containerReceive_untaken (ht : laneTakes s k = false) : containerReceive k bytes icvOk s = s := by
  simp only [containerReceive, ht, Bool.not_false, if_true, Bool.false_eq_true, if_false]

section Taken

variable (ht : laneTakes s k = true) (hx : x = { s with pair := { s.pair with heard := s.clock } })

include ht hx

/-- A container from a fenced partner is a violation, and is discarded (R370). -/
theorem containerReceive_fenced (hst : pairState x = 5 ∨ pairState x = 6) :
    containerReceive k bytes icvOk s = report (srcPair 8) (x.bump VAR_FENCE_VIOL_CNT) := by
  have hf : (pairState x = 5 || pairState x = 6) = true := by simpa using hst
  simp only [containerReceive, ht, if_true, ← hx, hf, Bool.not_true, Bool.false_eq_true, if_false]

/-- An authentic container that is no fill container, brings no key, and is neither old nor beyond the apply queue's room waits for its
turn, and those in order join the apply queue (R353). -/
theorem containerReceive_good {m : List (List Byte)} (hlo : 1 ≤ pairState x) (hhi : pairState x ≤ 4)
    (hy : y = takeAck (beField bytes 4 4) (beField bytes 8 2) x) (hfill : bitOf (beField bytes 12 1) 0 = false)
    (hfresh : (!bitOf (beField bytes 12 1) 1 && (bitOf (beField bytes 12 1) 2 != (y.pair.recvEpoch % 2 == 1))) = false)
    (hnew : 0 ≤ seqDiff (beField bytes 0 4) y.pair.rxNext) (hearly : Store.get? y.pair.early (beField bytes 0 4) = none)
    (hroom : seqDiff (beField bytes 0 4) y.pair.rxNext < ((applyRoom - y.pair.applyQueue.length : Nat) : Int))
    (hm : m = splitMessages 60 (slice bytes 16 (min 480 (beField bytes 10 2)))) : containerReceive k bytes true s =
      acceptContainers 256 { y with pair := { y.pair with early := Store.set y.pair.early (beField bytes 0 4) m } } := by
  have hf : (pairState x = 5 || pairState x = 6) = false := by simp; omega
  have hpaired : ¬ pairState x = 0 := by omega
  simp only [containerReceive, ht, if_true, ← hx, hf, hpaired, ← hy, hfill, hfresh, Int.not_lt.mpr hnew, hearly, hroom, ← hm,
    Bool.not_true, Option.isSome_none, decide_false, Bool.or_self, Bool.false_eq_true, if_false]

end Taken

end Receive

/-! ### Containers sent -/

section Send

variable {s x y z : State} {k n : Nat}

/-- The containers queued on lane k that the partner has not acknowledged (R354). -/
def queuedOn (s : State) (k : Nat) : List Nat := (varLane s k).tx.queue.filter (fun q => s.pair.sent.any (fun c => c.seq == q))

/-- The lane with its queue replaced. -/
def setLaneQueue (k : Nat) (l : List Nat) (s : State) : State := onLane k (fun x => { x with tx := { x.tx with queue := l } }) s

variable (hen : bitOf (s.get VAR_LANE_CFG_LANE_EN) k = true) (hx : x = laneBlocks k n s)

include hen hx

theorem containerSend_sourceless (hs : sourceReady x = false) : containerSend k n s = x := by
  simp only [containerSend, hen, ← hx, hs, Bool.not_true, Bool.not_false, Bool.false_eq_true, if_false, if_true]

variable (hs : sourceReady x = true) (hy : y = countEvent 10 0x01 k 1 x)

include hs hy

/-- A container queued on the lane goes first (R354). -/
theorem containerSend_queued {q : Nat} {rest : List Nat} {c : SentContainer} (hq : queuedOn y k = q :: rest) (hz : z = setLaneQueue k rest y)
    (hc : z.pair.sent.find? (fun c => c.seq == q) = some c) :
    containerSend k n s = giveLane k (containerBytes z q (containerFlags c) c.messages) z := by
  rw [queuedOn] at hq
  rw [setLaneQueue] at hz
  simp only [containerSend, hen, ← hx, hs, ← hy, hq, ← hz, hc, Bool.not_true, Bool.false_eq_true, if_false]

variable (hq : queuedOn y k = []) (hz : z = setLaneQueue k [] y)

include hq hz

/-- Without one a lane out of turn, or with nothing to send, sends a fill container (R353). -/
theorem containerSend_fill (h : outOrder z = [] ∨ turnLane z ≠ some k) : containerSend k n s = sendFill k z := by
  have hfill : ((outOrder z).isEmpty || turnLane z != some k) = true := by simpa using h
  rw [queuedOn] at hq
  rw [setLaneQueue] at hz
  simp only [containerSend, hen, ← hx, hs, ← hy, hq, ← hz, hfill, Bool.not_true, Bool.false_eq_true, if_false, if_true]

/-- The lane at its turn sends a container where the replay store and the partner's credit allow it (R353, R354). -/
theorem containerSend_turn (hout : outOrder z ≠ []) (hturn : turnLane z = some k) (hstore : z.pair.sent.length < 16384)
    (hcredit : seqDiff z.pair.nextSeq z.pair.acked ≤ (z.pair.credit : Int)) : containerSend k n s = sendContainer k z := by
  have hsend : ((outOrder z).isEmpty || turnLane z != some k) = false := by simp [hout, hturn]
  have hroom : ¬ replayStore ≤ z.pair.sent.length := Nat.not_le.mpr hstore
  rw [queuedOn] at hq
  rw [setLaneQueue] at hz
  simp only [containerSend, hen, ← hx, hs, ← hy, hq, ← hz, hsend, hroom, Int.not_lt.mpr hcredit, Bool.not_true, Bool.false_eq_true, if_false]

end Send

/-! ### Containers sent again -/

section Again

variable {s : State} {seq k : Nat} {c : SentContainer}

/-- The containers of the replay store with the one of a SEQ sent again, now and on lane k (R354). -/
def sentAgain (s : State) (seq k : Nat) : List SentContainer :=
  s.pair.sent.map (fun x => if x.seq = seq then { x with lane := k, sentAt := s.clock, due := false, again := true } else x)

theorem retransmit_late (hk : lightLane s = some k) (hc : s.pair.sent.find? (fun c => c.seq == seq) = some c) (hs : sourceReady s = true)
    (ht : c.sentAt + clamp 1000 65535 (s.get VAR_TIMING2_RETX_NS) ≤ s.clock) : retransmit seq s =
      queueOn k seq (countEvent 10 0x02 k 1 (State.bump { s with pair := { s.pair with sent := sentAgain s seq k } } VAR_RETX_CNT)) := by
  simp only [retransmit, sentAgain, hk, hc, hs, ht, decide_true, Bool.or_true, Bool.not_true, Bool.or_self, Bool.false_eq_true, if_false]

end Again

/-- Settles O51: each row runs its event, and each event has the effect of its lemma. -/
theorem laneEventsComplete : Obligations.LaneEventsComplete := by
  unfold Obligations.LaneEventsComplete
  intro s x
  refine ⟨fun k b h hk => ⟨?hunt, ?sync, ?candidateEnds, ?taken, ?bad⟩, fun t => ⟨nextJc_justified, ?jcLow, ?jcHigh, nextJc_between⟩,
    fun k hs => startLaneFrame_source hs, ⟨rfl, fun len p => rfl⟩, fun k n hk => ⟨?defect, ?degraded, ?framerDefects⟩, ?rdi, ?rejoin,
    ?multiframe, ?untaken, ?fenced, ?good, ?send, ?again, rfl, ?witnessStays, ?witnessRolls⟩
  case hunt =>
    intro hst hb hpos hf
    rw [exec_within hk rfl, laneHeader_hunt hst hb hpos hf]
  case sync =>
    rintro hst hb hf hgood rfl
    rw [exec_within hk rfl, laneHeader_presync hst hb, if_pos hf, if_pos hgood, countGood]
  case candidateEnds =>
    intro hst hb hf
    rw [exec_within hk rfl, laneHeader_presync hst hb, if_neg (ne_true_of_eq_false hf)]
  case taken =>
    rintro hst hb hf rfl
    rw [exec_within hk rfl, laneHeader_sync hst hb, if_pos hf]
  case bad =>
    intro hst hb hf hx
    have hbad : x = countBad k b s := by
      rw [hx, countBad, onLane_congr (f := fun l => { l with pos := b, bad := (varLane s k).bad + 1 })
        (g := fun l => { l with pos := b, bad := l.bad + 1 }) rfl]
    rw [exec_within hk rfl, laneHeader_sync hst hb, if_neg (ne_true_of_eq_false hf), hbad]
  case jcLow => exact fun hjc hlo => (nextJc_plain hjc).trans (if_pos hlo)
  case jcHigh => exact fun hjc hhi => (nextJc_plain hjc).trans (by rw [if_neg (by omega), if_pos hhi])
  case defect => exact exec_laneDefect hk (by decide) (by decide)
  case degraded => exact exec_laneDefect hk (by decide) (by decide)
  case framerDefects =>
    intro code hlo hhi
    rw [exec_laneDefect hk (by omega) (by omega), laneDefect_framer hlo hhi]
  case rdi =>
    rintro k on hk h rfl
    rw [exec_within hk rfl, rdiReceived_changed h]
  case rejoin =>
    intro k hk hd ht hen hrdi hsync
    rw [exec_within hk rfl, laneRejoin_free hd ht hen hrdi hsync]
  case multiframe =>
    intro k oh y z hk hoh hlen hcrc hx hy hz
    have hnoted : z = noteOverhead k oh s := by rw [hz, hy, hx, noteOverhead]
    have hrun := multiframe_fits hoh hlen hcrc
    rw [← hnoted] at hrun
    refine ⟨fun hlane => ?_, fun ofs w hlane hofs hw => ?_⟩
    · rw [exec_within hk rfl, hrun, if_neg hlane]
      rfl
    · have hoffset : ofs = partnerOffset oh (varLane s k).mfStart := hofs
      rw [exec_within hk rfl, hrun, if_pos hlane, ← hoffset, noteOffset, sat32, ← hw]
      rfl
  case untaken =>
    intro k bytes icvOk hk ht
    rw [exec_within hk rfl, containerReceive_untaken ht]
  case fenced =>
    intro k bytes icvOk hk ht hx hst
    rw [exec_within hk rfl, containerReceive_fenced ht hx hst]
  case good =>
    intro k bytes m y hk ht hx hlo hhi hy hfill hfresh hnew hearly hroom hm
    rw [exec_within hk rfl, containerReceive_good ht hx hlo hhi hy hfill hfresh hnew hearly hroom hm]
  case send =>
    intro k n y z hk hen hx
    refine ⟨fun hs => ?_, fun hs hy => ⟨fun q rest c hq hz hc => ?_, fun hq hz => ⟨fun h => ?_, fun hout hturn hstore hcredit => ?_⟩⟩⟩
    · rw [exec_within hk rfl, containerSend_sourceless hen hx hs]
    · rw [exec_within hk rfl, containerSend_queued hen hx hs hy hq hz hc]
    · rw [exec_within hk rfl, containerSend_fill hen hx hs hy hq hz h]
    · rw [exec_within hk rfl, containerSend_turn hen hx hs hy hq hz hout hturn hstore hcredit]
  case again =>
    rintro seq k c l hk hc hs ht rfl rfl
    exact exec_settles rfl (retransmit_late hk hc hs ht)
  case witnessStays => exact fun h => exec_settles rfl (if_pos (bne_iff_ne.mpr h))
  case witnessRolls => exact fun h => exec_settles rfl (if_neg (by simp [h]))

end Sys2Proof.Machine

/-! What a full device reset leaves (R58, R157, R231, R264, R295, R313, R369, R458, R460): each field reads the reset value of its
register table, and the lists of the device's parts are empty. -/

namespace Sys2Proof.Machine

/-- After reset a register reads the reset value of its place. -/
theorem num_reset (r : Reg) (i j k : Nat) : State.reset.num r i j k = r.resetAt i j % 2 ^ 64 := BitVec.toNat_ofNat ..

/-- A one-bit field of a register whose reset value is the same in each of its places. -/
theorem on_reset {f : Fld} (h : ∀ i j, f.reg.resetAt i j = f.reg.reset) (i j k : Nat) :
    State.reset.on f i j k = (bitsOf (f.reg.reset % 2 ^ 64) f.hi f.lo == 1) := congrArg (· == 1) (get_reset h i j k)

/-- RESERVE_REST is set in every quarter; of QTR_SLEEP_CTRL only the status bit of Q4 differs between the quarters (R458). -/
theorem reserveRest_reset {q : Nat} (hq : q < 5) : State.reset.on QTR_SLEEP_CTRL_RESERVE_REST q = true := by
  rw [State.on, State.get, num_reset]
  revert q
  decide

/-- Settles O60: the registers by `num_reset`, `get_reset` and `on_reset`, the rest by the definition of the state after reset. -/
theorem resetLeavesTheSpecValues : Obligations.ResetLeavesTheSpecValues := by
  unfold Obligations.ResetLeavesTheSpecValues
  refine ⟨rfl, rfl, num_reset TIM_INCR 0 0 0, on_reset (fun _ _ => rfl) 0 0 0, ?ready, fun r _ => on_reset (fun _ _ => rfl) r 0 0,
    fun p _ => ⟨on_reset (fun _ _ => rfl) p 0 0, get_reset (fun _ _ => rfl) p 0 0, get_reset (fun _ _ => rfl) p 0 0⟩,
    fun q hq => reserveRest_reset hq, get_reset (fun _ _ => rfl) 0 0 0, get_reset (fun _ _ => rfl) 0 0 0, get_reset (fun _ _ => rfl) 0 0 0,
    get_reset (fun _ _ => rfl) 0 0 0, get_reset (fun _ _ => rfl) 0 0 0, get_reset (fun _ _ => rfl) 0 0 0, get_reset (fun _ _ => rfl) 0 0 0,
    rfl, rfl, rfl, rfl, rfl, rfl, rfl, rfl⟩
  case ready =>
    rw [num_reset]
    decide

end Sys2Proof.Machine

/-! Commands as such (R22, R371, R390, R461): what an outcome can be, what a catalogue command does where it is turned away, and what its
completion, its answer and its result leave. -/

namespace Sys2Proof.Machine

/-! ### Outcomes -/

/-- Every command of the block has one effect, where the parts that it names exist, and is the fault of a missing unit where they do not. -/
theorem exec_within_wf (i : Instr) (s : State) : ∃ t, exec i s = within i.wf t := by
  cases i <;> exact ⟨_, rfl⟩

/-- A command that names existing parts answers a next state. -/
theorem exec_of_wf {i : Instr} (s : State) (h : i.wf = true) : ∃ t, exec i s = .next t := by
  obtain ⟨t, ht⟩ := exec_within_wf i s
  rw [ht]
  exact within_some h

/-- Settles O1, by the two equations of a step. -/
theorem stepRunsFrontCommand : Obligations.StepRunsFrontCommand := ⟨step_cons, step_nil⟩

/-- Settles O2. -/
theorem wellFormedCommandsComplete : Obligations.WellFormedCommandsComplete := fun _ s => exec_of_wf s

/-- Settles O3: the form of the command alone decides between its effect and the fault. -/
theorem onlyIllFormedCommandsStop : Obligations.OnlyIllFormedCommandsStop := by
  unfold Obligations.OnlyIllFormedCommandsStop
  intro i s
  cases h : i.wf with
  | true => exact .inl (exec_of_wf s h)
  | false =>
    obtain ⟨t, ht⟩ := exec_within_wf i s
    rw [h] at ht
    exact .inr ⟨rfl, ht⟩

/-! ### Catalogue commands -/

/-- A command of the catalogue is executed as such: by its ring, its opcode and its class. -/
theorem exec_catalogue {i : Instr} {c : Cmd} {op : Nat} {u : Bool} (s : State) (h : i.catalogue = some (c, op, u)) :
    ∃ body, exec i s = within (decide (c.ring < 4)) (command c op u body s) := by
  cases i <;> cases h <;> exact ⟨_, rfl⟩

/-- A command of the catalogue whose turn has not come only settles. -/
theorem catalogue_idle {i : Instr} {c : Cmd} {op : Nat} {u : Bool} {s : State} (h : i.catalogue = some (c, op, u)) (hr : c.ring < 4)
    (hx : executes s c op = false) : exec i s = .next (settle s) := by
  obtain ⟨body, hi⟩ := exec_catalogue s h
  rw [exec_within hr hi, command_idle c op u body s hx]

/-- A command of the catalogue that is rejected only completes as rejected (R390). -/
theorem catalogue_rejected {i : Instr} {c : Cmd} {op : Nat} {u : Bool} {s : State} (h : i.catalogue = some (c, op, u)) (hr : c.ring < 4)
    (hx : executes s c op = true) (hv : rejection c u ≠ 0) : exec i s = .next (settle (rejectCommand c op (rejection c u) s)) := by
  obtain ⟨body, hi⟩ := exec_catalogue s h
  rw [exec_within hr hi]
  simp [command, hx, hv]

/-- Settles O8. -/
theorem rejectedCommandsHaveNoEffect : Obligations.RejectedCommandsHaveNoEffect :=
  fun _ _ _ _ _ h hr => ⟨catalogue_rejected h hr, catalogue_idle h hr⟩

/-- Settles O9: past the rejections a command is refused for the partner's units, then for its form, then for its stage. -/
theorem refusedFormsOnlyComplete : Obligations.RefusedFormsOnlyComplete := by
  unfold Obligations.RefusedFormsOnlyComplete
  intro i c op u s h hr hx hv
  obtain ⟨body, hi⟩ := exec_catalogue s h
  rw [exec_within hr hi]
  refine ⟨fun hp => ?_, fun hp hres => ?_, fun hp hres hst => ?_⟩
  · simp [command, hx, hv, hp]
  · simp [command, hx, hv, hp, hres]
  · simp [command, hx, hv, hp, hres, hst]

/-! ### Completions, answers and results -/

/-- Settles O7, by what a completion can change. -/
theorem completionLeavesTheDataPath : Obligations.CompletionLeavesTheDataPath := by
  unfold Obligations.CompletionLeavesTheDataPath finish
  intro c op r s
  obtain ⟨m, a, f, p, h⟩ := complete_eq c.ring c.cseq op c.sealed c.session c.replayed r s
  rw [h]
  exact ⟨rfl, rfl, rfl, rfl, rfl, rfl, rfl, rfl, rfl, rfl, rfl, rfl, rfl, rfl⟩

section Results

variable {c : Cmd} {addr detail result : Nat} {bs : List Byte} {s : State}

theorem giveResult_unsealed (h : c.sealed = false) : giveResult c addr detail bs result s =
    .done ⟨0, detail, result, false⟩ { s with host := { s.host with buffers := Store.set s.host.buffers addr bs } } := by
  simp [giveResult, h]

theorem giveResult_staged {n : Nat} (h : c.sealed = true) (hn : freeObject s bs.length = some n) :
    giveResult c addr detail bs result s = .done ⟨0, detail, n, true⟩ (setStaged n bs s) := by
  simp [giveResult, h, hn]

theorem giveResult_full (h : c.sealed = true) (hn : freeObject s bs.length = none) :
    giveResult c addr detail bs result s = .done (resFail 2) s := by
  simp [giveResult, h, hn, failed]

end Results

/-- Settles O10: each kind of answer has its arm of conclude, and a result goes where its command was sealed or not. -/
theorem answersAndResults : Obligations.AnswersAndResults := by
  unfold Obligations.AnswersAndResults
  exact fun c op s => ⟨fun _ => rfl, fun _ _ _ => rfl, rfl, fun _ _ _ _ => giveResult_unsealed,
    fun _ _ _ _ _ => giveResult_staged, fun _ _ _ _ => giveResult_full⟩

/-! ### Registers and pins -/

/-- Settles O6, by the laws of register writes. -/
theorem registerFileReadsBackItsWrites : Obligations.RegisterFileReadsBackItsWrites :=
  fun s r v i j k => ⟨State.reg_setReg_same s r v i j k, fun q i' j' k' h => State.reg_setReg_other s r q v i j k i' j' k' h,
    State.setReg_sorted s r v i j k, State.setReg_unlisted s r i j k⟩

/-- Settles O5: no source is pending, and the reset value of the pin register has every pin bit 0. -/
theorem pinsAgreeAtReset : Obligations.PinsAgreeAtReset := by
  have halarm : State.reset.on FLT_PIN_CTRL_ALARM_PIN = false := on_reset (fun _ _ => rfl) 0 0 0
  have hattn : State.reset.on FLT_PIN_CTRL_ATTN_PIN = false := on_reset (fun _ _ => rfl) 0 0 0
  have hsw : State.reset.on FLT_PIN_CTRL_ATTN_SW = false := on_reset (fun _ _ => rfl) 0 0 0
  have hpulse : State.reset.on FLT_PIN_CTRL_ATTN_PULSE = false := on_reset (fun _ _ => rfl) 0 0 0
  exact ⟨halarm, by rw [hattn, hsw]; rfl, hpulse, rfl⟩

/-- Settles O29: the kernel evaluates the decoder on each word. -/
theorem felricSampleWords : Obligations.FelricSampleWords := by
  unfold Obligations.FelricSampleWords
  decide

end Sys2Proof.Machine

/-! The commands of the memory controllers and of the Varing pair (R318 to R340, R372): the answer of each where it is carried out. -/

namespace Sys2Proof.Machine

/-! ### Bits of a mask -/

/-- One bit of a number is its field of one bit. -/
theorem bitOf_eq_bitsOf (v i : Nat) : bitOf v i = (bitsOf v i i == 1) := by
  rw [bitOf, bitsOf, Nat.add_sub_cancel_left, Nat.pow_one]

theorem bitOf_eq_testBit (v i : Nat) : bitOf v i = v.testBit i := by
  rw [bitOf, Nat.testBit_eq_decide_div_mod_eq, beq_eq_decide]

theorem bitOf_withBit_same (v i : Nat) (b : Bool) : bitOf (withBit v i b) i = b := by
  rw [bitOf_eq_bitsOf, withBit, bitsOf_withBits_same _ _ _ _ (Nat.le_refl i), Nat.add_sub_cancel_left]
  cases b <;> rfl

theorem bitOf_withBit_other {v i j : Nat} {b : Bool} (h : j ≠ i) : bitOf (withBit v i b) j = bitOf v j := by
  rw [bitOf_eq_bitsOf, bitOf_eq_bitsOf, withBit]
  rcases Nat.lt_or_gt_of_ne h with hlt | hgt
  · rw [bitsOf_withBits_below _ _ _ _ _ _ (Nat.le_refl i) (Nat.le_refl j) hlt]
  · rw [bitsOf_withBits_above _ _ _ _ _ _ (Nat.le_refl i) hgt]

/-- A number within w bits, none of which is set, is 0. -/
theorem eq_zero_of_bits {v w : Nat} (hv : v < 2 ^ w) (h : ∀ j < w, bitOf v j = false) : v = 0 := by
  refine Nat.eq_of_testBit_eq fun j => ?_
  rw [Nat.zero_testBit]
  rcases Nat.lt_or_ge j w with hj | hj
  · rw [← bitOf_eq_testBit, h j hj]
  · exact Nat.testBit_lt_two_pow (Nat.lt_of_lt_of_le hv (Nat.pow_le_pow_right (by decide) hj))

/-! ### The memory controllers -/

section Memory

variable {n : State}

/-- MEM_INIT with a partition that fits and supported DIMMs (R318, R321, R323). -/
theorem memInitBody_good {spill park firkin task : Nat} {mirror : Bool} {l : List Dimms} (hlatch : n.mem.latched = false)
    (hpart : partitionOk spill park firkin task = true) (hpop : popErrors l = [])
    (hmap : mirror = true → ∀ m < 4, n.get MEM_DDR_CFG_MAP_ORDER (2 * m) = n.get MEM_DDR_CFG_MAP_ORDER (2 * m + 1)) :
    memInitBody spill park firkin task mirror l n = .wait 0 0 (ddrBytes l) (memInit spill park firkin task mirror l n) := by
  have horder : (mirror && (List.range 4).any fun m =>
      n.get MEM_DDR_CFG_MAP_ORDER (2 * m) != n.get MEM_DDR_CFG_MAP_ORDER (2 * m + 1)) = false := by
    cases mirror with
    | false => rfl
    | true => simpa using hmap rfl
  simp only [memInitBody, hlatch, hpart, hpop, horder, List.isEmpty_nil, Bool.not_true, Bool.false_eq_true, if_false]

theorem memRetrainBody_good {k : Nat} (hk : k < 8) (hf : n.on MEM_DDR_STAT_FENCED k = false) (hb : chanBusy n k = false) :
    memRetrainBody k n = .wait 0 0 k ((startPass k 2 (n.get MEM_DDR_STAT_BIN k) n).put
      PWR_AGE_CFG_NEED_RETRAIN (withBit (n.get PWR_AGE_CFG_NEED_RETRAIN) k false)) := by
  simp only [memRetrainBody, Nat.not_le.mpr hk, hf, hb, Bool.false_eq_true, if_false]

theorem memSpeedBody_good {k bin : Nat} (hk : k < 8) (hbin : bin ≤ 2) (hp : n.on MEM_DDR_STAT_FREQ_PENDING k = false)
    (hf : n.on MEM_DDR_STAT_FENCED k = false) : memSpeedBody k bin n = .wait 0 0 k (requestBin k bin n) := by
  have hargs : ¬ (8 ≤ k ∨ 2 < bin) := by omega
  simp only [memSpeedBody, hargs, hp, hf, Bool.or_eq_true, decide_eq_true_eq, Bool.false_eq_true, if_false]

/-- The state with a pseudo-channel of a stack no longer failed. -/
def servePc (st : Nat) (s : State) (j : Nat) : State :=
  s.put MEM_HBM_STAT_PC_FAILED (withBit (s.get MEM_HBM_STAT_PC_FAILED st) j false) st

/-- The failed pseudo-channels of a stack. -/
def failedPcs (st : Nat) (s : State) : List Nat := (List.range 32).filter (fun j => bitOf (s.get MEM_HBM_STAT_PC_FAILED st) j)

theorem servePc_get (st : Nat) (s : State) (j : Nat) :
    (servePc st s j).get MEM_HBM_STAT_PC_FAILED st = withBit (s.get MEM_HBM_STAT_PC_FAILED st) j false % 2 ^ 32 :=
  State.get_put_same _ _ _ _ _ _ (by decide) (by decide)

/-- A pseudo-channel that serves again has failed no more, and the others stand as they did. -/
theorem bitOf_servePc {st i j : Nat} {s : State} (hi : i < 32) :
    bitOf ((servePc st s j).get MEM_HBM_STAT_PC_FAILED st) i = (bitOf (s.get MEM_HBM_STAT_PC_FAILED st) i && i != j) := by
  rw [servePc_get, bitOf_eq_testBit, Nat.testBit_mod_two_pow, decide_eq_true hi, Bool.true_and, ← bitOf_eq_testBit]
  by_cases h : i = j
  · rw [h, bitOf_withBit_same, bne_self_eq_false, Bool.and_false]
  · rw [bitOf_withBit_other h, bne_iff_ne.mpr h, Bool.and_true]

/-- Of the failed pseudo-channels those of a list serve again. -/
theorem bitOf_servePcs {st i : Nat} (hi : i < 32) (l : List Nat) (s : State) :
    bitOf ((l.foldl (servePc st) s).get MEM_HBM_STAT_PC_FAILED st) i = (bitOf (s.get MEM_HBM_STAT_PC_FAILED st) i && !l.contains i) := by
  induction l generalizing s with
  | nil => simp
  | cons j l ih => rw [List.foldl_cons, ih, bitOf_servePc hi, List.contains_cons, Bool.and_assoc, Bool.not_or]; rfl

/-- Once every failed pseudo-channel serves again the stack has none. -/
theorem servePcs_failed (st : Nat) (s : State) : ((failedPcs st s).foldl (servePc st) s).get MEM_HBM_STAT_PC_FAILED st = 0 := by
  refine eq_zero_of_bits (w := 32) (get_lt _ _ _ _ _) fun j hj => ?_
  rw [bitOf_servePcs hj]
  cases h : bitOf (s.get MEM_HBM_STAT_PC_FAILED st) j with
  | false => rfl
  | true => simp [failedPcs, hj, h]

theorem servePcs_buf (st : Nat) (l : List Nat) (s : State) : (l.foldl (servePc st) s).buf = s.buf := by
  induction l generalizing s with
  | nil => rfl
  | cons j l ih => exact (ih _).trans rfl

/-- What a stack's return makes of the spill: closed while a group has two failed, degraded while one has failed at all (R253). -/
def openSpill (s : State) : State :=
  let s := { s with buf := { s.buf with spillClosed := (List.range 8).any (fun g => 1 < failedIn s g) } }
  if s.get MEM_HBM_STAT_PC_FAILED 0 = 0 && s.get MEM_HBM_STAT_PC_FAILED 1 = 0 then s.put BUF_SPILL_STAT_DEGRADED 0 else s

theorem openSpill_queues (s : State) : (openSpill s).buf.queues = s.buf.queues := by
  unfold openSpill
  dsimp only
  split <;> rfl

theorem openSpill_failed {st : Nat} (s : State) (hst : st < 2) :
    (openSpill s).get MEM_HBM_STAT_PC_FAILED st = s.get MEM_HBM_STAT_PC_FAILED st := by
  have haddr : MEM_HBM_STAT.addr st 0 0 ≠ BUF_SPILL_STAT.addr 0 0 0 := by
    simp [Reg.addr, MEM_HBM_STAT, BUF_SPILL_STAT]
    omega
  unfold openSpill
  dsimp only
  split
  · rw [State.get_put_other _ _ _ _ _ _ _ _ _ _ haddr]
    rfl
  · rfl

/-- MEM_HBM_REINTEGRATE of a stack whose failed pseudo-channels all pass (R320). -/
theorem hbmReintegrateBody_all {st passed : Nat} (hst : st < 2)
    (hpass : ∀ j < 32, bitOf (n.get MEM_HBM_STAT_PC_FAILED st) j = true → bitOf passed j = true) :
    hbmReintegrateBody st passed n = ok_ (settleBuffer (openSpill ((failedPcs st n).foldl (servePc st) n))) := by
  have hgood : (failedPcs st n).filter (fun j => bitOf passed j) = failedPcs st n := by
    refine List.filter_eq_self.mpr fun j hj => ?_
    obtain ⟨hrange, hfailed⟩ := List.mem_filter.mp hj
    exact hpass j (List.mem_range.mp hrange) hfailed
  unfold failedPcs at hgood
  simp only [hbmReintegrateBody, hgood, Nat.not_le.mpr hst, if_false, if_true]
  rfl

end Memory

/-! ### The pair -/

theorem pairSetup_good {fp port da : Nat} {n : State} (hfp : fp < 2 ^ 64) (hport : port < 96) (hda : da < 2 ^ 48)
    (hst : pairState n = 0) (hinit : n.on MEM_INIT_CFG_DONE = true) : pairSetup fp port da n = .wait 0 0 0 (setPairState 1
      ((((n.setReg VAR_PARTNER_ID (BitVec.ofNat 64 fp)).put VAR_WITNESS_PORT port).put VAR_WITNESS_DA da).put VAR_WITNESS_EN 1)) := by
  have hargs : ¬ ((2 ^ 64 ≤ fp ∨ 96 ≤ port) ∨ 2 ^ 48 ≤ da) := by omega
  simp only [pairSetup, hargs, hst, hinit, Bool.or_eq_true, decide_eq_true_eq, bne_self_eq_false, Bool.not_true, Bool.false_eq_true,
    if_false]

theorem soloPair_solo {n : State} (h : pairState n = 5) : soloPair n = ok_ (goSolo n) := if_pos h

/-- Settles O19: each row runs its command on the state with its black-box entry, where it has the answer of its lemma. -/
theorem memoryAndPairCommandsComplete : Obligations.MemoryAndPairCommandsComplete := by
  unfold Obligations.MemoryAndPairCommandsComplete
  intro s n c
  refine ⟨?init, ?retrain, ?speed, ?reintegrate, ?setup, ?dissolve, ?solo⟩
  case init =>
    exact fun spill park firkin task mirror l ht hn hlatch hpart hpop hmap => taken_notes ht hn rfl (memInitBody_good hlatch hpart hpop hmap)
  case retrain => exact fun k ht hn hk hf hb => taken_notes ht hn rfl (memRetrainBody_good hk hf hb)
  case speed => exact fun k bin ht hn hk hbin hp hf => taken_notes ht hn rfl (memSpeedBody_good hk hbin hp hf)
  case reintegrate =>
    intro st passed ht hn hst hpass
    refine ⟨_, taken_notes_done ht hn rfl (hbmReintegrateBody_all hst hpass), ?_, ?_⟩
    · rw [openSpill_failed _ hst, servePcs_failed]
    · rw [openSpill_queues, servePcs_buf]
  case setup => exact fun fp port da ht hn hfp hport hda hst hinit => taken_notes ht hn rfl (pairSetup_good hfp hport hda hst hinit)
  case dissolve => exact fun ht => taken_notes_done ht rfl rfl rfl
  case solo => exact fun ht hn h => taken_notes_done ht hn rfl (soloPair_solo h)

end Sys2Proof.Machine

/-! The events of the memory controllers (R254, R319, R324 to R337): the effect of each where it has something to do. -/

namespace Sys2Proof.Machine

/-! ### HBM errors -/

section Hbm

variable {s x : State} {st pc : Nat}

theorem hbmError_corrected : hbmError st pc false s = s.bump MEM_HBM_CE_CNT st := rfl

/-- An uncorrectable error in a row with another failed pseudo-channel loses the block (R319). -/
theorem hbmError_lost (hx : x = report (srcStack st 2) (s.bump MEM_HBM_UE_CNT st)) (hb : rebuildBlocked x st pc = true) :
    hbmError st pc true s = x.bump MEM_HBM_LOST_CNT st := by
  subst hx
  simp only [hbmError, hb, Bool.not_true, Bool.false_eq_true, if_false, if_true]

/-- The clock times of the rebuilds of a pseudo-channel within the last second, with the present one. -/
def recentRebuilds (y : State) (st pc : Nat) : List Nat :=
  (Store.getD y.mem.rebuilds (32 * st + pc) []).filter (fun t => y.clock < t + nsPerSec) ++ [y.clock]

/-- The state in which the last 256 rebuilds of a pseudo-channel are kept. -/
def keepRebuilds (st pc : Nat) (l : List Nat) (y : State) : State :=
  { y with mem := { y.mem with rebuilds := Store.set y.mem.rebuilds (32 * st + pc) (l.drop (l.length - 256)) } }

/-- An uncorrectable error is rebuilt, and fails its pseudo-channel past the threshold (R319). -/
theorem hbmError_rebuilt {y z : State} {l : List Nat} (hx : x = report (srcStack st 2) (s.bump MEM_HBM_UE_CNT st))
    (hb : rebuildBlocked x st pc = false) (hy : y = report (srcStack st 6) (x.bump MEM_HBM_REBUILD_CNT st)) (hl : l = recentRebuilds y st pc)
    (hz : z = keepRebuilds st pc l y) :
    hbmError st pc true s = if clamp 1 255 (z.get MEM_HBM_CFG_FAIL_THRESH st) < l.length then pcFails st pc z else z := by
  subst hx hy hl hz
  simp only [hbmError, hb, Bool.not_true, Bool.false_eq_true, if_false]
  rfl

end Hbm

/-! ### DDR5 errors, scrubbing and refresh -/

section Ddr

variable {s : State} {k : Nat}

/-- The error log of a channel with the place and the device of an error (R330). -/
def logError (k : Nat) (ue : Bool) (dev : Nat) (p : DdrPlace) (s : State) : State :=
  let x := (((((s.put MEM_DDR_ERR_LOG_VALID 1 k).flag MEM_DDR_ERR_LOG_UE ue k).put MEM_DDR_ERR_LOG_SC p.sc k).put MEM_DDR_ERR_LOG_BG p.bg k).put
    MEM_DDR_ERR_LOG_BA p.ba k).put MEM_DDR_ERR_LOG_RANK p.rank k
  ((x.put MEM_DDR_ERR_LOG_ROW p.row k).put MEM_DDR_ERR_LOG_COL p.col k).put MEM_DDR_ERR_LOG_DEVICE dev k

variable {dev : Nat} {p : DdrPlace} {y : State}

theorem ddrError_unlocated (hy : y = (logError k false dev p s).bump MEM_DDR_CE_CNT k) (hd : 20 ≤ dev) : ddrError k false dev p s = y := by
  subst hy
  simp only [ddrError, hd, Bool.false_eq_true, if_false, if_true]
  rfl

/-- A corrected error in a located device marks it at its threshold, unless the channel has a marked device (R330). -/
theorem ddrError_located {z : State} (hy : y = (logError k false dev p s).bump MEM_DDR_CE_CNT k) (hd : dev < 20)
    (hz : z = onChan k (fun w => { w with marks := Store.upd w.marks dev 0 (· + 1) }) y) : ddrError k false dev p s =
    if Store.getD (chanOf z k).marks dev 0 < clamp 1 255 (z.get MEM_DDR_CFG_MARK_THRESH k) || z.on MEM_DDR_STAT_MARKED k then z
    else report (srcChannel k 2) ((z.put MEM_DDR_STAT_MARKED 1 k).put MEM_DDR_STAT_MARKED_DEV dev k) := by
  subst hy hz
  simp only [ddrError, Nat.not_le.mpr hd, Bool.false_eq_true, if_false]
  rfl

variable {bank n due : Nat} {overdue : Bool}

/-- A refresh before its tREFI has passed does nothing; one that is due is done or postponed (R328). -/
theorem refreshDue_eq (hn : n = Store.getD (chanOf s k).owed bank 0)
    (hdue : due = Store.getD (chanOf s k).refreshed bank 0 + refreshInterval s k) : refreshDue k bank overdue s =
    if s.clock < due then s
    else refreshDue.refresh k bank overdue n (onChan k (fun w => { w with refreshed := Store.set w.refreshed bank s.clock }) s) := by
  subst hn hdue
  rfl

theorem refresh_postponed {x : State} (h : n < 4) : refreshDue.refresh k bank true n x =
    (onChan k (fun w => { w with owed := Store.put w.owed bank 0 (n + 1) }) x).bump MEM_DDR_REF_POSTPONE_CNT k := by
  simp only [refreshDue.refresh, h, decide_true, Bool.and_self, if_true]

theorem refresh_forced {x : State} (h : 4 ≤ n) : refreshDue.refresh k bank true n x = countEvent (13 + k) 0x06 0xFFF 1 x := by
  simp only [refreshDue.refresh, Nat.not_lt.mpr h, decide_false, Bool.and_false, Bool.false_eq_true, if_false, if_true]

theorem refresh_done {x : State} : refreshDue.refresh k bank false n x =
    countEvent (13 + k) 0x06 0xFFF (n + 1) (onChan k (fun w => { w with owed := Store.erase w.owed bank }) x) := rfl

end Ddr

/-! ### Requests, steps of a rank and bins -/

section Channels

variable {s : State}

/-- The chosen request issues where no neighbour refresh is queued (R327). -/
theorem issueRequest_chosen {m : Nat} {waiting : List MemReq} {r : MemReq} (hr : chooseRequest s m waiting = some r)
    (hn : 8 ≤ m ∨ (chanOf s m).neighbours = []) : issueRequest m waiting s = issueRequest.issue m r s := by
  have hnone : (if m < 8 then (chanOf s m).neighbours else []) = [] := by
    rcases hn with h | h
    · exact if_neg (Nat.not_lt.mpr h)
    · rw [h, ite_self]
  unfold issueRequest
  simp only [hnone, hr]

theorem chanStep_begins {k rank : Nat} (h : chanBusy s k = false) :
    chanStep k rank true s = onChan k (fun w => { w with stepping := w.stepping ++ [rank] }) s := by
  simp only [chanStep, h, Bool.false_eq_true, if_false, if_true]

/-- A pending bin change applies on an idle channel (R337). -/
theorem binApplies_idle {k : Nat} (hp : s.on MEM_DDR_STAT_FREQ_PENDING k = true) (hb : chanBusy s k = false) :
    binApplies k s = startPass k 3 (s.get MEM_DDR_STAT_PEND_BIN k) (s.put MEM_DDR_STAT_FREQ_PENDING 0 k) := by
  simp only [binApplies, hp, hb, Bool.not_true, Bool.or_self, Bool.false_eq_true, if_false]

end Channels

/-- Settles O50: each row runs its event, and each event has the effect of its lemma. -/
theorem memoryEventsComplete : Obligations.MemoryEventsComplete := by
  unfold Obligations.MemoryEventsComplete
  intro s x
  refine ⟨?hbm, ?ddr, ?scrub, ?refresh, ?temp, ?issue, ?steps, ?training, ?channels⟩
  case hbm =>
    intro st pc hst hpc
    refine ⟨?_, fun hx hb => ?_, fun y z l hx hb hy hl hz => ?_, exec_within_both hst hpc rfl⟩
    · rw [exec_within_both hst hpc rfl, hbmError_corrected]
    · rw [exec_within_both hst hpc rfl, hbmError_lost hx hb]
    · rw [exec_within_both hst hpc rfl, hbmError_rebuilt hx hb hy hl hz]
  case ddr =>
    rintro k dev sc bg ba rank row col y hk rfl hy
    refine ⟨fun hd => ?_, fun z hd hz => ?_⟩
    · rw [exec_within hk rfl, ddrError_unlocated (p := ⟨sc, bg, ba, rank, row, col⟩) hy hd]
    · rw [exec_within hk rfl, ddrError_located (p := ⟨sc, bg, ba, rank, row, col⟩) hy hd hz]
  case scrub => exact fun m n last hm => exec_within hm rfl
  case refresh =>
    intro k bank n due hk hn hdue
    have hrun := fun overdue => refreshDue_eq (overdue := overdue) hn hdue
    refine ⟨fun h overdue => ?_, fun h hx => ⟨fun h4 => ?_, fun h4 => ?_, ?_⟩⟩
    · rw [exec_within hk rfl, hrun, if_pos h]
    · rw [exec_within hk rfl, hrun, if_neg (Nat.not_lt.mpr h), ← hx, refresh_postponed h4]
    · rw [exec_within hk rfl, hrun, if_neg (Nat.not_lt.mpr h), ← hx, refresh_forced h4]
    · rw [exec_within hk rfl, hrun, if_neg (Nat.not_lt.mpr h), ← hx, refresh_done]
  case temp =>
    rintro k t hk rfl
    exact exec_within hk rfl
  case issue =>
    intro m waiting r hm hr hn
    rw [exec_within hm rfl, issueRequest_chosen hr hn]
  case steps =>
    intro k rank hk
    refine ⟨fun hb hx => ?_, fun hx => ?_⟩
    · rw [← chanStep_begins hb] at hx
      subst hx
      exact ⟨exec_within hk rfl, fun _ => exec_within hk rfl⟩
    · subst hx
      exact ⟨exec_within hk rfl, fun _ => exec_within hk rfl⟩
  case training =>
    rintro k eye passed hk rfl
    exact exec_within hk rfl
  case channels =>
    refine fun k hk => ⟨exec_within hk rfl, exec_within hk rfl, fun hp hb => ?_⟩
    rw [exec_within hk rfl, binApplies_idle hp hb]

end Sys2Proof.Machine

/-! The events of the Varing pair (R339 to R341, R359 to R372): heartbeats, the apply queue, liveness, takeover and synchronisation. -/

namespace Sys2Proof.Machine

/-! ### Heartbeats and witness frames -/

section Liveness

variable {s : State}

/-- A heartbeat is due and the pair sends it (R367). -/
theorem sendHeartbeat_due {m : List Byte} (h1 : 1 ≤ pairState s) (h4 : pairState s ≤ 4) (hc : s.pair.ceased = false)
    (ht : s.pair.hbSent + clamp 250 10000 (s.get VAR_TIMING_HB_NS) ≤ s.clock)
    (hm : m = mirrorMessage 0x01 [] (leBytes 8 (s.pair.hbSeq + 1) ++ leBytes 4 (healthWord s) ++ leBytes 1 (pairState s) ++ zeros 11)) :
    sendHeartbeat s =
      { s with pair := { s.pair with out := s.pair.out ++ [(0, m)], hbSeq := s.pair.hbSeq + 1, hbSent := s.clock } } := by
  subst hm
  have h0 : ¬ pairState s = 0 := by omega
  simp only [sendHeartbeat, ht, h0, Nat.not_lt.mpr h4, hc, decide_true, decide_false, Bool.or_true, Bool.not_true, Bool.or_self,
    Bool.false_eq_true, if_false]

theorem sendWitness_due (h1 : 1 ≤ pairState s) (h4 : pairState s ≤ 4) (hc : s.pair.ceased = false) (hen : s.on VAR_WITNESS_EN = true)
    (hseq : s.pair.witSendSeq ≠ 2 ^ 32 - 1) (ht : s.pair.witSent + clamp 500 10000 (s.get VAR_TIMING_WIT_NS) ≤ s.clock) :
    sendWitness s = { s with pair := { s.pair with witSendSeq := s.pair.witSendSeq + 1, witSent := s.clock } } := by
  have h0 : ¬ pairState s = 0 := by omega
  simp only [sendWitness, ht, h0, Nat.not_lt.mpr h4, hc, hen, hseq, decide_true, decide_false, Bool.or_true, Bool.not_true, Bool.or_self,
    Bool.false_eq_true, if_false]

/-- What a silent link leads to (Table 14.9). x: the state with LINK_ALIVE 0. -/
def linkLost (x : State) : State :=
  if !x.on VAR_STAT_WIT_ALIVE then bothSilent x
  else if pairState x = 1 then setupFails x
  else if pairState x = 2 || pairState x = 3 then releasePartnerWaits (report (srcPair 0) ((setPairState 4 x).bump VAR_SUSPEND_CNT))
  else x

theorem linkSilent_due (ht : s.pair.hbHeard + clamp 1000 60000 (s.get VAR_TIMING_LINK_MISS_NS) ≤ s.clock) :
    linkSilent s = linkLost (s.put VAR_STAT_LINK_ALIVE 0) := if_neg (Nat.not_lt.mpr ht)

/-- What a silent witness leads to (Table 14.9). x: the state with WIT_ALIVE 0. -/
def witnessLost (x : State) : State :=
  if !x.on VAR_STAT_LINK_ALIVE then bothSilent x
  else if 1 ≤ pairState x && pairState x ≤ 4 then report (srcPair 1) x
  else x

theorem witnessSilent_due (ht : s.pair.witHeard + clamp 2000 60000 (s.get VAR_TIMING_WIT_MISS_NS) ≤ s.clock) :
    witnessSilent s = witnessLost (s.put VAR_STAT_WIT_ALIVE 0) := if_neg (Nat.not_lt.mpr ht)

theorem linkBack_suspended {x : State} (hst : pairState s = 4) (hl : s.on VAR_STAT_LINK_ALIVE = true)
    (hx : x = { s with pair := { s.pair with syncKeys := allKeys s, syncTotal := (allKeys s).length } }) :
    linkBack s = (setPairState 2 x).put VAR_STAT_SYNC_PCT 0 := by
  subst hx
  simp only [linkBack, hst, hl, decide_true, Bool.and_self, if_true]

end Liveness

/-! ### The apply queue -/

section Queue

variable {s : State} {m : List Byte}

/-- The state in which the front message of the apply queue has been applied (R362). -/
def frontApplied (m : List Byte) (s : State) : State :=
  { applyMessage m s with pair := { (applyMessage m s).pair with
      applyQueue := (dropFront s.pair.applyQueue).1, applied := (applyMessage m s).pair.applied + (dropFront s.pair.applyQueue).2 } }

theorem applyFront_accepted {p : List Byte → Bool} (hm : frontMessage s.pair.applyQueue = some m) (hp : p m = true) :
    applyFront p s = frontApplied m s := by
  simp only [applyFront, hm, hp, Bool.not_true, Bool.false_eq_true, if_false]
  rfl

theorem applyType_front {t : Nat} (hm : frontMessage s.pair.applyQueue = some m) (ht : leField m 0 1 = t) :
    applyType t s = frontApplied m s := applyFront_accepted hm (beq_iff_eq.mpr ht)

theorem applyFetchType_front {reply : Bool} (hm : frontMessage s.pair.applyQueue = some m) (ht : leField m 0 1 = 0x16)
    (hr : reply = decide (48 < m.length)) : applyFetchType reply s = frontApplied m s :=
  applyFront_accepted hm (by simp [ht, hr])

end Queue

/-! ### Takeover, set-up and synchronisation -/

section SetUp

variable {s : State}

/-- Steps 2 to 4 of a takeover (R371). l: the partner's commands without JDONE. -/
theorem pairTakeover_solo {x y z : State} {l : List JEntry} (hst : pairState s = 5) (hx : x = applyAll (applyCount s + 1) s)
    (hy : y = { x with pair := { x.pair with applyQueue := [], applied := x.pair.received } })
    (hl : l = ((List.range 4).flatMap (fun r => y.pair.journal.filter (fun e => e.ring == r))).map replayEntry)
    (hz : z = { y with pair := { y.pair with journal := [] }, host := { y.host with journal := y.host.journal ++ l } }) :
    pairTakeover s = z.bumpBy l.length VAR_REPLAY_CNT := by
  subst hx hy hl hz
  rw [List.length_map]
  exact if_neg (by simp [hst])

theorem soloHold_passed {ms : Nat} (hms : ms = clamp 0 60000 (s.get VAR_TIMING2_SOLO_HOLD_MS)) (h0 : ms ≠ 0)
    (ht : s.pair.heard + ms * 1000000 ≤ s.clock) : soloHold s = goSolo s := by
  simp only [soloHold, ← hms, h0, Nat.not_lt.mpr ht, decide_false, Bool.or_self, Bool.false_eq_true, if_false]

theorem mutualAuth_fails {partner : Nat} {holds : Bool} (hst : pairState s = 1) : mutualAuth false partner holds s = setupFails s := by
  simp only [mutualAuth, hst, bne_self_eq_false, Bool.false_eq_true, if_false, Bool.not_false, Bool.true_or, if_true]

/-- Authentication that passes: the half, the keys and what is owed to the partner, and STATE 2 (R340, R396). -/
theorem mutualAuth_passes {partner own : Nat} {holds join : Bool} {x y z : State} (hst : pairState s = 1)
    (hpartner : s.num VAR_PARTNER_ID = partner) (hholds : (holds && !(allKeys s).isEmpty) = false) (hown : own = s.num ASC_ID_FP)
    (hjoin : join = joins own partner (!(allKeys s).isEmpty) holds)
    (hx : x = setPairHalf (if own < partner then 1 else 2) (s.flag VAR_STAT_JOINER join))
    (hy : y = { x with
        pair := { x.pair with
          sendKey := x.free, recvKey := x.free + 1, witSendKey := x.free + 2, witRecvKey := x.free + 3,
          syncKeys := if join then [] else allKeys s, syncTotal := if join then 0 else (allKeys s).length },
        free := x.free + 4 })
    (hz : z = if join then drawFlowKeys y else y.put VAR_STAT_COVERED 1) :
    mutualAuth true partner holds s = finishWaiting (fun w => w.opcode == 0x0A00) (fun _ => resOk) (setPairState 2 z) := by
  simp only [mutualAuth, hst, hpartner, hholds, ← hown, ← hjoin, ← hx, ← hy, ← hz, bne_self_eq_false, Bool.not_true, Bool.or_self,
    Bool.false_eq_true, if_false]

/-- Bulk synchronisation sends the record of the next key (R341). -/
theorem bulkSync_next {key : List Byte} {rest : List (List Byte)} {pct : Nat} {x : State} (hst : pairState s = 2)
    (hk : s.pair.syncKeys = key :: rest)
    (hpct : pct = if s.pair.syncTotal = 0 then 100 else (s.pair.syncTotal - rest.length) * 100 / s.pair.syncTotal)
    (hx : x = ({ s with pair := { s.pair with syncKeys := rest } } : State).put VAR_STAT_SYNC_PCT pct) :
    bulkSync s = if keyHeld x key then sendMirror 3 0x15 [] ((fullRecord x key).take 256) x else x := by
  simp only [bulkSync, hst, hk, ← hpct, ← hx, bne_self_eq_false, Bool.false_eq_true, if_false]

theorem bulkSync_ends (hst : pairState s = 2) (hk : s.pair.syncKeys = []) (hack : syncAcked s = true) (hc : s.on VAR_STAT_COVERED = true) :
    bulkSync s = setPairState 3 (s.put VAR_STAT_SYNC_PCT 100) := by
  simp only [bulkSync, hst, hk, hack, hc, bne_self_eq_false, Bool.not_true, Bool.and_false, Bool.false_eq_true, if_false]

end SetUp

/-- Settles O52: each row runs its event, and each event has the effect of its lemma. -/
theorem pairEventsComplete : Obligations.PairEventsComplete := by
  unfold Obligations.PairEventsComplete
  intro s x
  refine ⟨?heartbeat, ?front, ?witness, fun _ _ => rfl, ?link, ?witnessLost, ?back, ?takeover, ?solo, ?fails, ?passes, ?next, ?ends⟩
  case heartbeat => exact fun m h1 h4 hc ht hm => exec_settles rfl (sendHeartbeat_due h1 h4 hc ht hm)
  case front =>
    rintro m r y hm rfl rfl rfl
    exact ⟨fun h => exec_settles rfl (applyType_front hm h), fun h => exec_settles rfl (applyType_front hm h),
      fun h => exec_settles rfl (applyType_front hm h), fun h => exec_settles rfl (applyType_front hm h),
      fun h => exec_settles rfl (applyType_front hm h), fun h => exec_settles rfl (applyType_front hm h),
      fun h => exec_settles rfl (applyType_front hm h), fun h => exec_settles rfl (applyType_front hm h),
      fun h => exec_settles rfl (applyType_front hm h),
      fun h hlen => exec_settles rfl (applyFetchType_front hm h (decide_eq_false (Nat.not_lt.mpr hlen)).symm),
      fun h hlen => exec_settles rfl (applyFetchType_front hm h (decide_eq_true hlen).symm)⟩
  case witness => exact fun h1 h4 hc hen hseq ht => exec_settles rfl (sendWitness_due h1 h4 hc hen hseq ht)
  case link =>
    rintro ht rfl
    refine ⟨fun hw => ?_, fun hw h1 => ?_, fun hw h23 => ?_⟩
    · exact exec_settles rfl ((linkSilent_due ht).trans (if_pos (by simp [hw])))
    · exact exec_settles rfl ((linkSilent_due ht).trans (by simp only [linkLost, hw, h1, Bool.not_true, Bool.false_eq_true, if_false, if_true]))
    · have h1 : ¬ pairState (s.put VAR_STAT_LINK_ALIVE 0) = 1 := by omega
      exact exec_settles rfl ((linkSilent_due ht).trans (by
        simp only [linkLost, hw, h1, h23, Bool.or_eq_true, decide_eq_true_eq, Bool.not_true, Bool.false_eq_true, if_false, if_true]))
  case witnessLost =>
    rintro ht rfl
    refine ⟨fun hl => ?_, fun hl h1 h4 => ?_⟩
    · exact exec_settles rfl ((witnessSilent_due ht).trans (if_pos (by simp [hl])))
    · exact exec_settles rfl ((witnessSilent_due ht).trans (by
        simp only [witnessLost, hl, h1, h4, decide_true, Bool.and_self, Bool.not_true, Bool.false_eq_true, if_false, if_true]))
  case back => exact fun hst hl hx => exec_settles rfl (linkBack_suspended hst hl hx)
  case takeover => exact fun y l hst hx hy hl z hz => exec_settles rfl (pairTakeover_solo hst hx hy hl hz)
  case solo => exact fun ms hms h0 ht => exec_settles rfl (soloHold_passed hms h0 ht)
  case fails => exact fun partner holds hst => exec_settles rfl (mutualAuth_fails hst)
  case passes =>
    exact fun partner own holds join y z hst hp hh ho hj hx hy hz => exec_settles rfl (mutualAuth_passes hst hp hh ho hj hx hy hz)
  case next => exact fun key rest pct hst hk hpct hx => exec_settles rfl (bulkSync_next hst hk hpct hx)
  case ends => exact fun hst hk hack hc => exec_settles rfl (bulkSync_ends hst hk hack hc)

end Sys2Proof.Machine

/-! Sealed register writes and MACsec (R50, R51, R65, R392, R395): the answers of the commands that succeed, and what protection and
validation do to a frame. -/

namespace Sys2Proof.Machine

/-! ### Sealed writes -/

/-- ASC_REG_WRITE of a register with SG bits and no command of its own (R392). -/
theorem sealedWrite_good {off v mask : Nat} {x : RegRef} {s : State} (hx : refAt off = some x) (hsg : x.reg.sg ≠ 0)
    (hown : ownCommand.contains x.reg = false) (hgcl : x.reg = SCH_GCL_ADMIN → s.on SCH_GCL_STAT_PENDING x.i = false) :
    sealedWrite off v mask s = ok_ (applySealed x (mask &&& x.reg.sg)
      ((s.num x.reg x.i x.j x.k &&& ((mask &&& x.reg.sg) ^^^ (2 ^ 64 - 1))) ||| (v &&& (mask &&& x.reg.sg))) s) := by
  have hpend : ¬ (x.reg = SCH_GCL_ADMIN ∧ s.on SCH_GCL_STAT_PENDING x.i = true) := fun ⟨hr, hp⟩ => by simp [hgcl hr] at hp
  simp only [sealedWrite, hx, hsg, hown, hpend, decide_false, Bool.or_self, Bool.and_eq_true, decide_eq_true_eq, Bool.false_eq_true,
    if_false]

/-- The registers whose SG bits have an effect beside their value. -/
theorem applySealed_plain {x : RegRef} (m v : Nat) (s : State) (h1 : x.reg ≠ XPR_TCAM_CFG) (h2 : x.reg ≠ HST_RING_CFG)
    (h3 : x.reg ≠ TIM_CTRL) (h4 : x.reg ≠ FLW_TLM_CTRL) (h5 : x.reg ≠ PWR_HOURS) :
    applySealed x m v s = s.setReg x.reg (BitVec.ofNat 64 v) x.i x.j x.k := by
  simp only [applySealed, h1, h2, h3, h4, h5, if_false]

/-! ### Associations -/

section Associations

variable {s : State} {c : Cmd} {p chan dir an : Nat}

/-- The associations of a channel that an installed one takes out of use: those that transmit (R395). -/
def otherSas (s : State) (p chan dir an : Nat) : Store MacsecSa :=
  s.ascor.macsec.map (fun (e : Nat × MacsecSa) =>
    if dir = 1 && e.1 / 4 = saKey p chan dir an / 4 then (e.1, { e.2 with inUse := false }) else e)

/-- MACSEC_SA_INSTALL into an association that is not installed, with a good key object (R394, R395). -/
theorem saInstall_good {sci pn ssci obj : Nat} {x : StagedObj} {y : Session} (hn : saNamed p chan dir an = true)
    (hx : stagedOf s obj = some x) (hlen : x.bytes.length = 72) (hkind : leField x.bytes 0 4 = 1)
    (hy : Store.get? s.ascor.sessions c.session = some y) (hwrap : ∀ w, y.lastWrap = some w → w < leField x.bytes 4 8)
    (hfree : Store.get? s.ascor.macsec (saKey p chan dir an) = none) (hroom : saChannels s p (chan * 2 + dir) < 64) :
    saInstall c p chan dir an sci pn ssci obj true s = ok_ { s with free := s.free + 1, ascor := { s.ascor with
      sessions := Store.set s.ascor.sessions c.session { y with lastWrap := some (leField x.bytes 4 8) },
      macsec := Store.set (otherSas s p chan dir an) (saKey p chan dir an) ⟨sci, pn, ssci, true, s.free⟩ } } := by
  unfold saInstall
  rw [withObject_some hx]
  cases hw : y.lastWrap with
  | none =>
    simp only [hn, hy, hw, hlen, hkind, hfree, Nat.not_le.mpr hroom, bne_self_eq_false, Bool.not_true, Bool.or_self,
      Bool.false_eq_true, if_false]
    rfl
  | some w =>
    simp only [hn, hy, hw, hlen, hkind, hfree, Nat.not_le.mpr hroom, Nat.not_le.mpr (hwrap w hw), decide_false, bne_self_eq_false,
      Bool.not_true, Bool.or_self, Bool.false_eq_true, if_false]
    rfl

theorem saDelete_named (hn : saNamed p chan dir an = true) :
    saDelete p chan dir an s = ok_ { s with ascor := { s.ascor with macsec := Store.erase s.ascor.macsec (saKey p chan dir an) } } := by
  simp only [saDelete, hn, Bool.not_true, Bool.false_eq_true, if_false]

/-- The SG fields of a port's MACsec control (R50). -/
def setMacsecPort (p : Nat) (en bypass : Bool) (off : Nat) (s : State) : State :=
  ((s.flag PRT_MACSEC_CTRL_MACSEC_EN en p).flag PRT_MACSEC_CTRL_PTP_BYPASS bypass p).put PRT_MACSEC_CTRL_CONF_OFFSET off p

theorem macsecPortSet_good {off : Nat} {en bypass : Bool} (hp : p < 96) (ho : off < 3) :
    macsecPortSet p en bypass off s = ok_ (setMacsecPort p en bypass off s) := by
  have hargs : ¬ (96 ≤ p ∨ 3 ≤ off) := by omega
  simp only [macsecPortSet, hargs, Bool.or_eq_true, decide_eq_true_eq, if_false]
  rfl

/-- Each of the three fields reads what was set. -/
theorem setMacsecPort_fields {off : Nat} {en bypass : Bool} (ho : off < 3) :
    (setMacsecPort p en bypass off s).on PRT_MACSEC_CTRL_MACSEC_EN p = en ∧
    (setMacsecPort p en bypass off s).on PRT_MACSEC_CTRL_PTP_BYPASS p = bypass ∧
    (setMacsecPort p en bypass off s).get PRT_MACSEC_CTRL_CONF_OFFSET p = off := by
  refine ⟨?_, ?_, ?_⟩
  · rw [State.on, setMacsecPort, State.get_put_field _ PRT_MACSEC_CTRL_CONF_OFFSET PRT_MACSEC_CTRL_MACSEC_EN _ _ _ _ rfl (by decide)
      (by decide) (by decide) (by decide), State.flag, State.get_put_field _ PRT_MACSEC_CTRL_PTP_BYPASS PRT_MACSEC_CTRL_MACSEC_EN _ _ _ _
      rfl (by decide) (by decide) (by decide) (by decide)]
    exact State.on_flag_same _ _ _ _ _ _ rfl (by decide)
  · rw [State.on, setMacsecPort, State.get_put_field _ PRT_MACSEC_CTRL_CONF_OFFSET PRT_MACSEC_CTRL_PTP_BYPASS _ _ _ _ rfl (by decide)
      (by decide) (by decide) (by decide)]
    exact State.on_flag_same _ _ _ _ _ _ rfl (by decide)
  · rw [setMacsecPort, State.get_put_same _ _ _ _ _ _ (by decide) (by decide)]
    exact Nat.mod_eq_of_lt (by simp only [PRT_MACSEC_CTRL_CONF_OFFSET]; omega)

end Associations

/-! ### Frames -/

section Frames

variable {s : State} {p k pn : Nat} {bs : List Byte} {a : MacsecSa}

/-- A protected frame takes the next packet number of the association in use (R50). -/
theorem takePn_protected (ha : txSa s p = some (k, a)) (h : protects s p bs = true) : takePn p bs s =
    (some (k, a.pn), { s with ascor := { s.ascor with macsec := Store.set s.ascor.macsec k { a with pn := a.pn + 1 } } }) := by
  simp only [takePn, ha, h, Bool.not_true, Bool.false_eq_true, if_false]

theorem takePn_clear (h : protects s p bs = false) : takePn p bs s = (none, s) := by
  simp only [takePn, h, Bool.not_false, if_true]

theorem onLine_protected (ha : Store.get? s.ascor.macsec k = some a) :
    onLine s p (some (k, pn)) bs = protectedFrame a (k % 4) pn (confOffset s p) bs := by
  simp only [onLine, ha]

theorem length_secure (key ssci pn off : Nat) (data : List Byte) : (secure key ssci pn off data).length = data.length := by simp [secure]

theorem getElem_secure {key ssci off i : Nat} {data : List Byte} (h : i < (secure key ssci pn off data).length)
    (h' : i < data.length) :
    (secure key ssci pn off data)[i] = if i < off then data[i] else data[i] ^^^ Config.macsecStream key ssci pn i := by
  simp [secure]

/-- The keystream combined twice with a byte leaves it (R51). -/
theorem secure_secure (key ssci pn off : Nat) (data : List Byte) : secure key ssci pn off (secure key ssci pn off data) = data := by
  refine List.ext_getElem (by rw [length_secure, length_secure]) fun i h h' => ?_
  have hi : i < (secure key ssci pn off data).length := by rwa [length_secure]
  rw [getElem_secure h hi, getElem_secure hi h']
  split
  · rfl
  · rw [BitVec.xor_assoc, BitVec.xor_self, BitVec.xor_zero]

theorem secEnds_good (ha : Store.get? s.ascor.macsec k = some a) : secEnds p k pn true true s =
    { s with ascor := { s.ascor with macsec := Store.set s.ascor.macsec k { a with pn := max a.pn (pn + 1) } } } := by
  simp only [secEnds, ha, Bool.not_true, Bool.false_eq_true, if_false]

end Frames

/-- Settles O12: each row runs its command, where it has the answer of its lemma, and frames by the equations of their functions. -/
theorem sealedWritesAndMacsecComplete : Obligations.SealedWritesAndMacsecComplete := by
  unfold Obligations.SealedWritesAndMacsecComplete
  intro s c
  refine ⟨?write, ?plain, ?install, ?delete, ?portSet, fun p k bs a ha => ⟨takePn_protected ha, takePn_clear⟩,
    fun p k pn bs a ha => ⟨onLine_protected ha, rfl⟩, secure_secure, fun p k pn a ha => ⟨secEnds_good ha, rfl, fun _ => rfl⟩⟩
  case write => exact fun off v mask x ht hx hsg hown hgcl => taken_completes ht rfl (by decide) (sealedWrite_good hx hsg hown hgcl)
  case plain => exact fun x m v h1 h2 h3 h4 h5 => applySealed_plain m v s h1 h2 h3 h4 h5
  case install =>
    intro p chan dir an sci pn ssci obj x y ht hn hx hlen hkind hy hwrap hfree hroom
    exact ⟨_, taken_completes ht rfl (by decide) (saInstall_good hn hx hlen hkind hy hwrap hfree hroom),
      Store.get?_set_same .., Store.get?_set_same .., rfl⟩
  case delete =>
    exact fun p chan dir an ht hn => ⟨_, taken_completes ht rfl (by decide) (saDelete_named hn),
      Store.get?_erase_same .., fun k hk => Store.get?_erase_other _ _ _ hk, rfl⟩
  case portSet =>
    intro p off en bypass ht hp ho
    obtain ⟨hen, hby, hoff⟩ := setMacsecPort_fields (s := s) (p := p) (en := en) (bypass := bypass) ho
    exact ⟨_, taken_completes ht rfl (by decide) (macsecPortSet_good hp ho), hen, hby, hoff, rfl⟩

end Sys2Proof.Machine

/-! The rings of the host interface (R407 to R412, R422 to R424): what an entry written, an entry accepted, a doorbell and an enable make of a
ring's indexes, the phase of an entry, and the events that wait. -/

namespace Sys2Proof.Machine

/-! ### Counted events -/

/-- Counted events raise the counters of their block only (R485). -/
theorem countEvent_reg (b code qual amount : Nat) (s : State) {r : Reg} {i j l : Nat} (h : ∀ k < 8, r.addr i j l ≠ CNT_VAL.addr b k 0) :
    (countEvent b code qual amount s).reg r i j l = s.reg r i j l := by
  have hfold : ∀ (ks : List Nat) (x : State), (∀ k ∈ ks, k < 8) →
      (ks.foldl (fun s k => if selAdmits s b k code qual then s.bumpBy amount CNT_VAL b k else s) x).reg r i j l = x.reg r i j l := by
    intro ks
    induction ks with
    | nil => exact fun _ _ => rfl
    | cons k ks ih =>
      intro x hks
      rw [List.foldl_cons, ih _ fun k' hk' => hks k' (List.mem_cons_of_mem k hk')]
      split
      · exact State.reg_setReg_other _ _ _ _ _ _ _ _ _ _ (h k (hks k List.mem_cons_self))
      · rfl
  exact hfold _ s fun k hk => List.mem_range.mp hk

@[simp] theorem countEvent_host (b code qual amount : Nat) (s : State) : (countEvent b code qual amount s).host = s.host := by
  obtain ⟨m, h⟩ := countEvent_eq b code qual amount s
  rw [h]

theorem State.get_of_reg {s t : State} {f : Fld} {i j k : Nat} (h : s.reg f.reg i j k = t.reg f.reg i j k) : s.get f i j k = t.get f i j k := by
  rw [State.get, State.num, h]
  rfl

theorem State.num_of_reg {s t : State} {r : Reg} {i j k : Nat} (h : s.reg r i j k = t.reg r i j k) : s.num r i j k = t.num r i j k := by
  rw [State.num, h]
  rfl

/-! ### The indexes of a ring -/

section Indexes

variable (r : Nat) (s : State)

/-- The count of a ring's entries and the programmable counters of the host interface stand elsewhere than its indexes. -/
theorem countEvent_ring_idx (code : Nat) (hr : r < 59) :
    (countEvent 9 code r 1 (s.bump HST_RING_CNT r)).reg HST_RING_IDX r = s.reg HST_RING_IDX r := by
  rw [countEvent_reg _ _ _ _ _ fun k hk => by simp only [Reg.addr, HST_RING_IDX, CNT_VAL]; omega]
  exact State.reg_setReg_other _ _ _ _ _ _ _ _ _ _ (by simp only [Reg.addr, HST_RING_IDX, HST_RING_CNT]; omega)

theorem pi_put_pi (v : Nat) : (s.put HST_RING_IDX_PI v r).get HST_RING_IDX_PI r = v % 2 ^ 32 :=
  State.get_put_same s HST_RING_IDX_PI v r 0 0 (by decide) (by decide)

theorem ci_put_ci (v : Nat) : (s.put HST_RING_IDX_CI v r).get HST_RING_IDX_CI r = v % 2 ^ 32 :=
  State.get_put_same s HST_RING_IDX_CI v r 0 0 (by decide) (by decide)

theorem ci_put_pi (v : Nat) : (s.put HST_RING_IDX_PI v r).get HST_RING_IDX_CI r = s.get HST_RING_IDX_CI r :=
  State.get_put_field s HST_RING_IDX_PI HST_RING_IDX_CI v r 0 0 rfl (by decide) (by decide) (by decide) (by decide)

theorem pi_put_ci (v : Nat) : (s.put HST_RING_IDX_CI v r).get HST_RING_IDX_PI r = s.get HST_RING_IDX_PI r :=
  State.get_put_field s HST_RING_IDX_CI HST_RING_IDX_PI v r 0 0 rfl (by decide) (by decide) (by decide) (by decide)

/-- An entry that the device writes advances PI and leaves CI (R408, R411). -/
theorem ringWrite_indexes (entry slot : List Byte) (hr : r < 59) :
    (ringWrite r entry slot s).get HST_RING_IDX_PI r = (s.get HST_RING_IDX_PI r + 1) % 2 ^ 32 ∧
      (ringWrite r entry slot s).get HST_RING_IDX_CI r = s.get HST_RING_IDX_CI r := by
  refine ⟨?_, ?_⟩
  · rw [ringWrite, State.get_of_reg (f := HST_RING_IDX_PI) (countEvent_ring_idx r _ 0x02 hr), pi_put_pi]
  · rw [ringWrite, State.get_of_reg (f := HST_RING_IDX_CI) (countEvent_ring_idx r _ 0x02 hr), ci_put_pi]
    rfl

/-- An entry that the device accepts advances CI and leaves PI (R408, R414). -/
theorem acceptOne_indexes (hr : r < 59) :
    (acceptOne r s).get HST_RING_IDX_CI r = (s.get HST_RING_IDX_CI r + 1) % 2 ^ 32 ∧
      (acceptOne r s).get HST_RING_IDX_PI r = s.get HST_RING_IDX_PI r := by
  refine ⟨?_, ?_⟩
  · rw [acceptOne, State.get_of_reg (f := HST_RING_IDX_CI) (countEvent_ring_idx r _ 0x01 hr), ci_put_ci]
  · rw [acceptOne, State.get_of_reg (f := HST_RING_IDX_PI) (countEvent_ring_idx r _ 0x01 hr), pi_put_ci]

theorem index_lt : s.get HST_RING_IDX_PI r < 2 ^ 32 ∧ s.get HST_RING_IDX_CI r < 2 ^ 32 :=
  ⟨get_lt s HST_RING_IDX_PI r 0 0, get_lt s HST_RING_IDX_CI r 0 0⟩

/-- A ring is empty exactly where its indexes agree (R408). -/
theorem ringUsed_zero_iff : ringUsed s r = 0 ↔ s.get HST_RING_IDX_PI r = s.get HST_RING_IDX_CI r := by
  obtain ⟨hp, hc⟩ := index_lt r s
  unfold ringUsed
  omega

/-- A ring whose PI is CI plus its size holds as many entries as it has (R408). -/
theorem ringUsed_full (h : s.get HST_RING_IDX_PI r = (s.get HST_RING_IDX_CI r + ringSize s r) % 2 ^ 32)
    (hsize : s.get HST_RING_CFG_SIZE_LOG2 r < 32) : ringUsed s r = ringSize s r := by
  obtain ⟨-, hc⟩ := index_lt r s
  have hlt : ringSize s r < 2 ^ 32 := Nat.pow_lt_pow_right (by decide) hsize
  unfold ringUsed
  omega

theorem ringRoom_one_of_full (h : ringUsed s r = ringSize s r) : ringRoom s r 1 = false := by
  simp [ringRoom, h]

theorem ringRoom_one_of_space (hon : ringOn s r = true) (h : ringUsed s r < ringSize s r) : ringRoom s r 1 = true := by
  simp only [ringRoom, hon, Bool.true_and, decide_eq_true_eq]
  omega

end Indexes

/-! ### A ring that is enabled -/

section Enable

variable {r cfg : Nat} {s : State}

/-- A ring enabled, as `ringEnable_good` gives it. -/
def ringStarted (r cfg : Nat) (s : State) : State :=
  ringFresh r ((((ringFields r cfg s).put HST_RING_CFG_CFG_ERR 0 r).put HST_RING_CFG_EN 1 r).setReg HST_RING_IDX 0 r)

theorem exec_ringEnable_good (hb : barReady s = true) (hr : r < 59) (hoff : ringOn s r = false)
    (hc : ringCheck (ringFields r cfg s) r = true) : exec (.ringEnable r cfg) s = .next (settle (ringStarted r cfg s)) := by
  rw [exec_ringEnable cfg hb hr, ringEnable_good hoff hc, ringStarted]

theorem ringFresh_reg (r : Nat) (s : State) (q : Reg) (i j k : Nat) : (ringFresh r s).reg q i j k = s.reg q i j k := rfl

theorem ringStarted_idx (r cfg : Nat) (s : State) : (ringStarted r cfg s).reg HST_RING_IDX r = 0 := by
  rw [ringStarted, ringFresh_reg, State.reg_setReg_same]

theorem ringStarted_indexes (r cfg : Nat) (s : State) :
    (ringStarted r cfg s).get HST_RING_IDX_PI r = 0 ∧ (ringStarted r cfg s).get HST_RING_IDX_CI r = 0 := by
  constructor
  · rw [State.get, State.num, HST_RING_IDX_PI, ringStarted_idx]
    rfl
  · rw [State.get, State.num, HST_RING_IDX_CI, ringStarted_idx]
    rfl

theorem ringStarted_on (hup : s.power.coreUp = true) : ringOn (ringStarted r cfg s) r = true := by
  have hen : (ringStarted r cfg s).get HST_RING_CFG_EN r = 1 := by
    rw [ringStarted, State.get_of_reg (f := HST_RING_CFG_EN) (ringFresh_reg r _ _ r 0 0),
      get_setReg_other (f := HST_RING_CFG_EN) (by simp only [Reg.addr, HST_RING_CFG_EN, HST_RING_CFG, HST_RING_IDX]; omega),
      State.get_put_same _ HST_RING_CFG_EN 1 r 0 0 (by decide) (by decide)]
    rfl
  have hpower : (ringStarted r cfg s).power.coreUp = true := by simpa [ringStarted, ringFresh, ringFields] using hup
  rw [ringOn, State.on, hen, hpower]
  rfl

theorem ringStarted_armed (r cfg : Nat) (s : State) : (ringStarted r cfg s).host.armed.contains r = true := by
  simp [ringStarted, ringFresh]

end Enable

/-! ### Doorbells -/

section Doorbells

variable {r v : Nat} {s : State}

/-- The index that a doorbell of ring r moves: PI of a host-written ring, CI of a device-written one. -/
def doorbellIndex (s : State) (r : Nat) : Nat := if hostWritten r then s.get HST_RING_IDX_PI r else s.get HST_RING_IDX_CI r

/-- A doorbell past the ring's bound is counted. -/
theorem doorbellWrite_past (h : (if hostWritten r then ringSize s r else ringUsed s r) < (v + 2 ^ 32 - doorbellIndex s r) % 2 ^ 32) :
    doorbellWrite r v s = s.bump HST_DB_ERR_CNT := by
  unfold doorbellIndex at h
  simp only [doorbellWrite, h, decide_true, Bool.or_true, if_true]

/-- A doorbell that is counted leaves the indexes of every ring. -/
theorem bump_dbErr_idx (s : State) (q : Nat) : (s.bump HST_DB_ERR_CNT).num HST_RING_IDX q = s.num HST_RING_IDX q :=
  State.num_of_reg (State.reg_setReg_other _ _ _ _ _ _ _ _ _ _ (by simp only [Reg.addr, HST_RING_IDX, HST_DB_ERR_CNT]; omega))

/-- A doorbell that is taken leaves its error count, and the indexes of every other ring. -/
theorem put_idx_dbErr (f : Fld) (hf : f.reg = HST_RING_IDX) (s : State) : (s.put f v r).reg HST_DB_ERR_CNT = s.reg HST_DB_ERR_CNT :=
  State.reg_setReg_other _ _ _ _ _ _ _ _ _ _ (by rw [hf]; simp only [Reg.addr, HST_RING_IDX, HST_DB_ERR_CNT]; omega)

theorem put_idx_other (f : Fld) (hf : f.reg = HST_RING_IDX) (s : State) {q : Nat} (hq : q ≠ r) :
    (s.put f v r).num HST_RING_IDX q = s.num HST_RING_IDX q :=
  State.num_of_reg (State.reg_setReg_other _ _ _ _ _ _ _ _ _ _ (by rw [hf]; simp only [Reg.addr, HST_RING_IDX]; omega))

theorem reg_host (s : State) (h : HostSide) (q : Reg) (i j k : Nat) : ({ s with host := h } : State).reg q i j k = s.reg q i j k := rfl

/-- A doorbell within its bound sets the index it moves, and no other (R409). -/
theorem doorbellWrite_taken (hr : r < 59) (hv : v < 2 ^ 32) (hon : ringOn s r = true)
    (hd : (v + 2 ^ 32 - doorbellIndex s r) % 2 ^ 32 ≤ (if hostWritten r then ringSize s r else ringUsed s r)) :
    doorbellIndex (doorbellWrite r v s) r = v ∧ (doorbellWrite r v s).reg HST_DB_ERR_CNT = s.reg HST_DB_ERR_CNT ∧
      ∀ q, q ≠ r → (doorbellWrite r v s).num HST_RING_IDX q = s.num HST_RING_IDX q := by
  unfold doorbellIndex at hd ⊢
  cases hh : hostWritten r
  case true =>
    simp only [hh, if_true] at hd ⊢
    rw [doorbellWrite_pi hr hv hon hh hd]
    exact ⟨by rw [pi_put_pi, Nat.mod_eq_of_lt hv], put_idx_dbErr _ rfl s, fun q hq => put_idx_other _ rfl s hq⟩
  case false =>
    simp only [hh, Bool.false_eq_true, if_false] at hd ⊢
    rw [doorbellWrite_ci hr hv hon hh hd]
    refine ⟨?_, ?_, fun q hq => ?_⟩
    · rw [State.get_of_reg (f := HST_RING_IDX_CI) (reg_host ..), ci_put_ci, Nat.mod_eq_of_lt hv]
    · rw [reg_host, put_idx_dbErr _ rfl]
    · rw [State.num_of_reg (reg_host ..), put_idx_other _ rfl s hq]

/-- A doorbell of a disabled ring or past its bound is counted, and moves nothing (R409). -/
theorem doorbellWrite_counted (h : ringOn s r = false ∨
      (if hostWritten r then ringSize s r else ringUsed s r) < (v + 2 ^ 32 - doorbellIndex s r) % 2 ^ 32) :
    doorbellWrite r v s = s.bump HST_DB_ERR_CNT := h.elim (doorbellWrite_off v) doorbellWrite_past

end Doorbells

/-- Settles O34: a doorbell is taken (`doorbellWrite_taken`) or counted (`doorbellWrite_counted`), by its ring and its bound. -/
theorem doorbellsAreBounded : Obligations.DoorbellsAreBounded := by
  unfold Obligations.DoorbellsAreBounded
  intro s r v hb hr hv
  refine ⟨⟨_, exec_doorbell r v hb, ?index, ?others⟩, ?enable⟩
  case index =>
    rintro old d rfl rfl
    refine ⟨fun ⟨hon, hsize, hused⟩ => ?_, fun h => ?_⟩
    · have hd : (v + 2 ^ 32 - doorbellIndex s r) % 2 ^ 32 ≤ (if hostWritten r then ringSize s r else ringUsed s r) := by
        split
        · exact hsize
        · exact hused (Bool.eq_false_of_not_eq_true ‹_›)
      obtain ⟨hindex, herr, -⟩ := doorbellWrite_taken hr hv hon hd
      exact ⟨hindex, herr⟩
    · rw [doorbellWrite_counted h]
      exact ⟨bump_dbErr_idx s r, State.reg_bumpBy_same ..⟩
  case others =>
    intro q _ hq
    by_cases h : ringOn s r = false ∨ (if hostWritten r then ringSize s r else ringUsed s r) < (v + 2 ^ 32 - doorbellIndex s r) % 2 ^ 32
    · rw [doorbellWrite_counted h]
      exact bump_dbErr_idx s q
    · rw [not_or, Bool.not_eq_false, Nat.not_lt] at h
      obtain ⟨-, -, hother⟩ := doorbellWrite_taken hr hv h.1 h.2
      exact hother q hq
  case enable => exact fun cfg hoff hc => ⟨_, exec_ringEnable_good hb hr hoff hc, ringStarted_indexes r cfg s⟩

/-- Settles O35: the indexes after a write, an acceptance and an enable, and the count of entries between them. -/
theorem ringIndexesRunFreely : Obligations.RingIndexesRunFreely := by
  unfold Obligations.RingIndexesRunFreely
  intro s r hr
  refine ⟨fun entry slot => ringWrite_indexes r s entry slot hr, acceptOne_indexes r s hr, fun i => rfl,
    fun h hsize => ringRoom_one_of_full r s (ringUsed_full r s h hsize), ringRoom_one_of_space r s, ringUsed_zero_iff r s, ?enable⟩
  intro cfg hb hup hoff hc
  obtain ⟨hpi, hci⟩ := ringStarted_indexes r cfg s
  exact ⟨_, exec_ringEnable_good hb hr hoff hc, ringStarted_on hup, hpi, hci, (ringUsed_zero_iff _ _).mpr (hpi.trans hci.symm),
    ringStarted_armed r cfg s⟩

/-! ### The phase of an entry (R411, R412) -/

/-- The bytes of a structure that stand between others. -/
theorem slice_append_middle (a b c : List Byte) : slice (a ++ (b ++ c)) a.length b.length = b := by
  simp [slice, padTo]

theorem leField_append_middle (a b c : List Byte) : leField (a ++ (b ++ c)) a.length b.length = leNat b := by
  rw [leField, slice_append_middle]

/-- The last byte of an entry as a field. -/
theorem leField_concat (xs : List Byte) (b : Byte) : leField (xs ++ [b]) xs.length 1 = b.toNat := by
  simpa [leNat] using leField_append_middle xs [b] []

/-- An entry keeps all bytes but its last, which takes the phase in bit 7. -/
theorem withPhase_concat (xs : List Byte) (b : Byte) (p : Nat) :
    withPhase (xs ++ [b]) p = xs ++ [BitVec.ofNat 8 (b.toNat % 128 + 128 * p)] := by
  have hlen : (xs ++ [b]).length - 1 = xs.length := by simp
  rw [withPhase, hlen, leField_concat]
  simp [patch]

theorem toNat_phased (b : Byte) {p : Nat} (hp : p ≤ 1) : (BitVec.ofNat 8 (b.toNat % 128 + 128 * p)).toNat = b.toNat % 128 + 128 * p := by
  rw [BitVec.toNat_ofNat]
  omega

theorem phaseBit_le (s : State) (r i : Nat) : phaseBit s r i ≤ 1 := Nat.sub_le ..

/-- The phase alternates from pass to pass, and the first pass has 1. -/
theorem phaseBit_passes (s : State) (r i : Nat) :
    (i < ringSize s r → phaseBit s r i = 1) ∧ (ringSize s r ≤ i → i < 2 * ringSize s r → phaseBit s r i = 0) := by
  unfold phaseBit
  refine ⟨fun h => by rw [Nat.div_eq_of_lt h], fun hl hh => ?_⟩
  have hdiv : i / ringSize s r = 1 := Nat.div_eq_of_lt_le (by omega) (by omega)
  rw [hdiv]

/-- The entry that a write leaves stands at its position; the others stay. -/
theorem ringWrite_entries (r : Nat) (entry slot : List Byte) (s : State) :
    (ringWrite r entry slot s).host.entries = Store.set s.host.entries (key2 r (ringPos s r (s.get HST_RING_IDX_PI r)))
      (withPhase entry (phaseBit s r (s.get HST_RING_IDX_PI r))) := by
  rw [ringWrite, countEvent_host]
  rfl

theorem key2_inj {a b b' : Nat} (h : b ≠ b') : key2 a b ≠ key2 a b' := fun he => h (Nat.add_left_cancel he)

/-- Settles O55: an entry is its last byte after the others (`withPhase_concat`), and the phase stands in that byte only. -/
theorem entriesCarryTheirPhase : Obligations.EntriesCarryTheirPhase := by
  unfold Obligations.EntriesCarryTheirPhase
  rintro s r i lg p entry slot hne rfl rfl rfl
  obtain ⟨xs, b, rfl⟩ := (List.eq_nil_or_concat' entry).resolve_left hne
  rw [ringWrite_entries]
  refine ⟨⟨_, Store.get?_set_same .., ?_⟩, fun q _ _ hq => Store.get?_set_other _ _ _ _ (key2_inj hq)⟩
  obtain ⟨hfirst, hsecond⟩ := phaseBit_passes s r (s.get HST_RING_IDX_PI r)
  have hle := phaseBit_le s r (s.get HST_RING_IDX_PI r)
  have hshift : phaseBit s r (s.get HST_RING_IDX_PI r) = 1 - s.get HST_RING_IDX_PI r >>> s.get HST_RING_CFG_SIZE_LOG2 r % 2 := by
    rw [phaseBit, Nat.shiftRight_eq_div_pow, ringSize]
  generalize phaseBit s r (s.get HST_RING_IDX_PI r) = ph at *
  have hlen : (xs ++ [b]).length - 1 = xs.length := by simp
  rw [withPhase_concat, hlen, leField_concat, leField_concat, toNat_phased b hle]
  refine ⟨by simp, by omega, fun h => ?_, fun hl hh => ?_, by omega, fun j hj => ?_⟩
  · have := hfirst h
    omega
  · have := hsecond hl hh
    omega
  · rw [List.length_append, List.length_singleton, Nat.add_lt_add_iff_right] at hj
    rw [List.getElem?_append_left hj, List.getElem?_append_left hj]

/-! ### Events that wait (R422, R423) -/

section Events

variable {typ source : Nat} {data : List Byte} {s : State}

theorem postEvent_waits (h : s.host.evtFifo.length < 4096) : postEvent typ source data s =
    { s with host := { s.host with evtFifo := s.host.evtFifo ++ [⟨typ, source, s.now, padTo 16 data⟩] } } := if_pos h

theorem postEvent_dropped (h : 4096 ≤ s.host.evtFifo.length) : postEvent typ source data s =
    { s.bump HST_EVT_DROP_CNT with host := { s.host with evtDropped := s.host.evtDropped + 1 } } := if_neg (Nat.not_lt.mpr h)

/-- The overflow event goes first where events were dropped. -/
theorem writeEvent_overflow (hroom : ringRoom s 56 1 = true) (hd : s.host.evtDropped ≠ 0) : writeEvent s =
    { ringWrite 56 (eventBytes ⟨0x00F0, 0, s.now, leBytes 8 s.host.evtDropped⟩) [] s with
      host := { (ringWrite 56 (eventBytes ⟨0x00F0, 0, s.now, leBytes 8 s.host.evtDropped⟩) [] s).host with evtDropped := 0 } } := by
  have hb : (s.host.evtDropped != 0) = true := by simpa using hd
  simp only [writeEvent, hroom, hb, Bool.not_true, Bool.false_eq_true, if_false, if_true]

/-- The bytes of an event but its last, which carries the phase. -/
def eventHead (e : Event) : List Byte :=
  leBytes 2 e.typ ++ leBytes 2 e.source ++ stampBytes e.time ++ padTo 16 e.data ++ [0]

theorem eventBytes_concat (e : Event) : eventBytes e = eventHead e ++ [0] := by
  simp [eventBytes, eventHead, zeros, List.replicate]

/-- TYPE of an event as it stands on its ring. -/
theorem leField_event_typ (e : Event) (p : Nat) : leField (withPhase (eventBytes e) p) 0 2 = e.typ % 256 ^ 2 := by
  rw [eventBytes_concat, withPhase_concat, eventHead]
  simpa [leNat_leBytes] using leField_append_middle [] (leBytes 2 e.typ) _

theorem padTo_leBytes (v : Nat) : padTo 16 (leBytes 8 v) = leBytes 8 v ++ zeros 8 := by
  simp [padTo, zeros, List.take_append]

theorem length_stampBytes (t : Stamp) : (stampBytes t).length = 10 := by
  simp [stampBytes]

/-- The first eight bytes of DATA of an event as it stands on its ring. -/
theorem leField_event_data (typ source v : Nat) (t : Stamp) (p : Nat) :
    leField (withPhase (eventBytes ⟨typ, source, t, leBytes 8 v⟩) p) 14 8 = v % 256 ^ 8 := by
  rw [eventBytes_concat, withPhase_concat, eventHead, padTo_leBytes]
  simpa [leNat_leBytes, length_stampBytes] using leField_append_middle (leBytes 2 typ ++ leBytes 2 source ++ stampBytes t) (leBytes 8 v) _

end Events

/-- Settles O56: an event waits or is dropped by the room of the FIFO, and the overflow event is written first. -/
theorem eventsWaitBounded : Obligations.EventsWaitBounded := by
  unfold Obligations.EventsWaitBounded
  intro s typ source data
  refine ⟨fun h => ?waits, fun h => ?dropped, fun h => ?bounded, fun hroom hd => ?overflow⟩
  case waits =>
    rw [postEvent_waits h]
    exact ⟨rfl, rfl, rfl⟩
  case dropped =>
    rw [postEvent_dropped h]
    exact ⟨rfl, rfl, State.reg_bumpBy_same ..⟩
  case bounded =>
    obtain ⟨m, f, d, heq, hf⟩ := postEvent_eq typ source data s
    rw [heq]
    exact hf h
  case overflow =>
    refine ⟨_, _, exec_settles rfl (writeEvent_overflow hroom hd), rfl, ?_, (congrArg (Store.get? · _) (ringWrite_entries ..)).trans
      (Store.get?_set_same ..), leField_event_typ _ _, leField_event_data _ _ _ _ _⟩
    obtain ⟨m, e, l, c, t, heq⟩ := ringWrite_eq 56 (eventBytes ⟨0x00F0, 0, s.now, leBytes 8 s.host.evtDropped⟩) [] s
    rw [heq]

end Sys2Proof.Machine

/-! The events of the packet, exception, telemetry and event rings and of their vectors (R404, R406, R412, R418 to R424), the drain limit
(R31) and idle sessions (R387). -/

namespace Sys2Proof.Machine

/-! ### Packet injection -/

section Injection

variable {r : Nat} {s : State}

/-- The descriptors of ring r that are open: fetched, and not yet passed by CI. -/
def openTx (s : State) (r : Nat) : List TxSlot :=
  s.host.tx.filter (fun x => x.ring == r && (x.index + 2 ^ 32 - s.get HST_RING_IDX_CI r) % 2 ^ 32 < 2 ^ 16)

/-- The index of the next descriptor of ring r. -/
def txIndex (s : State) (r : Nat) : Nat := (s.get HST_RING_IDX_CI r + (openTx s r).length) % 2 ^ 32

/-- What a descriptor asks for (Table 16.5): its 64 bytes b and its frame. -/
def txSlotOf (r index : Nat) (b frame : List Byte) : TxSlot :=
  ⟨r, index, bitOf (leField b 10 1) 0, bitOf (leField b 10 1) 1,
    if bitOf (leField b 10 1) 2 then some (stampOfBytes (slice b 16 10)) else none, leField b 12 1, leField b 11 1 % 8,
    padTo (leField b 8 2) frame, false, none⟩

/-- The journal entry of a descriptor (R420). -/
def txEntryOf (r index : Nat) (direct : Bool) (b : List Byte) : JEntry :=
  ⟨r, index, true, direct, 0, 0, false, 4, 0, none, false, false, false, false, false, b, false, false, none⟩

/-- The state with a descriptor journaled, and sent to the partner while mirroring is active (R420, R362). -/
def txJournaled (r index : Nat) (b : List Byte) (sl : TxSlot) (x : State) : State :=
  let y := journalStat { x with host := { x.host with journal := x.host.journal ++ [txEntryOf r index sl.direct b], tx := x.host.tx ++ [sl] } }
  if mirrorActive y then sendMirror 1 0x02 (leBytes 1 r ++ leBytes 4 index) (zeros 8 ++ b) y else y

/-- The next descriptor is fetched where the ring has one and the journal has room; one that fails its checks is passed at once (R418). -/
theorem txFetch_next (d frame : List Byte) (h8 : 8 ≤ r) (h24 : r < 24) (hon : ringOn s r = true) (hready : s.on PWR_READY_HOST_READY = true)
    (hheld : (openTx s r).length < ringUsed s r) (hroom : s.host.journal.length < journalSize) :
    txFetch r d frame s =
      if txGood (countEvent 21 0x01 0xFFF 1 s) r (padTo 64 d) then
        txJournaled r (txIndex s r) (padTo 64 d) (txSlotOf r (txIndex s r) (padTo 64 d) frame) (countEvent 21 0x01 0xFFF 1 s)
      else passTx r 65536 (txJournaled r (txIndex s r) (padTo 64 d)
        { txSlotOf r (txIndex s r) (padTo 64 d) frame with handed := true, outcome := some (2, (countEvent 21 0x01 0xFFF 1 s).now) }
        (countEvent 21 0x01 0xFFF 1 s)) := by
  unfold openTx at hheld
  simp only [txFetch, hon, hready, Nat.not_lt.mpr h8, Nat.not_le.mpr h24, Nat.not_le.mpr hheld, Nat.not_le.mpr hroom, decide_false,
    Bool.not_true, Bool.or_self, Bool.false_eq_true, if_false]
  cases txGood (countEvent 21 0x01 0xFFF 1 s) r (padTo 64 d)
  · simp only [Bool.false_eq_true, if_false, if_true]
    rfl
  · simp only [if_true, Bool.false_eq_true, if_false]
    rfl

/-- A DIRECT frame is linked once the bulk path forwards (R419). -/
theorem txLink_direct {y : TxSlot} {fr : Frame} {t : State} (hy : nextTx s r = some y) (hd : y.direct = true) (hb : bulkReady s = true)
    (ha : s.egr.accepting = true)
    (hfr : fr = { freshFrame 96 0 false y.bytes s.now (some (r, y.index)) with ended := true, dispatched := true })
    (ht : linkCopy (8 * y.port + y.queue)
      { copyFor s s.buf.nextFrame fr (8 * y.port + y.queue) y.bytes 0 0xFFFF with launch := y.launch, cutThrough := false }
      (newFrame fr s) = some t) : txLink r s = passTx r 65536 (handTx y (settleBuffer t)) := by
  subst hfr
  simp only [txLink, hy, hd, hb, ha, ht, Bool.not_true, Bool.or_self, Bool.false_eq_true, if_false]

/-- A PIPELINE frame is handed to its port once the bulk path forwards and the partner has acknowledged it (R419). -/
theorem txHand_pipeline {y : TxSlot} (hy : nextTx s r = some y) (hd : y.direct = false) (hb : bulkReady s = true) (ha : s.egr.accepting = true)
    (hw : (mirrorActive s && s.host.journal.any (fun e => e.tx && e.ring == r && e.index == y.index && !e.acked)) = false)
    (hi : s.get HST_RING_IDX_CI r = y.index) :
    txHand r s = txJournalDone r y.index (onFrame s.buf.nextFrame
      (fun z => { z with stamp := (bulkArrive y.port y.bytes true true (some (r, y.index)) (passTx r 65536 (handTx y s))).now })
      (bulkArrive y.port y.bytes true true (some (r, y.index)) (passTx r 65536 (handTx y s)))) := by
  simp only [txHand, hy, hd, hb, ha, hw, hi, bne_self_eq_false, Bool.not_true, Bool.or_self, Bool.false_eq_true, if_false]

/-- The outcome of the first open descriptor is written (R419). -/
theorem writeTxc_outcome {k status : Nat} {y : TxSlot} {t : Stamp} (hy : findIdx? (fun (x : TxSlot) => x.ring == r) s.host.tx 0 = some (k, y))
    (ho : y.outcome = some (status, t)) (hh : y.handed = true) (hroom : ringRoom s (r + 16) 1 = true) :
    writeTxc r s = ringWrite (r + 16) ((if y.tsReq && status = 0 then stampBytes t else zeros 10) ++ leBytes 2 y.index ++
      leBytes 1 status ++ zeros 3) [] { s with host := { s.host with tx := s.host.tx.eraseIdx k } } := by
  simp only [writeTxc, hy, ho, hh, hroom, Bool.not_true, Bool.or_self, Bool.false_eq_true, if_false]

end Injection

/-! ### Device-written rings -/

section Written

variable {s : State}

/-- The frame at the head of a host queue is written; one in HBM once it has been read (R252, R421). -/
theorem writeRx_head {k : Nat} {c : Copy} {rest : List Copy} {f : Frame} (hq : (queueOf s (768 + k)).head = c :: rest)
    (hf : frameOf s c.frame = some f) (he : f.ended = true) (hd : f.inHbm = false ∨ s.buf.direct.contains (c.frame, 768 + k) = true)
    (hroom : ringRoom s (40 + k) (slotCount s (40 + k) f.bytes.length) = true) {x : State}
    (hx : x = writeSlots (40 + k) (4 * ofBool f.bad) (leBytes 1 c.reason ++ leBytes 1 f.port ++ zeros 1 ++ stampBytes f.stamp ++ leBytes 2 c.rule)
      f.bytes s) :
    writeRx k s = dropCopy c.frame (setQueue (768 + k) { queueOf s (768 + k) with head := rest }
      { x with buf := { x.buf with direct := x.buf.direct.filter (fun e => e != (c.frame, 768 + k)) } }) := by
  have hdirect : (f.inHbm && !s.buf.direct.contains (c.frame, 768 + k)) = false := by
    rcases hd with h | h
    · rw [h, Bool.false_and]
    · rw [h, Bool.not_true, Bool.and_false]
  subst hx
  simp only [writeRx, hq, hf, he, hdirect, hroom, Bool.not_true, Bool.or_self, Bool.false_eq_true, if_false]

theorem writeExc_oldest {w : Returned} {rest : List Returned} (hw : s.host.exc = w :: rest)
    (hroom : ringRoom s 57 (slotCount s 57 w.bytes.length) = true) :
    writeExc s = writeSlots 57 (4 * ofBool w.command) (leBytes 1 w.reason ++ leBytes 1 w.port ++ leBytes 1 w.queue ++
      stampBytes w.time ++ leBytes 8 w.cseq) w.bytes { s with host := { s.host with exc := rest } } := by
  simp only [writeExc, hw, hroom, Bool.not_true, Bool.false_eq_true, if_false]

theorem writeTlm_oldest {m : TlmMsg} {rest : List TlmMsg} (hm : s.host.tlm = m :: rest)
    (hroom : ringRoom s 58 (slotCount s 58 m.bytes.length) = true) :
    writeTlm s = writeSlots 58 (4 * ofBool m.sealed) [] m.bytes { s with host := { s.host with tlm := rest } } := by
  simp only [writeTlm, hm, hroom, Bool.not_true, Bool.false_eq_true, if_false]

theorem writeEvent_oldest {e : Event} {rest : List Event} (hd : s.host.evtDropped = 0) (he : s.host.evtFifo = e :: rest)
    (hroom : ringRoom s 56 1 = true) :
    writeEvent s = ringWrite 56 (eventBytes e) [] { s with host := { s.host with evtFifo := rest } } := by
  simp only [writeEvent, hroom, hd, he, bne_self_eq_false, Bool.not_true, Bool.false_eq_true, if_false]

end Written

/-! ### Vectors -/

section Vectors

variable {r : Nat} {s : State}

/-- An armed ring with entries since its last message sends its vector and disarms (R424). -/
theorem signalRing_armed (ha : s.host.armed.contains r = true) (hu : 0 < ringUsed s r) (hs : 0 < Store.getD s.host.since r 0) :
    signalRing r s = sendVector (s.get HST_RING_CFG_VECTOR r) { s with host := { s.host with
      armed := s.host.armed.filter (fun y => y != r), since := Store.erase s.host.since r, sinceAt := Store.erase s.host.sinceAt r } } := by
  simp only [signalRing, ha, hu, hs, decide_true, Bool.and_self, if_true]

theorem timeSignals_due (h : Store.getD s.host.sinceAt r 0 + s.get HST_RING_MOD_MOD_US r * 1000 ≤ s.clock) : timeSignals r s = signalRing r s :=
  if_neg (Nat.not_lt.mpr h)

theorem timeSignals_early (h : s.clock < Store.getD s.host.sinceAt r 0 + s.get HST_RING_MOD_MOD_US r * 1000) : timeSignals r s = s := if_pos h

theorem countSignals_reached (h : s.get HST_RING_MOD_MOD_COUNT r = 0 ∨ s.get HST_RING_MOD_MOD_US r = 0 ∨
    s.get HST_RING_MOD_MOD_COUNT r ≤ Store.getD s.host.since r 0) : countSignals r s = signalRing r s := by
  have hb : (decide (s.get HST_RING_MOD_MOD_COUNT r = 0) || decide (s.get HST_RING_MOD_MOD_US r = 0) ||
      decide (s.get HST_RING_MOD_MOD_COUNT r ≤ Store.getD s.host.since r 0)) = true := by
    simpa [or_assoc] using h
  simp only [countSignals, hb, if_true]

end Vectors

/-! ### Link, lost descriptors, drain and sessions -/

section Ends

variable {s : State}

theorem pcieTrains_valid {speed width : Nat} (h1 : 1 ≤ speed) (h5 : speed ≤ 5) (hw : width ∈ [1, 2, 4, 8]) :
    pcieTrains speed width s = ((s.put HST_PCIE_STAT_SPEED speed).put HST_PCIE_STAT_WIDTH width).put HST_PCIE_STAT_LINK_UP 1 := by
  simp only [pcieTrains, h1, h5, List.contains_iff_mem.mpr hw, decide_true, Bool.and_self, if_true]

/-- The state with the descriptors lost by a reset taken out of the journal and counted (R420). -/
def txLostTaken (s : State) : State :=
  let gone := s.host.journal.filter (fun e => e.tx && e.replay)
  journalStat (({ s with host := { s.host with
    journal := s.host.journal.filter (fun e => !(e.tx && e.replay)),
    lostTx := s.host.lostTx ++ gone.map (fun (e : JEntry) => (e.ring, e.index)) } } : State).bumpBy gone.length HST_TX_LOST_CNT)

theorem txLostReport_held (h : ringOn (txLostTaken s) 56 = false) : txLostReport s = txLostTaken s := by
  unfold txLostTaken at h ⊢
  simp only [txLostReport, h, Bool.not_false, if_true]

theorem txLostReport_posted (h : ringOn (txLostTaken s) 56 = true) :
    txLostReport s = (txLostTaken s).host.lostTx.foldl (fun s (e : Nat × Nat) => postEvent 0x0014 e.1 (leBytes 4 e.2) s)
      { txLostTaken s with host := { (txLostTaken s).host with lostTx := [] } } := by
  unfold txLostTaken at h ⊢
  simp only [txLostReport, h, Bool.not_true, Bool.false_eq_true, if_false]

/-- At the drain limit every frame left is returned with code 0x03 (R31). -/
theorem drainLimit_due {w : Waiting} {x : State} (hw : waitingOf s (fun w => w.opcode == 0x0B06) = some w) (h : w.key ≤ s.clock)
    (hx : x = (List.range 96).foldl (fun s p => returnExpress 0x03 p (cutSending p s)) s) :
    drainLimit s = x.buf.queues.foldl (fun s e => returnQueue 0x03 e.1 s) x := by
  rw [hx, drainLimit, hw]
  exact if_neg (Nat.not_lt.mpr h)

theorem drainLimit_early {w : Waiting} (hw : waitingOf s (fun w => w.opcode == 0x0B06) = some w) (h : s.clock < w.key) : drainLimit s = s := by
  simp only [drainLimit, hw, h, if_true]

/-- A session idle for SESSION_IDLE_MIN minutes is closed (R387). -/
theorem sessionIdle_due {n : Nat} {y : Session} (hy : Store.get? s.ascor.sessions n = some y)
    (h : y.used + clamp 1 255 (s.get ASC_CTRL_SESSION_IDLE_MIN) * 60 * nsPerSec ≤ s.clock) :
    sessionIdle n s = sessionStat { s with ascor := { s.ascor with sessions := Store.set s.ascor.sessions n { y with opened := false } } } := by
  simp only [sessionIdle, endSession, hy, Nat.not_lt.mpr h, if_false]

theorem sessionIdle_early {n : Nat} {y : Session} (hy : Store.get? s.ascor.sessions n = some y)
    (h : s.clock < y.used + clamp 1 255 (s.get ASC_CTRL_SESSION_IDLE_MIN) * 60 * nsPerSec) : sessionIdle n s = s := by
  simp only [sessionIdle, hy, h, if_true]

end Ends

/-- Settles O39: each row runs the operation it names, and each operation has the effect of its lemma. -/
theorem packetRingEventsComplete : Obligations.PacketRingEventsComplete := by
  unfold Obligations.PacketRingEventsComplete
  intro s x
  refine ⟨?fetch, ?direct, ?pipeline, ?txc, ?rx, ?exc, ?tlm, ?event, ?overflow, ?signal, ?flr, ?linkLost, ?trains, ?unmask, ?lostHeld,
    ?lostPosted, ?drain, ?idle⟩
  case fetch =>
    rintro r _ d frame _ _ _ h8 h24 rfl rfl hon hready hheld hroom rfl rfl rfl _ _ _ _ rfl rfl rfl rfl
    rw [exec_within_both h8 h24 rfl, txFetch_next d frame h8 h24 hon hready hheld hroom]
    unfold txJournaled
    split <;> rfl
  case direct =>
    exact fun r y fr t h8 h24 hy hd hb ha hfr ht => exec_settles (exec_within_both h8 h24 rfl) (txLink_direct hy hd hb ha hfr ht)
  case pipeline =>
    rintro r y h8 h24 hy hd hb ha hw hi rfl
    exact exec_settles (exec_within_both h8 h24 rfl) (txHand_pipeline hy hd hb ha hw hi)
  case txc =>
    exact fun r k status y t h8 h24 hy ho hh hroom => exec_settles (exec_within_both h8 h24 rfl) (writeTxc_outcome hy ho hh hroom)
  case rx =>
    exact fun k c rest f hk hq hf he hd hroom hx => exec_settles (exec_within hk rfl) (writeRx_head hq hf he hd hroom hx)
  case exc => exact fun w rest hw hroom => exec_settles rfl (writeExc_oldest hw hroom)
  case tlm => exact fun m rest hm hroom => exec_settles rfl (writeTlm_oldest hm hroom)
  case event => exact fun e rest hd he hroom => exec_settles rfl (writeEvent_oldest hd he hroom)
  case overflow =>
    rintro hd hroom rfl
    exact exec_settles rfl (writeEvent_overflow hroom hd)
  case signal =>
    rintro r hr ha hu hs rfl
    have hsignal := signalRing_armed ha hu hs
    exact ⟨fun h => exec_settles (exec_within hr rfl) ((timeSignals_due h).trans hsignal),
      fun h => exec_settles (exec_within hr rfl) (timeSignals_early h),
      fun h => exec_settles (exec_within hr rfl) ((countSignals_reached h).trans hsignal)⟩
  case flr =>
    rintro rfl
    rfl
  case linkLost =>
    rintro rfl
    rfl
  case trains => exact fun speed width h1 h5 hw => exec_settles rfl (pcieTrains_valid h1 h5 hw)
  case unmask =>
    rintro v hv rfl
    exact exec_within hv rfl
  case lostHeld =>
    rintro _ rfl rfl hoff
    exact exec_settles rfl (txLostReport_held hoff)
  case lostPosted =>
    rintro _ _ rfl rfl rfl hon
    exact exec_settles rfl (txLostReport_posted hon)
  case drain =>
    exact fun w hw hx => ⟨fun h => exec_settles rfl (drainLimit_due hw h hx), fun h => exec_settles rfl (drainLimit_early hw h)⟩
  case idle =>
    rintro n _ y hn hy rfl
    exact ⟨fun h => exec_settles (exec_within hn rfl) (sessionIdle_due hy h), fun h => exec_settles (exec_within hn rfl) (sessionIdle_early hy h)⟩

end Sys2Proof.Machine

/-! The black box (R445 to R447) and the SMBus commands (R450): what an entry leaves, and what each command does. -/

namespace Sys2Proof.Machine

/-! ### Entries -/

section Entries

variable (s : State)

theorem bbLive_lt : bbLive s < 2 := get_lt s FLT_BB_STAT_LIVE 0 0 0

theorem bbBuf_setBb_same (b : Nat) (x : BbBuffer) : bbBuf (setBb s b x) b = x := by
  unfold setBb bbBuf
  split <;> rfl

/-- The buffer not written stays. -/
theorem bbBuf_setBb_other {b : Nat} (x : BbBuffer) (hb : b < 2) : bbBuf (setBb s b x) (1 - b) = bbBuf s (1 - b) := by
  have h : b = 0 ∨ b = 1 := by omega
  rcases h with rfl | rfl <;> rfl

theorem setBb_collecting (b : Nat) (x : BbBuffer) : (setBb s b x).faults.collecting = s.faults.collecting := by
  unfold setBb
  split <;> rfl

/-- The entry that is recorded for `e`: with the TIME and the number of its writing (R446). -/
def bbStamped (e : BbEntry) : BbEntry := { e with time := s.now, seq := s.get FLT_BB_STAT_SEQ }

theorem bbRecord_faults (e : BbEntry) :
    (bbRecord e s).faults = (setBb s (bbLive s) (bbPush (bbBuf s (bbLive s)) (bbStamped s e))).faults := by
  rw [bbRecord, State.inc_faults, bbStamped]

theorem bbBuf_of_faults {s t : State} (h : s.faults = t.faults) (b : Nat) : bbBuf s b = bbBuf t b := by
  rw [bbBuf, bbBuf, h]

theorem bbBuf_bbRecord_live (e : BbEntry) :
    bbBuf (bbRecord e s) (bbLive s) = bbPush (bbBuf s (bbLive s)) (bbStamped s e) :=
  (bbBuf_of_faults (bbRecord_faults s e) _).trans (bbBuf_setBb_same ..)

theorem bbBuf_bbRecord_other (e : BbEntry) : bbBuf (bbRecord e s) (1 - bbLive s) = bbBuf s (1 - bbLive s) :=
  (bbBuf_of_faults (bbRecord_faults s e) _).trans (bbBuf_setBb_other _ _ (bbLive_lt s))

variable {s} {kind source flags cls u detail v : Nat}

/-- What an entry of the black box holds before it is stamped. -/
def bbGiven (s : State) (kind source flags cls u detail v : Nat) : BbEntry :=
  ⟨s.now, source, kind, flags + ofBool (alarmPin s) * 4, cls, u, 0, detail, v⟩

/-- While recording goes on and no freeze collects, an entry is recorded (R446). -/
theorem bbEntry_recorded (hs : s.on FLT_BB_STAT_STOPPED = false) (hc : s.faults.collecting = none) :
    bbEntry kind source flags cls u detail v s = bbRecord (bbGiven s kind source flags cls u detail v) s := by
  have hkept : (bbRecord (bbGiven s kind source flags cls u detail v) s).faults.collecting = none := by
    rw [bbRecord_faults, setBb_collecting, hc]
  unfold bbGiven at hkept ⊢
  simp only [bbEntry, hs, hkept, Bool.false_eq_true, if_false]

/-- While recording is stopped, an entry is counted as lost (R447). -/
theorem bbEntry_lost (hs : s.on FLT_BB_STAT_STOPPED = true) : bbEntry kind source flags cls u detail v s = s.bump FLT_BB_LOST_CNT := if_pos hs

theorem bbPush_entries (b : BbBuffer) (e : BbEntry) :
    (bbPush b e).entries = (b.entries ++ [e]).drop (b.entries.length + 1 - 16384) := by rw [bbPush, bbSize]

theorem bbPush_written (b : BbBuffer) (e : BbEntry) : (bbPush b e).written = b.written + 1 := rfl

theorem length_bbPush_le (b : BbBuffer) (e : BbEntry) (h : b.entries.length ≤ 16384) : (bbPush b e).entries.length ≤ 16384 := by
  simp only [bbPush, bbSize, List.length_drop, List.length_append, List.length_singleton]
  omega

end Entries

/-- Settles O57: an entry is recorded (`bbEntry_recorded`), and a record touches the live buffer only. -/
theorem blackBoxKeepsTheNewest : Obligations.BlackBoxKeepsTheNewest := by
  unfold Obligations.BlackBoxKeepsTheNewest
  intro s kind source flags cls u detail v
  refine ⟨?recorded, bbEntry_lost⟩
  rintro hs hc t _ rfl rfl
  have hframe := bbEntry_eq kind source flags cls u detail v s
  rw [bbEntry_recorded hs hc] at hframe ⊢
  refine ⟨bbStamped s (bbGiven s kind source flags cls u detail v), rfl, rfl, rfl, rfl, rfl, rfl, rfl, rfl, ?_⟩
  rw [bbBuf_bbRecord_live, bbBuf_bbRecord_other]
  refine ⟨bbPush_entries .., bbPush_written .., length_bbPush_le _ _, rfl, ?_⟩
  obtain ⟨m, f, heq, -⟩ := hframe
  rw [heq]
  exact ⟨rfl, rfl, rfl, rfl, rfl, rfl, rfl, rfl, rfl, rfl, rfl, rfl, rfl, rfl, rfl, rfl⟩

/-! ### The arm of a reset -/

section Arm

variable (s : State)

theorem setBb_armedAt (b : Nat) (x : BbBuffer) : (setBb s b x).faults.armedAt = s.faults.armedAt := by
  unfold setBb
  split <;> rfl

theorem bbRecord_armedAt (e : BbEntry) : (bbRecord e s).faults.armedAt = s.faults.armedAt := by
  rw [bbRecord_faults, setBb_armedAt]

theorem bbClose_armedAt : (bbClose s).faults.armedAt = s.faults.armedAt := by
  unfold bbClose
  simp only
  generalize bbClosed _ _ = closed
  cases closed
  · simp [setBb_armedAt, bbRecord_armedAt]
  · simp [setBb_armedAt, bbRecord_armedAt]

/-- An entry of the black box leaves the time of the arm. -/
theorem bbEntry_armedAt (kind source flags cls u detail v : Nat) :
    (bbEntry kind source flags cls u detail v s).faults.armedAt = s.faults.armedAt := by
  unfold bbEntry
  simp only
  split
  · rfl
  · split
    · exact bbRecord_armedAt ..
    · split
      · rw [bbClose_armedAt, bbRecord_armedAt]
      · exact bbRecord_armedAt ..

/-- The black-box entry of an SMBus command draws two free values and leaves all but the registers and the fault side; the arm stands
as before (R450). -/
theorem smbusNote_eq (code byte : Nat) : ∃ n m f, smbusNote code byte s = { s with free := n, regs := m, faults := f } ∧
    f.resetArmed = s.faults.resetArmed ∧ f.armedAt = s.faults.armedAt := by
  obtain ⟨m, f, h, hr⟩ := bbEntry_eq 11 code 8 0 0 (s.freeWord.toNat % 2 ^ 16) (byte % 256 + 256 * (s.drew.freeWord.toNat % 2 ^ 40)) s.drew.drew
  have hat := bbEntry_armedAt s.drew.drew 11 code 8 0 0 (s.freeWord.toNat % 2 ^ 16) (byte % 256 + 256 * (s.drew.freeWord.toNat % 2 ^ 40))
  rw [h] at hat
  exact ⟨s.drew.drew.free, m, f, h, hr, hat⟩

variable {s}

/-- DEVICE_RESET while the arm stands and with its byte resets the device (R450). -/
theorem smbusReset_armed (hr : (smbusNote 0x15 0x5A s).faults.resetArmed = true)
    (ht : (smbusNote 0x15 0x5A s).clock ≤ (smbusNote 0x15 0x5A s).faults.armedAt + 100000000) :
    smbusReset 0x5A s = fullReset 2 (smbusNote 0x15 0x5A s) := by
  simp only [smbusReset, hr, ht, decide_true, Bool.and_self, if_true]

/-- DEVICE_RESET at any other time or with another byte leaves its black-box entry. -/
theorem smbusReset_unarmed {byte : Nat} (h : s.faults.resetArmed = false ∨ s.faults.armedAt + 100000000 < s.clock ∨ byte ≠ 0x5A) :
    smbusReset byte s = smbusNote 0x15 byte s := by
  obtain ⟨n, m, f, heq, harm, hat⟩ := smbusNote_eq s 0x15 byte
  unfold smbusReset
  rw [heq]
  refine if_neg ?_
  simp only [Bool.and_eq_true, decide_eq_true_eq, harm, hat]
  rintro ⟨⟨hr, ht⟩, hb⟩
  rcases h with h | h | h
  · exact Bool.false_ne_true (h.symm.trans hr)
  · exact absurd ht (Nat.not_le.mpr h)
  · exact h hb

/-- The arm ends 100 ms after it, and not before (R450). -/
theorem armExpires_due (h : s.faults.armedAt + 100000000 ≤ s.clock) :
    armExpires s = { s with faults := { s.faults with resetArmed := false } } := if_neg (Nat.not_lt.mpr h)

theorem armExpires_early (h : s.clock < s.faults.armedAt + 100000000) : armExpires s = s := if_pos h

end Arm

/-- Settles O37: an unarmed DEVICE_RESET is its black-box entry. -/
theorem smbusResetNeedsItsArm : Obligations.SmbusResetNeedsItsArm := by
  unfold Obligations.SmbusResetNeedsItsArm
  intro s byte h
  obtain ⟨n, m, f, heq, -, -⟩ := smbusNote_eq s 0x15 byte
  refine ⟨_, exec_settles rfl ((smbusReset_unarmed h).trans heq), ?_⟩
  exact ⟨rfl, rfl, rfl, rfl, rfl, rfl, rfl, rfl, rfl, rfl, rfl, rfl, rfl⟩

/-! ### The SMBus commands -/

/-- BB_FREEZE of a live buffer: its cause is noted, and it closes at once or collects POST_COUNT entries (R447). -/
theorem bbFreeze_live {cause : Nat} {s : State} (hs : s.on FLT_BB_STAT_STOPPED = false) (hc : s.faults.collecting = none) :
    bbFreeze cause s =
      if clamp 0 8192 (s.get FLT_BB_CFG_POST_COUNT) = 0 then bbClose (setBb s (bbLive s) { bbBuf s (bbLive s) with cause := cause })
      else { setBb s (bbLive s) { bbBuf s (bbLive s) with cause := cause } with
        faults := { (setBb s (bbLive s) { bbBuf s (bbLive s) with cause := cause }).faults with
          collecting := some (clamp 0 8192 (s.get FLT_BB_CFG_POST_COUNT)),
          freezeAt := (setBb s (bbLive s) { bbBuf s (bbLive s) with cause := cause }).clock } } := by
  simp only [bbFreeze, hs, hc, Option.isSome_none, Bool.or_self, Bool.false_eq_true, if_false]

/-- A command that names a unit of the device acts on it. -/
theorem if_named {b n : Nat} (f : State → State) (s : State) (h : b < n) : (fun s => if b < n then f s else s) s = f s := if_pos h

/-- Settles O36: each command is its effect on the state with its black-box entry. -/
theorem smbusCommandsComplete : Obligations.SmbusCommandsComplete := by
  unfold Obligations.SmbusCommandsComplete
  intro s n
  refine ⟨rfl, fun i hi => exec_within hi rfl, fun b off hb ho => exec_within_both hb ho rfl, ?freeze, ?release, ?fence, ?quiet, ?unquiet, ?quarter,
    ?arm, ?reset, fun h => exec_settles rfl (armExpires_due h), fun h => exec_settles rfl (armExpires_early h)⟩
  case freeze =>
    rintro byte _ _ rfl hs hc rfl rfl
    exact exec_settles rfl (bbFreeze_live hs hc)
  case release =>
    rintro b rfl hb
    exact exec_settles rfl (if_named (bbRelease b) _ hb)
  case fence =>
    rintro u rfl hu
    exact exec_settles rfl (if_named (fenceUnit u 8) _ hu)
  case quiet =>
    rintro p rfl hp
    exact exec_settles rfl (if_named (quietPort p) _ hp)
  case unquiet =>
    rintro p rfl hp
    exact exec_settles rfl (if_named (unquietPort p) _ hp)
  case quarter =>
    rintro q rfl hq
    exact exec_settles rfl (if_named (resetUnit q 8) _ hq)
  case arm =>
    rintro rfl
    rfl
  case reset =>
    rintro rfl hr ht
    exact exec_settles rfl (smbusReset_armed hr ht)

end Sys2Proof.Machine

/-! The service commands: HKS patches and status (R477, R479 to R481), the counters (R489 to R491), rest, wake and ageing (R457, R464, R465),
single lookups (R425), and the answer to an undefined opcode (R416). -/

namespace Sys2Proof.Machine

section Services

variable {s : State} {c : Cmd} {addr : Nat}

/-- A good image, while no word of the patch in force is in use, is applied (R480, R481). -/
theorem patchLoad_good {obj : Nat} {x : StagedObj} {m words : List Nat} (hx : stagedOf s obj = some x) (hk : leField x.bytes 0 2 = 1)
    (hv : s.get ASC_MIN_VER_MIN_VER 1 ≤ leField x.bytes 2 2) (hm : m = numbersOf (imageBody x.bytes) 0 4 32)
    (hw : words = numbersOf (imageBody x.bytes) 128 16 (leField x.bytes 4 2))
    (hlen : (imageBody x.bytes).length = 128 + 16 * leField x.bytes 4 2)
    (hgood : patchBad s (leField x.bytes 4 2) (leField x.bytes 8 4) m words true = false) (hused : s.on HKS_STAT_PATCH_USED = false) :
    patchLoad obj true true s = ok_ (applyPatch (leField x.bytes 2 2) (leField x.bytes 4 2) m words s) := by
  subst hm hw
  rw [patchLoad, withImage_good hx hk hv]
  simp only [hlen, hgood, hused, bne_self_eq_false, Bool.or_self, Bool.false_eq_true, if_false]

theorem cntRead_fits {ids : List Nat} (h : listFits ids = true) : cntRead c ids addr s =
    giveResult c addr 0 (ids.zipIdx.flatMap (fun e => counterEntry s (s.nowNs + 10 * e.2) e.1)) 0 s := by
  simp only [cntRead, h, Bool.not_true, Bool.false_eq_true, if_false]

theorem cntSnapshot_fits {ids : List Nat} (h : listFits ids = true) : cntSnapshot c ids addr s =
    giveResult c addr 0 (stampBytes s.now ++ zeros 6 ++ ids.flatMap (counterEntry s s.nowNs)) 0 s := by
  simp only [cntSnapshot, h, Bool.not_true, Bool.false_eq_true, if_false]

/-- A list that names counters only is cleared as a whole (R491). -/
theorem cntClear_named {obj k : Nat} {x : StagedObj} {ids : List Nat} (hx : stagedOf s obj = some x) (hids : ids = numbersOf x.bytes 0 4 k)
    (hfits : listFits ids = true) (hlen : 4 * k ≤ x.bytes.length) (hnamed : ids.any (fun i => counterAt false i = .none) = false) :
    cntClear obj k s = ok_ (ids.foldl clearCounter s) := by
  subst hids
  rw [cntClear, withObject_some hx]
  simp only [hfits, hnamed, Nat.not_lt.mpr hlen, decide_false, Bool.not_true, Bool.or_self, Bool.false_eq_true, if_false]

theorem unitRestBody_free {u : Nat} (hu : u < 17) (hf : fenced s u = false) :
    unitRestBody u s = okWith (if (restUnit u s).1 then 0 else 1) (restUnit u s).2 := by
  simp only [unitRestBody, Nat.not_le.mpr hu, hf, Bool.false_eq_true, if_false]

theorem unitWakeBody_free {u : Nat} (hu : u < 17) (hf : fenced s u = false) : unitWakeBody u s = ok_ (wakeUnit u s) := by
  simp only [unitWakeBody, Nat.not_le.mpr hu, hf, Bool.false_eq_true, if_false]

theorem ageMeasureBody_free {readings : List (Nat × Int)} (h : s.power.planRunning = false) :
    ageMeasureBody readings s = ok_ (measureAll readings s) := by
  simp only [ageMeasureBody, h, Bool.false_eq_true, if_false]

theorem replanBody_free {readings : List (Nat × Int)} {lanes : List (Nat × Nat × Nat)} (h : s.power.planRunning = false) :
    replanBody readings lanes s = if (replan false readings lanes s).power.planRunning then .wait 0 0 0 (replan false readings lanes s)
      else ok_ (replan false readings lanes s) := by
  simp only [replanBody, h, Bool.false_eq_true, if_false]

/-- In its turn, a sealed authentic entry with an undefined opcode completes with ARG (R416). -/
theorem undefinedOpcode_sealed {op : Nat} (hx : executes s c op = true) (hs : c.sealed = true) (hv : c.verdict = 0) :
    undefinedOpcode c op s = finish c op (resFail 1) s := by
  simp only [undefinedOpcode, hx, hs, hv, bne_self_eq_false, Bool.not_true, Bool.false_eq_true, if_false]

/-- An unsealed one is rejected (R390). -/
theorem undefinedOpcode_unsealed {op : Nat} (hx : executes s c op = true) (hs : c.sealed = false) :
    undefinedOpcode c op s = rejectCommand c op 3 s := by
  simp only [undefinedOpcode, hx, hs, Bool.not_true, Bool.not_false, Bool.false_eq_true, if_false, if_true]

theorem undefinedOpcode_idle {op : Nat} (hx : executes s c op = false) : undefinedOpcode c op s = s := by
  simp only [undefinedOpcode, hx, Bool.not_false, if_true]

/-- The row of the undefined opcodes. -/
theorem exec_undefinedOpcode {op : Nat} (hr : c.ring < 4) (hd : opcodeDefined op = false) :
    exec (.undefinedOpcode c op) s = .next (settle (undefinedOpcode c op s)) := by
  refine exec_within_both (r := (!opcodeDefined op) = true) hr (by rw [hd]; rfl) ?_
  rw [Bool.decide_eq_true]
  rfl

end Services

/-- Settles O21: each row runs its command, and each command that succeeds has the answer of its lemma. -/
theorem serviceCommandsComplete : Obligations.ServiceCommandsComplete := by
  unfold Obligations.ServiceCommandsComplete
  intro s c
  refine ⟨?patch, ?status, ?read, ?snapshot, ?clear, ?rest, ?wake, ?age, ?replan, ?lookup, ?sealed, ?unsealed, ?idle⟩
  case patch =>
    exact fun obj x m words ht hx hk hv hm hw hlen hgood hused =>
      taken_completes ht rfl (by decide) (patchLoad_good hx hk hv hm hw hlen hgood hused)
  case status => exact fun addr ht => taken_concludes ht rfl (by decide) rfl
  case read => exact fun ids addr ht h => taken_concludes ht rfl (by decide) (cntRead_fits h)
  case snapshot => exact fun ids addr ht h => taken_concludes ht rfl (by decide) (cntSnapshot_fits h)
  case clear =>
    exact fun obj k x ids ht hx hids hfits hlen hnamed => taken_completes ht rfl (by decide) (cntClear_named hx hids hfits hlen hnamed)
  case rest => exact fun u ht hu hf => taken_completes ht rfl (by decide) (unitRestBody_free hu hf)
  case wake => exact fun u ht hu hf => taken_completes ht rfl (by decide) (unitWakeBody_free hu hf)
  case age => exact fun readings ht h => taken_completes ht rfl (by decide) (ageMeasureBody_free h)
  case replan => exact fun readings lanes ht h => taken_concludes ht rfl (by decide) (replanBody_free h)
  case lookup =>
    rintro table quarter key addr _ ht rfl
    exact taken_concludes ht rfl (by decide) rfl
  case sealed => exact fun op hr hx hs hv hd => exec_settles (exec_undefinedOpcode hr hd) (undefinedOpcode_sealed hx hs hv)
  case unsealed => exact fun op hr hx hs hd => exec_settles (exec_undefinedOpcode hr hd) (undefinedOpcode_unsealed hx hs)
  case idle => exact fun op hr hx hd => exec_settles (exec_undefinedOpcode hr hd) (undefinedOpcode_idle hx)

end Sys2Proof.Machine

/-! The events of faults, the black box, takeovers, spare banks, resets, start-up, supply and temperature (R368, R401, R429 to R447, R460 to
R462, R502, R503, R514). -/

namespace Sys2Proof.Machine

/-! ### The black box -/

section BlackBox

variable {s : State} {b : Nat}

theorem postFreezeEnd_collecting (h : s.faults.collecting.isSome = true) :
    postFreezeEnd s = if s.clock < s.faults.freezeAt + clamp 1 10000 (s.get FLT_BB_CFG_POST_US) * 1000 then s else bbClose s := by
  obtain ⟨m, hm⟩ := Option.isSome_iff_exists.mp h
  simp only [postFreezeEnd, hm, Option.isNone_some, Bool.false_or, decide_eq_true_eq]

/-- The closed buffer of an unenrolled device stands in clear with epoch 0 (R447). -/
theorem bbSealed_clear (hd : (bbBuf s b).sealDue = true) (hr : s.on PWR_READY_AON_READY = true) (he : s.on ASC_STAT_ENROLL = false) {x : State}
    (hx : x = setBb s b { bbBuf s b with sealDue := false, epoch := 0 }) :
    bbSealed b s = x.put FLT_BB_STAT_SEALED (withBit (x.get FLT_BB_STAT_SEALED) b true) := by
  subst hx
  simp only [bbSealed, hd, hr, he, Bool.not_true, Bool.false_and, Bool.or_self, Bool.false_eq_true, if_false]

/-- That of an enrolled one is sealed under the epoch prepared, which is then used up (R401). -/
theorem bbSealed_enrolled (hd : (bbBuf s b).sealDue = true) (hr : s.on PWR_READY_AON_READY = true) (he : s.on ASC_STAT_ENROLL = true)
    (hp : s.ascor.bbEpochReady = true) {x y : State} (hx : x = setBb s b { bbBuf s b with sealDue := false, epoch := s.ascor.bbEpoch })
    (hy : y = x.put FLT_BB_STAT_SEALED (withBit (x.get FLT_BB_STAT_SEALED) b true)) :
    bbSealed b s = { y.bump ASC_SEAL_CNT with ascor := { y.ascor with bbEpochReady := false } } := by
  subst hy hx
  simp only [bbSealed, hd, hr, he, hp, Bool.not_true, Bool.and_false, Bool.or_self, Bool.false_eq_true, if_false, if_true]

theorem bbEpochPrepared_due (hp : s.ascor.bbEpochReady = false) (ha : s.faults.bbA.sealDue = false) (hb : s.faults.bbB.sealDue = false) :
    bbEpochPrepared s = { s with ascor := { s.ascor with bbEpoch := (s.ascor.bbEpoch + 1) % 2 ^ 32, bbEpochReady := true } } := by
  simp only [bbEpochPrepared, hp, ha, hb, Bool.or_self, Bool.false_eq_true, if_false]

theorem faultOccurs_assigned {src detail value : Nat} (h : (sourceInfo src).isSome = true) : faultOccurs src detail value s = raise src detail value s :=
  if_pos h

end BlackBox

/-! ### Takeovers, spare banks and injections -/

section Units

variable {s : State}

section Takeover

variable {q : Nat} {x y z : State} (hi : s.faults.incoming.contains q = true) (hr : resting s q = false) (hw : waking s q = false)
  (hx : x = { s with faults := { s.faults with incoming := s.faults.incoming.filter (fun j => j != q) } })
  (hy : y = if q = 4 then x.put PRT_QMUX_BUSY 0 else x)
  (hz : z = if y.faults.incoming.isEmpty then y.put FLT_QTR_STAT_TAKEOVER 0 else y)
include hi hr hw hx hy hz

/-- A quarter that fails its self-test is fenced (R439). -/
theorem takeoverEnds_failed : takeoverEnds q false s = fenceUnit q 0 z := by
  subst hz hy hx
  simp only [takeoverEnds, hi, hr, hw, Bool.not_true, Bool.not_false, Bool.or_self, Bool.false_eq_true, if_false, if_true]

/-- With the last quarter that passes, the takeover has ended (R439). -/
theorem takeoverEnds_passed :
    takeoverEnds q true s = if y.faults.incoming.isEmpty then bbNote 4 2 q (z.bump FLT_TAKEOVER_CNT) else z := by
  have hends : takeoverEnds q true s =
      if y.faults.incoming.isEmpty then bbNote 4 2 q ((y.put FLT_QTR_STAT_TAKEOVER 0).bump FLT_TAKEOVER_CNT) else y := by
    subst hy hx
    simp only [takeoverEnds, hi, hr, hw, Bool.not_true, Bool.or_self, Bool.false_eq_true, if_false]
  rw [hends, hz]
  split <;> rfl

end Takeover

theorem spareBank_exhausted {a : Nat} (h : s.faults.spareUsed.contains a = true) : spareBank a s = report srcSpareExhausted s := if_pos h

theorem spareBank_copies {a : Nat} (hu : s.faults.spareUsed.contains a = false) (hc : s.faults.spareCopy.contains a = false) :
    spareBank a s = { s with faults := { s.faults with spareCopy := s.faults.spareCopy ++ [a] } } := by
  simp only [spareBank, hu, hc, Bool.false_eq_true, if_false]

theorem spareCopied_running {a : Nat} (h : s.faults.spareCopy.contains a = true) :
    spareCopied a s = { s.bump FLT_SPARE_CNT with faults := { s.faults with
      spareCopy := s.faults.spareCopy.filter (fun y => y != a), spareUsed := s.faults.spareUsed ++ [a] } } := by
  simp only [spareCopied, h, Bool.not_true, Bool.false_eq_true, if_false]

/-- An armed injection has come to its tick (R444). -/
def injectionReady (s : State) (x : Injection) : Bool :=
  match x.tick with
  | none => true
  | some t => stampNs t ≤ s.nowNs

/-- The first injection whose tick has come is produced (R444). -/
theorem injectionDue_ready {k : Nat} {y : Injection} (h : findIdx? (injectionReady s) s.faults.injections 0 = some (k, y)) :
    injectionDue s = inject y.kind y.unit { s with faults := { s.faults with injections := s.faults.injections.eraseIdx k } } := by
  unfold injectionDue
  split
  · next hnone => cases h.symm.trans hnone
  · next j x hsome =>
    obtain ⟨rfl, rfl⟩ := Prod.mk.inj (Option.some.inj (h.symm.trans hsome))
    rfl

/-- Output of a unit behind closed gates is counted and reported (R37, R435). -/
theorem fenceViolation_closed {u : Nat} (h : fenced s u = true ∨
      (u < 17 ∧ (s.power.inReset.contains u = true ∨ resting s u = true ∨ s.power.coreUp = false))) :
    fenceViolation u s = report srcFenceViol (s.bump FLT_FENCE_VIOL u) := by
  have hclosed : gatesClosed s u = true := by
    simpa [gatesClosed, or_assoc] using h
  exact if_pos hclosed

theorem resetUnitEnds_inReset {u : Nat} (h : s.power.inReset.contains u = true) : resetUnitEnds u s =
    setSleep u true false { s with power := { s.power with inReset := s.power.inReset.filter (fun j => j != u) } } := if_pos h

end Units

/-! ### Start-up -/

section StartUp

variable {s : State} {valid copyB : Bool} {ver : Nat} {words : List Nat} {matches_ : List (Nat × Nat)}

theorem exec_startupStage {n : Nat} (h1 : 1 ≤ n) (h4 : n ≤ 4) : exec (.startupStage n valid copyB ver words matches_) s =
    .next (settle (startupStage n valid copyB ver words matches_ s)) := exec_within_both h1 h4 rfl

/-- AON_READY (R460). -/
theorem startupStage_aon (hr : s.on PWR_READY_AON_READY = false) (hl : s.power.aonLost = false) :
    startupStage 1 valid copyB ver words matches_ s =
      { s.put PWR_READY_AON_READY 1 with power := { s.power with aonOscillator := !s.power.refPresent } } := by
  simp only [startupStage, hr, hl, Bool.or_self, Bool.false_eq_true, if_false, if_true]

/-- HOST_READY without a valid boot manifest: the start-up reports it and runs unpatched (R382). -/
theorem startupStage_host_invalid (ha : s.on PWR_READY_AON_READY = true) (hr : s.on PWR_READY_HOST_READY = false) (hc : s.power.coreUp = true)
    (hu : s.power.unlocked.contains 2 = false) : startupStage 2 false copyB ver words matches_ s =
      (report (srcAscor 2) (s.put ASC_STAT_NO_PATCH 1)).put PWR_READY_HOST_READY 1 := by
  have h21 : ¬ (2 = 1) := by decide
  simp only [startupStage, h21, ha, hr, hc, hu, Bool.not_true, Bool.or_self, Bool.false_eq_true, if_false, if_true]

/-- HOST_READY with a valid one that names no patch. -/
theorem startupStage_host_unpatched (ha : s.on PWR_READY_AON_READY = true) (hr : s.on PWR_READY_HOST_READY = false) (hc : s.power.coreUp = true)
    (hu : s.power.unlocked.contains 2 = false) : startupStage 2 true copyB ver [] matches_ s =
      (((s.put ASC_STAT_BOOT_OK 1).flag ASC_STAT_BOOT_COPY copyB).put ASC_STAT_NO_PATCH 0).put PWR_READY_HOST_READY 1 := by
  have h21 : ¬ (2 = 1) := by decide
  simp only [startupStage, h21, ha, hr, hc, hu, List.isEmpty_nil, Bool.not_true, Bool.or_self, Bool.false_eq_true, if_false, if_true]

/-- EXPRESS_READY once the measurement of start-up has been made. -/
theorem startupStage_express (hh : s.on PWR_READY_HOST_READY = true) (hr : s.on PWR_READY_EXPRESS_READY = false)
    (ha : s.power.ageAt.isSome = true) (hp : s.power.planRunning = false) :
    startupStage 3 valid copyB ver words matches_ s = s.put PWR_READY_EXPRESS_READY 1 := by
  obtain ⟨t, ht⟩ := Option.isSome_iff_exists.mp ha
  have h31 : ¬ (3 = 1) := by decide
  have h32 : ¬ (3 = 2) := by decide
  simp only [startupStage, h31, h32, hh, hr, ht, hp, Option.isNone_some, Bool.not_true, Bool.or_self, Bool.false_eq_true, if_false, if_true]

/-- The state with the seeds and flow keys of BULK_READY drawn (R393, R460). -/
def bulkReached (s : State) : State :=
  drawFlowKeys (((List.range 4).foldl (fun s t => (List.range 5).foldl (fun r q => r.setReg QTR_HASH_SEED s.freeWord q t) s.drew) s).put
    PWR_READY_BULK_READY 1)

theorem startupStage_bulk (hh : s.on PWR_READY_HOST_READY = true) (he : s.on PWR_READY_EXPRESS_READY = true)
    (hb : s.on PWR_READY_BULK_READY = false) (hc : s.power.coreUp = true) (hl : (bulkReached s).mem.latched = false) :
    startupStage 4 valid copyB ver words matches_ s = bulkReached s := by
  unfold bulkReached at hl ⊢
  have hguard : (!s.on PWR_READY_HOST_READY || !s.on PWR_READY_EXPRESS_READY || s.on PWR_READY_BULK_READY || !s.power.coreUp) = false := by
    rw [hh, he, hb, hc]
    rfl
  have h41 : ¬ (4 = 1) := by decide
  have h42 : ¬ (4 = 2) := by decide
  have h43 : ¬ (4 = 3) := by decide
  rw [startupStage, if_neg h41, if_neg h42, if_neg h43, hguard]
  exact if_neg (ne_true_of_eq_false hl)

theorem journalReplay_open {ring : Nat} (h : s.host.journal.any (fun e => !e.tx && e.ring == ring && e.replay) = true) :
    journalReplay ring s = startCommand ring s := if_pos h

end StartUp

/-! ### Rails, temperature and health -/

section Supply

variable {s : State}

/-- A rail falls: one of steps 4 and 5 takes the bulk islands down (R503). -/
theorem railFall_inRange {r : Nat} {x : State} (h : s.power.railsOut.contains r = false)
    (hx : x = { s with power := { s.power with railsOut := s.power.railsOut ++ [r], aonLost := s.power.aonLost || r == 2 } }) :
    railFall r s = if bulkRails.contains r then coreDown (report (srcSupply 0) x) else report (srcSupply (if r = 2 || r = 10 then 2 else 1)) x := by
  subst hx
  simp only [railFall, h, Bool.false_eq_true, if_false]

/-- A rail returns: with the last of steps 4 and 5 the core reset sequence runs (R503). -/
theorem railReturn_out {r : Nat} {x : State} (h : s.power.railsOut.contains r = true)
    (hx : x = { s with power := { s.power with railsOut := s.power.railsOut.filter (fun y => y != r) } }) :
    railReturn r s = if bulkRails.contains r && bulkSupplied x then coreReset 4 { x with power := { x.power with coreUp := !x.power.hot } } else x := by
  subst hx
  simp only [railReturn, h, Bool.not_true, Bool.false_eq_true, if_false]

variable {t : Nat}

/-- The core islands leave the reset of TEMP_CRIT at 100 °C (R514). -/
theorem temperature_cooled (hh : s.power.hot = true) (ht : t ≤ 100) :
    temperature t s = { s with power := { s.power with hot := false, coreUp := bulkSupplied s } } := by
  simp only [temperature, hh, ht, if_true]

theorem temperature_high (hh : s.power.hot = false) (h100 : 100 ≤ t) (h115 : t < 115) : temperature t s = report srcTempHigh s := by
  simp only [temperature, hh, h100, h115, Bool.false_eq_true, if_false, if_true]

/-- TEMP_CRIT holds the core islands in reset (R514). -/
theorem temperature_critical {x : State} (hh : s.power.hot = false) (h115 : 115 ≤ t)
    (hx : x = settleDue settleFuel (report srcTempCrit (report srcTempHigh s))) :
    temperature t s = coreDown (coreReset 4 { x with power := { x.power with hot := true } }) := by
  have h100 : 100 ≤ t := by omega
  subst hx
  simp only [temperature, hh, h100, Nat.not_lt.mpr h115, Bool.false_eq_true, if_false, if_true]

theorem kickMissed_due {d : Nat} (h : Store.getD s.pair.kicks d 0 + clamp 500 10000 (s.get VAR_TIMING2_KICK_NS) ≤ s.clock) :
    kickMissed d s = cease (report (srcHealthKick d) s) := if_neg (Nat.not_lt.mpr h)

/-- In STATE 2 to 4 the device quiets every port and is silent (R368). -/
theorem cease_paired (hc : s.pair.ceased = false) (h2 : 2 ≤ pairState s) (h4 : pairState s ≤ 4) :
    cease s = (List.range 96).foldl (fun s p => quietPort p s) { s with pair := { s.pair with ceased := true } } := by
  refine if_neg ?_
  simp [hc, Nat.not_lt.mpr h2, Nat.not_lt.mpr h4]

end Supply

/-- Settles O49: each row runs the operation it names, and each operation has the effect of its lemma. -/
theorem faultEventsComplete : Obligations.FaultEventsComplete := by
  unfold Obligations.FaultEventsComplete
  intro s x
  refine ⟨?occurs, rfl, ?freeze, ?post, ?sealed, ?epoch, ?takeover, ?failure, ?spare, ?inject, ?violation, rfl, ?startup, ?replay,
    fun _ => rfl, ?rail, ?temperature, ?resetEnd, ?health, ?cease⟩
  case occurs => exact fun src detail value hs hi => exec_settles (exec_within hs rfl) (faultOccurs_assigned hi)
  case freeze =>
    rintro cause _ hcause hs hc rfl rfl
    refine exec_settles (exec_within (p := (decide (cause < 512) || decide (cause = 0x1000) || decide (cause = 0x2000)) = true) ?_ ?_)
      (bbFreeze_live hs hc)
    · simpa [or_assoc] using hcause
    · rw [Bool.decide_eq_true]
      rfl
  case post => exact fun h => exec_settles rfl (postFreezeEnd_collecting h)
  case sealed =>
    exact fun b hb hd hr => ⟨fun he hx _ => exec_settles (exec_within hb rfl) (bbSealed_clear hd hr he hx),
      fun y he hp hx hy => exec_settles (exec_within hb rfl) (bbSealed_enrolled hd hr he hp hx hy)⟩
  case epoch => exact fun hp ha hb => exec_settles rfl (bbEpochPrepared_due hp ha hb)
  case takeover =>
    rintro q passed y z hq hi hr hw hx hy hz
    refine ⟨exec_settles (exec_within hq rfl) (takeoverEnds_failed hi hr hw hx hy hz), ?_⟩
    rintro rfl
    exact exec_settles (exec_within hq rfl) (takeoverEnds_passed hi hr hw hx hy hz)
  case failure => exact fun q i hq hi => exec_within_both hq hi rfl
  case spare =>
    refine fun a ha => ⟨fun h => exec_settles (exec_within ha rfl) (spareBank_exhausted h),
      fun hu hc => exec_settles (exec_within ha rfl) (spareBank_copies hu hc), ?_⟩
    rintro h rfl
    exact exec_settles (exec_within ha rfl) (spareCopied_running h)
  case inject => exact fun k y h => exec_settles rfl (injectionDue_ready h)
  case violation => exact fun u hu h => exec_settles (exec_within hu rfl) (fenceViolation_closed h)
  case startup =>
    refine fun valid copyB ver words matches_ => ⟨?aon, fun ha hr hc hu => ⟨?invalid, ?unpatched⟩, fun hh hr ha hp => ?express, ?bulk⟩
    case aon =>
      rintro hr hl rfl
      exact exec_settles (exec_startupStage (by decide) (by decide)) (startupStage_aon hr hl)
    case invalid => exact exec_settles (exec_startupStage (by decide) (by decide)) (startupStage_host_invalid ha hr hc hu)
    case unpatched => exact exec_settles (exec_startupStage (by decide) (by decide)) (startupStage_host_unpatched ha hr hc hu)
    case express => exact exec_settles (exec_startupStage (by decide) (by decide)) (startupStage_express hh hr ha hp)
    case bulk =>
      rintro hh he hb hc rfl hl
      exact exec_settles (exec_startupStage (by decide) (by decide)) (startupStage_bulk hh he hb hc hl)
  case replay => exact fun ring hr h => exec_settles (exec_within hr rfl) (journalReplay_open h)
  case rail =>
    exact fun r hr => ⟨fun h hx => exec_settles (exec_within hr rfl) (railFall_inRange h hx),
      fun h hx => exec_settles (exec_within hr rfl) (railReturn_out h hx)⟩
  case temperature =>
    exact fun t => ⟨fun hh ht => exec_settles rfl (temperature_cooled hh ht), fun hh h100 h115 => exec_settles rfl (temperature_high hh h100 h115),
      fun hh h115 hx => exec_settles rfl (temperature_critical hh h115 hx)⟩
  case resetEnd => exact fun u hu h => exec_settles (exec_within hu rfl) (resetUnitEnds_inReset h)
  case health => exact fun d hd => ⟨exec_within hd rfl, fun h => exec_settles (exec_within hd rfl) (kickMissed_due h)⟩
  case cease => exact fun hc h2 h4 => exec_settles rfl (cease_paired hc h2 h4)

end Sys2Proof.Machine

/-! The events of the HKS engine (R471 to R478): microwords, read responses, micro-traps, requests and abandonment. -/

namespace Sys2Proof.Machine

/-! ### The running routine -/

section Running

variable {s : State} {x : HksRun} (hx : s.hks.running = some x)

section Word

variable (ht : trapDue s = false) (ho : turnOver s = false)
include hx

/-- A micro-trap that is due goes before the next word (R476). -/
theorem microword_traps (w err : Nat) (h : trapDue s = true) : microword w err s = microTrap s := by
  simp only [microword, hx, h, if_true]

include ht

/-- So does the turn of another routine of level 0 (R474). -/
theorem microword_yields (w err : Nat) (h : turnOver s = true) : microword w err s = roundRobin s := by
  simp only [microword, hx, ht, h, Bool.false_eq_true, if_false, if_true]

include ho

/-- A routine outside the address space is abandoned (R478). -/
theorem microword_outside (w err : Nat) (hpc : 0x10400 ≤ x.pc) : microword w err s = abandonRoutine s := by
  simp only [microword, hx, ht, ho, hpc, Bool.false_eq_true, if_false, if_true]

section Rom

variable (hpc : x.pc < 0x10400) (hsrc : patchSource s x.pc = none) (w : Nat)
include hpc hsrc

/-- A double-bit error of the word fetched ends the routine (R472). -/
theorem microword_doubleError : microword w 2 s = abandonRoutine (report (srcHks 0) s) := by
  simp only [microword, hx, ht, ho, hsrc, Nat.not_le.mpr hpc, Bool.false_eq_true, if_false, if_true]

/-- So does a reserved field (R478). -/
theorem microword_reserved (hw : wordReserved (w % 2 ^ 128) = true) : microword w 0 s = abandonRoutine s := by
  have h02 : ¬ (0 = 2) := by decide
  have h01 : ¬ (0 = 1) := by decide
  simp only [microword, hx, ht, ho, hsrc, hw, h02, h01, Nat.not_le.mpr hpc, Bool.false_eq_true, if_false, if_true]

/-- The word of the ROM runs (R471, R473). -/
theorem microword_rom (hw : wordReserved (w % 2 ^ 128) = false) : microword w 0 s = runWord (w % 2 ^ 128) false x s := by
  have h02 : ¬ (0 = 2) := by decide
  have h01 : ¬ (0 = 1) := by decide
  simp only [microword, hx, ht, ho, hsrc, hw, h02, h01, Nat.not_le.mpr hpc, Option.isSome_none, Bool.false_eq_true, if_false]

/-- A corrected error is counted (R472). -/
theorem microword_corrected (hw : wordReserved (w % 2 ^ 128) = false) :
    microword w 1 s = runWord (w % 2 ^ 128) false x (s.bump HKS_ECC_FIX_CNT) := by
  have h12 : ¬ (1 = 2) := by decide
  simp only [microword, hx, ht, ho, hsrc, hw, h12, Nat.not_le.mpr hpc, Option.isSome_none, Bool.false_eq_true, if_false, if_true]

end Rom

/-- The word of the patch that matches the address runs in the place of the ROM's (R471). -/
theorem microword_patched {a v : Nat} (w : Nat) (hpc : x.pc < 0x10400) (hsrc : patchSource s x.pc = some a)
    (hv : Store.get? s.hks.patch a = some v) (hw : wordReserved v = false) : microword w 0 s = runWord v true x s := by
  have h02 : ¬ (0 = 2) := by decide
  have h01 : ¬ (0 = 1) := by decide
  simp only [microword, hx, ht, ho, hsrc, hv, hw, h02, h01, Nat.not_le.mpr hpc, Option.isSome_some, Option.isNone_some, Bool.false_eq_true,
    if_false]

end Word

include hx

/-- The response of an outstanding read of the running routine comes into its registers (R473). -/
theorem memResponse_running {i rw : Nat} {y : HksRun} (bytes : List Byte) (inProgress : Bool) (inserted : Option Bool)
    (hr : x.reads[i]? = some rw)
    (hy : y = (List.range 8).foldl (fun y j => hksSet y ((rw + j) % 32) (leField bytes (8 * j) 8)) x) :
    memResponse 0 i bytes inProgress inserted s = setHks { s.hks with
      running := some { y with reads := y.reads.eraseIdx i, inProgress := inProgress, inserted := inserted.getD y.inserted } } s := by
  subst hy
  simp only [memResponse, hx, hr, Option.map_some, if_true]

/-- At a trap point, with a higher level waiting and fewer than three frames, the routine is saved (R476). -/
theorem microTrap_due {y : HksRun} (hy : nextWaiting s.hks.waiting = some y) (hp : x.trapPoint = true) (hl : x.level < y.level)
    (hf : s.hks.frames.length < 3) : microTrap s = setHks { s.hks with
      running := some y, frames := x :: s.hks.frames, waiting := dropRun y s.hks.waiting } (s.bump HKS_TRAP_CNT) := by
  have hdue : trapDue s = true := by
    simp only [trapDue, hx, hy, hp, hl, hf, decide_true, Bool.and_self]
  simp only [microTrap, hx, hy, hdue, if_true]

/-- A routine of level 0 that has run 10 µs gives way to another (R474). -/
theorem roundRobin_due {y : HksRun} (hy : s.hks.waiting.find? (fun y => y.level == 0) = some y) (hl : x.level = 0) (hp : x.trapPoint = true)
    (hturn : 10000 ≤ x.turn) : roundRobin s = setHks { s.hks with
      running := some y, waiting := dropRun y s.hks.waiting ++ [{ x with turn := 0, trapPoint := false }] } s := by
  have hwaits : s.hks.waiting.any (fun y => y.level == 0) = true :=
    List.any_eq_true.mpr ⟨y, List.mem_of_find?_eq_some hy, List.find?_some (p := fun (y : HksRun) => y.level == 0) hy⟩
  have hover : turnOver s = true := by
    simp only [turnOver, hx, hl, hp, hturn, hwaits, beq_self_eq_true, decide_true, Bool.and_self]
  simp only [roundRobin, hx, hy, hover, if_true]

/-- An abandoned routine leaves the engine, and the command that started it fails; FLOW_REKEY, the takeover and the re-plan undo more (R478). -/
theorem abandonRoutine_other {t : State}
    (ht : t = raiseAt (srcHks 1) x.routine
      (({ resolveMarks x s with hks := { (resolveMarks x s).hks with running := none } } : State).bump HKS_ABANDON_CNT))
    (h13 : x.routine ≠ 0x13) (h20 : x.routine ≠ 0x20) (h31 : x.routine ≠ 0x31) : abandonRoutine s =
      startNext (finishWaiting (fun w => (routineCommands x.routine).contains w.opcode) (fun _ => resFail 0x0D) t) := by
  subst ht
  simp only [abandonRoutine, hx, h13, h20, h31, if_false]

/-- A routine 1 s beyond its duration is abandoned (R478). -/
theorem routineLate_due (h : (routineTicks s x.routine).getD 0 + nsPerSec ≤ x.ran) : routineLate s = abandonRoutine (report (srcHks 3) s) := by
  simp only [routineLate, hx, Nat.not_lt.mpr h, if_false]

end Running

/-! ### Frames and requests -/

section Requests

variable {s : State}

/-- With no routine running and no higher level waiting, the most recent frame is restored (R476). -/
theorem restoreFrame_free {x : HksRun} {rest : List HksRun} (hr : s.hks.running = none) (hf : s.hks.frames = x :: rest)
    (hw : s.hks.waiting.any (fun z => x.level < z.level) = false) :
    restoreFrame s = setHks { s.hks with running := some x, frames := rest } s := by
  simp only [restoreFrame, hr, hf, hw, Bool.false_eq_true, if_false]

theorem restoreFrame_higher {x : HksRun} {rest : List HksRun} (hr : s.hks.running = none) (hf : s.hks.frames = x :: rest)
    (hw : s.hks.waiting.any (fun z => x.level < z.level) = true) : restoreFrame s = startNext s := by
  simp only [restoreFrame, hr, hf, hw, if_true]

variable {r level : Nat}

theorem exec_hksRoutineRequest (cancel : Bool) (hl : routineLevel r = some level) :
    exec (.hksRoutineRequest r cancel) s = .next (settle (routineRequest r cancel s)) := by
  refine exec_within (p := (routineLevel r).isSome = true) (by rw [hl]; rfl) ?_
  rw [Bool.decide_eq_true]
  rfl

/-- A request waits and starts an idle engine; a word that ended before it is no trap point for it (R474, R476). -/
theorem routineRequest_waits (hl : routineLevel r = some level) (hc : s.power.coreUp = true) : routineRequest r false s =
    startNext { s with free := s.free + 32, hks := { s.hks with
      running := s.hks.running.map (fun y => if y.level < level then { y with trapPoint := false } else y),
      waiting := s.hks.waiting ++ [freshRoutine s r level] } } := by
  simp only [routineRequest, hl, hc, Bool.not_true, Bool.false_eq_true, if_false]

/-- Or it sets the cancel flag of the routine (R474). -/
theorem routineRequest_cancels (hl : routineLevel r = some level) (hc : s.power.coreUp = true) : routineRequest r true s =
    setHks { s.hks with
      running := s.hks.running.map (fun x => if x.routine = r then { x with cancel := true } else x),
      frames := s.hks.frames.map (fun x => if x.routine = r then { x with cancel := true } else x),
      waiting := s.hks.waiting.map (fun x => if x.routine = r then { x with cancel := true } else x) } s := by
  simp only [routineRequest, hl, hc, Bool.not_true, Bool.false_eq_true, if_false, if_true]

end Requests

/-- Settles O53: each row runs the operation it names, and each operation has the effect of its lemma. -/
theorem hksEventsComplete : Obligations.HksEventsComplete := by
  unfold Obligations.HksEventsComplete
  intro s t x y
  refine ⟨fun hx => ⟨?traps, ?yields, ?outside, ?rom, ?patched, ?response, ?trap, ?turn, ?abandon, ?late⟩, ?restore, ?request⟩
  case traps => exact fun w err he h => exec_settles (exec_within he rfl) (microword_traps hx w err h)
  case yields => exact fun w err he ht h => exec_settles (exec_within he rfl) (microword_yields hx ht w err h)
  case outside => exact fun w err he ht ho hpc => exec_settles (exec_within he rfl) (microword_outside hx ht ho w err hpc)
  case rom =>
    have hrow : ∀ w err : Nat, err < 3 → exec (.hksMicroword w err) s = .next (settle (microword w err s)) := fun w err he => exec_within he rfl
    exact fun w ht ho hpc hsrc => ⟨exec_settles (hrow w 2 (by decide)) (microword_doubleError hx ht ho hpc hsrc w),
      fun hw => exec_settles (hrow w 0 (by decide)) (microword_reserved hx ht ho hpc hsrc w hw),
      fun hw => ⟨exec_settles (hrow w 0 (by decide)) (microword_rom hx ht ho hpc hsrc w hw),
        exec_settles (hrow w 1 (by decide)) (microword_corrected hx ht ho hpc hsrc w hw)⟩⟩
  case patched =>
    exact fun w a v ht ho hpc hsrc hv hw =>
      exec_settles (exec_within (p := 0 < 3) (by decide) rfl) (microword_patched hx ht ho w hpc hsrc hv hw)
  case response =>
    exact fun i rw bytes inProgress inserted hr hy => exec_settles rfl (memResponse_running hx bytes inProgress inserted hr hy)
  case trap => exact fun hy hp hl hf => exec_settles rfl (microTrap_due hx hy hp hl hf)
  case turn => exact fun hy hl hp hturn => exec_settles rfl (roundRobin_due hx hy hl hp hturn)
  case abandon => exact fun ht h13 h20 h31 => exec_settles rfl (abandonRoutine_other hx ht h13 h20 h31)
  case late => exact fun h => exec_settles rfl (routineLate_due hx h)
  case restore =>
    exact fun rest hr hf => ⟨fun hw => exec_settles rfl (restoreFrame_free hr hf hw), fun hw => exec_settles rfl (restoreFrame_higher hr hf hw)⟩
  case request =>
    refine fun r level hl hc => ⟨?_, exec_settles (exec_hksRoutineRequest true hl) (routineRequest_cancels hl hc)⟩
    rintro rfl
    exact exec_settles (exec_hksRoutineRequest false hl) (routineRequest_waits hl hc)

end Sys2Proof.Machine
